-- ==== Sys2Proof/Word.lean ====
section
/-!
DEFINITION. The word types of the model: the register word of R525, the byte of every memory, the tile
address of R8, and the sparse canonical maps that hold register banks, scratchpads and tables.
-/
namespace Sys2Proof

/-- A register word: "Every register is 32 bits wide" (R525). -/
abbrev Word := BitVec 32

/-- A byte of a scratchpad, a row, a shuttle payload or a container. -/
abbrev Byte := BitVec 8

/-- A global tile address: field in [18:13], column in [12:7], row in [6:0] (R8). -/
abbrev TileAddr := BitVec 19

/-- A sparse map from keys to values, as plain data: a list of pairs with rising keys in which no pair holds
the value that an unlisted key has. The operations stand in Machine/Store.lean. -/
abbrev SMap (α : Type) := List (Nat × α)

end Sys2Proof
end

