-- ==== Sys2Proof/Work.lean ====
section
/-!
DEFINITION. Operands of PASS and DRAIN that name the work of the units: the special reads of R45, the steps of the selection and of the
attention (R206, R207, R210), and what the fold and edge unit makes of what it drains or reads (R92, R99, R100, R203, R210). The spec
gives the results of this work and not the command fields that choose it: log entry 104.
-/
namespace Sys2Proof

/-- The work of a PASS command. Lines are scratchpad lines; a scored list holds entries of 16 bytes, a signed value and a number of 8 bytes
each. -/
inductive PassWork where
  /-- The MAC pass of the descriptor (R85). -/
  | mac
  /-- That pass with its first 64 input bytes taken by a transposed read: column `col` of the 4 KiB block that holds byte `a` (R45). -/
  | transposed (a : BitVec 18) (col : BitVec 6)
  /-- That pass with its first 64 input bytes taken by a strided read from byte `base` with a stride of `4 × (stride + 1)` bytes (R45). -/
  | strided (base : BitVec 18) (stride : BitVec 10)
  /-- Scores of the `n` summaries at `src`, numbered from `first`, against the summary query at `query`, with FS; a scored list at `out` (R206). -/
  | score (query src : BitVec 12) (first : BitVec 24) (n : BitVec 11) (fs : BitVec 9) (out : BitVec 12)
  /-- rec(r + 2) of a layer's band from scored lists of `ns` shelves and `np` pages, at `out`, and the spool write descriptor that stores it
  at its place, at `desc` (R205, R207). -/
  | select (r : BitVec 40) (band : BitVec 7) (lane : BitVec 5) (shelves : BitVec 12) (ns : BitVec 15) (pages : BitVec 12) (np : BitVec 11)
      (out desc : BitVec 12)
  /-- The values z of those of the `n` entries at `src`, positions from `first`, that the step at `q` attends by the record at `rcd`, against
  the head's query at `query`, with FL; a scored list at `out`, 16 bytes for each of the `n` (R208, R210). -/
  | zScore (q : BitVec 40) (rcd query src : BitVec 12) (first : BitVec 40) (n : BitVec 8) (fl : BitVec 9) (out : BitVec 12)
  /-- The partial sums of y and W over the scored list of `n` positions at `list` with their entries at `src`, given zmax at `best` and the
  31 exponents Emax at `emax`; 993 sums of 8 bytes at `out`, W last (R210). -/
  | weigh (list src best emax : BitVec 12) (n : BitVec 8) (out : BitVec 12)
  deriving DecidableEq, Repr

/-- The work of a DRAIN command. Fold sums lie as 5-byte values (R160). -/
inductive DrainJob where
  /-- The accumulators of the set, narrowed or widened (R55, R88, R93). -/
  | acc
  /-- The collector's sums: `n` blocks of 32 fold sums at `src`, at exponent `f`, with the residual of the input blocks of format `fmt` at
  `resid` where `add` says so, narrowed (R92). -/
  | collect (src : BitVec 12) (n : BitVec 6) (f : BitVec 9) (add : Bool) (resid : BitVec 12) (fmt : BitVec 8) (budget : BitVec 3)
  /-- Normalisation of `n` blocks of format `fmt` at `src` with INV_D and the table RSQ at `rsq` (R99). -/
  | norm (src : BitVec 12) (fmt : BitVec 8) (n : BitVec 12) (budget : BitVec 3) (invD : BitVec 32) (rsq : BitVec 12)
  /-- The gated activation of the set (gate) and the other set (up) with the table ACT at `act` (R100). -/
  | gated (act : BitVec 12)
  /-- An entry of 31 blocks from the fold sums at `src`, at exponent `f` (R202). -/
  | entry (src : BitVec 12) (f : BitVec 9)
  /-- The summary of a page from the 96 fold sums of its keys at `src`, at exponent `f`, for the first position `first` (R203). -/
  | page (src : BitVec 12) (f : BitVec 9) (first : BitVec 40)
  /-- The summary of a shelf from its 64 page summaries at `src` (R203). -/
  | shelf (src : BitVec 12) (first : BitVec 40)
  /-- The partial sums of R210: `n` sums of 8 bytes at `src`, to the fold group. -/
  | sums (src : BitVec 12) (n : BitVec 11)
  /-- The largest of a scored list of `n` at `src` with its number as the tag, to the fold group (R90, R210). -/
  | best (src : BitVec 12) (n : BitVec 8)
  /-- The result of R210 from the folded sums at `src` and the exponents Emax at `emax`, narrowed. -/
  | result (src emax : BitVec 12)
  deriving DecidableEq, Repr

end Sys2Proof
end

