-- ==== Sys2Proof/Syntax.lean ====
section
/-!
DEFINITION. The commands of the block: one constructor for each row of the opcode table, in the table's order, with the row's
operands. A command is what reaches the device from outside or comes about at one of its units; operands carry what
the outside supplies: addresses, lengths, bytes of a message, counts that a sensor or a link reports.
-/
namespace Sys2Proof

/-- The commands of the block. -/
inductive Instr where
  /-- ALU (R353). Tile `t`, function `fn`, destination `d`, sources `a` and `b` (R353). -/
  | alu (t : TileAddr) (fn : BitVec 9) (d a b : BitVec 5)
  /-- MUL (R353). `d` := low 32 bits of `a × b` (R353). -/
  | mul (t : TileAddr) (d a b : BitVec 5)
  /-- ADDK (R353). `d` := `a` + sign-extended `k` (R353). -/
  | addk (t : TileAddr) (d a : BitVec 5) (k : BitVec 14)
  /-- ORK (R353). `d` := `a` or zero-extended `k` (R353). -/
  | ork (t : TileAddr) (d a : BitVec 5) (k : BitVec 14)
  /-- SETH (R353). `d` := `k << 13` (R353). -/
  | seth (t : TileAddr) (d : BitVec 5) (k : BitVec 19)
  /-- LTSK (R353). `d` := 1 when `a` < sign-extended `k`, signed (R353). -/
  | ltsk (t : TileAddr) (d a : BitVec 5) (k : BitVec 14)
  /-- LDW (R353). Load word; `e` is the number of bits in error that the SRAM read meets (R52). -/
  | ldw (t : TileAddr) (d a : BitVec 5) (k : BitVec 14) (e : Nat)
  /-- LDB (R353). Load byte; `e` as for LDW. -/
  | ldb (t : TileAddr) (d a : BitVec 5) (k : BitVec 14) (e : Nat)
  /-- STW (R353). Store word (R353). -/
  | stw (t : TileAddr) (d a : BitVec 5) (k : BitVec 14)
  /-- STB (R353). Store byte (R353). -/
  | stb (t : TileAddr) (d a : BitVec 5) (k : BitVec 14)
  /-- JEQ (R353). Jump by sign-extended `k` when `d = a` (R353). -/
  | jeq (t : TileAddr) (d a : BitVec 5) (k : BitVec 14)
  /-- JNE (R353). Jump by sign-extended `k` when `d ≠ a` (R353). -/
  | jne (t : TileAddr) (d a : BitVec 5) (k : BitVec 14)
  /-- JLT (R353). Jump by sign-extended `k` when `d < a`, signed (R353). -/
  | jlt (t : TileAddr) (d a : BitVec 5) (k : BitVec 14)
  /-- JGE (R353). Jump by sign-extended `k` when `d ≥ a`, signed (R353). -/
  | jge (t : TileAddr) (d a : BitVec 5) (k : BitVec 14)
  /-- CALL (R353). Jump by signed `k`, return address to LK (R353). -/
  | call (t : TileAddr) (k : BitVec 24)
  /-- RET (R353). Jump to LK (R353). -/
  | ret (t : TileAddr)
  /-- JMP (R353). Jump to the address in `a` (R353). -/
  | jmp (t : TileAddr) (a : BitVec 5)
  /-- WAIT (R50). Hold until arrival counter `c` is at least `a` (R50, R353). -/
  | wait (t : TileAddr) (a : BitVec 5) (c : BitVec 4)
  /-- CLRC (R353). Clear arrival counter `c` (R353). -/
  | clrc (t : TileAddr) (c : BitVec 4)
  /-- DONE (R54). End of the pick program (R51, R54). -/
  | done (t : TileAddr)
  /-- TFN (R97). `d` := table function at line `a` of `b` (R97, R353); `e`: the bytes whose 8-byte words its scratchpad reads meet in error, with the number of bad bits (R52). -/
  | tfn (t : TileAddr) (d a b : BitVec 5) (e : List (BitVec 18 × Nat) := [])
  /-- PASS (R85). The work `w` of the MAC array by the descriptor at line `a` (R85, R45, R206 to R210); `e` as for TFN. -/
  | pass (t : TileAddr) (a : BitVec 5) (w : PassWork) (e : List (BitVec 18 × Nat))
  /-- STREAM (R34). Stream command of kind 0 FIXED, 1 ROUTED, 2 UNION, with position `j`, `lane`, and descriptor or table at line `a` (R34, R353). -/
  | stream (t : TileAddr) (a : BitVec 5) (kind : Fin 3) (j : BitVec 3) (lane : BitVec 5) (e : List (BitVec 18 × Nat) := [])
  /-- DRAIN (R55). The work `job` of the fold and edge unit on accumulator set `set` by the descriptor at line `a` (R55, R353); `e` as for TFN. -/
  | drain (t : TileAddr) (a : BitVec 5) (set : BitVec 1) (job : DrainJob := .acc) (e : List (BitVec 18 × Nat) := [])
  /-- SEND (R353). Inject the shuttle whose header lies at line `a` (R353). -/
  | send (t : TileAddr) (a : BitVec 5) (e : List (BitVec 18 × Nat) := [])
  /-- SPOOL (R56). Spool request by the descriptor at line `a` (R56, R353). -/
  | spool (t : TileAddr) (a : BitVec 5) (e : List (BitVec 18 × Nat) := [])
  /-- RESERVED_OPCODE (R353). A reserved opcode `op`: a no-op (R353). -/
  | reservedOpcode (t : TileAddr) (op : BitVec 8)
  /-- SELECTION_WORD_ARRIVAL (R36). The oldest shuttle ejected to tile `t` is the selection shuttle of the pick (R36). -/
  | selectionWordArrival (t : TileAddr)
  /-- NVW_ROW_READ (R38). Row `row` of the tile's column is read with `errs` bits in error (R38). -/
  | nvwRowRead (t : TileAddr) (row errs : Nat)
  /-- WEFT_IN_WRITE (R44). The oldest shuttle ejected to tile `t` is written in the weft-in slot (R44). -/
  | weftInWrite (t : TileAddr)
  /-- SPOOL_IN_WRITE (R44). The oldest spool response at tile `t` is written in the spool-in slot (R44). -/
  | spoolInWrite (t : TileAddr)
  /-- TURN_END (R46). A turn of the slot wheel of tile `t` ends (R46). -/
  | turnEnd (t : TileAddr)
  /-- RELOAD_COMPLETE (R59). The static area of tile `t` is rewritten (R59). -/
  | reloadComplete (t : TileAddr)
  /-- TILE_DONE (R51). Tile `t` reports done; the cycle counts of the pick are `mac`, `idle` and `stall` (R51, R73). -/
  | tileDone (t : TileAddr) (mac idle stall : BitVec 32)
  /-- TILE_LOAD_COMMAND (R59). A warp load command reaches tile `t` (R59). -/
  | tileLoadCommand (t : TileAddr)
  /-- TILE_LOAD_COMPLETE (R59). Tile `t` has copied its slot image (R59). -/
  | tileLoadComplete (t : TileAddr)
  /-- TIL_LOAD (R64). TIL_CTRL.LOAD of tile `t` written 1 (R64). -/
  | tilLoad (t : TileAddr)
  /-- TIL_CLR_COUNTS (R64). TIL_CTRL.CLR_COUNTS of tile `t` written 1 (R64). -/
  | tilClrCounts (t : TileAddr)
  /-- TIL_DARN (R64). TIL_CTRL.DARN of tile `t` written 1 (R64). -/
  | tilDarn (t : TileAddr)
  /-- TIL_HALT_REQ (R64). TIL_CTRL.HALT_REQ of tile `t` written 1 (R64). -/
  | tilHaltReq (t : TileAddr)
  /-- TIL_ENABLE (R64). TIL_CTRL.ENABLE of tile `t` written `v` (R64). -/
  | tilEnable (t : TileAddr) (v : Bool)
  /-- TIL_NVW_LOG_READ (R67). TIL_NVW_LOG of tile `t` is read (R67). -/
  | tilNvwLogRead (t : TileAddr)
  /-- STROBE_RECEIVE (R334). The endpoint of field `f` receives the three strobe copies, 9 bytes each: the 64-bit message and its CRC-8 (R333, R334). -/
  | strobeReceive (f : Fin 60) (c0 c1 c2 : List (BitVec 8))
  /-- STROBE_FIRE (R113). The endpoint of field `f` fires the strobe it holds (R113). -/
  | strobeFire (f : Fin 60)
  /-- ALL_DONE (R116). All-done reaches the pick master; the done bit of field `last` arrived last (R116). -/
  | allDone (last : Fin 60)
  /-- PICK_END (R118). The pick ends `len` cycles after its launch (R118). -/
  | pickEnd (len : Nat)
  /-- DONE_LIMIT_EXPIRED (R120). The done limit passes without all-done (R120). -/
  | doneLimitExpired
  /-- STEP_REQUEST (R128). A step is requested by 0 lag, 1 power, 2 thermal, 3 chain (R128). -/
  | stepRequest (source : Fin 4)
  /-- MODE_REQUEST (R132). PCK_MODE_CTRL written with GO = 1, MODE, LEVEL and FAST_DRAIN (R132). -/
  | modeRequest (mode : BitVec 2) (level : BitVec 3) (fast : Bool)
  /-- DRAIN_BEGIN (R131). A drain begins, as a stop or not (R131). -/
  | drainBegin (stop : Bool)
  /-- DRAIN_END (R142). The drain's strobes have passed (R142). -/
  | drainEnd
  /-- PCK_RUN (R142). PCK_CTRL.RUN written 1 (R142). -/
  | pckRun
  /-- PCK_RUN_CLEAR (R142). PCK_CTRL.RUN written 0 (R142). -/
  | pckRunClear
  /-- PCK_HALT (R142). PCK_CTRL.HALT written 1 (R142). -/
  | pckHalt
  /-- RESUME_ADMIT (R146). PCK_CTRL.RESUME_ADMIT written 1 (R146). -/
  | resumeAdmit
  /-- CLR_STATS (R146). PCK_CTRL.CLR_STATS written 1 (R146). -/
  | clrStats
  /-- CLR_ALL (R105). PCK_ARITH_CTRL.CLR_ALL written 1 (R105). -/
  | clrAll
  /-- CLR_SEL (R105). PCK_ARITH_CTRL.CLR_SEL written 1 (R105). -/
  | clrSel
  /-- PCK_PICK_LO_READ (R145). PCK_PICK_LO is read (R145, R526). -/
  | pckPickLoRead
  /-- CHAIN_TIMING (R139). A TIMING transaction of 32 bytes arrives on a chain port (R404); the skew measured against it, the trim plus 8, and whether a chain buffer is full or empty when it is needed (R139). -/
  | chainTiming (port : Fin 16) (data : List (BitVec 8)) (skewPicks : BitVec 8) (skewCy : BitVec 16) (trim : Fin 17) (full : Bool)
  /-- CHAIN_CHANGE_EFFECTIVE (R140). The pick of a decided change has come (R140). -/
  | chainChangeEffective
  /-- HANDOFF (R403). A HANDOFF transaction arrives with a lane of a slot and the slot's lane-valid mask (R123, R403). -/
  | handoff (port : Fin 16) (pick : BitVec 16) (lane : BitVec 5) (data : List (BitVec 8)) (mask : BitVec 32 := BitVec.allOnes 32)
  /-- FLIT_RECEIVE (R176). Router `r` receives 128 bytes with their sideband word at a port; `xovr` says that the FIFO of the seam overran (R161, R174, R176). -/
  | flitReceive (r : TileAddr) (port : Fin 4) (flit : List (BitVec 8)) (side : BitVec 32) (xovr : Bool := false)
  /-- NAK_RECEIVED (R176). The sender at a port receives a NAK for `seq` (R176). -/
  | nakReceived (r : TileAddr) (port : Fin 4) (seq : BitVec 6)
  /-- LINK_RETRAIN (R177). One flit has been resent 8 times at a port (R177). -/
  | linkRetrain (r : TileAddr) (port : Fin 4)
  /-- SEAM_TRAINING_COMPLETE (R177). Training of a seam channel ends (R177). -/
  | seamTrainingComplete (seam : Fin 120) (channel : BitVec 7) (ok : Bool)
  /-- SHUTTLE_ROUTE (R165). Router `r` routes the shuttle at the head of an input buffer, read with `e` bits in error (R158, R165). -/
  | shuttleRoute (r : TileAddr) (port : Fin 6) (vc : Fin 4) (e : Fin 3)
  /-- FOLD_ARRIVAL (R170). The fold shuttle at the head of the VC0 buffer of a port arrives for combining (R170). -/
  | foldArrival (r : TileAddr) (port : Fin 6)
  /-- FOLD_COMBINE_COMPLETE (R170). Every input port of a combine slot has delivered (R170). -/
  | foldCombineComplete (r : TileAddr) (group chunk : BitVec 12) (pick : BitVec 16)
  /-- WEFT_WATCHDOG (R178). A head flit has waited past the limit (R178). -/
  | weftWatchdog (r : TileAddr) (port : Fin 6) (vc : Fin 4)
  /-- CONGESTION_MAP (R180). A millisecond ends; the blocked cycles that routers counted in it, 0 for a router not listed (R180). -/
  | congestionMap (blocked : List (TileAddr × BitVec 32))
  /-- WFT_SWATCH_START (R182). WFT_SWATCH_CTRL written with GO = 1 (R182). -/
  | wftSwatchStart (depth : BitVec 2) (seam : BitVec 7) (channel : BitVec 7) (flitsK : BitVec 15)
  /-- WFT_SWATCH_COMPLETE (R182). The seam test ends with `errs` flits in error, the first failing channel being `first` (R182). -/
  | wftSwatchComplete (errs : Nat) (first : BitVec 7)
  /-- WFT_CLR_COUNTS (R185). WFT_CTRL.CLR_COUNTS written 1 (R185). -/
  | wftClrCounts
  /-- SPOOL_WRITE_ACCEPT (R211). The oldest spool write of tile `t` reaches its channel controller, whose write buffer holds `used` units; `skein` and `root` stand in the lane descriptor of the step (R195, R211). -/
  | spoolWriteAccept (t : TileAddr) (skein : BitVec 12) (root : BitVec 26) (used : Nat)
  /-- SPOOL_READ (R211). The oldest spool read of tile `t` is served for the step at `pos`; `ce` lines are corrected and the lines `ue` of the request are uncorrectable (R208, R211, R229). -/
  | spoolRead (t : TileAddr) (skein : BitVec 12) (root : BitVec 26) (pos : BitVec 40) (ce : Nat) (ue : List (Fin 64))
  /-- TRANSLATION_WALK (R218). The field's STU walks the tables for the oldest untranslated request of tile `t`; `ue` names the table read, if any, that is uncorrectable (R218, R220). -/
  | translationWalk (t : TileAddr) (skein : BitVec 12) (root : BitVec 26) (ue : Option (Fin 3))
  /-- SPOOL_RESPONSE (R56). The oldest spool response reaches tile `t` (R56). -/
  | spoolResponse (t : TileAddr)
  /-- SPOOL_CHANNEL_FAIL (R197). A spool channel enters FAILED (R197). -/
  | spoolChannelFail (f : Fin 60) (ch : Fin 64)
  /-- DRAM_REFRESH (R230). A bank of a channel refreshes its rows; the channel's DRAM reads `temp` °C (R230, R240). -/
  | dramRefresh (f : Fin 60) (ch : Fin 64) (temp : BitVec 8)
  /-- SPOOL_SCRUB (R230). The patrol scrub reads a line: 0 clean, 1 corrected, 2 uncorrectable (R230). -/
  | spoolScrub (f : Fin 60) (ch : Fin 64) (line : BitVec 25) (e : Fin 3)
  /-- FRAME_RELEASE (R223). The release of a skein's frames ends (R223). -/
  | frameRelease (id : BitVec 12)
  /-- PREFIX_COPY (R224). The next prefix page of skein `id` is copied (R224, R264). -/
  | prefixCopy (id : BitVec 12)
  /-- SWAP_OUT (R225). The parked skein that pre-emption chose is swapped out (R225, R265). -/
  | swapOut (id : BitVec 12)
  /-- SWAP_OUT_COMPLETE (R399). The FLUSHes of a swap out have completed (R399). -/
  | swapOutComplete (id : BitVec 12)
  /-- RESTORE (R225). The frames of a skein whose restore has started are allocated and read back (R225). -/
  | restore (id : BitVec 12)
  /-- RESTORE_COMPLETE (R265). Every frame of a restore is back (R265). -/
  | restoreComplete (id : BitVec 12)
  /-- SPL_SWATCH_START (R231). SPL_SWATCH_CTRL written with GO = 1 (R231). -/
  | splSwatchStart (field : BitVec 6) (ch : BitVec 6) (depth : BitVec 2)
  /-- SPL_SWATCH_COMPLETE (R231). The loopback test ends with `errs` words in error (R231). -/
  | splSwatchComplete (errs : Nat)
  /-- XC_FLUSH (R234). SPL_CTRL.XC_FLUSH written 1 (R234). -/
  | xcFlush
  /-- SPL_CLR_COUNTS (R234). SPL_CTRL.CLR_COUNTS written 1 (R234). -/
  | splClrCounts
  /-- SPL_ECC_LOG1_READ (R237). SPL_ECC_LOG1 is read (R237). -/
  | splEccLog1Read
  /-- ADMIT (R248). ADMIT from submission ring `ring` with its TAG and fields (R248, R392). -/
  | admitSeq (ring : Fin 16) (tag : BitVec 16) (id : BitVec 16) (part prio : BitVec 3) (sampler : BitVec 8) (pfxUse pfxPub hold : Bool) (deadline : BitVec 48) (limit : BitVec 40) (seed ringBase promptBase : BitVec 64) (ringLog2 : BitVec 5) (promptLen : BitVec 40)
  /-- CANCEL (R248). CANCEL of a skein (R248). -/
  | cancel (ring : Fin 16) (tag : BitVec 16) (id : BitVec 16)
  /-- PARK (R248). PARK of a skein (R248). -/
  | park (ring : Fin 16) (tag : BitVec 16) (id : BitVec 16)
  /-- RESUME (R248). RESUME of a skein (R248). -/
  | resume (ring : Fin 16) (tag : BitVec 16) (id : BitVec 16)
  /-- RELEASE (R248). RELEASE of a skein (R248). -/
  | release (ring : Fin 16) (tag : BitVec 16) (id : BitVec 16)
  /-- SET (R248). SET of a skein's PRIO and DEADLINE (R248). -/
  | set (ring : Fin 16) (tag : BitVec 16) (id : BitVec 16) (prio : BitVec 3) (deadline : BitVec 48)
  /-- PART_ENABLE (R267). PART_ENABLE of a partition (R267). -/
  | partEnable (ring : Fin 16) (tag : BitVec 16) (part : BitVec 3)
  /-- PART_DISABLE (R267). PART_DISABLE of a partition (R267). -/
  | partDisable (ring : Fin 16) (tag : BitVec 16) (part : BitVec 3)
  /-- PREFIX_COPY_COMPLETE (R264). The prefix copies of skein `id` are done (R264). -/
  | prefixCopyComplete (id : BitVec 12)
  /-- REED_POSITION (R251). The reed handles the slot at its position with the head's results that have reached it (R251, R256); `cap` holds the handoffs of ring positions 0 to 128 of a captured step and `last` the bytes of position 129, the 64 candidates and the sampled token (R572). -/
  | reedPosition (last : List (BitVec 8)) (cap : List (List (BitVec 8)))
  /-- PROMPT_UNIT_ARRIVAL (R251). Prompt unit `u` of a skein arrives (R251). -/
  | promptUnitArrival (id : BitVec 12) (u : Nat) (toks : List (BitVec 32))
  /-- RING_COUNT_FETCH (R253). The read count of a skein's token ring arrives (R253, R254). -/
  | ringCountFetch (id : BitVec 12) (count : BitVec 32)
  /-- DEADLINE_CHECK (R253). The deadlines of skeins in QUEUED and PARKED are compared with the current pick (R253). -/
  | deadlineCheck
  /-- PREEMPT (R265). The reed acts on spool pressure (R265). -/
  | preempt
  /-- RESTORE_START (R265). The reed starts the restore of the first swapped skein (R265). -/
  | restoreStart
  /-- STOP_SERVICE (R268). SKN_CTRL.STOP_SERVICE written 1 (R268). -/
  | stopService
  /-- SKN_CLR_COUNTS (R270). SKN_CTRL.CLR_COUNTS written 1 (R270). -/
  | sknClrCounts
  /-- SKN_ENT_SEL_WRITE (R273). SKN_ENT_SEL is written (R273). -/
  | sknEntSelWrite (v : BitVec 32)
  /-- SKN_SAMP_DATA_WRITE (R275). SKN_SAMP_DATA is written (R275). -/
  | sknSampDataWrite (v : BitVec 32)
  /-- SKN_COMMITS_LO_READ (R275). SKN_COMMITS_LO is read (R275). -/
  | sknCommitsLoRead
  /-- PROGRAM_ALL (R282). NVW_OP written with OP = 1 and GO = 1 (R282, R307). -/
  | programAll (target : BitVec 19)
  /-- LWI_CHUNK_ARRIVAL (R282). The chunk of the LWI that is being fetched is complete: it is hashed and streamed (R282). -/
  | lwiChunkArrival
  /-- SECTION_PROGRAM_COMPLETE (R281). Tile `t` ends programming; `ok`: every row read back clean within 3 programs (R281). -/
  | sectionProgramComplete (t : TileAddr) (ok : Bool)
  /-- VERIFY_ALL (R284). NVW_OP written with OP = 2 and GO = 1; `bad` is the first tile whose rows do not read clean (R284). -/
  | verifyAll (target : BitVec 19) (bad : Option (BitVec 19))
  /-- DARN (R292). NVW_OP written with OP = 3 and GO = 1 (R292, R307). -/
  | darn (target : BitVec 19)
  /-- REWEAVE (R300). A re-weave of region TARGET[3:0] is asked for: by NVW_OP with OP = 4 (`host`), or because the region went dark (R300). -/
  | reweave (target : BitVec 19) (host : Bool)
  /-- NVW_ABORT (R306). NVW_CTRL.ABORT written 1 (R306). -/
  | nvwAbort
  /-- NVW_CLR_COUNTS (R306). NVW_CTRL.CLR_COUNTS written 1 (R306). -/
  | nvwClrCounts
  /-- NVW_SCRUB (R286). The scrub reads a row of tile `t` with `errs` bits in error; `sweepH`: a full sweep ends with it, after so many hours (R286). -/
  | nvwScrub (t : TileAddr) (row : BitVec 16) (errs : Nat) (sweepH : Option (BitVec 16))
  /-- DARN_START (R293). The next queued darn or rotation starts (R293). -/
  | darnStart
  /-- DARN_SWITCH (R292). The strobe at which the running darn switches (R292). -/
  | darnSwitch
  /-- DARN_COMPLETE (R292). The heddle controller completes the running darn (R292). -/
  | darnComplete
  /-- ROTATION_RETURN (R295). The rotated tile has been reprogrammed; `ok`: its rows read back clean (R295). -/
  | rotationReturn (ok : Bool)
  /-- REWEAVE_COMPLETE (R300). The spare tiles are loaded; the loader finishes the re-weave (R300). -/
  | reweaveComplete
  /-- LWS_LOST (R303). No LWS data for NVW_LWS_TIMEOUT.MS (R303). -/
  | lwsLost
  /-- INSTALL (R324). WRP_INSTALL written with GO = 1; `source`: the LWS, else host memory at WRP_INSTALL_SRC (R324, R343). -/
  | install (slot : BitVec 2) (source : Bool)
  /-- INSTALL_COMPLETE (R324). The images of the container are programmed; `bad`: the first tile that still fails after 3 programs (R324). -/
  | installComplete (bad : Option (BitVec 19))
  /-- LINK_LOST (R324). No data of an installation for NVW_LWS_TIMEOUT.MS (R324). -/
  | linkLost
  /-- LOAD (R325). WRP_LOAD written with GO = 1 (R325). -/
  | load (slot : BitVec 2)
  /-- LOAD_COMPLETE (R325). Every image tile of the load has been copied; `rtt`: the measured round trip to each field (R325, R335). -/
  | loadComplete (rtt : List (BitVec 8))
  /-- WRP_ABORT (R341). WRP_CTRL.ABORT written 1 (R339). -/
  | wrpAbort
  /-- WRP_CLR_COUNTS (R341). WRP_CTRL.CLR_COUNTS written 1 (R341). -/
  | wrpClrCounts
  /-- WARP_MESSAGE (R333). A message arrives on field `f`'s link: eight bytes and a CRC-8 (R333). -/
  | warpMessage (f : Fin 60) (msg : List (BitVec 8))
  /-- TILE_WINDOW_ACCESS (R336). An access through the tile access window (R336). -/
  | tileWindowAccess (port : Fin 16) (tag : BitVec 12) (write : Bool) (off : BitVec 14) (data : BitVec 32)
  /-- BRIDGE_TIMEOUT (R337). The oldest stalled warp access has waited 4,096 heddle cycles (R337). -/
  | bridgeTimeout
  /-- FLIT (R380). A flit arrives on a port; `slip`: its elastic buffer overran (R464), `ue`: the FEC could not correct it, `ce`: symbols that it corrected (R378 to R380). -/
  | flit (port : Fin 16) (slip ue : Bool) (ce : BitVec 16) (bytes : List (BitVec 8))
  /-- HELSIA_NAK (R380). A NAK arrives with its ACK field (R380). -/
  | helsiaNak (port : Fin 16) (ack : BitVec 12)
  /-- HELSIA_ACK_TIMEOUT (R380). No acknowledgement has advanced for 10 µs (R380). -/
  | helsiaAckTimeout (port : Fin 16)
  /-- HELSIA_RETRAIN (R381). A flit of the port has been resent 8 times (R381). -/
  | helsiaRetrain (port : Fin 16)
  /-- HELSIA_TRAINING_COMPLETE (R382). Training ends: 0 UP with a round trip, 1 failed, 2 no partner (R381, R382). -/
  | helsiaTrainingComplete (port : Fin 16) (result : Fin 3) (rtt : BitVec 16)
  /-- REG_WR (R390). A REG_WR of the bytes `data` at a device register address (R384, R390, R525). -/
  | regWr (port : Fin 16) (addr : BitVec 32) (data : List (BitVec 8))
  /-- REG_RD (R390). A REG_RD of `len` + 1 bytes (R390, R525). -/
  | regRd (port : Fin 16) (tag : BitVec 12) (addr : BitVec 32) (len : Fin 8)
  /-- MEM_CPL (R384). The completion of a MEM_RD or FLUSH of the device (R384). -/
  | memCpl (port : Fin 16) (tag : BitVec 12) (data : List (BitVec 8))
  /-- OBJ_CPL (R405). An LWS completion: 0 OK, 1 NO_OBJECT, 2 RANGE, 3 BUSY (R405). -/
  | objCpl (port : Fin 16) (tag : BitVec 12) (status : Fin 4) (data : List (BitVec 8))
  /-- ECHO (R384). An ECHO transaction arrives (R384). -/
  | echo (port : Fin 16) (data : List (BitVec 8))
  /-- MEM_RD_TIMEOUT (R401). The read with a tag has had no completion for HLS_RD_TIMEOUT.US (R401). -/
  | memRdTimeout (tag : BitVec 12)
  /-- SQ_DOORBELL (R393). HLS_SQ_TAIL of a ring written (R393). -/
  | sqDoorbell (ring : Fin 16) (v : BitVec 32)
  /-- COMPLETION_COUNT_POLL (R393). A microsecond ends while a completion slot is full (R393). -/
  | completionCountPoll
  /-- EVENT_RING_POLL (R395). A microsecond ends while the event ring is full (R395). -/
  | eventRingPoll
  /-- BEACON (R396). A beacon interval ends; `late`: the last beacon has not left yet (R396). -/
  | beacon (late : Bool)
  /-- HOST_PORT_LOST (R406). A HOST port leaves UP (R406). -/
  | hostPortLost (port : Fin 16)
  /-- PORT_DISABLE (R407). HLS_PORT_CTRL written with GO and DISABLE (R407). -/
  | portDisable
  /-- PORT_DRAIN_COMPLETE (R407). The work of a draining port has ended (R407). -/
  | portDrainComplete (port : Fin 16)
  /-- PORT_ENABLE (R408). HLS_PORT_CTRL written with GO and ENABLE (R408). -/
  | portEnable
  /-- PORT_RETRAIN (R408). HLS_PORT_CTRL written with GO and RETRAIN (R408). -/
  | portRetrain
  /-- HLS_SWATCH_START (R410). HLS_SWATCH_CTRL written with GO (R410). -/
  | hlsSwatchStart (depth : BitVec 3) (port : Fin 16) (units : BitVec 16)
  /-- HLS_SWATCH_COMPLETE (R411). The port test ends with `errs` units in error, or finds no partner (R411). -/
  | hlsSwatchComplete (errs : Nat) (noPartner : Bool)
  /-- HLS_CLR_COUNTS (R413). HLS_CTRL.CLR_COUNTS written 1 (R413). -/
  | hlsClrCounts
  /-- VIN_SAMPLE (R420). The main input reads `vin`, 10 mV units (R420). -/
  | vinSample (vin : BitVec 16)
  /-- STANDBY_SAMPLE (R421). The standby input reads `vin`, 10 mV units (R421). -/
  | standbySample (vin : BitVec 16)
  /-- INPUT_CURRENT_SAMPLE (R422). The input current reads `iin`, 0.1 A units (R422). -/
  | inputCurrentSample (iin : BitVec 16)
  /-- CAP_EXCEEDED (R423). A 1 ms average of the input power, 10 W units (R423). -/
  | capExceeded (avg : BitVec 16)
  /-- PHASE_SHED (R426). A phase is 0 out of regulation, 1 hot or 2 unbalanced (R426); its readings. -/
  | phaseShed (dom : Fin 55) (phase : Fin 16) (cause : Fin 3) (temp : BitVec 8) (cur : BitVec 16)
  /-- TRIPPED (R431). An instance meets a trip condition: 0 SHORT, 1 PHASES, 2 UNDERVOLT (R431). -/
  | tripped (dom : Fin 55) (cause : Fin 3) (phase : Fin 16) (cur : BitVec 16)
  /-- PATH_CHECK (R433). The voltages and the current of a path are sampled (R433). -/
  | pathCheck (dom : Fin 55) (out sense cur : BitVec 16)
  /-- DROOP_WARNING (R434). A rail of a field falls below the warning level (R434). -/
  | droopWarning (f : Fin 60)
  /-- DROOP_STRETCH_END (R434). The stretch of a field ends after `cycles` field cycles (R434). -/
  | droopStretchEnd (f : Fin 60) (cycles : Nat)
  /-- DROOP_RESET (R436). A rail of a field falls below the reset level (R436). -/
  | droopReset (f : Fin 60)
  /-- RAMP_START (R437). The sequencer looks for a region that may ramp (R437). -/
  | rampStart
  /-- RAMP_COMPLETE (R440). The soft start completes after `t10` units of 10 µs (R437, R440). -/
  | rampComplete (t10 : BitVec 12)
  /-- RAMP_TIMEOUT (R437). A ramp has not completed 10 ms after its request (R437). -/
  | rampTimeout (r : Fin 16)
  /-- REGION_OFF (R438). VPA_REGION_CTRL written with GO and OFF (R438). -/
  | regionOff (region : BitVec 4)
  /-- REGION_ON (R438). VPA_REGION_CTRL written with GO and ON (R438). -/
  | regionOn (region : BitVec 4)
  /-- REGION_RETAIN (R438). VPA_REGION_CTRL written with GO and RETAIN (R438). -/
  | regionRetain (region : BitVec 4)
  /-- VPA_CLR_COUNTS (R445). VPA_CTRL.CLR_COUNTS written 1 (R445). -/
  | vpaClrCounts
  /-- REF_LOSS (R457). The clock unit's count of the reference: whether edges arrive and the deviation (R457). -/
  | refLoss (edge : Bool) (ppm : BitVec 16)
  /-- REF_RESTORE (R457). CLK_CTRL.REF_RESTORE written 1 (R457). -/
  | refRestore
  /-- SSC_OFF (R456). CLK_CTRL.SSC_OFF written (R456). -/
  | sscOff (off : Bool)
  /-- SSC_CREST (R456). The spreading triangle reaches a crest (R456). -/
  | sscCrest
  /-- CLK_CLR_COUNTS (R470). CLK_CTRL.CLR_COUNTS written 1 (R470). -/
  | clkClrCounts
  /-- PLL_UNLOCK (R459). A PLL loses lock; the crossing classes that overrun (R459, R462). -/
  | pllUnlock (pll : Fin 145) (runs : List (Fin 8))
  /-- PLL_RELOCK (R459). A relock attempt ends; its time in units of 10 ns (R459). -/
  | pllRelock (pll : Fin 145) (ok : Bool) (time : BitVec 16)
  /-- TRAY_READ (R477). A tray reading is fetched (R477). -/
  | trayRead (bytes : List (BitVec 8))
  /-- TRAY_LOST (R478). No valid tray reading for 50 ms (R478). -/
  | trayLost
  /-- SENSOR_SAMPLE (R479). The sensors of a field are sampled: their raw codes (R479). -/
  | sensorSample (f : Fin 60) (q : List (BitVec 16))
  /-- FORECAST (R481). A millisecond ends: the forecaster predicts and acts (R481). -/
  | forecast
  /-- COOLANT_STOP_DRAIN_END (R485). The drain of a coolant stop ends, or 2 ms have passed (R485). -/
  | coolantStopDrainEnd (late : Bool)
  /-- THERMAL_TRIP (R486). A reading has stood at its trip value for 100 µs (R486). -/
  | thermalTrip (f : Fin 60) (sensor : Fin 26)
  /-- CLEAR_STOP (R491). THM_CTRL.CLEAR_STOP written 1 (R491). -/
  | clearStop
  /-- THM_CLR_COUNTS (R491). THM_CTRL.CLR_COUNTS written 1 (R491). -/
  | thmClrCounts
  /-- POWER_ON (R503). VK rises (R503). -/
  | powerOn
  /-- BOOT_STAGE (R503). The boot stage in progress ends; what failed in it, and whether its bound has passed (R503). -/
  | bootStage (fails : List (BitVec 12)) (late : Bool)
  /-- STATE_MIRROR (R495). A millisecond ends at the primary; `alive`: the standby strobes too (R495). -/
  | stateMirror (alive : Bool)
  /-- TAKEOVER (R495). The standby looks for the primary's heartbeat (R495). -/
  | takeover
  /-- WDOG (R496). The SN watchdog looks for heartbeats (R496). -/
  | wdog
  /-- WARM_RESET (R506). BOOT_CTRL written with RESET and SCOPE WARM (R506). -/
  | warmReset
  /-- COLD_RESET (R506). BOOT_CTRL written with RESET and SCOPE COLD (R506). -/
  | coldReset
  /-- RESET_N (R592). The pin RESET_N takes a level for `ns` nanoseconds (R592, R598). -/
  | resetN (high : Bool) (ns : Nat)
  /-- POWER_RESET (R506). Standby power is lost (R506). -/
  | powerReset
  /-- FW_IMAGE_WRITE (R512). BOOT_FW_CTRL written with GO: the image in host memory; `lost`: the link fails, `bad`: the bank does not read back (R512). -/
  | fwImageWrite (target : Bool) (image : List (BitVec 8)) (lost bad : Bool)
  /-- RESTART_STBY (R512). BOOT_CTRL.RESTART_STBY written 1; firmware banks that cannot be read (R512). -/
  | restartStby (bad : List (Fin 4))
  /-- SWAP_ROLES (R512). BOOT_CTRL.SWAP_ROLES written 1 (R512). -/
  | swapRoles
  /-- COMMIT_SVN (R512). BOOT_CTRL.COMMIT_SVN written 1 (R512). -/
  | commitSvn
  /-- REPORT (R508). ATT_CTRL.GO written 1 (R508). -/
  | report
  /-- ENROLL (R509). ATT_CTRL.ENROLL written 1; what host memory holds at ATT_ADDR (R509). -/
  | enroll (record : List (BitVec 8))
  /-- REKEY (R511). ATT_CTRL.REKEY written 1 (R511). -/
  | rekey
  /-- CERT (R511). ATT_CTRL.CERT written 1 (R511). -/
  | cert
  /-- LMS_TREE_BUILD_COMPLETE (R510). A background build of a bottom tree ends (R510). -/
  | lmsTreeBuildComplete
  /-- REGISTER_WRITE (R525). The register path takes a write of the bytes `data` (R522, R525). -/
  | registerWrite (addr : BitVec 32) (data : List (BitVec 8))
  /-- ALIAS_WRITE (R528). A write to the alias of a bit of the register at an offset of a block (R528). -/
  | aliasWrite (block : Fin 17) (off : BitVec 16) (bit : Fin 32) (data : BitVec 32)
  /-- HC_CLR_COUNTS (R529). HC_CTRL.CLR_COUNTS written 1 (R529). -/
  | hcClrCounts
  /-- HC_TIME_LO_READ (R526). HC_TIME_LO is read (R526). -/
  | hcTimeLoRead
  /-- SENTINEL_SWEEP (R534). A 1 ms boundary of heddle time; bytes of the static lines whose words its reads find with bits in error (R52, R53, R534). -/
  | sentinelSweep (errs : List (TileAddr × BitVec 18 × Nat))
  /-- SEGMENT_SWEEP_END (R534). The sweep of the segment with an ID ends (R534). -/
  | segmentSweepEnd (id : BitVec 24)
  /-- COMMIT_REFERENCE (R535). SNT_CTRL.COMMIT written 1 (R535). -/
  | commitReference
  /-- SNT_EN (R542). SNT_CTRL.EN written (R542). -/
  | sntEn (v : Bool)
  /-- SNT_CLR_COUNTS (R542). SNT_CTRL.CLR_COUNTS written 1 (R542). -/
  | sntClrCounts
  /-- SNT_SEG_SEL_WRITE (R545). SNT_SEG_SEL written (R545). -/
  | sntSegSelWrite (v : BitVec 32)
  /-- CVU_CFG_WRITE (R549). CVU_CFG of a channel written (R549). -/
  | cvuCfgWrite (c : Fin 64) (v : BitVec 32)
  /-- CVU_DATA8 (R548). CVU_DATA8 of a channel written (R548). -/
  | cvuData8 (c : Fin 64) (v : BitVec 32)
  /-- CVU_DATA16 (R548). CVU_DATA16 of a channel written (R548). -/
  | cvuData16 (c : Fin 64) (v : BitVec 32)
  /-- CVU_DATA32 (R548). CVU_DATA32 of a channel written (R548). -/
  | cvuData32 (c : Fin 64) (v : BitVec 32)
  /-- CVU_RESULT_LO_READ (R526). CVU_RESULT_LO of a channel is read (R526). -/
  | cvuResultLoRead (c : Fin 64)
  /-- FAULT_RECORD (R556). The oldest record on TELEM reaches the primary (R556). -/
  | faultRecord
  /-- FATAL_HALT (R562). A fatal reason: 0 FW_INTERNAL, 1 NV_WRITE, 2 ENDPOINT; `cut`: the bytes of a dump that its second cuts short (R562, R563). -/
  | fatalHalt (reason : Fin 3) (cut : Option Nat)
  /-- DUMP_TIMEOUT (R562). A second has passed since the halt; `n` bytes of the dump are written (R562). -/
  | dumpTimeout (n : Nat)
  /-- DMP_FATAL (R576). DMP_CTRL.FATAL written 1 (R576). -/
  | dmpFatal (cut : Option Nat)
  /-- FETCH (R567). DMP_CTRL.FETCH written 1; the segment's lines that cannot be corrected (R567). -/
  | fetch (bad : List (BitVec 23))
  /-- ERASE (R567). DMP_CTRL.ERASE written 1 (R567). -/
  | erase
  /-- DMP_CLR_COUNTS (R576). DMP_CTRL.CLR_COUNTS written 1 (R576). -/
  | dmpClrCounts
  /-- TEST_MODE (R570). TST_CTRL.TEST_MODE written (R570). -/
  | testMode (v : Bool)
  /-- INJECTION_ARM (R571). TST_INJ written with GO (R571). -/
  | injectionArm (kind n : BitVec 3) (target : BitVec 19)
  /-- CAPTURE_ARM (R572). TST_CAP_CTRL written with GO (R572). -/
  | captureArm (skein : BitVec 12)
  /-- BIST (R573). TST_BIST written with GO (R573). -/
  | bist (region : BitVec 4)
  /-- BIST_COMPLETE (R573). The self-test of a region ends; the tiles that failed (R573). -/
  | bistComplete (fails : List TileAddr)
  /-- PARTNER_LOST (R382). A port loses its partner (R382). -/
  | partnerLost (port : Fin 16)
  /-- MGMT_RX (R592). Bytes arrive on MGMT_RX (R592). -/
  | mgmtRx (bytes : List (BitVec 8))
  /-- NO_HC (R504). A second has passed with both controllers failed (R504). -/
  | noHc
  /-- REKEY_COMPLETE (R511). Generation of the new HSS key ends (R511). -/
  | rekeyComplete
  deriving DecidableEq, Repr

end Sys2Proof
end

