-- ==== Sys2Proof/Decode.lean ====
section
/-!
DEFINITION. Commands as words of the opcode table. No row of the table gives bits, so no word spells a command: commands reach
the block on its links, pins and registers, and their meanings read the bytes they carry.
-/
namespace Sys2Proof

/-- The command that a word of `nbits` bits spells: none, since no row of the opcode table gives bits. -/
def decodeTableWord (_nbits _w : Nat) : Option Instr := none

end Sys2Proof
end

