-- ==== Sys2Proof/Config.lean ====
section
/-!
DEFINITION. What an implementation fixes and what the spec leaves open. Every constant here is opaque: no proof can see its
value, so a claim that holds, holds whatever the value is.
-/
namespace Sys2Proof.Config

/-- The factory value of the RES-L bits of the register at an address: "write back as read" (R5, R6). Log entry 3. -/
opaque resL : Nat → Nat

/-- A free word: the `n`-th value that the spec leaves open. `State.free` counts them. Log entry 4. -/
opaque freeWord : Nat → BitVec 32

/-- A free choice among `k` courses where the spec says that which course is taken is not defined (R38, R52). Log entry 4. -/
opaque freeChoice : Nat → Nat

/-- A free byte: byte `i` of the `n`-th value that the spec leaves open. Log entry 4. -/
opaque freeByte : Nat → Nat → BitVec 8

/-- Whether an ECDSA P-384 signature over a digest verifies under a key (R322, R501). Log entry 5. -/
opaque ecdsaOk : List Byte → List Byte → List Byte → Bool

/-- Whether an HSS signature over a digest verifies under a key (R322, R501, R502). Log entry 5. -/
opaque hssOk : List Byte → List Byte → List Byte → Bool

/-- The ECDSA P-384 signature that the device's attestation key gives over a message (R508). Log entry 5. -/
opaque ecdsaSign : List Byte → List Byte

/-- The HSS signature that leaf `n` of the device's key gives over a message (R508, R510). Log entry 5. -/
opaque hssSign : Nat → List Byte → List Byte

/-- The HSS public key that the `n`-th key generation yields (R511). Log entry 5. -/
opaque hssKey : Nat → List Byte

/-- The stated latency of crossing class 8 (CONTROL), "3 × T_dst + 3 × T_src" of whichever two domains (R460, R472). Log
entry 7. -/
opaque latControl : Nat

/-- The vocabulary size of the pattern with a SERIAL: "the pattern's vocabulary size" (R245, R251), which the container format gives
no place. Log entry 8. -/
opaque vocabSize : Nat → Nat

/-- The head's exponent F_H of the pattern with a SERIAL: "from the XKP" (R256), which the container format gives no place. Log
entry 8. -/
opaque headExp : Nat → Int

/-- DATA of a beacon record of a type whose layout the spec does not give (STEP, FLOOR, LAG_BOUND, DARN, ROTATION, REWEAVE), from what the
spec says the record holds (R397). Log entry 9. -/
opaque recordData : Nat → List Nat → List Byte

/-- What TIL_CAL_0 copies from a calibration record, whose layout the spec does not give (R31, R74). Log entry 26. -/
opaque calWord : List Byte → Nat

/-- The ring position to which the pattern with a SERIAL assigns a darn tile (R290), which the container format gives no place. Log
entry 27. -/
opaque darnPos : Nat → Nat → Nat

/-- Sections of the global record whose layout the spec does not give (R321): fold groups as ID, K and n; weight format codes;
partitions as PRESENT and adapter set; and of each of 16 variants the dark region, the home channels of 128
bands, the reserve channels, the strobe delays and the tile mapping. Log entry 28. -/
opaque secFolds : List Byte → List (Nat × Nat × Nat)
opaque secFormats : List Byte → List Nat
opaque secParts : List Byte → List (Bool × Nat)
opaque secVariants : List Byte → List (Nat × List (List (Nat × Nat)) × List (Nat × Nat) × List Nat × List (Nat × Nat))

/-- The text line of the management serial port for a boot stage and its code (R592), whose wording the spec does not give. Log entry 9. -/
opaque mgmtLine : Nat → Nat → List Byte

/-- The Helsia role map and the hop of each CHAIN port that the pattern with a SERIAL carries (R375, R403, R416), which the container format
gives no place: role code and hop code by port. Log entry 8. -/
opaque xkpRole : Nat → Nat → Nat
opaque xkpHop : Nat → Nat → Nat

/-- Calibration of the forecaster, held in locked NV (R481): the fraction a of a field, th0 and th1 of a field and sensor group, and the
factor 1 - 2^(-k/H) of a field and group for step k. Log entry 29. -/
opaque thmA : Nat → Rat
opaque thmTh0 : Nat → Nat → Rat
opaque thmTh1 : Nat → Nat → Rat
opaque thmGain : Nat → Nat → Nat → Rat

/-- What the procedure of R481 yields for a field, group and step at a flow of 0, where it divides by the flow. Log entry 29. -/
opaque thmNoFlow : Nat → Nat → Nat → Rat

/-- Whether a temperature between two units of 0.1 °C shows as the upper one: the spec gives no rounding (R74, R479, R493). Log entry 42. -/
opaque roundUp : Rat → Bool

/-- What production wrote (R288, R498, R500): the factory darn map's header, bitmap, the firmware banks by `controller × 2 +
bank`, and the digests of the firmware ECDSA and HSS keys. The spec gives none of them. Log entry 10. -/
opaque mapHeader : List Byte
opaque darnMap : List Byte
opaque factoryFw : Nat → List Byte
opaque fwEcdsaDigest : List Byte
opaque fwHssDigest : List Byte

/-- Layer bands of all devices of the chain with a CHAIN_ID: each device's pattern names its own only (R138). Log entry 23. -/
opaque chainBands : Nat → Nat

/-- The field table entry of a router that the pattern with a SERIAL assigns to a selvage die (R165), which the container format gives no
place. Log entry 116. -/
opaque selvageEntry : Nat → Nat → Nat → Nat

end Sys2Proof.Config
end

