-- ==== Sys2Proof/Machine/Store.lean ====
section
/-!
DEFINITION. The sparse maps: reading a key, writing a key, and the canonical form. Reading is a plain lookup, so the
laws of reading after writing hold of every list (Laws/Store.lean); writing keeps the canonical form.
-/
namespace Sys2Proof.Machine

/-- The value of key `k`; `d` is what an unlisted key holds. -/
def smGet {α : Type} (d : α) (k : Nat) : SMap α → α
  | [] => d
  | (j, v) :: m => if j = k then v else smGet d k m

/-- The map without key `k`. -/
def smErase {α : Type} (k : Nat) : SMap α → SMap α
  | [] => []
  | (j, v) :: m => if j = k then smErase k m else (j, v) :: smErase k m

/-- The map with `(k, v)` put before the first larger key. -/
def smInsert {α : Type} (k : Nat) (v : α) : SMap α → SMap α
  | [] => [(k, v)]
  | (j, w) :: m => if k < j then (k, v) :: (j, w) :: m else (j, w) :: smInsert k v m

/-- The map in which key `k` holds `v`; `d` is what an unlisted `k` holds, so writing `d` removes the pair. -/
def smSet {α : Type} [DecidableEq α] (d : α) (k : Nat) (v : α) (m : SMap α) : SMap α :=
  if v = d then smErase k m else smInsert k v (smErase k m)

/-- Every key of the map is above `k`. -/
def smAbove {α : Type} (k : Nat) : SMap α → Bool
  | [] => true
  | (j, _) :: m => decide (k < j) && smAbove k m

/-- The canonical form: keys strictly rising, and no pair that holds the value `d k` of an unlisted key. -/
def smWf {α : Type} [DecidableEq α] (d : Nat → α) : SMap α → Bool
  | [] => true
  | (j, v) :: m => decide (v ≠ d j) && smAbove j m && smWf d m

/-- The keys from `lo` to `hi` (both included) removed: a whole range back at what an unlisted key holds. -/
def smClear {α : Type} (lo hi : Nat) : SMap α → SMap α
  | [] => []
  | (j, v) :: m => if lo ≤ j ∧ j ≤ hi then smClear lo hi m else (j, v) :: smClear lo hi m

/-- Consecutive bytes `k, k+1, …` written. -/
def smSetBytes (k : Nat) : List Byte → SMap Byte → SMap Byte
  | [], m => m
  | b :: bs, m => smSetBytes (k + 1) bs (smSet 0 k b m)

/-- `n` consecutive bytes from key `k`. -/
def smGetBytes (k : Nat) : Nat → SMap Byte → List Byte
  | 0, _ => []
  | n + 1, m => smGet 0 k m :: smGetBytes (k + 1) n m

end Sys2Proof.Machine
end

