-- ==== Sys2Proof/Machine/RegMap.lean ====
section
/-!
DEFINITION. The register map: every register of the eighteen blocks of R523, with its address (block index times 0x10000 plus
its offset; the tile block TIL_ stands at 0x110000 plus the tile offset), its reset value, the access code of every bit (R5)
and the fields the sentinel covers (R523), and one named constant for every field. Written from the register tables.
-/
namespace Sys2Proof.Machine

/-- A field of a register: the register's address, the field's lowest bit and width, and the distance between the
registers of an array (0 for a single register). -/
structure Fld where
  reg : Nat
  lo : Nat
  w : Nat
  stride : Nat := 0
  deriving DecidableEq, Repr

/-- The same field of register `n` of an array. -/
def Fld.nth (f : Fld) (n : Nat) : Fld := ⟨f.reg + f.stride * n, f.lo, f.w, f.stride⟩

/-- A row of the register map: `count` registers `stride` apart from `base`; the reset value; the masks of the bits
of each access code; the covered bits; whether a write is in force only from the next strobe. -/
structure RegRow where
  base : Nat
  stride : Nat
  count : Nat
  reset : Nat
  rw : Nat
  w1c : Nat
  ro : Nat
  wo : Nat
  resl : Nat
  cov : Nat
  strobe : Bool
  deriving DecidableEq, Repr

/-! ### Fields -/
namespace F

/-- RO, R62. -/
abbrev TIL_ID_ADDR : Fld := ⟨0x110000, 0, 19, 0⟩
/-- RO, R63. -/
abbrev TIL_STATE_SLOT : Fld := ⟨0x110004, 4, 2, 0⟩
/-- RO, R63. -/
abbrev TIL_STATE_STATE : Fld := ⟨0x110004, 0, 4, 0⟩
/-- WO, R64. -/
abbrev TIL_CTRL_LOAD : Fld := ⟨0x110008, 4, 1, 0⟩
/-- WO, R64. -/
abbrev TIL_CTRL_CLR_COUNTS : Fld := ⟨0x110008, 3, 1, 0⟩
/-- WO, R64. -/
abbrev TIL_CTRL_DARN : Fld := ⟨0x110008, 2, 1, 0⟩
/-- WO, R64. -/
abbrev TIL_CTRL_HALT_REQ : Fld := ⟨0x110008, 1, 1, 0⟩
/-- RW, R64. -/
abbrev TIL_CTRL_ENABLE : Fld := ⟨0x110008, 0, 1, 0⟩
/-- RO, R65. -/
abbrev TIL_PICK_PICK_LO : Fld := ⟨0x11000c, 0, 32, 0⟩
/-- RO, R65. -/
abbrev TIL_SEQ_WAIT : Fld := ⟨0x110010, 16, 4, 0⟩
/-- RO, R65. -/
abbrev TIL_SEQ_PC : Fld := ⟨0x110010, 0, 16, 0⟩
/-- W1C, R67. -/
abbrev TIL_NVW_ERR_UE : Fld := ⟨0x110020, 25, 1, 0⟩
/-- W1C, R67. -/
abbrev TIL_NVW_ERR_CE_THRESH_HIT : Fld := ⟨0x110020, 24, 1, 0⟩
/-- RO, R67. -/
abbrev TIL_NVW_ERR_UE_COUNT : Fld := ⟨0x110020, 16, 8, 0⟩
/-- RO, R67. -/
abbrev TIL_NVW_ERR_CE_COUNT : Fld := ⟨0x110020, 0, 16, 0⟩
/-- RW, R67. -/
abbrev TIL_NVW_THRESH_CE_BITS : Fld := ⟨0x110024, 0, 3, 0⟩
/-- W1C, R67. -/
abbrev TIL_NVW_LOG_OVF : Fld := ⟨0x110028, 31, 1, 0⟩
/-- RO, R67. -/
abbrev TIL_NVW_LOG_BITS : Fld := ⟨0x110028, 16, 3, 0⟩
/-- RO, R67. -/
abbrev TIL_NVW_LOG_ROW : Fld := ⟨0x110028, 0, 16, 0⟩
/-- W1C, R68. -/
abbrev TIL_SP_ERR_UE : Fld := ⟨0x110030, 24, 1, 0⟩
/-- RO, R68. -/
abbrev TIL_SP_ERR_UE_COUNT : Fld := ⟨0x110030, 16, 8, 0⟩
/-- RO, R68. -/
abbrev TIL_SP_ERR_CE_COUNT : Fld := ⟨0x110030, 0, 16, 0⟩
/-- RO, R68. -/
abbrev TIL_SP_LOG_UE : Fld := ⟨0x110034, 12, 1, 0⟩
/-- RO, R68. -/
abbrev TIL_SP_LOG_LINE : Fld := ⟨0x110034, 0, 12, 0⟩
/-- W1C, R69. -/
abbrev TIL_HAZ_SPOOL : Fld := ⟨0x110040, 4, 1, 0⟩
/-- W1C, R69. -/
abbrev TIL_HAZ_SELECT : Fld := ⟨0x110040, 3, 1, 0⟩
/-- W1C, R69. -/
abbrev TIL_HAZ_STREAM : Fld := ⟨0x110040, 2, 1, 0⟩
/-- W1C, R69. -/
abbrev TIL_HAZ_WINDOW : Fld := ⟨0x110040, 1, 1, 0⟩
/-- W1C, R69. -/
abbrev TIL_HAZ_EXCL : Fld := ⟨0x110040, 0, 1, 0⟩
/-- RO, R69. -/
abbrev TIL_HAZ_CAP_PICK_LSB : Fld := ⟨0x110044, 18, 14, 0⟩
/-- RO, R69. -/
abbrev TIL_HAZ_CAP_SLOT_B : Fld := ⟨0x110044, 15, 3, 0⟩
/-- RO, R69. -/
abbrev TIL_HAZ_CAP_SLOT_A : Fld := ⟨0x110044, 12, 3, 0⟩
/-- RO, R69. -/
abbrev TIL_HAZ_CAP_LINE : Fld := ⟨0x110044, 0, 12, 0⟩
/-- RO, R69. -/
abbrev TIL_HAZ_COUNT_COUNT : Fld := ⟨0x110048, 0, 16, 0⟩
/-- RO, R70. -/
abbrev TIL_ARITH_CLAMP_COUNT : Fld := ⟨0x110050, 16, 16, 0⟩
/-- RO, R70. -/
abbrev TIL_ARITH_SAT_COUNT : Fld := ⟨0x110050, 0, 16, 0⟩
/-- RW, R71. -/
abbrev TIL_WIN_WEFT_LIMIT : Fld := ⟨0x110060, 16, 12, 0⟩
/-- RW, R71. -/
abbrev TIL_WIN_WEFT_BASE : Fld := ⟨0x110060, 0, 12, 0⟩
/-- RO, R72. -/
abbrev TIL_ARR_COUNT : Fld := ⟨0x110080, 0, 16, 4⟩
/-- RO, R73. -/
abbrev TIL_PERF_MAC_MAC_BUSY_CY : Fld := ⟨0x1100c0, 0, 32, 0⟩
/-- RO, R73. -/
abbrev TIL_PERF_NVW_IDLE_NVW_IDLE_CY : Fld := ⟨0x1100c4, 0, 32, 0⟩
/-- RO, R73. -/
abbrev TIL_PERF_STALL_STALL_CY : Fld := ⟨0x1100c8, 0, 32, 0⟩
/-- RO, R74. -/
abbrev TIL_CAL_0_RECORD_VER : Fld := ⟨0x1100e0, 24, 8, 0⟩
/-- RO, R74. -/
abbrev TIL_CAL_0_SENSE_OFFSET : Fld := ⟨0x1100e0, 16, 8, 0⟩
/-- RO, R74. -/
abbrev TIL_CAL_0_SRAM_MARGIN : Fld := ⟨0x1100e0, 8, 8, 0⟩
/-- RO, R74. -/
abbrev TIL_CAL_0_NVW_READ_TRIM : Fld := ⟨0x1100e0, 0, 8, 0⟩
/-- RO, R74. -/
abbrev TIL_CAL_1_RECORD_CRC : Fld := ⟨0x1100e4, 0, 32, 0⟩
/-- RW, R75. -/
abbrev TIL_EXCL_ADDR_WORD : Fld := ⟨0x1100f0, 0, 7, 0⟩
/-- RO, R75. -/
abbrev TIL_EXCL_DATA_BITS : Fld := ⟨0x1100f4, 0, 32, 0⟩
/-- RW, R103. -/
abbrev PCK_ARITH_SEL_POS : Fld := ⟨0xa0400, 0, 8, 0⟩
/-- RO, R104. -/
abbrev PCK_ARITH_CLAMP_CLAMP_PICKS : Fld := ⟨0xa0404, 0, 32, 0⟩
/-- RO, R104. -/
abbrev PCK_ARITH_SAT_SAT_PICKS : Fld := ⟨0xa0408, 0, 32, 0⟩
/-- RO, R104. -/
abbrev PCK_ARITH_FIRST_FIRST_PICK_LO : Fld := ⟨0xa040c, 0, 32, 0⟩
/-- WO, R105. -/
abbrev PCK_ARITH_CTRL_CLR_ALL : Fld := ⟨0xa0410, 1, 1, 0⟩
/-- WO, R105. -/
abbrev PCK_ARITH_CTRL_CLR_SEL : Fld := ⟨0xa0410, 0, 1, 0⟩
/-- W1C, R106. -/
abbrev PCK_ARITH_MAP_POS_BITS : Fld := ⟨0xa0420, 0, 32, 4⟩
/-- RO, R144. -/
abbrev PCK_STATUS_CHAIN_HOLD : Fld := ⟨0xa0000, 15, 1, 0⟩
/-- W1C, R144. -/
abbrev PCK_STATUS_DONE_TIMEOUT : Fld := ⟨0xa0000, 14, 1, 0⟩
/-- RO, R144. -/
abbrev PCK_STATUS_FLOOR : Fld := ⟨0xa0000, 12, 1, 0⟩
/-- RO, R144. -/
abbrev PCK_STATUS_LEVEL : Fld := ⟨0xa0000, 8, 3, 0⟩
/-- RO, R144. -/
abbrev PCK_STATUS_MODE : Fld := ⟨0xa0000, 4, 2, 0⟩
/-- RO, R144. -/
abbrev PCK_STATUS_STATE : Fld := ⟨0xa0000, 0, 4, 0⟩
/-- RO, R145. -/
abbrev PCK_PICK_LO_PICK_LO : Fld := ⟨0xa0004, 0, 32, 0⟩
/-- RO, R145. -/
abbrev PCK_PICK_HI_PICK_HI : Fld := ⟨0xa0008, 0, 16, 0⟩
/-- RW, R146. -/
abbrev PCK_CTRL_AUTO_STEP : Fld := ⟨0xa000c, 4, 1, 0⟩
/-- WO, R146. -/
abbrev PCK_CTRL_RESUME_ADMIT : Fld := ⟨0xa000c, 3, 1, 0⟩
/-- WO, R146. -/
abbrev PCK_CTRL_CLR_STATS : Fld := ⟨0xa000c, 2, 1, 0⟩
/-- WO, R146. -/
abbrev PCK_CTRL_HALT : Fld := ⟨0xa000c, 1, 1, 0⟩
/-- RW, R146. -/
abbrev PCK_CTRL_RUN : Fld := ⟨0xa000c, 0, 1, 0⟩
/-- RO, R147. -/
abbrev PCK_NOMINAL_CY_NOM : Fld := ⟨0xa0010, 0, 16, 0⟩
/-- RO, R147. -/
abbrev PCK_MIN_CY_MIN : Fld := ⟨0xa0014, 0, 16, 0⟩
/-- RO, R148. -/
abbrev PCK_LAG_CY_LAG : Fld := ⟨0xa0018, 0, 32, 0⟩
/-- RW, R148. -/
abbrev PCK_LAG_BOUND_BOUND : Fld := ⟨0xa001c, 0, 16, 0⟩
/-- RO, R149. -/
abbrev PCK_LAST_CY_LAST : Fld := ⟨0xa0020, 0, 32, 0⟩
/-- RO, R149. -/
abbrev PCK_MAX_CY_MAX : Fld := ⟨0xa0024, 0, 32, 0⟩
/-- RO, R149. -/
abbrev PCK_LATE_COUNT_LATE : Fld := ⟨0xa0028, 0, 32, 0⟩
/-- RO, R149. -/
abbrev PCK_STEP_COUNT_STEPS : Fld := ⟨0xa002c, 0, 16, 0⟩
/-- WO, R150. -/
abbrev PCK_MODE_CTRL_GO : Fld := ⟨0xa0030, 31, 1, 0⟩
/-- RW, R150. -/
abbrev PCK_MODE_CTRL_FAST_DRAIN : Fld := ⟨0xa0030, 8, 1, 0⟩
/-- RW, R150. -/
abbrev PCK_MODE_CTRL_LEVEL : Fld := ⟨0xa0030, 4, 3, 0⟩
/-- RW, R150. -/
abbrev PCK_MODE_CTRL_MODE : Fld := ⟨0xa0030, 0, 2, 0⟩
/-- RO, R151. -/
abbrev PCK_MODE_STAT_PICK_LSB : Fld := ⟨0xa0034, 16, 16, 0⟩
/-- RO, R151. -/
abbrev PCK_MODE_STAT_CAUSES : Fld := ⟨0xa0034, 8, 5, 0⟩
/-- RO, R151. -/
abbrev PCK_MODE_STAT_RESULT : Fld := ⟨0xa0034, 0, 4, 0⟩
/-- RO, R151. -/
abbrev PCK_CEILING_DEPTH : Fld := ⟨0xa0038, 0, 3, 0⟩
/-- RW, R152. -/
abbrev PCK_DONE_LIMIT_LIMIT : Fld := ⟨0xa0040, 0, 16, 0⟩
/-- RO, R152. -/
abbrev PCK_LATE_SRC_WAIT_CY : Fld := ⟨0xa0044, 16, 16, 0⟩
/-- RO, R152. -/
abbrev PCK_LATE_SRC_FIELD : Fld := ⟨0xa0044, 0, 6, 0⟩
/-- RO, R153. -/
abbrev PCK_DONE_MISS_LO_FIELDS_LO : Fld := ⟨0xa0048, 0, 32, 0⟩
/-- RO, R153. -/
abbrev PCK_DONE_MISS_HI_REED : Fld := ⟨0xa004c, 28, 1, 0⟩
/-- RO, R153. -/
abbrev PCK_DONE_MISS_HI_FIELDS_HI : Fld := ⟨0xa004c, 0, 28, 0⟩
/-- RO, R154. -/
abbrev PCK_CHAIN_LENGTH : Fld := ⟨0xa0050, 16, 7, 0⟩
/-- RO, R154. -/
abbrev PCK_CHAIN_INDEX : Fld := ⟨0xa0050, 8, 6, 0⟩
/-- RO, R154. -/
abbrev PCK_CHAIN_ROLE : Fld := ⟨0xa0050, 0, 2, 0⟩
/-- W1C, R154. -/
abbrev PCK_SKEW_MAX_EXCEEDED : Fld := ⟨0xa0054, 31, 1, 0⟩
/-- RO, R154. -/
abbrev PCK_SKEW_SKEW_PICKS : Fld := ⟨0xa0054, 16, 8, 0⟩
/-- RO, R154. -/
abbrev PCK_SKEW_SKEW_CY : Fld := ⟨0xa0054, 0, 16, 0⟩
/-- RO, R155. -/
abbrev PCK_STROBE_CAL_RTT : Fld := ⟨0xa0100, 16, 8, 4⟩
/-- RW, R155. -/
abbrev PCK_STROBE_CAL_DELAY : Fld := ⟨0xa0100, 0, 6, 4⟩
/-- W1C, R184. -/
abbrev WFT_STATUS_CMAP_LATE : Fld := ⟨0xd0000, 11, 1, 0⟩
/-- RO, R184. -/
abbrev WFT_STATUS_SWATCH_DONE : Fld := ⟨0xd0000, 10, 1, 0⟩
/-- W1C, R184. -/
abbrev WFT_STATUS_BUF_UE : Fld := ⟨0xd0000, 9, 1, 0⟩
/-- W1C, R184. -/
abbrev WFT_STATUS_KIND : Fld := ⟨0xd0000, 8, 1, 0⟩
/-- W1C, R184. -/
abbrev WFT_STATUS_LINK_FAIL : Fld := ⟨0xd0000, 7, 1, 0⟩
/-- W1C, R184. -/
abbrev WFT_STATUS_RETRAIN : Fld := ⟨0xd0000, 6, 1, 0⟩
/-- W1C, R184. -/
abbrev WFT_STATUS_WDOG : Fld := ⟨0xd0000, 5, 1, 0⟩
/-- W1C, R184. -/
abbrev WFT_STATUS_FOLD_PORT : Fld := ⟨0xd0000, 4, 1, 0⟩
/-- W1C, R184. -/
abbrev WFT_STATUS_FOLD_COUNT : Fld := ⟨0xd0000, 3, 1, 0⟩
/-- W1C, R184. -/
abbrev WFT_STATUS_DEST_OFF : Fld := ⟨0xd0000, 2, 1, 0⟩
/-- W1C, R184. -/
abbrev WFT_STATUS_NO_ROUTE : Fld := ⟨0xd0000, 1, 1, 0⟩
/-- W1C, R184. -/
abbrev WFT_STATUS_HOP : Fld := ⟨0xd0000, 0, 1, 0⟩
/-- WO, R185. -/
abbrev WFT_CTRL_CLR_COUNTS : Fld := ⟨0xd0004, 2, 1, 0⟩
/-- RW, R185. -/
abbrev WFT_CTRL_WDOG_EN : Fld := ⟨0xd0004, 1, 1, 0⟩
/-- RW, R185. -/
abbrev WFT_CTRL_CMAP_EN : Fld := ⟨0xd0004, 0, 1, 0⟩
/-- RW, R185. -/
abbrev WFT_WDOG_LIMIT : Fld := ⟨0xd0008, 0, 16, 0⟩
/-- RW, R185. -/
abbrev WFT_VC_SHARE_VC3_PERIOD : Fld := ⟨0xd000c, 8, 5, 0⟩
/-- RW, R185. -/
abbrev WFT_VC_SHARE_VC2_PERIOD : Fld := ⟨0xd000c, 0, 5, 0⟩
/-- RO, R186. -/
abbrev WFT_ERR_CAP0_ERR : Fld := ⟨0xd0010, 27, 5, 0⟩
/-- RO, R186. -/
abbrev WFT_ERR_CAP0_PORT : Fld := ⟨0xd0010, 24, 3, 0⟩
/-- RO, R186. -/
abbrev WFT_ERR_CAP0_VC : Fld := ⟨0xd0010, 22, 2, 0⟩
/-- RO, R186. -/
abbrev WFT_ERR_CAP0_ROUTER : Fld := ⟨0xd0010, 0, 19, 0⟩
/-- RO, R186. -/
abbrev WFT_ERR_CAP1_PICK_LSB : Fld := ⟨0xd0014, 16, 16, 0⟩
/-- RO, R186. -/
abbrev WFT_ERR_CAP1_INFO : Fld := ⟨0xd0014, 0, 16, 0⟩
/-- RO, R187. -/
abbrev WFT_HOP_COUNT_HOPS : Fld := ⟨0xd0018, 0, 16, 0⟩
/-- RO, R187. -/
abbrev WFT_DROP_COUNT_DROPS : Fld := ⟨0xd001c, 0, 16, 0⟩
/-- RO, R187. -/
abbrev WFT_FOLD_ERR_COUNT_FOLDS : Fld := ⟨0xd0020, 0, 16, 0⟩
/-- RO, R187. -/
abbrev WFT_CRC_COUNT_CRC : Fld := ⟨0xd0024, 0, 32, 0⟩
/-- RO, R187. -/
abbrev WFT_RETRAIN_COUNT_RETRAINS : Fld := ⟨0xd0028, 0, 16, 0⟩
/-- W1C, R188. -/
abbrev WFT_SEAM_FAIL_SEAMS : Fld := ⟨0xd0030, 0, 32, 4⟩
/-- RW, R189. -/
abbrev WFT_RTR_SEL_ADDR : Fld := ⟨0xd0040, 0, 19, 0⟩
/-- RO, R189. -/
abbrev WFT_RTR_LINK_STATES : Fld := ⟨0xd0044, 0, 12, 0⟩
/-- RO, R189. -/
abbrev WFT_RTR_BLOCK_BLOCK_CY : Fld := ⟨0xd0048, 0, 32, 0⟩
/-- RO, R189. -/
abbrev WFT_RTR_RETRY_CE : Fld := ⟨0xd004c, 16, 16, 0⟩
/-- RO, R189. -/
abbrev WFT_RTR_RETRY_RETRIES : Fld := ⟨0xd004c, 0, 16, 0⟩
/-- RW, R190. -/
abbrev WFT_TBL_ADDR_TABLE : Fld := ⟨0xd0050, 8, 2, 0⟩
/-- RW, R190. -/
abbrev WFT_TBL_ADDR_ENTRY : Fld := ⟨0xd0050, 0, 7, 0⟩
/-- RO, R190. -/
abbrev WFT_TBL_DATA_DATA : Fld := ⟨0xd0054, 0, 32, 0⟩
/-- RW, R192. -/
abbrev WFT_CMAP_BASE_LO_ADDR_LO : Fld := ⟨0xd0060, 12, 20, 0⟩
/-- RW, R192. -/
abbrev WFT_CMAP_BASE_HI_ADDR_HI : Fld := ⟨0xd0064, 0, 32, 0⟩
/-- RW, R192. -/
abbrev WFT_CMAP_DEPTH_DEPTH : Fld := ⟨0xd0068, 0, 8, 0⟩
/-- RO, R192. -/
abbrev WFT_CMAP_SEQ_SEQ : Fld := ⟨0xd006c, 0, 32, 0⟩
/-- WO, R193. -/
abbrev WFT_SWATCH_CTRL_GO : Fld := ⟨0xd0080, 31, 1, 0⟩
/-- RW, R193. -/
abbrev WFT_SWATCH_CTRL_DEPTH : Fld := ⟨0xd0080, 29, 2, 0⟩
/-- RW, R193. -/
abbrev WFT_SWATCH_CTRL_SEAM : Fld := ⟨0xd0080, 22, 7, 0⟩
/-- RW, R193. -/
abbrev WFT_SWATCH_CTRL_CHANNEL : Fld := ⟨0xd0080, 15, 7, 0⟩
/-- RW, R193. -/
abbrev WFT_SWATCH_CTRL_FLITS_K : Fld := ⟨0xd0080, 0, 15, 0⟩
/-- RO, R193. -/
abbrev WFT_SWATCH_STAT_RESULT : Fld := ⟨0xd0084, 28, 4, 0⟩
/-- RO, R193. -/
abbrev WFT_SWATCH_STAT_ERR_FLITS : Fld := ⟨0xd0084, 0, 28, 0⟩
/-- RO, R193. -/
abbrev WFT_SWATCH_CH_VALID : Fld := ⟨0xd0088, 31, 1, 0⟩
/-- RO, R193. -/
abbrev WFT_SWATCH_CH_CH : Fld := ⟨0xd0088, 0, 7, 0⟩
/-- RO, R233. -/
abbrev SPL_STATUS_SWATCH_DONE : Fld := ⟨0xc0000, 8, 1, 0⟩
/-- RO, R233. -/
abbrev SPL_STATUS_FREE_LOW : Fld := ⟨0xc0000, 7, 1, 0⟩
/-- W1C, R233. -/
abbrev SPL_STATUS_WBUF_STALL : Fld := ⟨0xc0000, 6, 1, 0⟩
/-- W1C, R233. -/
abbrev SPL_STATUS_SCRUB_UE : Fld := ⟨0xc0000, 5, 1, 0⟩
/-- W1C, R233. -/
abbrev SPL_STATUS_ECC_UE : Fld := ⟨0xc0000, 4, 1, 0⟩
/-- W1C, R233. -/
abbrev SPL_STATUS_XLAT : Fld := ⟨0xc0000, 3, 1, 0⟩
/-- W1C, R233. -/
abbrev SPL_STATUS_NO_FRAME : Fld := ⟨0xc0000, 2, 1, 0⟩
/-- W1C, R233. -/
abbrev SPL_STATUS_COPY_ERR : Fld := ⟨0xc0000, 1, 1, 0⟩
/-- W1C, R233. -/
abbrev SPL_STATUS_CH_FAIL : Fld := ⟨0xc0000, 0, 1, 0⟩
/-- WO, R234. -/
abbrev SPL_CTRL_XC_FLUSH : Fld := ⟨0xc0004, 2, 1, 0⟩
/-- WO, R234. -/
abbrev SPL_CTRL_CLR_COUNTS : Fld := ⟨0xc0004, 1, 1, 0⟩
/-- RW, R234. -/
abbrev SPL_CTRL_SCRUB_EN : Fld := ⟨0xc0004, 0, 1, 0⟩
/-- RW, R235. -/
abbrev SPL_POOL_SEL_BAND : Fld := ⟨0xc0010, 0, 7, 0⟩
/-- RO, R235. -/
abbrev SPL_POOL_FREE_FREE : Fld := ⟨0xc0014, 0, 20, 0⟩
/-- RW, R235. -/
abbrev SPL_POOL_LOW_LOW : Fld := ⟨0xc0018, 0, 20, 0⟩
/-- RO, R235. -/
abbrev SPL_POOL_MIN_MIN : Fld := ⟨0xc001c, 0, 20, 0⟩
/-- RO, R235. -/
abbrev SPL_TBL_FREE_BLOCKS : Fld := ⟨0xc0020, 0, 25, 0⟩
/-- RO, R236. -/
abbrev SPL_FAULT_CAP0_CODE : Fld := ⟨0xc0030, 28, 4, 0⟩
/-- RO, R236. -/
abbrev SPL_FAULT_CAP0_FIELD : Fld := ⟨0xc0030, 22, 6, 0⟩
/-- RO, R236. -/
abbrev SPL_FAULT_CAP0_SKEIN : Fld := ⟨0xc0030, 0, 12, 0⟩
/-- RO, R236. -/
abbrev SPL_FAULT_CAP1_SVA_LO : Fld := ⟨0xc0034, 0, 32, 0⟩
/-- RO, R236. -/
abbrev SPL_FAULT_CAP2_PICK_LSB : Fld := ⟨0xc0038, 16, 16, 0⟩
/-- RO, R236. -/
abbrev SPL_FAULT_CAP2_SVA_HI : Fld := ⟨0xc0038, 0, 13, 0⟩
/-- RO, R236. -/
abbrev SPL_XLAT_COUNT_FAULTS : Fld := ⟨0xc003c, 0, 16, 0⟩
/-- RO, R237. -/
abbrev SPL_ECC_CE_CE : Fld := ⟨0xc0040, 0, 32, 0⟩
/-- RO, R237. -/
abbrev SPL_ECC_UE_UE : Fld := ⟨0xc0044, 0, 16, 0⟩
/-- RO, R237. -/
abbrev SPL_ECC_LOG0_VALID : Fld := ⟨0xc0048, 31, 1, 0⟩
/-- RO, R237. -/
abbrev SPL_ECC_LOG0_SCRUB : Fld := ⟨0xc0048, 30, 1, 0⟩
/-- W1C, R237. -/
abbrev SPL_ECC_LOG0_OVF : Fld := ⟨0xc0048, 29, 1, 0⟩
/-- RO, R237. -/
abbrev SPL_ECC_LOG0_FIELD : Fld := ⟨0xc0048, 6, 6, 0⟩
/-- RO, R237. -/
abbrev SPL_ECC_LOG0_CHANNEL : Fld := ⟨0xc0048, 0, 6, 0⟩
/-- RO, R237. -/
abbrev SPL_ECC_LOG1_LINE : Fld := ⟨0xc004c, 0, 25, 0⟩
/-- RW, R238. -/
abbrev SPL_SCRUB_PERIOD_MIN : Fld := ⟨0xc0050, 0, 16, 0⟩
/-- RW, R238. -/
abbrev SPL_COPY_SHARE_EIGHTHS : Fld := ⟨0xc0054, 0, 3, 0⟩
/-- RW, R239. -/
abbrev SPL_XC_SEL_FIELD : Fld := ⟨0xc0060, 0, 6, 0⟩
/-- RO, R239. -/
abbrev SPL_XC_HIT_HITS : Fld := ⟨0xc0064, 0, 32, 0⟩
/-- RO, R239. -/
abbrev SPL_XC_MISS_MISSES : Fld := ⟨0xc0068, 0, 32, 0⟩
/-- RW, R240. -/
abbrev SPL_CH_SEL_FIELD : Fld := ⟨0xc0070, 6, 6, 0⟩
/-- RW, R240. -/
abbrev SPL_CH_SEL_CHANNEL : Fld := ⟨0xc0070, 0, 6, 0⟩
/-- RO, R240. -/
abbrev SPL_CH_STATE_WBUF_MAX : Fld := ⟨0xc0074, 16, 16, 0⟩
/-- RO, R240. -/
abbrev SPL_CH_STATE_TEMP : Fld := ⟨0xc0074, 8, 8, 0⟩
/-- RO, R240. -/
abbrev SPL_CH_STATE_STATE : Fld := ⟨0xc0074, 0, 3, 0⟩
/-- WO, R241. -/
abbrev SPL_SWATCH_CTRL_GO : Fld := ⟨0xc0080, 31, 1, 0⟩
/-- RW, R241. -/
abbrev SPL_SWATCH_CTRL_DEPTH : Fld := ⟨0xc0080, 29, 2, 0⟩
/-- RW, R241. -/
abbrev SPL_SWATCH_CTRL_FIELD : Fld := ⟨0xc0080, 6, 6, 0⟩
/-- RW, R241. -/
abbrev SPL_SWATCH_CTRL_CHANNEL : Fld := ⟨0xc0080, 0, 6, 0⟩
/-- RO, R241. -/
abbrev SPL_SWATCH_STAT_RESULT : Fld := ⟨0xc0084, 28, 4, 0⟩
/-- RO, R241. -/
abbrev SPL_SWATCH_STAT_ERR_WORDS : Fld := ⟨0xc0084, 0, 28, 0⟩
/-- RW, R242. -/
abbrev SPL_SWAP_BASE_LO_ADDR_LO : Fld := ⟨0xc0090, 16, 16, 0⟩
/-- RW, R242. -/
abbrev SPL_SWAP_BASE_HI_ADDR_HI : Fld := ⟨0xc0094, 0, 32, 0⟩
/-- RW, R242. -/
abbrev SPL_SWAP_SIZE_SIZE : Fld := ⟨0xc0098, 0, 32, 0⟩
/-- W1C, R270. -/
abbrev SKN_STATUS_BAD_SAMPLER : Fld := ⟨0xb0000, 5, 1, 0⟩
/-- RO, R270. -/
abbrev SKN_STATUS_CRIT : Fld := ⟨0xb0000, 4, 1, 0⟩
/-- RO, R270. -/
abbrev SKN_STATUS_SWAP_RUN : Fld := ⟨0xb0000, 3, 1, 0⟩
/-- W1C, R270. -/
abbrev SKN_STATUS_PREFIX_FULL : Fld := ⟨0xb0000, 2, 1, 0⟩
/-- RO, R270. -/
abbrev SKN_STATUS_ADMIT_STOPPED : Fld := ⟨0xb0000, 1, 1, 0⟩
/-- W1C, R270. -/
abbrev SKN_STATUS_RING_STALL : Fld := ⟨0xb0000, 0, 1, 0⟩
/-- WO, R270. -/
abbrev SKN_CTRL_STOP_SERVICE : Fld := ⟨0xb0004, 3, 1, 0⟩
/-- WO, R270. -/
abbrev SKN_CTRL_CLR_COUNTS : Fld := ⟨0xb0004, 2, 1, 0⟩
/-- RW, R270. -/
abbrev SKN_CTRL_PREFIX_EN : Fld := ⟨0xb0004, 1, 1, 0⟩
/-- RW, R270. -/
abbrev SKN_CTRL_ADMIT_EN : Fld := ⟨0xb0004, 0, 1, 0⟩
/-- RO, R271. -/
abbrev SKN_NUM_COUNT_B : Fld := ⟨0xb0008, 16, 13, 4⟩
/-- RO, R271. -/
abbrev SKN_NUM_COUNT_A : Fld := ⟨0xb0008, 0, 13, 4⟩
/-- RO, R271. -/
abbrev SKN_LANES_FREE : Fld := ⟨0xb0018, 16, 13, 0⟩
/-- RO, R271. -/
abbrev SKN_LANES_OWNED : Fld := ⟨0xb0018, 0, 13, 0⟩
/-- RW, R272. -/
abbrev SKN_PREEMPT_CRIT : Fld := ⟨0xb0020, 0, 20, 0⟩
/-- RW, R272. -/
abbrev SKN_RESTORE_MARK : Fld := ⟨0xb0024, 0, 20, 0⟩
/-- RW, R272. -/
abbrev SKN_LIMITS_PREFILL_MAX : Fld := ⟨0xb0028, 8, 8, 0⟩
/-- RW, R272. -/
abbrev SKN_LIMITS_VOID_LIMIT : Fld := ⟨0xb0028, 0, 8, 0⟩
/-- RW, R273. -/
abbrev SKN_ENT_SEL_WORD : Fld := ⟨0xb0040, 16, 4, 0⟩
/-- RW, R273. -/
abbrev SKN_ENT_SEL_ID : Fld := ⟨0xb0040, 0, 12, 0⟩
/-- RO, R273. -/
abbrev SKN_ENT_LO_DATA_LO : Fld := ⟨0xb0044, 0, 32, 0⟩
/-- RO, R273. -/
abbrev SKN_ENT_HI_DATA_HI : Fld := ⟨0xb0048, 0, 32, 0⟩
/-- RW, R274. -/
abbrev SKN_PART_CFG_QUOTA : Fld := ⟨0xb0080, 8, 13, 8⟩
/-- RW, R274. -/
abbrev SKN_PART_CFG_SAMPLER : Fld := ⟨0xb0080, 0, 8, 8⟩
/-- RO, R274. -/
abbrev SKN_PART_STAT_PRESENT : Fld := ⟨0xb0084, 31, 1, 8⟩
/-- RO, R274. -/
abbrev SKN_PART_STAT_ENABLED : Fld := ⟨0xb0084, 30, 1, 8⟩
/-- RO, R274. -/
abbrev SKN_PART_STAT_STOPPING : Fld := ⟨0xb0084, 29, 1, 8⟩
/-- RO, R274. -/
abbrev SKN_PART_STAT_ADAPTER : Fld := ⟨0xb0084, 24, 5, 8⟩
/-- RO, R274. -/
abbrev SKN_PART_STAT_OWNED : Fld := ⟨0xb0084, 0, 13, 8⟩
/-- RW, R275. -/
abbrev SKN_SAMP_ADDR_WORD : Fld := ⟨0xb00c0, 8, 2, 0⟩
/-- RW, R275. -/
abbrev SKN_SAMP_ADDR_ENTRY : Fld := ⟨0xb00c0, 0, 8, 0⟩
/-- RW, R275. -/
abbrev SKN_SAMP_DATA_DATA : Fld := ⟨0xb00c4, 0, 32, 0⟩
/-- RO, R275. -/
abbrev SKN_COMMITS_LO_COMMITS_LO : Fld := ⟨0xb0100, 0, 32, 0⟩
/-- RO, R275. -/
abbrev SKN_COMMITS_HI_COMMITS_HI : Fld := ⟨0xb0104, 0, 32, 0⟩
/-- RO, R275. -/
abbrev SKN_VOIDS_VOIDS : Fld := ⟨0xb0108, 0, 32, 0⟩
/-- RO, R275. -/
abbrev SKN_MISSES_MISSES : Fld := ⟨0xb010c, 0, 32, 0⟩
/-- RO, R275. -/
abbrev SKN_PFX_LOOKUPS_LOOKUPS : Fld := ⟨0xb0110, 0, 32, 0⟩
/-- RO, R275. -/
abbrev SKN_PFX_HITS_HITS : Fld := ⟨0xb0114, 0, 32, 0⟩
/-- RO, R275. -/
abbrev SKN_SWAPS_IN : Fld := ⟨0xb0118, 16, 16, 0⟩
/-- RO, R275. -/
abbrev SKN_SWAPS_OUT : Fld := ⟨0xb0118, 0, 16, 0⟩
/-- RO, R275. -/
abbrev SKN_RING_STALLS_STALLS : Fld := ⟨0xb011c, 0, 32, 0⟩
/-- RO, R305. -/
abbrev NVW_STATUS_NO_COVER : Fld := ⟨0xe0000, 11, 1, 0⟩
/-- RO, R305. -/
abbrev NVW_STATUS_REWOVEN : Fld := ⟨0xe0000, 10, 1, 0⟩
/-- RO, R305. -/
abbrev NVW_STATUS_LOG_FULL : Fld := ⟨0xe0000, 9, 1, 0⟩
/-- W1C, R305. -/
abbrev NVW_STATUS_RESERVE_OUT : Fld := ⟨0xe0000, 8, 1, 0⟩
/-- RO, R305. -/
abbrev NVW_STATUS_RESERVE_LOW : Fld := ⟨0xe0000, 7, 1, 0⟩
/-- W1C, R305. -/
abbrev NVW_STATUS_LWS_LOST : Fld := ⟨0xe0000, 6, 1, 0⟩
/-- W1C, R305. -/
abbrev NVW_STATUS_VERIFY_FAIL : Fld := ⟨0xe0000, 5, 1, 0⟩
/-- RO, R305. -/
abbrev NVW_STATUS_REFRESH_PEND : Fld := ⟨0xe0000, 4, 1, 0⟩
/-- W1C, R305. -/
abbrev NVW_STATUS_SCRUB_UE : Fld := ⟨0xe0000, 3, 1, 0⟩
/-- RO, R305. -/
abbrev NVW_STATUS_PROGRAMMED : Fld := ⟨0xe0000, 2, 1, 0⟩
/-- RO, R305. -/
abbrev NVW_STATUS_DARN_BUSY : Fld := ⟨0xe0000, 1, 1, 0⟩
/-- RO, R305. -/
abbrev NVW_STATUS_OP_BUSY : Fld := ⟨0xe0000, 0, 1, 0⟩
/-- WO, R306. -/
abbrev NVW_CTRL_CLR_COUNTS : Fld := ⟨0xe0004, 3, 1, 0⟩
/-- WO, R306. -/
abbrev NVW_CTRL_ABORT : Fld := ⟨0xe0004, 2, 1, 0⟩
/-- RW, R306. -/
abbrev NVW_CTRL_AUTO_DARN : Fld := ⟨0xe0004, 1, 1, 0⟩
/-- RW, R306. -/
abbrev NVW_CTRL_SCRUB_EN : Fld := ⟨0xe0004, 0, 1, 0⟩
/-- WO, R307. -/
abbrev NVW_OP_GO : Fld := ⟨0xe0008, 31, 1, 0⟩
/-- RW, R307. -/
abbrev NVW_OP_OP : Fld := ⟨0xe0008, 24, 3, 0⟩
/-- RW, R307. -/
abbrev NVW_OP_TARGET : Fld := ⟨0xe0008, 0, 19, 0⟩
/-- RO, R308. -/
abbrev NVW_OP_STAT_RESULT : Fld := ⟨0xe000c, 28, 4, 0⟩
/-- RO, R308. -/
abbrev NVW_OP_STAT_DONE : Fld := ⟨0xe000c, 0, 18, 0⟩
/-- RO, R308. -/
abbrev NVW_OP_INFO_TILE : Fld := ⟨0xe0010, 0, 19, 0⟩
/-- RW, R310. -/
abbrev NVW_THRESH_RES_LOW : Fld := ⟨0xe0014, 8, 4, 0⟩
/-- RW, R310. -/
abbrev NVW_THRESH_URGENT_BITS : Fld := ⟨0xe0014, 4, 3, 0⟩
/-- RW, R310. -/
abbrev NVW_THRESH_REFRESH_BITS : Fld := ⟨0xe0014, 0, 3, 0⟩
/-- RW, R310. -/
abbrev NVW_SCRUB_PERIOD_H : Fld := ⟨0xe0018, 0, 16, 0⟩
/-- RO, R311. -/
abbrev NVW_SCRUB_STAT_SWEEP_H : Fld := ⟨0xe001c, 16, 16, 0⟩
/-- RO, R311. -/
abbrev NVW_SCRUB_STAT_QUEUED : Fld := ⟨0xe001c, 0, 16, 0⟩
/-- RO, R311. -/
abbrev NVW_COUNTS_ROTATIONS : Fld := ⟨0xe0020, 16, 16, 0⟩
/-- RO, R311. -/
abbrev NVW_COUNTS_DARNS : Fld := ⟨0xe0020, 0, 16, 0⟩
/-- RW, R312. -/
abbrev NVW_POS_SEL_POS : Fld := ⟨0xe0030, 0, 8, 0⟩
/-- RO, R312. -/
abbrev NVW_POS_STAT_TOTAL : Fld := ⟨0xe0034, 8, 8, 0⟩
/-- RO, R312. -/
abbrev NVW_POS_STAT_FREE : Fld := ⟨0xe0034, 0, 8, 0⟩
/-- RO, R312. -/
abbrev NVW_PROG_MAX_COUNT : Fld := ⟨0xe0038, 0, 16, 0⟩
/-- RO, R313. -/
abbrev NVW_LWI_DIGEST_DIGEST : Fld := ⟨0xe0040, 0, 32, 4⟩
/-- RO, R314. -/
abbrev NVW_REWEAVE_VALID : Fld := ⟨0xe0080, 31, 1, 0⟩
/-- RO, R314. -/
abbrev NVW_REWEAVE_SPARE : Fld := ⟨0xe0080, 4, 4, 0⟩
/-- RO, R314. -/
abbrev NVW_REWEAVE_DARK : Fld := ⟨0xe0080, 0, 4, 0⟩
/-- RO, R314. -/
abbrev NVW_LOG_COUNT_ENTRIES : Fld := ⟨0xe0084, 0, 13, 0⟩
/-- RW, R314. -/
abbrev NVW_PROG_CFG_BANKS : Fld := ⟨0xe0088, 16, 7, 0⟩
/-- RW, R314. -/
abbrev NVW_PROG_CFG_ACTIVE_MAX : Fld := ⟨0xe0088, 0, 13, 0⟩
/-- RW, R314. -/
abbrev NVW_LWS_TIMEOUT_MS : Fld := ⟨0xe008c, 0, 16, 0⟩
/-- W1C, R341. -/
abbrev WRP_STATUS_STROBE_ERR : Fld := ⟨0x90000, 15, 1, 0⟩
/-- W1C, R341. -/
abbrev WRP_STATUS_LINK_ERR : Fld := ⟨0x90000, 14, 1, 0⟩
/-- W1C, R341. -/
abbrev WRP_STATUS_BRIDGE_ERR : Fld := ⟨0x90000, 13, 1, 0⟩
/-- RO, R341. -/
abbrev WRP_STATUS_PRIMARY : Fld := ⟨0x90000, 12, 1, 0⟩
/-- RO, R341. -/
abbrev WRP_STATUS_INSTALL_BUSY : Fld := ⟨0x90000, 9, 1, 0⟩
/-- RO, R341. -/
abbrev WRP_STATUS_LOAD_BUSY : Fld := ⟨0x90000, 8, 1, 0⟩
/-- RO, R341. -/
abbrev WRP_STATUS_ACTIVE_SLOT : Fld := ⟨0x90000, 4, 2, 0⟩
/-- RO, R341. -/
abbrev WRP_STATUS_LOADED : Fld := ⟨0x90000, 0, 1, 0⟩
/-- WO, R341. -/
abbrev WRP_CTRL_CLR_COUNTS : Fld := ⟨0x90004, 1, 1, 0⟩
/-- WO, R341. -/
abbrev WRP_CTRL_ABORT : Fld := ⟨0x90004, 0, 1, 0⟩
/-- WO, R342. -/
abbrev WRP_LOAD_GO : Fld := ⟨0x90008, 31, 1, 0⟩
/-- RW, R342. -/
abbrev WRP_LOAD_SLOT : Fld := ⟨0x90008, 0, 2, 0⟩
/-- RO, R342. -/
abbrev WRP_LOAD_STAT_RESULT : Fld := ⟨0x9000c, 24, 8, 0⟩
/-- RO, R342. -/
abbrev WRP_LOAD_STAT_PHASE : Fld := ⟨0x9000c, 20, 4, 0⟩
/-- RO, R342. -/
abbrev WRP_LOAD_STAT_TIME : Fld := ⟨0x9000c, 0, 16, 0⟩
/-- RO, R342. -/
abbrev WRP_LOAD_INFO_VALID : Fld := ⟨0x90010, 31, 1, 0⟩
/-- RO, R342. -/
abbrev WRP_LOAD_INFO_ITEM : Fld := ⟨0x90010, 19, 12, 0⟩
/-- RO, R342. -/
abbrev WRP_LOAD_INFO_TILE : Fld := ⟨0x90010, 0, 19, 0⟩
/-- WO, R343. -/
abbrev WRP_INSTALL_GO : Fld := ⟨0x90014, 31, 1, 0⟩
/-- RW, R343. -/
abbrev WRP_INSTALL_SOURCE : Fld := ⟨0x90014, 2, 1, 0⟩
/-- RW, R343. -/
abbrev WRP_INSTALL_SLOT : Fld := ⟨0x90014, 0, 2, 0⟩
/-- RW, R343. -/
abbrev WRP_INSTALL_SRC_LO_ADDR_LO : Fld := ⟨0x90018, 0, 32, 0⟩
/-- RW, R343. -/
abbrev WRP_INSTALL_SRC_HI_ADDR_HI : Fld := ⟨0x9001c, 0, 32, 0⟩
/-- RO, R343. -/
abbrev WRP_INSTALL_STAT_RESULT : Fld := ⟨0x90020, 24, 8, 0⟩
/-- RO, R343. -/
abbrev WRP_INSTALL_STAT_TILES : Fld := ⟨0x90020, 0, 18, 0⟩
/-- RO, R345. -/
abbrev WRP_SLOT_STATE : Fld := ⟨0x90030, 30, 2, 4⟩
/-- RO, R345. -/
abbrev WRP_SLOT_LOG_COUNT : Fld := ⟨0x90030, 0, 13, 4⟩
/-- RO, R345. -/
abbrev WRP_SLOT_SER_SERIAL : Fld := ⟨0x90040, 0, 32, 4⟩
/-- RO, R346. -/
abbrev WRP_XKP_DIGEST_DIGEST : Fld := ⟨0x90060, 0, 32, 4⟩
/-- RW, R346. -/
abbrev WRP_BOOT_AUTO_LOAD : Fld := ⟨0x90090, 2, 1, 0⟩
/-- RW, R346. -/
abbrev WRP_BOOT_BOOT_SLOT : Fld := ⟨0x90090, 0, 2, 0⟩
/-- RW, R347. -/
abbrev WRP_TWIN_SEL_BCAST : Fld := ⟨0x90100, 20, 2, 0⟩
/-- RW, R347. -/
abbrev WRP_TWIN_SEL_ADDR : Fld := ⟨0x90100, 0, 19, 0⟩
/-- RO, R347. -/
abbrev WRP_TWIN_CAP0_ADDR : Fld := ⟨0x90104, 0, 19, 0⟩
/-- RO, R347. -/
abbrev WRP_TWIN_CAP1_WRITE : Fld := ⟨0x90108, 31, 1, 0⟩
/-- RO, R347. -/
abbrev WRP_TWIN_CAP1_OFFSET : Fld := ⟨0x90108, 0, 14, 0⟩
/-- RW, R348. -/
abbrev WRP_EP_SEL_FIELD : Fld := ⟨0x90110, 0, 6, 0⟩
/-- RO, R348. -/
abbrev WRP_EP_STAT_STATE : Fld := ⟨0x90114, 30, 2, 0⟩
/-- RO, R348. -/
abbrev WRP_EP_STAT_UPSTREAM : Fld := ⟨0x90114, 29, 1, 0⟩
/-- RO, R348. -/
abbrev WRP_EP_STAT_RESENDS : Fld := ⟨0x90114, 0, 16, 0⟩
/-- RO, R348. -/
abbrev WRP_BRIDGE_COUNT_STALLS : Fld := ⟨0x90118, 0, 16, 0⟩
/-- RO, R413. -/
abbrev HLS_STATUS_NO_HOST : Fld := ⟨0x80000, 7, 1, 0⟩
/-- RO, R413. -/
abbrev HLS_STATUS_ROLE_KEPT : Fld := ⟨0x80000, 6, 1, 0⟩
/-- W1C, R413. -/
abbrev HLS_STATUS_EV_LOST : Fld := ⟨0x80000, 5, 1, 0⟩
/-- W1C, R413. -/
abbrev HLS_STATUS_BEACON_MISS : Fld := ⟨0x80000, 4, 1, 0⟩
/-- W1C, R413. -/
abbrev HLS_STATUS_REG_ERR : Fld := ⟨0x80000, 3, 1, 0⟩
/-- W1C, R413. -/
abbrev HLS_STATUS_RD_TIMEOUT : Fld := ⟨0x80000, 2, 1, 0⟩
/-- W1C, R413. -/
abbrev HLS_STATUS_PORT_FAIL : Fld := ⟨0x80000, 1, 1, 0⟩
/-- W1C, R413. -/
abbrev HLS_STATUS_RETRAIN : Fld := ⟨0x80000, 0, 1, 0⟩
/-- WO, R413. -/
abbrev HLS_CTRL_CLR_COUNTS : Fld := ⟨0x80004, 2, 1, 0⟩
/-- RW, R413. -/
abbrev HLS_CTRL_BEACON_EN : Fld := ⟨0x80004, 1, 1, 0⟩
/-- RW, R413. -/
abbrev HLS_CTRL_CMD_EN : Fld := ⟨0x80004, 0, 1, 0⟩
/-- RW, R414. -/
abbrev HLS_BEACON_LO_ADDR_LO : Fld := ⟨0x80008, 12, 20, 0⟩
/-- RW, R414. -/
abbrev HLS_BEACON_LO_PORT : Fld := ⟨0x80008, 0, 4, 0⟩
/-- RW, R414. -/
abbrev HLS_BEACON_HI_ADDR_HI : Fld := ⟨0x8000c, 0, 32, 0⟩
/-- RO, R414. -/
abbrev HLS_BEACON_SEQ_SEQ : Fld := ⟨0x80010, 0, 32, 0⟩
/-- RO, R414. -/
abbrev HLS_BEACON_MISSES_MISSES : Fld := ⟨0x80014, 0, 32, 0⟩
/-- RW, R414. -/
abbrev HLS_EVQ_LO_ADDR_LO : Fld := ⟨0x80018, 12, 20, 0⟩
/-- RW, R414. -/
abbrev HLS_EVQ_LO_LOG2 : Fld := ⟨0x80018, 0, 5, 0⟩
/-- RW, R414. -/
abbrev HLS_EVQ_HI_ADDR_HI : Fld := ⟨0x8001c, 0, 32, 0⟩
/-- RW, R415. -/
abbrev HLS_DUMP_LO_ADDR_LO : Fld := ⟨0x80020, 12, 20, 0⟩
/-- RW, R415. -/
abbrev HLS_DUMP_HI_ADDR_HI : Fld := ⟨0x80024, 0, 32, 0⟩
/-- RW, R415. -/
abbrev HLS_DUMP_SIZE_SIZE : Fld := ⟨0x80028, 0, 32, 0⟩
/-- RW, R415. -/
abbrev HLS_RD_TIMEOUT_US : Fld := ⟨0x8002c, 0, 16, 0⟩
/-- RW, R416. -/
abbrev HLS_PORT_SEL_PORT : Fld := ⟨0x80040, 0, 4, 0⟩
/-- WO, R416. -/
abbrev HLS_PORT_CTRL_GO : Fld := ⟨0x80044, 31, 1, 0⟩
/-- RW, R416. -/
abbrev HLS_PORT_CTRL_ACTION : Fld := ⟨0x80044, 28, 3, 0⟩
/-- RO, R416. -/
abbrev HLS_PORT_STAT_RESULT : Fld := ⟨0x80048, 28, 4, 0⟩
/-- RO, R416. -/
abbrev HLS_PORT_STAT_STATE : Fld := ⟨0x80048, 22, 3, 0⟩
/-- RO, R416. -/
abbrev HLS_PORT_STAT_ROLE : Fld := ⟨0x80048, 20, 2, 0⟩
/-- RO, R416. -/
abbrev HLS_PORT_STAT_HOP : Fld := ⟨0x80048, 16, 2, 0⟩
/-- RO, R416. -/
abbrev HLS_PORT_STAT_LANE_LOCK : Fld := ⟨0x80048, 0, 8, 0⟩
/-- RO, R416. -/
abbrev HLS_PORT_RTT_RTT_NS : Fld := ⟨0x8004c, 0, 16, 0⟩
/-- RO, R417. -/
abbrev HLS_PORT_FEC_CE_CE : Fld := ⟨0x80050, 0, 32, 0⟩
/-- RO, R417. -/
abbrev HLS_PORT_FEC_UE_UE : Fld := ⟨0x80054, 0, 32, 0⟩
/-- RO, R417. -/
abbrev HLS_PORT_CRC_BAD_TXN : Fld := ⟨0x80058, 16, 16, 0⟩
/-- RO, R417. -/
abbrev HLS_PORT_CRC_CRC : Fld := ⟨0x80058, 0, 16, 0⟩
/-- RO, R417. -/
abbrev HLS_PORT_RETRY_RETRAINS : Fld := ⟨0x8005c, 24, 8, 0⟩
/-- RO, R417. -/
abbrev HLS_PORT_RETRY_REPLAYS : Fld := ⟨0x8005c, 0, 24, 0⟩
/-- WO, R418. -/
abbrev HLS_SWATCH_CTRL_GO : Fld := ⟨0x80060, 31, 1, 0⟩
/-- RW, R418. -/
abbrev HLS_SWATCH_CTRL_DEPTH : Fld := ⟨0x80060, 28, 3, 0⟩
/-- RW, R418. -/
abbrev HLS_SWATCH_CTRL_PORT : Fld := ⟨0x80060, 24, 4, 0⟩
/-- RW, R418. -/
abbrev HLS_SWATCH_CTRL_UNITS : Fld := ⟨0x80060, 0, 16, 0⟩
/-- RO, R418. -/
abbrev HLS_SWATCH_STAT_RESULT : Fld := ⟨0x80064, 28, 4, 0⟩
/-- RO, R418. -/
abbrev HLS_SWATCH_STAT_ERRORS : Fld := ⟨0x80064, 0, 28, 0⟩
/-- RW, R419. -/
abbrev HLS_SQ_LO_ADDR_LO : Fld := ⟨0x80100, 12, 20, 16⟩
/-- RW, R419. -/
abbrev HLS_SQ_LO_EN : Fld := ⟨0x80100, 8, 1, 16⟩
/-- RW, R419. -/
abbrev HLS_SQ_LO_PORT : Fld := ⟨0x80100, 4, 4, 16⟩
/-- RW, R419. -/
abbrev HLS_SQ_LO_LOG2 : Fld := ⟨0x80100, 0, 4, 16⟩
/-- RW, R419. -/
abbrev HLS_SQ_HI_ADDR_HI : Fld := ⟨0x80104, 0, 32, 16⟩
/-- WO, R419. -/
abbrev HLS_SQ_TAIL_TAIL : Fld := ⟨0x80108, 0, 16, 16⟩
/-- RO, R419. -/
abbrev HLS_SQ_STAT_HEAD : Fld := ⟨0x8010c, 16, 16, 16⟩
/-- RO, R419. -/
abbrev HLS_SQ_STAT_ERR : Fld := ⟨0x8010c, 0, 4, 16⟩
/-- W1C, R445. -/
abbrev VPA_STATUS_STBY_HIGH : Fld := ⟨0x60000, 12, 1, 0⟩
/-- W1C, R445. -/
abbrev VPA_STATUS_STBY_LOW : Fld := ⟨0x60000, 11, 1, 0⟩
/-- RO, R445. -/
abbrev VPA_STATUS_RAMP_WAIT : Fld := ⟨0x60000, 10, 1, 0⟩
/-- W1C, R445. -/
abbrev VPA_STATUS_CAP_EXCEEDED : Fld := ⟨0x60000, 9, 1, 0⟩
/-- W1C, R445. -/
abbrev VPA_STATUS_DROOP_RESET : Fld := ⟨0x60000, 8, 1, 0⟩
/-- W1C, R445. -/
abbrev VPA_STATUS_DROOP_WARN : Fld := ⟨0x60000, 7, 1, 0⟩
/-- W1C, R445. -/
abbrev VPA_STATUS_PATH : Fld := ⟨0x60000, 6, 1, 0⟩
/-- W1C, R445. -/
abbrev VPA_STATUS_TRIPPED : Fld := ⟨0x60000, 5, 1, 0⟩
/-- RO, R445. -/
abbrev VPA_STATUS_CAPPED : Fld := ⟨0x60000, 4, 1, 0⟩
/-- W1C, R445. -/
abbrev VPA_STATUS_SHED : Fld := ⟨0x60000, 3, 1, 0⟩
/-- W1C, R445. -/
abbrev VPA_STATUS_VIN_HIGH : Fld := ⟨0x60000, 2, 1, 0⟩
/-- W1C, R445. -/
abbrev VPA_STATUS_VIN_LOW : Fld := ⟨0x60000, 1, 1, 0⟩
/-- RO, R445. -/
abbrev VPA_STATUS_INPUT_LIMIT : Fld := ⟨0x60000, 0, 1, 0⟩
/-- WO, R445. -/
abbrev VPA_CTRL_CLR_COUNTS : Fld := ⟨0x60004, 2, 1, 0⟩
/-- RW, R445. -/
abbrev VPA_CTRL_PATH_EN : Fld := ⟨0x60004, 1, 1, 0⟩
/-- RO, R446. -/
abbrev VPA_INPUT_IIN : Fld := ⟨0x60008, 16, 16, 0⟩
/-- RO, R446. -/
abbrev VPA_INPUT_VIN : Fld := ⟨0x60008, 0, 16, 0⟩
/-- RO, R446. -/
abbrev VPA_POWER_PMAX : Fld := ⟨0x6000c, 16, 16, 0⟩
/-- RO, R446. -/
abbrev VPA_POWER_PIN : Fld := ⟨0x6000c, 0, 16, 0⟩
/-- RW, R446. -/
abbrev VPA_CAP_CAP_W : Fld := ⟨0x60010, 0, 16, 0⟩
/-- RW, R447. -/
abbrev VPA_DOM_SEL_DOM : Fld := ⟨0x60020, 0, 6, 0⟩
/-- RO, R447. -/
abbrev VPA_DOM_STAT_CURRENT : Fld := ⟨0x60024, 16, 16, 0⟩
/-- RO, R447. -/
abbrev VPA_DOM_STAT_OK : Fld := ⟨0x60024, 11, 5, 0⟩
/-- RO, R447. -/
abbrev VPA_DOM_STAT_ALLOWED : Fld := ⟨0x60024, 8, 3, 0⟩
/-- RO, R447. -/
abbrev VPA_DOM_STAT_CAUSE : Fld := ⟨0x60024, 4, 4, 0⟩
/-- RO, R447. -/
abbrev VPA_DOM_STAT_STATE : Fld := ⟨0x60024, 0, 4, 0⟩
/-- RO, R447. -/
abbrev VPA_DOM_VOLT_SENSE_MV : Fld := ⟨0x60028, 16, 16, 0⟩
/-- RO, R447. -/
abbrev VPA_DOM_VOLT_OUT_MV : Fld := ⟨0x60028, 0, 16, 0⟩
/-- RO, R447. -/
abbrev VPA_DOM_PATH_R_CAL : Fld := ⟨0x6002c, 16, 16, 0⟩
/-- RO, R447. -/
abbrev VPA_DOM_PATH_R_MEAS : Fld := ⟨0x6002c, 0, 16, 0⟩
/-- RW, R448. -/
abbrev VPA_PHASE_SEL_DOM : Fld := ⟨0x60030, 8, 6, 0⟩
/-- RW, R448. -/
abbrev VPA_PHASE_SEL_PHASE : Fld := ⟨0x60030, 0, 4, 0⟩
/-- RO, R448. -/
abbrev VPA_PHASE_STAT_TEMP : Fld := ⟨0x60034, 24, 8, 0⟩
/-- RO, R448. -/
abbrev VPA_PHASE_STAT_SHED_CAUSE : Fld := ⟨0x60034, 20, 4, 0⟩
/-- RO, R448. -/
abbrev VPA_PHASE_STAT_CURRENT : Fld := ⟨0x60034, 8, 12, 0⟩
/-- RO, R448. -/
abbrev VPA_PHASE_STAT_STATE : Fld := ⟨0x60034, 0, 2, 0⟩
/-- RW, R449. -/
abbrev VPA_DROOP_SEL_FIELD : Fld := ⟨0x60040, 0, 6, 0⟩
/-- RO, R449. -/
abbrev VPA_DROOP_WARN_EVENTS : Fld := ⟨0x60044, 0, 32, 0⟩
/-- RO, R449. -/
abbrev VPA_DROOP_RESET_RESETS : Fld := ⟨0x60048, 0, 16, 0⟩
/-- RO, R449. -/
abbrev VPA_DROOP_STRETCH_CYCLES : Fld := ⟨0x6004c, 0, 32, 0⟩
/-- WO, R450. -/
abbrev VPA_REGION_CTRL_GO : Fld := ⟨0x60050, 31, 1, 0⟩
/-- RW, R450. -/
abbrev VPA_REGION_CTRL_ACTION : Fld := ⟨0x60050, 28, 3, 0⟩
/-- RW, R450. -/
abbrev VPA_REGION_CTRL_REGION : Fld := ⟨0x60050, 0, 4, 0⟩
/-- RO, R450. -/
abbrev VPA_REGION_STAT_RESULT : Fld := ⟨0x60054, 28, 4, 0⟩
/-- RO, R450. -/
abbrev VPA_REGION_STAT_TIME : Fld := ⟨0x60054, 16, 12, 0⟩
/-- RO, R450. -/
abbrev VPA_REGION_STAT_VL_ON : Fld := ⟨0x60054, 0, 16, 0⟩
/-- RW, R452. -/
abbrev VPA_VL_SETPT_MV : Fld := ⟨0x60080, 0, 10, 4⟩
/-- RO, R453. -/
abbrev VPA_FAULT_CAP0_CAUSE : Fld := ⟨0x60070, 28, 4, 0⟩
/-- RO, R453. -/
abbrev VPA_FAULT_CAP0_PHASE : Fld := ⟨0x60070, 16, 4, 0⟩
/-- RO, R453. -/
abbrev VPA_FAULT_CAP0_DOM : Fld := ⟨0x60070, 0, 6, 0⟩
/-- RO, R453. -/
abbrev VPA_FAULT_CAP1_PICK_LSB : Fld := ⟨0x60074, 16, 16, 0⟩
/-- RO, R453. -/
abbrev VPA_FAULT_CAP1_CURRENT : Fld := ⟨0x60074, 0, 16, 0⟩
/-- RO, R453. -/
abbrev VPA_SHED_COUNT_SHED : Fld := ⟨0x60078, 0, 9, 0⟩
/-- RW, R453. -/
abbrev VPA_PATH_CFG_TOL : Fld := ⟨0x6007c, 0, 8, 0⟩
/-- W1C, R470. -/
abbrev CLK_STATUS_SSC_REFUSED : Fld := ⟨0x50000, 7, 1, 0⟩
/-- W1C, R470. -/
abbrev CLK_STATUS_XOVR : Fld := ⟨0x50000, 6, 1, 0⟩
/-- W1C, R470. -/
abbrev CLK_STATUS_FIELD_FAIL : Fld := ⟨0x50000, 5, 1, 0⟩
/-- W1C, R470. -/
abbrev CLK_STATUS_UNLOCK : Fld := ⟨0x50000, 4, 1, 0⟩
/-- RO, R470. -/
abbrev CLK_STATUS_REF_SUB : Fld := ⟨0x50000, 3, 1, 0⟩
/-- W1C, R470. -/
abbrev CLK_STATUS_REF_LOS : Fld := ⟨0x50000, 2, 1, 0⟩
/-- RO, R470. -/
abbrev CLK_STATUS_SSC_ON : Fld := ⟨0x50000, 1, 1, 0⟩
/-- RO, R470. -/
abbrev CLK_STATUS_ALL_LOCKED : Fld := ⟨0x50000, 0, 1, 0⟩
/-- WO, R470. -/
abbrev CLK_CTRL_CLR_COUNTS : Fld := ⟨0x50004, 2, 1, 0⟩
/-- WO, R470. -/
abbrev CLK_CTRL_REF_RESTORE : Fld := ⟨0x50004, 1, 1, 0⟩
/-- RW, R470. -/
abbrev CLK_CTRL_SSC_OFF : Fld := ⟨0x50004, 0, 1, 0⟩
/-- RW, R471. -/
abbrev CLK_PLL_SEL_PLL : Fld := ⟨0x50010, 0, 8, 0⟩
/-- RO, R471. -/
abbrev CLK_PLL_STAT_STATE : Fld := ⟨0x50014, 30, 2, 0⟩
/-- RO, R471. -/
abbrev CLK_PLL_STAT_UNLOCKS : Fld := ⟨0x50014, 16, 8, 0⟩
/-- RO, R471. -/
abbrev CLK_PLL_STAT_LOCK_TIME : Fld := ⟨0x50014, 0, 16, 0⟩
/-- RW, R472. -/
abbrev CLK_XCLASS_SEL_CLASS : Fld := ⟨0x50020, 0, 4, 0⟩
/-- RO, R472. -/
abbrev CLK_XCLASS_STAT_OVERRUNS : Fld := ⟨0x50024, 16, 16, 0⟩
/-- RO, R472. -/
abbrev CLK_XCLASS_STAT_LAT : Fld := ⟨0x50024, 0, 16, 0⟩
/-- RW, R473. -/
abbrev CLK_SEAM_SEL_SEAM : Fld := ⟨0x50030, 7, 7, 0⟩
/-- RW, R473. -/
abbrev CLK_SEAM_SEL_CHANNEL : Fld := ⟨0x50030, 0, 7, 0⟩
/-- RO, R473. -/
abbrev CLK_SEAM_FILL_MAX : Fld := ⟨0x50034, 8, 4, 0⟩
/-- RO, R473. -/
abbrev CLK_SEAM_FILL_NOW : Fld := ⟨0x50034, 4, 4, 0⟩
/-- RO, R473. -/
abbrev CLK_SEAM_FILL_MIN : Fld := ⟨0x50034, 0, 4, 0⟩
/-- RO, R474. -/
abbrev CLK_REF_STAT_LOS_COUNT : Fld := ⟨0x50040, 16, 16, 0⟩
/-- RO, R474. -/
abbrev CLK_REF_STAT_PPM : Fld := ⟨0x50040, 0, 16, 0⟩
/-- W1C, R491. -/
abbrev THM_STATUS_TRIP : Fld := ⟨0x70000, 8, 1, 0⟩
/-- RO, R491. -/
abbrev THM_STATUS_STOPPED : Fld := ⟨0x70000, 7, 1, 0⟩
/-- RO, R491. -/
abbrev THM_STATUS_PARKING : Fld := ⟨0x70000, 6, 1, 0⟩
/-- RO, R491. -/
abbrev THM_STATUS_CEILING : Fld := ⟨0x70000, 5, 1, 0⟩
/-- RO, R491. -/
abbrev THM_STATUS_TRAY_LOST : Fld := ⟨0x70000, 4, 1, 0⟩
/-- RO, R491. -/
abbrev THM_STATUS_INLET_HIGH : Fld := ⟨0x70000, 3, 1, 0⟩
/-- RO, R491. -/
abbrev THM_STATUS_FLOW_WARN : Fld := ⟨0x70000, 2, 1, 0⟩
/-- RO, R491. -/
abbrev THM_STATUS_COOL_OK : Fld := ⟨0x70000, 0, 1, 0⟩
/-- WO, R491. -/
abbrev THM_CTRL_CLR_COUNTS : Fld := ⟨0x70004, 2, 1, 0⟩
/-- WO, R491. -/
abbrev THM_CTRL_CLEAR_STOP : Fld := ⟨0x70004, 1, 1, 0⟩
/-- RW, R491. -/
abbrev THM_CTRL_FORECAST_EN : Fld := ⟨0x70004, 0, 1, 0⟩
/-- RO, R492. -/
abbrev THM_TRAY_OUTLET : Fld := ⟨0x70008, 16, 16, 0⟩
/-- RO, R492. -/
abbrev THM_TRAY_INLET : Fld := ⟨0x70008, 0, 16, 0⟩
/-- RO, R492. -/
abbrev THM_FLOW_AGE : Fld := ⟨0x7000c, 16, 16, 0⟩
/-- RO, R492. -/
abbrev THM_FLOW_FLOW : Fld := ⟨0x7000c, 0, 16, 0⟩
/-- RW, R492. -/
abbrev THM_FLOW_CFG_DROP_PCT : Fld := ⟨0x70010, 24, 8, 0⟩
/-- RW, R492. -/
abbrev THM_FLOW_CFG_STOP : Fld := ⟨0x70010, 16, 8, 0⟩
/-- RW, R492. -/
abbrev THM_FLOW_CFG_WARN : Fld := ⟨0x70010, 8, 8, 0⟩
/-- RW, R492. -/
abbrev THM_FLOW_CFG_INLET_MAX : Fld := ⟨0x70010, 0, 8, 0⟩
/-- RW, R492. -/
abbrev THM_LIMITS_TRIP_D : Fld := ⟨0x70014, 24, 8, 0⟩
/-- RW, R492. -/
abbrev THM_LIMITS_TRIP_J : Fld := ⟨0x70014, 16, 8, 0⟩
/-- RW, R492. -/
abbrev THM_LIMITS_ACT_D : Fld := ⟨0x70014, 8, 8, 0⟩
/-- RW, R492. -/
abbrev THM_LIMITS_ACT_J : Fld := ⟨0x70014, 0, 8, 0⟩
/-- RO, R493. -/
abbrev THM_PRED_DRAM : Fld := ⟨0x70018, 26, 1, 0⟩
/-- RO, R493. -/
abbrev THM_PRED_FIELD : Fld := ⟨0x70018, 20, 6, 0⟩
/-- RO, R493. -/
abbrev THM_PRED_STEP : Fld := ⟨0x70018, 16, 4, 0⟩
/-- RO, R493. -/
abbrev THM_PRED_PRED : Fld := ⟨0x70018, 0, 16, 0⟩
/-- RW, R493. -/
abbrev THM_SENS_SEL_SENSOR : Fld := ⟨0x70020, 8, 5, 0⟩
/-- RW, R493. -/
abbrev THM_SENS_SEL_FIELD : Fld := ⟨0x70020, 0, 6, 0⟩
/-- RO, R493. -/
abbrev THM_SENS_STAT_MAX : Fld := ⟨0x70024, 16, 16, 0⟩
/-- RO, R493. -/
abbrev THM_SENS_STAT_TEMP : Fld := ⟨0x70024, 0, 16, 0⟩
/-- RO, R493. -/
abbrev THM_COUNTS_TRIPS : Fld := ⟨0x70028, 24, 8, 0⟩
/-- RO, R493. -/
abbrev THM_COUNTS_TRAY_CRC : Fld := ⟨0x70028, 16, 8, 0⟩
/-- RO, R493. -/
abbrev THM_COUNTS_STEPS : Fld := ⟨0x70028, 0, 16, 0⟩
/-- RO, R515. -/
abbrev BOOT_STATUS_CODE : Fld := ⟨0x10000, 24, 8, 0⟩
/-- RO, R515. -/
abbrev BOOT_STATUS_STAGE : Fld := ⟨0x10000, 20, 4, 0⟩
/-- W1C, R515. -/
abbrev BOOT_STATUS_WDOG_RESET : Fld := ⟨0x10000, 15, 1, 0⟩
/-- W1C, R515. -/
abbrev BOOT_STATUS_TAKEOVER : Fld := ⟨0x10000, 14, 1, 0⟩
/-- W1C, R515. -/
abbrev BOOT_STATUS_FALLBACK : Fld := ⟨0x10000, 13, 1, 0⟩
/-- RO, R515. -/
abbrev BOOT_STATUS_SVN_PEND : Fld := ⟨0x10000, 12, 1, 0⟩
/-- RO, R515. -/
abbrev BOOT_STATUS_UPDATE_PEND : Fld := ⟨0x10000, 11, 1, 0⟩
/-- RO, R515. -/
abbrev BOOT_STATUS_HCB_OK : Fld := ⟨0x10000, 10, 1, 0⟩
/-- RO, R515. -/
abbrev BOOT_STATUS_HCA_OK : Fld := ⟨0x10000, 9, 1, 0⟩
/-- RO, R515. -/
abbrev BOOT_STATUS_PRIMARY : Fld := ⟨0x10000, 8, 1, 0⟩
/-- RO, R515. -/
abbrev BOOT_STATUS_LAST_RESET : Fld := ⟨0x10000, 0, 4, 0⟩
/-- RW, R515. -/
abbrev BOOT_CTRL_SCOPE : Fld := ⟨0x10004, 6, 2, 0⟩
/-- WO, R515. -/
abbrev BOOT_CTRL_RESET : Fld := ⟨0x10004, 5, 1, 0⟩
/-- WO, R515. -/
abbrev BOOT_CTRL_SWAP_ROLES : Fld := ⟨0x10004, 4, 1, 0⟩
/-- WO, R515. -/
abbrev BOOT_CTRL_COMMIT_SVN : Fld := ⟨0x10004, 3, 1, 0⟩
/-- WO, R515. -/
abbrev BOOT_CTRL_RESTART_STBY : Fld := ⟨0x10004, 2, 1, 0⟩
/-- WO, R517. -/
abbrev BOOT_FW_CTRL_GO : Fld := ⟨0x10008, 31, 1, 0⟩
/-- RW, R517. -/
abbrev BOOT_FW_CTRL_TARGET : Fld := ⟨0x10008, 0, 1, 0⟩
/-- RW, R517. -/
abbrev BOOT_FW_SRC_LO_ADDR_LO : Fld := ⟨0x1000c, 12, 20, 0⟩
/-- RW, R517. -/
abbrev BOOT_FW_SRC_HI_ADDR_HI : Fld := ⟨0x10010, 0, 32, 0⟩
/-- RO, R517. -/
abbrev BOOT_FW_STAT_RESULT : Fld := ⟨0x10014, 28, 4, 0⟩
/-- RO, R517. -/
abbrev BOOT_FW_STAT_BYTES : Fld := ⟨0x10014, 0, 23, 0⟩
/-- RO, R518. -/
abbrev BOOT_SVN_FW_SVN : Fld := ⟨0x10018, 24, 8, 0⟩
/-- RO, R518. -/
abbrev BOOT_SVN_RUN_A : Fld := ⟨0x10018, 16, 8, 0⟩
/-- RO, R518. -/
abbrev BOOT_SVN_RUN_B : Fld := ⟨0x10018, 8, 8, 0⟩
/-- RO, R518. -/
abbrev BOOT_SVN_KEY_EPOCH : Fld := ⟨0x10018, 0, 4, 0⟩
/-- RW, R518. -/
abbrev BOOT_WDOG_MS : Fld := ⟨0x1001c, 0, 16, 0⟩
/-- RO, R518. -/
abbrev BOOT_ID_ID : Fld := ⟨0x10020, 0, 32, 4⟩
/-- RO, R518. -/
abbrev BOOT_TIME_TIME : Fld := ⟨0x10030, 0, 16, 0⟩
/-- RO, R520. -/
abbrev ATT_STATUS_REKEYS : Fld := ⟨0x20000, 8, 4, 0⟩
/-- RO, R520. -/
abbrev ATT_STATUS_REKEY_BUSY : Fld := ⟨0x20000, 7, 1, 0⟩
/-- RO, R520. -/
abbrev ATT_STATUS_LMS_LOW : Fld := ⟨0x20000, 6, 1, 0⟩
/-- RO, R520. -/
abbrev ATT_STATUS_LMS_OUT : Fld := ⟨0x20000, 5, 1, 0⟩
/-- RO, R520. -/
abbrev ATT_STATUS_KEY_SET : Fld := ⟨0x20000, 4, 1, 0⟩
/-- RO, R520. -/
abbrev ATT_STATUS_RESULT : Fld := ⟨0x20000, 0, 4, 0⟩
/-- WO, R520. -/
abbrev ATT_CTRL_CERT : Fld := ⟨0x20004, 3, 1, 0⟩
/-- WO, R520. -/
abbrev ATT_CTRL_REKEY : Fld := ⟨0x20004, 2, 1, 0⟩
/-- WO, R520. -/
abbrev ATT_CTRL_ENROLL : Fld := ⟨0x20004, 1, 1, 0⟩
/-- WO, R520. -/
abbrev ATT_CTRL_GO : Fld := ⟨0x20004, 0, 1, 0⟩
/-- RW, R521. -/
abbrev ATT_NONCE_NONCE : Fld := ⟨0x20010, 0, 32, 4⟩
/-- RW, R521. -/
abbrev ATT_ADDR_LO_ADDR_LO : Fld := ⟨0x20030, 13, 19, 0⟩
/-- RW, R521. -/
abbrev ATT_ADDR_HI_ADDR_HI : Fld := ⟨0x20034, 0, 32, 0⟩
/-- RO, R521. -/
abbrev ATT_LMS_LO_LEFT_LO : Fld := ⟨0x20038, 0, 32, 0⟩
/-- RO, R521. -/
abbrev ATT_LMS_HI_LEFT_HI : Fld := ⟨0x2003c, 0, 9, 0⟩
/-- RW, R521. -/
abbrev ATT_RATE_PER_S : Fld := ⟨0x20040, 0, 8, 0⟩
/-- RO, R521. -/
abbrev ATT_COUNT_REPORTS : Fld := ⟨0x20044, 0, 32, 0⟩
/-- RW, R521. -/
abbrev ATT_CERT_SEL_INDEX : Fld := ⟨0x20048, 0, 4, 0⟩
/-- RO, R529. -/
abbrev HC_INFO_PART : Fld := ⟨0x0, 24, 8, 0⟩
/-- RO, R529. -/
abbrev HC_INFO_GRADE : Fld := ⟨0x0, 22, 2, 0⟩
/-- RO, R529. -/
abbrev HC_INFO_STEPPING : Fld := ⟨0x0, 16, 6, 0⟩
/-- RO, R529. -/
abbrev HC_INFO_MAP_VERSION : Fld := ⟨0x0, 8, 8, 0⟩
/-- WO, R529. -/
abbrev HC_CTRL_CLR_COUNTS : Fld := ⟨0x4, 0, 1, 0⟩
/-- RO, R530. -/
abbrev HC_TIME_LO_TIME_LO : Fld := ⟨0x8, 0, 32, 0⟩
/-- RO, R530. -/
abbrev HC_TIME_HI_TIME_HI : Fld := ⟨0xc, 0, 32, 0⟩
/-- RO, R531. -/
abbrev HC_ACC_UNMAPPED : Fld := ⟨0x10, 16, 16, 0⟩
/-- RO, R531. -/
abbrev HC_ACC_PARTIAL : Fld := ⟨0x10, 0, 16, 0⟩
/-- RO, R531. -/
abbrev HC_ACC_CAP_VALID : Fld := ⟨0x14, 31, 1, 0⟩
/-- RO, R531. -/
abbrev HC_ACC_CAP_WRITE : Fld := ⟨0x14, 30, 1, 0⟩
/-- RO, R531. -/
abbrev HC_ACC_CAP_ADDR : Fld := ⟨0x14, 0, 26, 0⟩
/-- RW, R531. -/
abbrev HC_SCRATCH_DATA : Fld := ⟨0x20, 0, 32, 4⟩
/-- W1C, R542. -/
abbrev SNT_STATUS_COMMIT_FAIL : Fld := ⟨0x30000, 6, 1, 0⟩
/-- W1C, R542. -/
abbrev SNT_STATUS_LATE : Fld := ⟨0x30000, 5, 1, 0⟩
/-- W1C, R542. -/
abbrev SNT_STATUS_MISMATCH_SEEN : Fld := ⟨0x30000, 4, 1, 0⟩
/-- RO, R542. -/
abbrev SNT_STATUS_MISMATCH : Fld := ⟨0x30000, 3, 1, 0⟩
/-- RO, R542. -/
abbrev SNT_STATUS_CAPTURING : Fld := ⟨0x30000, 2, 1, 0⟩
/-- RO, R542. -/
abbrev SNT_STATUS_REF_VALID : Fld := ⟨0x30000, 1, 1, 0⟩
/-- RO, R542. -/
abbrev SNT_STATUS_ENABLED : Fld := ⟨0x30000, 0, 1, 0⟩
/-- WO, R542. -/
abbrev SNT_CTRL_CLR_COUNTS : Fld := ⟨0x30004, 2, 1, 0⟩
/-- WO, R542. -/
abbrev SNT_CTRL_COMMIT : Fld := ⟨0x30004, 1, 1, 0⟩
/-- RW, R542. -/
abbrev SNT_CTRL_EN : Fld := ⟨0x30004, 0, 1, 0⟩
/-- RO, R543. -/
abbrev SNT_VALUE_VALUE : Fld := ⟨0x30008, 0, 32, 0⟩
/-- RO, R543. -/
abbrev SNT_REF_REF : Fld := ⟨0x3000c, 0, 32, 0⟩
/-- RO, R543. -/
abbrev SNT_SWEEPS_SWEEPS : Fld := ⟨0x30010, 0, 32, 0⟩
/-- RO, R543. -/
abbrev SNT_MISMATCHES_COUNT : Fld := ⟨0x30014, 0, 32, 0⟩
/-- RO, R543. -/
abbrev SNT_RESTARTS_LATE : Fld := ⟨0x30018, 16, 16, 0⟩
/-- RO, R543. -/
abbrev SNT_RESTARTS_RESTARTS : Fld := ⟨0x30018, 0, 16, 0⟩
/-- RO, R543. -/
abbrev SNT_SEGMENTS_COUNT : Fld := ⟨0x3001c, 0, 20, 0⟩
/-- RO, R544. -/
abbrev SNT_CAP0_VALID : Fld := ⟨0x30020, 31, 1, 0⟩
/-- RO, R544. -/
abbrev SNT_CAP0_WRITE : Fld := ⟨0x30020, 30, 1, 0⟩
/-- RO, R544. -/
abbrev SNT_CAP0_SEGMENT : Fld := ⟨0x30020, 0, 24, 0⟩
/-- RO, R544. -/
abbrev SNT_CAP1_CRC : Fld := ⟨0x30024, 0, 32, 0⟩
/-- RW, R545. -/
abbrev SNT_SEG_SEL_SEGMENT : Fld := ⟨0x30030, 0, 24, 0⟩
/-- RO, R545. -/
abbrev SNT_SEG_VAL_CRC : Fld := ⟨0x30034, 0, 32, 0⟩
/-- RO, R545. -/
abbrev SNT_SEG_REF_REF : Fld := ⟨0x30038, 0, 32, 0⟩
/-- RO, R551. -/
abbrev CVU_STATUS_BUSY : Fld := ⟨0x40000, 0, 32, 0⟩
/-- RW, R551. -/
abbrev CVU_CTRL_DIE : Fld := ⟨0x40004, 0, 2, 0⟩
/-- WO, R552. -/
abbrev CVU_CFG_START : Fld := ⟨0x40100, 31, 1, 64⟩
/-- RW, R552. -/
abbrev CVU_CFG_INVERT : Fld := ⟨0x40100, 10, 1, 64⟩
/-- RW, R552. -/
abbrev CVU_CFG_REFOUT : Fld := ⟨0x40100, 9, 1, 64⟩
/-- RW, R552. -/
abbrev CVU_CFG_REFIN : Fld := ⟨0x40100, 8, 1, 64⟩
/-- RW, R552. -/
abbrev CVU_CFG_WIDTH : Fld := ⟨0x40100, 0, 7, 64⟩
/-- RW, R552. -/
abbrev CVU_POLY_LO_POLY_LO : Fld := ⟨0x40104, 0, 32, 64⟩
/-- RW, R552. -/
abbrev CVU_POLY_HI_POLY_HI : Fld := ⟨0x40108, 0, 32, 64⟩
/-- RW, R552. -/
abbrev CVU_INIT_LO_INIT_LO : Fld := ⟨0x4010c, 0, 32, 64⟩
/-- RW, R552. -/
abbrev CVU_INIT_HI_INIT_HI : Fld := ⟨0x40110, 0, 32, 64⟩
/-- WO, R553. -/
abbrev CVU_DATA8_BYTE : Fld := ⟨0x40114, 0, 8, 64⟩
/-- WO, R553. -/
abbrev CVU_DATA16_HALF : Fld := ⟨0x40118, 0, 16, 64⟩
/-- WO, R553. -/
abbrev CVU_DATA32_WORD : Fld := ⟨0x4011c, 0, 32, 64⟩
/-- RO, R554. -/
abbrev CVU_RESULT_LO_RESULT_LO : Fld := ⟨0x40120, 0, 32, 64⟩
/-- RO, R554. -/
abbrev CVU_RESULT_HI_RESULT_HI : Fld := ⟨0x40124, 0, 32, 64⟩
/-- RO, R554. -/
abbrev CVU_STATE_LO_STATE_LO : Fld := ⟨0x40128, 0, 32, 64⟩
/-- RO, R554. -/
abbrev CVU_STATE_HI_STATE_HI : Fld := ⟨0x4012c, 0, 32, 64⟩
/-- RO, R554. -/
abbrev CVU_COUNT_BYTES : Fld := ⟨0x40130, 0, 32, 64⟩
/-- RO, R576. -/
abbrev DMP_STATUS_RESULT : Fld := ⟨0xf0000, 28, 4, 0⟩
/-- W1C, R576. -/
abbrev DMP_STATUS_PEN_WRAP : Fld := ⟨0xf0000, 3, 1, 0⟩
/-- W1C, R576. -/
abbrev DMP_STATUS_SUPPRESSED : Fld := ⟨0xf0000, 2, 1, 0⟩
/-- RO, R576. -/
abbrev DMP_STATUS_FETCH_BUSY : Fld := ⟨0xf0000, 1, 1, 0⟩
/-- RO, R576. -/
abbrev DMP_STATUS_DUMP_BUSY : Fld := ⟨0xf0000, 0, 1, 0⟩
/-- WO, R576. -/
abbrev DMP_CTRL_FATAL : Fld := ⟨0xf0004, 3, 1, 0⟩
/-- WO, R576. -/
abbrev DMP_CTRL_ERASE : Fld := ⟨0xf0004, 2, 1, 0⟩
/-- WO, R576. -/
abbrev DMP_CTRL_FETCH : Fld := ⟨0xf0004, 1, 1, 0⟩
/-- WO, R576. -/
abbrev DMP_CTRL_CLR_COUNTS : Fld := ⟨0xf0004, 0, 1, 0⟩
/-- RW, R578. -/
abbrev DMP_SYSTEM_INDEX : Fld := ⟨0xf0008, 0, 14, 0⟩
/-- RO, R578. -/
abbrev DMP_FSEQ_FSEQ : Fld := ⟨0xf000c, 0, 32, 0⟩
/-- RO, R578. -/
abbrev DMP_SUPPRESSED_COUNT : Fld := ⟨0xf0010, 0, 32, 0⟩
/-- RW, R579. -/
abbrev DMP_PEN_SEL_SEG : Fld := ⟨0xf0020, 0, 7, 0⟩
/-- RO, R579. -/
abbrev DMP_PEN_STAT_VALID : Fld := ⟨0xf0024, 31, 1, 0⟩
/-- RO, R579. -/
abbrev DMP_PEN_STAT_TRUNCATED : Fld := ⟨0xf0024, 30, 1, 0⟩
/-- RO, R579. -/
abbrev DMP_PEN_STAT_NEXT : Fld := ⟨0xf0024, 23, 7, 0⟩
/-- RO, R579. -/
abbrev DMP_PEN_STAT_SIZE : Fld := ⟨0xf0024, 0, 16, 0⟩
/-- RW, R580. -/
abbrev DMP_SP_VALID : Fld := ⟨0xf0100, 31, 1, 4⟩
/-- RW, R580. -/
abbrev DMP_SP_TILE : Fld := ⟨0xf0100, 0, 19, 4⟩
/-- RO, R582. -/
abbrev TST_STATUS_RESULT : Fld := ⟨0x100000, 28, 4, 0⟩
/-- RO, R582. -/
abbrev TST_STATUS_CAP_ARMED : Fld := ⟨0x100000, 3, 1, 0⟩
/-- RO, R582. -/
abbrev TST_STATUS_INJ_PEND : Fld := ⟨0x100000, 2, 1, 0⟩
/-- RO, R582. -/
abbrev TST_STATUS_BIST_BUSY : Fld := ⟨0x100000, 1, 1, 0⟩
/-- RO, R582. -/
abbrev TST_STATUS_TEST_MODE : Fld := ⟨0x100000, 0, 1, 0⟩
/-- RW, R582. -/
abbrev TST_CTRL_TEST_MODE : Fld := ⟨0x100004, 0, 1, 0⟩
/-- WO, R583. -/
abbrev TST_INJ_GO : Fld := ⟨0x100010, 31, 1, 0⟩
/-- RW, R583. -/
abbrev TST_INJ_KIND : Fld := ⟨0x100010, 28, 3, 0⟩
/-- RW, R583. -/
abbrev TST_INJ_N : Fld := ⟨0x100010, 25, 3, 0⟩
/-- RW, R583. -/
abbrev TST_INJ_TARGET : Fld := ⟨0x100010, 0, 19, 0⟩
/-- RW, R583. -/
abbrev TST_INJ_PICK_PICK_LO : Fld := ⟨0x100014, 0, 32, 0⟩
/-- RO, R583. -/
abbrev TST_INJ_STAT_RESULT : Fld := ⟨0x100018, 28, 4, 0⟩
/-- WO, R584. -/
abbrev TST_CAP_CTRL_GO : Fld := ⟨0x100020, 31, 1, 0⟩
/-- RW, R584. -/
abbrev TST_CAP_CTRL_SKEIN : Fld := ⟨0x100020, 0, 12, 0⟩
/-- RW, R584. -/
abbrev TST_CAP_POS_POS : Fld := ⟨0x100024, 0, 32, 0⟩
/-- RW, R584. -/
abbrev TST_CAP_ADDR_LO_ADDR_LO : Fld := ⟨0x100028, 12, 20, 0⟩
/-- RW, R584. -/
abbrev TST_CAP_ADDR_HI_ADDR_HI : Fld := ⟨0x10002c, 0, 32, 0⟩
/-- RO, R584. -/
abbrev TST_CAP_STAT_RESULT : Fld := ⟨0x100030, 28, 4, 0⟩
/-- RO, R584. -/
abbrev TST_CAP_STAT_POSITIONS : Fld := ⟨0x100030, 0, 8, 0⟩
/-- WO, R585. -/
abbrev TST_BIST_GO : Fld := ⟨0x100040, 31, 1, 0⟩
/-- RW, R585. -/
abbrev TST_BIST_REGION : Fld := ⟨0x100040, 0, 4, 0⟩
/-- RO, R585. -/
abbrev TST_BIST_STAT_RESULT : Fld := ⟨0x100044, 28, 4, 0⟩
/-- RO, R585. -/
abbrev TST_BIST_STAT_FIRST_FAIL : Fld := ⟨0x100044, 0, 19, 0⟩
/-- RO, R585. -/
abbrev TST_BIST_COUNT_FAILED : Fld := ⟨0x100048, 16, 16, 0⟩
/-- RO, R585. -/
abbrev TST_BIST_COUNT_TESTED : Fld := ⟨0x100048, 0, 16, 0⟩
/-- RW, R71. -/
abbrev TIL_WIN_SPOOL_LIMIT : Fld := ⟨0x110064, 16, 12, 0⟩
/-- RW, R71. -/
abbrev TIL_WIN_SPOOL_BASE : Fld := ⟨0x110064, 0, 12, 0⟩
end F

/-! ### Register addresses -/

namespace R

/-- HC_INFO, R529. -/
abbrev HC_INFO : Nat := 0x0
/-- HC_CTRL, R529. -/
abbrev HC_CTRL : Nat := 0x4
/-- HC_TIME_LO, R530. -/
abbrev HC_TIME_LO : Nat := 0x8
/-- HC_TIME_HI, R530. -/
abbrev HC_TIME_HI : Nat := 0xc
/-- HC_ACC, R531. -/
abbrev HC_ACC : Nat := 0x10
/-- HC_ACC_CAP, R531. -/
abbrev HC_ACC_CAP : Nat := 0x14
/-- HC_SCRATCH, R531. -/
abbrev HC_SCRATCH : Nat := 0x20
/-- BOOT_STATUS, R515. -/
abbrev BOOT_STATUS : Nat := 0x10000
/-- BOOT_CTRL, R515. -/
abbrev BOOT_CTRL : Nat := 0x10004
/-- BOOT_FW_CTRL, R517. -/
abbrev BOOT_FW_CTRL : Nat := 0x10008
/-- BOOT_FW_SRC_LO, R517. -/
abbrev BOOT_FW_SRC_LO : Nat := 0x1000c
/-- BOOT_FW_SRC_HI, R517. -/
abbrev BOOT_FW_SRC_HI : Nat := 0x10010
/-- BOOT_FW_STAT, R517. -/
abbrev BOOT_FW_STAT : Nat := 0x10014
/-- BOOT_SVN, R518. -/
abbrev BOOT_SVN : Nat := 0x10018
/-- BOOT_WDOG, R518. -/
abbrev BOOT_WDOG : Nat := 0x1001c
/-- BOOT_ID, R518. -/
abbrev BOOT_ID : Nat := 0x10020
/-- BOOT_TIME, R518. -/
abbrev BOOT_TIME : Nat := 0x10030
/-- ATT_STATUS, R520. -/
abbrev ATT_STATUS : Nat := 0x20000
/-- ATT_CTRL, R520. -/
abbrev ATT_CTRL : Nat := 0x20004
/-- ATT_NONCE, R521. -/
abbrev ATT_NONCE : Nat := 0x20010
/-- ATT_ADDR_LO, R521. -/
abbrev ATT_ADDR_LO : Nat := 0x20030
/-- ATT_ADDR_HI, R521. -/
abbrev ATT_ADDR_HI : Nat := 0x20034
/-- ATT_LMS_LO, R521. -/
abbrev ATT_LMS_LO : Nat := 0x20038
/-- ATT_LMS_HI, R521. -/
abbrev ATT_LMS_HI : Nat := 0x2003c
/-- ATT_RATE, R521. -/
abbrev ATT_RATE : Nat := 0x20040
/-- ATT_COUNT, R521. -/
abbrev ATT_COUNT : Nat := 0x20044
/-- ATT_CERT_SEL, R521. -/
abbrev ATT_CERT_SEL : Nat := 0x20048
/-- SNT_STATUS, R542. -/
abbrev SNT_STATUS : Nat := 0x30000
/-- SNT_CTRL, R542. -/
abbrev SNT_CTRL : Nat := 0x30004
/-- SNT_VALUE, R543. -/
abbrev SNT_VALUE : Nat := 0x30008
/-- SNT_REF, R543. -/
abbrev SNT_REF : Nat := 0x3000c
/-- SNT_SWEEPS, R543. -/
abbrev SNT_SWEEPS : Nat := 0x30010
/-- SNT_MISMATCHES, R543. -/
abbrev SNT_MISMATCHES : Nat := 0x30014
/-- SNT_RESTARTS, R543. -/
abbrev SNT_RESTARTS : Nat := 0x30018
/-- SNT_SEGMENTS, R543. -/
abbrev SNT_SEGMENTS : Nat := 0x3001c
/-- SNT_CAP0, R544. -/
abbrev SNT_CAP0 : Nat := 0x30020
/-- SNT_CAP1, R544. -/
abbrev SNT_CAP1 : Nat := 0x30024
/-- SNT_SEG_SEL, R545. -/
abbrev SNT_SEG_SEL : Nat := 0x30030
/-- SNT_SEG_VAL, R545. -/
abbrev SNT_SEG_VAL : Nat := 0x30034
/-- SNT_SEG_REF, R545. -/
abbrev SNT_SEG_REF : Nat := 0x30038
/-- CVU_STATUS, R551. -/
abbrev CVU_STATUS : Nat := 0x40000
/-- CVU_CTRL, R551. -/
abbrev CVU_CTRL : Nat := 0x40004
/-- CVU_CFG, R552. -/
abbrev CVU_CFG : Nat := 0x40100
/-- CVU_POLY_LO, R552. -/
abbrev CVU_POLY_LO : Nat := 0x40104
/-- CVU_POLY_HI, R552. -/
abbrev CVU_POLY_HI : Nat := 0x40108
/-- CVU_INIT_LO, R552. -/
abbrev CVU_INIT_LO : Nat := 0x4010c
/-- CVU_INIT_HI, R552. -/
abbrev CVU_INIT_HI : Nat := 0x40110
/-- CVU_DATA8, R553. -/
abbrev CVU_DATA8 : Nat := 0x40114
/-- CVU_DATA16, R553. -/
abbrev CVU_DATA16 : Nat := 0x40118
/-- CVU_DATA32, R553. -/
abbrev CVU_DATA32 : Nat := 0x4011c
/-- CVU_RESULT_LO, R554. -/
abbrev CVU_RESULT_LO : Nat := 0x40120
/-- CVU_RESULT_HI, R554. -/
abbrev CVU_RESULT_HI : Nat := 0x40124
/-- CVU_STATE_LO, R554. -/
abbrev CVU_STATE_LO : Nat := 0x40128
/-- CVU_STATE_HI, R554. -/
abbrev CVU_STATE_HI : Nat := 0x4012c
/-- CVU_COUNT, R554. -/
abbrev CVU_COUNT : Nat := 0x40130
/-- CLK_STATUS, R470. -/
abbrev CLK_STATUS : Nat := 0x50000
/-- CLK_CTRL, R470. -/
abbrev CLK_CTRL : Nat := 0x50004
/-- CLK_PLL_SEL, R471. -/
abbrev CLK_PLL_SEL : Nat := 0x50010
/-- CLK_PLL_STAT, R471. -/
abbrev CLK_PLL_STAT : Nat := 0x50014
/-- CLK_XCLASS_SEL, R472. -/
abbrev CLK_XCLASS_SEL : Nat := 0x50020
/-- CLK_XCLASS_STAT, R472. -/
abbrev CLK_XCLASS_STAT : Nat := 0x50024
/-- CLK_SEAM_SEL, R473. -/
abbrev CLK_SEAM_SEL : Nat := 0x50030
/-- CLK_SEAM_FILL, R473. -/
abbrev CLK_SEAM_FILL : Nat := 0x50034
/-- CLK_REF_STAT, R474. -/
abbrev CLK_REF_STAT : Nat := 0x50040
/-- VPA_STATUS, R445. -/
abbrev VPA_STATUS : Nat := 0x60000
/-- VPA_CTRL, R445. -/
abbrev VPA_CTRL : Nat := 0x60004
/-- VPA_INPUT, R446. -/
abbrev VPA_INPUT : Nat := 0x60008
/-- VPA_POWER, R446. -/
abbrev VPA_POWER : Nat := 0x6000c
/-- VPA_CAP, R446. -/
abbrev VPA_CAP : Nat := 0x60010
/-- VPA_DOM_SEL, R447. -/
abbrev VPA_DOM_SEL : Nat := 0x60020
/-- VPA_DOM_STAT, R447. -/
abbrev VPA_DOM_STAT : Nat := 0x60024
/-- VPA_DOM_VOLT, R447. -/
abbrev VPA_DOM_VOLT : Nat := 0x60028
/-- VPA_DOM_PATH, R447. -/
abbrev VPA_DOM_PATH : Nat := 0x6002c
/-- VPA_PHASE_SEL, R448. -/
abbrev VPA_PHASE_SEL : Nat := 0x60030
/-- VPA_PHASE_STAT, R448. -/
abbrev VPA_PHASE_STAT : Nat := 0x60034
/-- VPA_DROOP_SEL, R449. -/
abbrev VPA_DROOP_SEL : Nat := 0x60040
/-- VPA_DROOP_WARN, R449. -/
abbrev VPA_DROOP_WARN : Nat := 0x60044
/-- VPA_DROOP_RESET, R449. -/
abbrev VPA_DROOP_RESET : Nat := 0x60048
/-- VPA_DROOP_STRETCH, R449. -/
abbrev VPA_DROOP_STRETCH : Nat := 0x6004c
/-- VPA_REGION_CTRL, R450. -/
abbrev VPA_REGION_CTRL : Nat := 0x60050
/-- VPA_REGION_STAT, R450. -/
abbrev VPA_REGION_STAT : Nat := 0x60054
/-- VPA_VL_SETPT, R452. -/
abbrev VPA_VL_SETPT : Nat := 0x60080
/-- VPA_FAULT_CAP0, R453. -/
abbrev VPA_FAULT_CAP0 : Nat := 0x60070
/-- VPA_FAULT_CAP1, R453. -/
abbrev VPA_FAULT_CAP1 : Nat := 0x60074
/-- VPA_SHED_COUNT, R453. -/
abbrev VPA_SHED_COUNT : Nat := 0x60078
/-- VPA_PATH_CFG, R453. -/
abbrev VPA_PATH_CFG : Nat := 0x6007c
/-- THM_STATUS, R491. -/
abbrev THM_STATUS : Nat := 0x70000
/-- THM_CTRL, R491. -/
abbrev THM_CTRL : Nat := 0x70004
/-- THM_TRAY, R492. -/
abbrev THM_TRAY : Nat := 0x70008
/-- THM_FLOW, R492. -/
abbrev THM_FLOW : Nat := 0x7000c
/-- THM_FLOW_CFG, R492. -/
abbrev THM_FLOW_CFG : Nat := 0x70010
/-- THM_LIMITS, R492. -/
abbrev THM_LIMITS : Nat := 0x70014
/-- THM_PRED, R493. -/
abbrev THM_PRED : Nat := 0x70018
/-- THM_SENS_SEL, R493. -/
abbrev THM_SENS_SEL : Nat := 0x70020
/-- THM_SENS_STAT, R493. -/
abbrev THM_SENS_STAT : Nat := 0x70024
/-- THM_COUNTS, R493. -/
abbrev THM_COUNTS : Nat := 0x70028
/-- HLS_STATUS, R413. -/
abbrev HLS_STATUS : Nat := 0x80000
/-- HLS_CTRL, R413. -/
abbrev HLS_CTRL : Nat := 0x80004
/-- HLS_BEACON_LO, R414. -/
abbrev HLS_BEACON_LO : Nat := 0x80008
/-- HLS_BEACON_HI, R414. -/
abbrev HLS_BEACON_HI : Nat := 0x8000c
/-- HLS_BEACON_SEQ, R414. -/
abbrev HLS_BEACON_SEQ : Nat := 0x80010
/-- HLS_BEACON_MISSES, R414. -/
abbrev HLS_BEACON_MISSES : Nat := 0x80014
/-- HLS_EVQ_LO, R414. -/
abbrev HLS_EVQ_LO : Nat := 0x80018
/-- HLS_EVQ_HI, R414. -/
abbrev HLS_EVQ_HI : Nat := 0x8001c
/-- HLS_DUMP_LO, R415. -/
abbrev HLS_DUMP_LO : Nat := 0x80020
/-- HLS_DUMP_HI, R415. -/
abbrev HLS_DUMP_HI : Nat := 0x80024
/-- HLS_DUMP_SIZE, R415. -/
abbrev HLS_DUMP_SIZE : Nat := 0x80028
/-- HLS_RD_TIMEOUT, R415. -/
abbrev HLS_RD_TIMEOUT : Nat := 0x8002c
/-- HLS_PORT_SEL, R416. -/
abbrev HLS_PORT_SEL : Nat := 0x80040
/-- HLS_PORT_CTRL, R416. -/
abbrev HLS_PORT_CTRL : Nat := 0x80044
/-- HLS_PORT_STAT, R416. -/
abbrev HLS_PORT_STAT : Nat := 0x80048
/-- HLS_PORT_RTT, R416. -/
abbrev HLS_PORT_RTT : Nat := 0x8004c
/-- HLS_PORT_FEC_CE, R417. -/
abbrev HLS_PORT_FEC_CE : Nat := 0x80050
/-- HLS_PORT_FEC_UE, R417. -/
abbrev HLS_PORT_FEC_UE : Nat := 0x80054
/-- HLS_PORT_CRC, R417. -/
abbrev HLS_PORT_CRC : Nat := 0x80058
/-- HLS_PORT_RETRY, R417. -/
abbrev HLS_PORT_RETRY : Nat := 0x8005c
/-- HLS_SWATCH_CTRL, R418. -/
abbrev HLS_SWATCH_CTRL : Nat := 0x80060
/-- HLS_SWATCH_STAT, R418. -/
abbrev HLS_SWATCH_STAT : Nat := 0x80064
/-- HLS_SQ_LO, R419. -/
abbrev HLS_SQ_LO : Nat := 0x80100
/-- HLS_SQ_HI, R419. -/
abbrev HLS_SQ_HI : Nat := 0x80104
/-- HLS_SQ_TAIL, R419. -/
abbrev HLS_SQ_TAIL : Nat := 0x80108
/-- HLS_SQ_STAT, R419. -/
abbrev HLS_SQ_STAT : Nat := 0x8010c
/-- WRP_STATUS, R341. -/
abbrev WRP_STATUS : Nat := 0x90000
/-- WRP_CTRL, R341. -/
abbrev WRP_CTRL : Nat := 0x90004
/-- WRP_LOAD, R342. -/
abbrev WRP_LOAD : Nat := 0x90008
/-- WRP_LOAD_STAT, R342. -/
abbrev WRP_LOAD_STAT : Nat := 0x9000c
/-- WRP_LOAD_INFO, R342. -/
abbrev WRP_LOAD_INFO : Nat := 0x90010
/-- WRP_INSTALL, R343. -/
abbrev WRP_INSTALL : Nat := 0x90014
/-- WRP_INSTALL_SRC_LO, R343. -/
abbrev WRP_INSTALL_SRC_LO : Nat := 0x90018
/-- WRP_INSTALL_SRC_HI, R343. -/
abbrev WRP_INSTALL_SRC_HI : Nat := 0x9001c
/-- WRP_INSTALL_STAT, R343. -/
abbrev WRP_INSTALL_STAT : Nat := 0x90020
/-- WRP_SLOT, R345. -/
abbrev WRP_SLOT : Nat := 0x90030
/-- WRP_SLOT_SER, R345. -/
abbrev WRP_SLOT_SER : Nat := 0x90040
/-- WRP_XKP_DIGEST, R346. -/
abbrev WRP_XKP_DIGEST : Nat := 0x90060
/-- WRP_BOOT, R346. -/
abbrev WRP_BOOT : Nat := 0x90090
/-- WRP_TWIN_SEL, R347. -/
abbrev WRP_TWIN_SEL : Nat := 0x90100
/-- WRP_TWIN_CAP0, R347. -/
abbrev WRP_TWIN_CAP0 : Nat := 0x90104
/-- WRP_TWIN_CAP1, R347. -/
abbrev WRP_TWIN_CAP1 : Nat := 0x90108
/-- WRP_EP_SEL, R348. -/
abbrev WRP_EP_SEL : Nat := 0x90110
/-- WRP_EP_STAT, R348. -/
abbrev WRP_EP_STAT : Nat := 0x90114
/-- WRP_BRIDGE_COUNT, R348. -/
abbrev WRP_BRIDGE_COUNT : Nat := 0x90118
/-- PCK_ARITH_SEL, R103. -/
abbrev PCK_ARITH_SEL : Nat := 0xa0400
/-- PCK_ARITH_CLAMP, R104. -/
abbrev PCK_ARITH_CLAMP : Nat := 0xa0404
/-- PCK_ARITH_SAT, R104. -/
abbrev PCK_ARITH_SAT : Nat := 0xa0408
/-- PCK_ARITH_FIRST, R104. -/
abbrev PCK_ARITH_FIRST : Nat := 0xa040c
/-- PCK_ARITH_CTRL, R105. -/
abbrev PCK_ARITH_CTRL : Nat := 0xa0410
/-- PCK_ARITH_MAP, R106. -/
abbrev PCK_ARITH_MAP : Nat := 0xa0420
/-- PCK_STATUS, R144. -/
abbrev PCK_STATUS : Nat := 0xa0000
/-- PCK_PICK_LO, R145. -/
abbrev PCK_PICK_LO : Nat := 0xa0004
/-- PCK_PICK_HI, R145. -/
abbrev PCK_PICK_HI : Nat := 0xa0008
/-- PCK_CTRL, R146. -/
abbrev PCK_CTRL : Nat := 0xa000c
/-- PCK_NOMINAL_CY, R147. -/
abbrev PCK_NOMINAL_CY : Nat := 0xa0010
/-- PCK_MIN_CY, R147. -/
abbrev PCK_MIN_CY : Nat := 0xa0014
/-- PCK_LAG_CY, R148. -/
abbrev PCK_LAG_CY : Nat := 0xa0018
/-- PCK_LAG_BOUND, R148. -/
abbrev PCK_LAG_BOUND : Nat := 0xa001c
/-- PCK_LAST_CY, R149. -/
abbrev PCK_LAST_CY : Nat := 0xa0020
/-- PCK_MAX_CY, R149. -/
abbrev PCK_MAX_CY : Nat := 0xa0024
/-- PCK_LATE_COUNT, R149. -/
abbrev PCK_LATE_COUNT : Nat := 0xa0028
/-- PCK_STEP_COUNT, R149. -/
abbrev PCK_STEP_COUNT : Nat := 0xa002c
/-- PCK_MODE_CTRL, R150. -/
abbrev PCK_MODE_CTRL : Nat := 0xa0030
/-- PCK_MODE_STAT, R151. -/
abbrev PCK_MODE_STAT : Nat := 0xa0034
/-- PCK_CEILING, R151. -/
abbrev PCK_CEILING : Nat := 0xa0038
/-- PCK_DONE_LIMIT, R152. -/
abbrev PCK_DONE_LIMIT : Nat := 0xa0040
/-- PCK_LATE_SRC, R152. -/
abbrev PCK_LATE_SRC : Nat := 0xa0044
/-- PCK_DONE_MISS_LO, R153. -/
abbrev PCK_DONE_MISS_LO : Nat := 0xa0048
/-- PCK_DONE_MISS_HI, R153. -/
abbrev PCK_DONE_MISS_HI : Nat := 0xa004c
/-- PCK_CHAIN, R154. -/
abbrev PCK_CHAIN : Nat := 0xa0050
/-- PCK_SKEW, R154. -/
abbrev PCK_SKEW : Nat := 0xa0054
/-- PCK_STROBE_CAL, R155. -/
abbrev PCK_STROBE_CAL : Nat := 0xa0100
/-- SKN_STATUS, R270. -/
abbrev SKN_STATUS : Nat := 0xb0000
/-- SKN_CTRL, R270. -/
abbrev SKN_CTRL : Nat := 0xb0004
/-- SKN_NUM, R271. -/
abbrev SKN_NUM : Nat := 0xb0008
/-- SKN_LANES, R271. -/
abbrev SKN_LANES : Nat := 0xb0018
/-- SKN_PREEMPT, R272. -/
abbrev SKN_PREEMPT : Nat := 0xb0020
/-- SKN_RESTORE, R272. -/
abbrev SKN_RESTORE : Nat := 0xb0024
/-- SKN_LIMITS, R272. -/
abbrev SKN_LIMITS : Nat := 0xb0028
/-- SKN_ENT_SEL, R273. -/
abbrev SKN_ENT_SEL : Nat := 0xb0040
/-- SKN_ENT_LO, R273. -/
abbrev SKN_ENT_LO : Nat := 0xb0044
/-- SKN_ENT_HI, R273. -/
abbrev SKN_ENT_HI : Nat := 0xb0048
/-- SKN_PART_CFG, R274. -/
abbrev SKN_PART_CFG : Nat := 0xb0080
/-- SKN_PART_STAT, R274. -/
abbrev SKN_PART_STAT : Nat := 0xb0084
/-- SKN_SAMP_ADDR, R275. -/
abbrev SKN_SAMP_ADDR : Nat := 0xb00c0
/-- SKN_SAMP_DATA, R275. -/
abbrev SKN_SAMP_DATA : Nat := 0xb00c4
/-- SKN_COMMITS_LO, R275. -/
abbrev SKN_COMMITS_LO : Nat := 0xb0100
/-- SKN_COMMITS_HI, R275. -/
abbrev SKN_COMMITS_HI : Nat := 0xb0104
/-- SKN_VOIDS, R275. -/
abbrev SKN_VOIDS : Nat := 0xb0108
/-- SKN_MISSES, R275. -/
abbrev SKN_MISSES : Nat := 0xb010c
/-- SKN_PFX_LOOKUPS, R275. -/
abbrev SKN_PFX_LOOKUPS : Nat := 0xb0110
/-- SKN_PFX_HITS, R275. -/
abbrev SKN_PFX_HITS : Nat := 0xb0114
/-- SKN_SWAPS, R275. -/
abbrev SKN_SWAPS : Nat := 0xb0118
/-- SKN_RING_STALLS, R275. -/
abbrev SKN_RING_STALLS : Nat := 0xb011c
/-- SPL_STATUS, R233. -/
abbrev SPL_STATUS : Nat := 0xc0000
/-- SPL_CTRL, R234. -/
abbrev SPL_CTRL : Nat := 0xc0004
/-- SPL_POOL_SEL, R235. -/
abbrev SPL_POOL_SEL : Nat := 0xc0010
/-- SPL_POOL_FREE, R235. -/
abbrev SPL_POOL_FREE : Nat := 0xc0014
/-- SPL_POOL_LOW, R235. -/
abbrev SPL_POOL_LOW : Nat := 0xc0018
/-- SPL_POOL_MIN, R235. -/
abbrev SPL_POOL_MIN : Nat := 0xc001c
/-- SPL_TBL_FREE, R235. -/
abbrev SPL_TBL_FREE : Nat := 0xc0020
/-- SPL_FAULT_CAP0, R236. -/
abbrev SPL_FAULT_CAP0 : Nat := 0xc0030
/-- SPL_FAULT_CAP1, R236. -/
abbrev SPL_FAULT_CAP1 : Nat := 0xc0034
/-- SPL_FAULT_CAP2, R236. -/
abbrev SPL_FAULT_CAP2 : Nat := 0xc0038
/-- SPL_XLAT_COUNT, R236. -/
abbrev SPL_XLAT_COUNT : Nat := 0xc003c
/-- SPL_ECC_CE, R237. -/
abbrev SPL_ECC_CE : Nat := 0xc0040
/-- SPL_ECC_UE, R237. -/
abbrev SPL_ECC_UE : Nat := 0xc0044
/-- SPL_ECC_LOG0, R237. -/
abbrev SPL_ECC_LOG0 : Nat := 0xc0048
/-- SPL_ECC_LOG1, R237. -/
abbrev SPL_ECC_LOG1 : Nat := 0xc004c
/-- SPL_SCRUB, R238. -/
abbrev SPL_SCRUB : Nat := 0xc0050
/-- SPL_COPY_SHARE, R238. -/
abbrev SPL_COPY_SHARE : Nat := 0xc0054
/-- SPL_XC_SEL, R239. -/
abbrev SPL_XC_SEL : Nat := 0xc0060
/-- SPL_XC_HIT, R239. -/
abbrev SPL_XC_HIT : Nat := 0xc0064
/-- SPL_XC_MISS, R239. -/
abbrev SPL_XC_MISS : Nat := 0xc0068
/-- SPL_CH_SEL, R240. -/
abbrev SPL_CH_SEL : Nat := 0xc0070
/-- SPL_CH_STATE, R240. -/
abbrev SPL_CH_STATE : Nat := 0xc0074
/-- SPL_SWATCH_CTRL, R241. -/
abbrev SPL_SWATCH_CTRL : Nat := 0xc0080
/-- SPL_SWATCH_STAT, R241. -/
abbrev SPL_SWATCH_STAT : Nat := 0xc0084
/-- SPL_SWAP_BASE_LO, R242. -/
abbrev SPL_SWAP_BASE_LO : Nat := 0xc0090
/-- SPL_SWAP_BASE_HI, R242. -/
abbrev SPL_SWAP_BASE_HI : Nat := 0xc0094
/-- SPL_SWAP_SIZE, R242. -/
abbrev SPL_SWAP_SIZE : Nat := 0xc0098
/-- WFT_STATUS, R184. -/
abbrev WFT_STATUS : Nat := 0xd0000
/-- WFT_CTRL, R185. -/
abbrev WFT_CTRL : Nat := 0xd0004
/-- WFT_WDOG, R185. -/
abbrev WFT_WDOG : Nat := 0xd0008
/-- WFT_VC_SHARE, R185. -/
abbrev WFT_VC_SHARE : Nat := 0xd000c
/-- WFT_ERR_CAP0, R186. -/
abbrev WFT_ERR_CAP0 : Nat := 0xd0010
/-- WFT_ERR_CAP1, R186. -/
abbrev WFT_ERR_CAP1 : Nat := 0xd0014
/-- WFT_HOP_COUNT, R187. -/
abbrev WFT_HOP_COUNT : Nat := 0xd0018
/-- WFT_DROP_COUNT, R187. -/
abbrev WFT_DROP_COUNT : Nat := 0xd001c
/-- WFT_FOLD_ERR_COUNT, R187. -/
abbrev WFT_FOLD_ERR_COUNT : Nat := 0xd0020
/-- WFT_CRC_COUNT, R187. -/
abbrev WFT_CRC_COUNT : Nat := 0xd0024
/-- WFT_RETRAIN_COUNT, R187. -/
abbrev WFT_RETRAIN_COUNT : Nat := 0xd0028
/-- WFT_SEAM_FAIL, R188. -/
abbrev WFT_SEAM_FAIL : Nat := 0xd0030
/-- WFT_RTR_SEL, R189. -/
abbrev WFT_RTR_SEL : Nat := 0xd0040
/-- WFT_RTR_LINK, R189. -/
abbrev WFT_RTR_LINK : Nat := 0xd0044
/-- WFT_RTR_BLOCK, R189. -/
abbrev WFT_RTR_BLOCK : Nat := 0xd0048
/-- WFT_RTR_RETRY, R189. -/
abbrev WFT_RTR_RETRY : Nat := 0xd004c
/-- WFT_TBL_ADDR, R190. -/
abbrev WFT_TBL_ADDR : Nat := 0xd0050
/-- WFT_TBL_DATA, R190. -/
abbrev WFT_TBL_DATA : Nat := 0xd0054
/-- WFT_CMAP_BASE_LO, R192. -/
abbrev WFT_CMAP_BASE_LO : Nat := 0xd0060
/-- WFT_CMAP_BASE_HI, R192. -/
abbrev WFT_CMAP_BASE_HI : Nat := 0xd0064
/-- WFT_CMAP_DEPTH, R192. -/
abbrev WFT_CMAP_DEPTH : Nat := 0xd0068
/-- WFT_CMAP_SEQ, R192. -/
abbrev WFT_CMAP_SEQ : Nat := 0xd006c
/-- WFT_SWATCH_CTRL, R193. -/
abbrev WFT_SWATCH_CTRL : Nat := 0xd0080
/-- WFT_SWATCH_STAT, R193. -/
abbrev WFT_SWATCH_STAT : Nat := 0xd0084
/-- WFT_SWATCH_CH, R193. -/
abbrev WFT_SWATCH_CH : Nat := 0xd0088
/-- NVW_STATUS, R305. -/
abbrev NVW_STATUS : Nat := 0xe0000
/-- NVW_CTRL, R306. -/
abbrev NVW_CTRL : Nat := 0xe0004
/-- NVW_OP, R307. -/
abbrev NVW_OP : Nat := 0xe0008
/-- NVW_OP_STAT, R308. -/
abbrev NVW_OP_STAT : Nat := 0xe000c
/-- NVW_OP_INFO, R308. -/
abbrev NVW_OP_INFO : Nat := 0xe0010
/-- NVW_THRESH, R310. -/
abbrev NVW_THRESH : Nat := 0xe0014
/-- NVW_SCRUB, R310. -/
abbrev NVW_SCRUB : Nat := 0xe0018
/-- NVW_SCRUB_STAT, R311. -/
abbrev NVW_SCRUB_STAT : Nat := 0xe001c
/-- NVW_COUNTS, R311. -/
abbrev NVW_COUNTS : Nat := 0xe0020
/-- NVW_POS_SEL, R312. -/
abbrev NVW_POS_SEL : Nat := 0xe0030
/-- NVW_POS_STAT, R312. -/
abbrev NVW_POS_STAT : Nat := 0xe0034
/-- NVW_PROG_MAX, R312. -/
abbrev NVW_PROG_MAX : Nat := 0xe0038
/-- NVW_LWI_DIGEST, R313. -/
abbrev NVW_LWI_DIGEST : Nat := 0xe0040
/-- NVW_REWEAVE, R314. -/
abbrev NVW_REWEAVE : Nat := 0xe0080
/-- NVW_LOG_COUNT, R314. -/
abbrev NVW_LOG_COUNT : Nat := 0xe0084
/-- NVW_PROG_CFG, R314. -/
abbrev NVW_PROG_CFG : Nat := 0xe0088
/-- NVW_LWS_TIMEOUT, R314. -/
abbrev NVW_LWS_TIMEOUT : Nat := 0xe008c
/-- DMP_STATUS, R576. -/
abbrev DMP_STATUS : Nat := 0xf0000
/-- DMP_CTRL, R576. -/
abbrev DMP_CTRL : Nat := 0xf0004
/-- DMP_SYSTEM, R578. -/
abbrev DMP_SYSTEM : Nat := 0xf0008
/-- DMP_FSEQ, R578. -/
abbrev DMP_FSEQ : Nat := 0xf000c
/-- DMP_SUPPRESSED, R578. -/
abbrev DMP_SUPPRESSED : Nat := 0xf0010
/-- DMP_PEN_SEL, R579. -/
abbrev DMP_PEN_SEL : Nat := 0xf0020
/-- DMP_PEN_STAT, R579. -/
abbrev DMP_PEN_STAT : Nat := 0xf0024
/-- DMP_SP, R580. -/
abbrev DMP_SP : Nat := 0xf0100
/-- TST_STATUS, R582. -/
abbrev TST_STATUS : Nat := 0x100000
/-- TST_CTRL, R582. -/
abbrev TST_CTRL : Nat := 0x100004
/-- TST_INJ, R583. -/
abbrev TST_INJ : Nat := 0x100010
/-- TST_INJ_PICK, R583. -/
abbrev TST_INJ_PICK : Nat := 0x100014
/-- TST_INJ_STAT, R583. -/
abbrev TST_INJ_STAT : Nat := 0x100018
/-- TST_CAP_CTRL, R584. -/
abbrev TST_CAP_CTRL : Nat := 0x100020
/-- TST_CAP_POS, R584. -/
abbrev TST_CAP_POS : Nat := 0x100024
/-- TST_CAP_ADDR_LO, R584. -/
abbrev TST_CAP_ADDR_LO : Nat := 0x100028
/-- TST_CAP_ADDR_HI, R584. -/
abbrev TST_CAP_ADDR_HI : Nat := 0x10002c
/-- TST_CAP_STAT, R584. -/
abbrev TST_CAP_STAT : Nat := 0x100030
/-- TST_BIST, R585. -/
abbrev TST_BIST : Nat := 0x100040
/-- TST_BIST_STAT, R585. -/
abbrev TST_BIST_STAT : Nat := 0x100044
/-- TST_BIST_COUNT, R585. -/
abbrev TST_BIST_COUNT : Nat := 0x100048
/-- TIL_ID, R62. -/
abbrev TIL_ID : Nat := 0x110000
/-- TIL_STATE, R63. -/
abbrev TIL_STATE : Nat := 0x110004
/-- TIL_CTRL, R64. -/
abbrev TIL_CTRL : Nat := 0x110008
/-- TIL_PICK, R65. -/
abbrev TIL_PICK : Nat := 0x11000c
/-- TIL_SEQ, R65. -/
abbrev TIL_SEQ : Nat := 0x110010
/-- TIL_NVW_ERR, R67. -/
abbrev TIL_NVW_ERR : Nat := 0x110020
/-- TIL_NVW_THRESH, R67. -/
abbrev TIL_NVW_THRESH : Nat := 0x110024
/-- TIL_NVW_LOG, R67. -/
abbrev TIL_NVW_LOG : Nat := 0x110028
/-- TIL_SP_ERR, R68. -/
abbrev TIL_SP_ERR : Nat := 0x110030
/-- TIL_SP_LOG, R68. -/
abbrev TIL_SP_LOG : Nat := 0x110034
/-- TIL_HAZ, R69. -/
abbrev TIL_HAZ : Nat := 0x110040
/-- TIL_HAZ_CAP, R69. -/
abbrev TIL_HAZ_CAP : Nat := 0x110044
/-- TIL_HAZ_COUNT, R69. -/
abbrev TIL_HAZ_COUNT : Nat := 0x110048
/-- TIL_ARITH, R70. -/
abbrev TIL_ARITH : Nat := 0x110050
/-- TIL_WIN_WEFT, R71. -/
abbrev TIL_WIN_WEFT : Nat := 0x110060
/-- TIL_ARR, R72. -/
abbrev TIL_ARR : Nat := 0x110080
/-- TIL_PERF_MAC, R73. -/
abbrev TIL_PERF_MAC : Nat := 0x1100c0
/-- TIL_PERF_NVW_IDLE, R73. -/
abbrev TIL_PERF_NVW_IDLE : Nat := 0x1100c4
/-- TIL_PERF_STALL, R73. -/
abbrev TIL_PERF_STALL : Nat := 0x1100c8
/-- TIL_CAL_0, R74. -/
abbrev TIL_CAL_0 : Nat := 0x1100e0
/-- TIL_CAL_1, R74. -/
abbrev TIL_CAL_1 : Nat := 0x1100e4
/-- TIL_EXCL_ADDR, R75. -/
abbrev TIL_EXCL_ADDR : Nat := 0x1100f0
/-- TIL_EXCL_DATA, R75. -/
abbrev TIL_EXCL_DATA : Nat := 0x1100f4
/-- TIL_WIN_SPOOL, R71. -/
abbrev TIL_WIN_SPOOL : Nat := 0x110064
end R

/-! ### The rows -/

/-- The rows of HC_. -/
def regsHC : List RegRow := [
  ⟨0x0, 0, 1, 0x1000100, 0x0, 0x0, 0xffffff00, 0x0, 0x0, 0x0, false⟩,
  ⟨0x4, 0, 1, 0x0, 0x0, 0x0, 0x0, 0x1, 0xf0000000, 0x0, false⟩,
  ⟨0x8, 0, 1, 0x0, 0x0, 0x0, 0xffffffff, 0x0, 0x0, 0x0, false⟩,
  ⟨0xc, 0, 1, 0x0, 0x0, 0x0, 0xffffffff, 0x0, 0x0, 0x0, false⟩,
  ⟨0x10, 0, 1, 0x0, 0x0, 0x0, 0xffffffff, 0x0, 0x0, 0x0, false⟩,
  ⟨0x14, 0, 1, 0x0, 0x0, 0x0, 0xc3ffffff, 0x0, 0x0, 0x0, false⟩,
  ⟨0x20, 4, 4, 0x0, 0xffffffff, 0x0, 0x0, 0x0, 0x0, 0x0, false⟩]

/-- The rows of BOOT_. -/
def regsBOOT : List RegRow := [
  ⟨0x10000, 0, 1, 0x0, 0x0, 0xe000, 0xfff01f0f, 0x0, 0x0, 0x0, false⟩,
  ⟨0x10004, 0, 1, 0x0, 0xc0, 0x0, 0x0, 0x3c, 0xf0000000, 0x0, false⟩,
  ⟨0x10008, 0, 1, 0x0, 0x1, 0x0, 0x0, 0x80000000, 0x0, 0x0, false⟩,
  ⟨0x1000c, 0, 1, 0x0, 0xfffff000, 0x0, 0x0, 0x0, 0x0, 0x0, false⟩,
  ⟨0x10010, 0, 1, 0x0, 0xffffffff, 0x0, 0x0, 0x0, 0x0, 0x0, false⟩,
  ⟨0x10014, 0, 1, 0x0, 0x0, 0x0, 0xf07fffff, 0x0, 0x0, 0x0, false⟩,
  ⟨0x10018, 0, 1, 0x0, 0x0, 0x0, 0xffffff0f, 0x0, 0x0, 0x0, false⟩,
  ⟨0x1001c, 0, 1, 0xa, 0xffff, 0x0, 0x0, 0x0, 0x0, 0xffff, false⟩,
  ⟨0x10020, 4, 4, 0x0, 0x0, 0x0, 0xffffffff, 0x0, 0x0, 0x0, false⟩,
  ⟨0x10030, 0, 1, 0x0, 0x0, 0x0, 0xffff, 0x0, 0x0, 0x0, false⟩]

/-- The rows of ATT_. -/
def regsATT : List RegRow := [
  ⟨0x20000, 0, 1, 0x0, 0x0, 0x0, 0xfff, 0x0, 0x0, 0x0, false⟩,
  ⟨0x20004, 0, 1, 0x0, 0x0, 0x0, 0x0, 0xf, 0xf0000000, 0x0, false⟩,
  ⟨0x20010, 4, 8, 0x0, 0xffffffff, 0x0, 0x0, 0x0, 0x0, 0x0, false⟩,
  ⟨0x20030, 0, 1, 0x0, 0xffffe000, 0x0, 0x0, 0x0, 0x0, 0x0, false⟩,
  ⟨0x20034, 0, 1, 0x0, 0xffffffff, 0x0, 0x0, 0x0, 0x0, 0x0, false⟩,
  ⟨0x20038, 0, 1, 0x0, 0x0, 0x0, 0xffffffff, 0x0, 0x0, 0x0, false⟩,
  ⟨0x2003c, 0, 1, 0x0, 0x0, 0x0, 0x1ff, 0x0, 0x0, 0x0, false⟩,
  ⟨0x20040, 0, 1, 0xa, 0xff, 0x0, 0x0, 0x0, 0x0, 0xff, false⟩,
  ⟨0x20044, 0, 1, 0x0, 0x0, 0x0, 0xffffffff, 0x0, 0x0, 0x0, false⟩,
  ⟨0x20048, 0, 1, 0x0, 0xf, 0x0, 0x0, 0x0, 0x0, 0x0, false⟩]

/-- The rows of SNT_. -/
def regsSNT : List RegRow := [
  ⟨0x30000, 0, 1, 0x1, 0x0, 0x70, 0xf, 0x0, 0x0, 0x0, false⟩,
  ⟨0x30004, 0, 1, 0x1, 0x1, 0x0, 0x0, 0x6, 0xf0000000, 0x0, false⟩,
  ⟨0x30008, 0, 1, 0x0, 0x0, 0x0, 0xffffffff, 0x0, 0x0, 0x0, false⟩,
  ⟨0x3000c, 0, 1, 0x0, 0x0, 0x0, 0xffffffff, 0x0, 0x0, 0x0, false⟩,
  ⟨0x30010, 0, 1, 0x0, 0x0, 0x0, 0xffffffff, 0x0, 0x0, 0x0, false⟩,
  ⟨0x30014, 0, 1, 0x0, 0x0, 0x0, 0xffffffff, 0x0, 0x0, 0x0, false⟩,
  ⟨0x30018, 0, 1, 0x0, 0x0, 0x0, 0xffffffff, 0x0, 0x0, 0x0, false⟩,
  ⟨0x3001c, 0, 1, 0x0, 0x0, 0x0, 0xfffff, 0x0, 0x0, 0x0, false⟩,
  ⟨0x30020, 0, 1, 0x0, 0x0, 0x0, 0xc0ffffff, 0x0, 0x0, 0x0, false⟩,
  ⟨0x30024, 0, 1, 0x0, 0x0, 0x0, 0xffffffff, 0x0, 0x0, 0x0, false⟩,
  ⟨0x30030, 0, 1, 0x0, 0xffffff, 0x0, 0x0, 0x0, 0x0, 0x0, false⟩,
  ⟨0x30034, 0, 1, 0x0, 0x0, 0x0, 0xffffffff, 0x0, 0x0, 0x0, false⟩,
  ⟨0x30038, 0, 1, 0x0, 0x0, 0x0, 0xffffffff, 0x0, 0x0, 0x0, false⟩]

/-- The rows of CVU_. -/
def regsCVU : List RegRow := [
  ⟨0x40000, 0, 1, 0x0, 0x0, 0x0, 0xffffffff, 0x0, 0x0, 0x0, false⟩,
  ⟨0x40004, 0, 1, 0x0, 0x3, 0x0, 0x0, 0x0, 0xf0000000, 0x0, false⟩,
  ⟨0x40100, 64, 64, 0x720, 0x77f, 0x0, 0x0, 0x80000000, 0x0, 0x0, false⟩,
  ⟨0x40104, 64, 64, 0x1edc6f41, 0xffffffff, 0x0, 0x0, 0x0, 0x0, 0x0, false⟩,
  ⟨0x40108, 64, 64, 0x0, 0xffffffff, 0x0, 0x0, 0x0, 0x0, 0x0, false⟩,
  ⟨0x4010c, 64, 64, 0xffffffff, 0xffffffff, 0x0, 0x0, 0x0, 0x0, 0x0, false⟩,
  ⟨0x40110, 64, 64, 0x0, 0xffffffff, 0x0, 0x0, 0x0, 0x0, 0x0, false⟩,
  ⟨0x40114, 64, 64, 0x0, 0x0, 0x0, 0x0, 0xff, 0x0, 0x0, false⟩,
  ⟨0x40118, 64, 64, 0x0, 0x0, 0x0, 0x0, 0xffff, 0x0, 0x0, false⟩,
  ⟨0x4011c, 64, 64, 0x0, 0x0, 0x0, 0x0, 0xffffffff, 0x0, 0x0, false⟩,
  ⟨0x40120, 64, 64, 0x0, 0x0, 0x0, 0xffffffff, 0x0, 0x0, 0x0, false⟩,
  ⟨0x40124, 64, 64, 0x0, 0x0, 0x0, 0xffffffff, 0x0, 0x0, 0x0, false⟩,
  ⟨0x40128, 64, 64, 0x0, 0x0, 0x0, 0xffffffff, 0x0, 0x0, 0x0, false⟩,
  ⟨0x4012c, 64, 64, 0x0, 0x0, 0x0, 0xffffffff, 0x0, 0x0, 0x0, false⟩,
  ⟨0x40130, 64, 64, 0x0, 0x0, 0x0, 0xffffffff, 0x0, 0x0, 0x0, false⟩]

/-- The rows of CLK_. -/
def regsCLK : List RegRow := [
  ⟨0x50000, 0, 1, 0x2, 0x0, 0xf4, 0xb, 0x0, 0x0, 0x0, false⟩,
  ⟨0x50004, 0, 1, 0x0, 0x1, 0x0, 0x0, 0x6, 0xf0000000, 0x1, false⟩,
  ⟨0x50010, 0, 1, 0x0, 0xff, 0x0, 0x0, 0x0, 0x0, 0x0, false⟩,
  ⟨0x50014, 0, 1, 0x0, 0x0, 0x0, 0xc0ffffff, 0x0, 0x0, 0x0, false⟩,
  ⟨0x50020, 0, 1, 0x0, 0xf, 0x0, 0x0, 0x0, 0x0, 0x0, false⟩,
  ⟨0x50024, 0, 1, 0x0, 0x0, 0x0, 0xffffffff, 0x0, 0x0, 0x0, false⟩,
  ⟨0x50030, 0, 1, 0x0, 0x3fff, 0x0, 0x0, 0x0, 0x0, 0x0, false⟩,
  ⟨0x50034, 0, 1, 0x0, 0x0, 0x0, 0xfff, 0x0, 0x0, 0x0, false⟩,
  ⟨0x50040, 0, 1, 0x0, 0x0, 0x0, 0xffffffff, 0x0, 0x0, 0x0, false⟩]

/-- The rows of VPA_. -/
def regsVPA : List RegRow := [
  ⟨0x60000, 0, 1, 0x0, 0x0, 0x1bee, 0x411, 0x0, 0x0, 0x0, false⟩,
  ⟨0x60004, 0, 1, 0x2, 0x2, 0x0, 0x0, 0x4, 0xf0000000, 0x0, false⟩,
  ⟨0x60008, 0, 1, 0x0, 0x0, 0x0, 0xffffffff, 0x0, 0x0, 0x0, false⟩,
  ⟨0x6000c, 0, 1, 0x0, 0x0, 0x0, 0xffffffff, 0x0, 0x0, 0x0, false⟩,
  ⟨0x60010, 0, 1, 0xed8, 0xffff, 0x0, 0x0, 0x0, 0x0, 0xffff, false⟩,
  ⟨0x60020, 0, 1, 0x0, 0x3f, 0x0, 0x0, 0x0, 0x0, 0x0, false⟩,
  ⟨0x60024, 0, 1, 0x0, 0x0, 0x0, 0xffffffff, 0x0, 0x0, 0x0, false⟩,
  ⟨0x60028, 0, 1, 0x0, 0x0, 0x0, 0xffffffff, 0x0, 0x0, 0x0, false⟩,
  ⟨0x6002c, 0, 1, 0x0, 0x0, 0x0, 0xffffffff, 0x0, 0x0, 0x0, false⟩,
  ⟨0x60030, 0, 1, 0x0, 0x3f0f, 0x0, 0x0, 0x0, 0x0, 0x0, false⟩,
  ⟨0x60034, 0, 1, 0x0, 0x0, 0x0, 0xffffff03, 0x0, 0x0, 0x0, false⟩,
  ⟨0x60040, 0, 1, 0x0, 0x3f, 0x0, 0x0, 0x0, 0x0, 0x0, false⟩,
  ⟨0x60044, 0, 1, 0x0, 0x0, 0x0, 0xffffffff, 0x0, 0x0, 0x0, false⟩,
  ⟨0x60048, 0, 1, 0x0, 0x0, 0x0, 0xffff, 0x0, 0x0, 0x0, false⟩,
  ⟨0x6004c, 0, 1, 0x0, 0x0, 0x0, 0xffffffff, 0x0, 0x0, 0x0, false⟩,
  ⟨0x60050, 0, 1, 0x0, 0x7000000f, 0x0, 0x0, 0x80000000, 0x0, 0x0, false⟩,
  ⟨0x60054, 0, 1, 0x0, 0x0, 0x0, 0xffffffff, 0x0, 0x0, 0x0, false⟩,
  ⟨0x60080, 4, 7, 0x0, 0x3ff, 0x0, 0x0, 0x0, 0x0, 0x3ff, false⟩,
  ⟨0x60070, 0, 1, 0x0, 0x0, 0x0, 0xf00f003f, 0x0, 0x0, 0x0, false⟩,
  ⟨0x60074, 0, 1, 0x0, 0x0, 0x0, 0xffffffff, 0x0, 0x0, 0x0, false⟩,
  ⟨0x60078, 0, 1, 0x0, 0x0, 0x0, 0x1ff, 0x0, 0x0, 0x0, false⟩,
  ⟨0x6007c, 0, 1, 0x19, 0xff, 0x0, 0x0, 0x0, 0x0, 0xff, false⟩]

/-- The rows of THM_. -/
def regsTHM : List RegRow := [
  ⟨0x70000, 0, 1, 0x0, 0x0, 0x100, 0xfd, 0x0, 0x0, 0x0, false⟩,
  ⟨0x70004, 0, 1, 0x1, 0x1, 0x0, 0x0, 0x6, 0xf0000000, 0x0, false⟩,
  ⟨0x70008, 0, 1, 0x0, 0x0, 0x0, 0xffffffff, 0x0, 0x0, 0x0, false⟩,
  ⟨0x7000c, 0, 1, 0x0, 0x0, 0x0, 0xffffffff, 0x0, 0x0, 0x0, false⟩,
  ⟨0x70010, 0, 1, 0x320c3023, 0xffffffff, 0x0, 0x0, 0x0, 0x0, 0xffffffff, false⟩,
  ⟨0x70014, 0, 1, 0x5a64525c, 0xffffffff, 0x0, 0x0, 0x0, 0x0, 0xffffffff, false⟩,
  ⟨0x70018, 0, 1, 0x0, 0x0, 0x0, 0x7ffffff, 0x0, 0x0, 0x0, false⟩,
  ⟨0x70020, 0, 1, 0x0, 0x1f3f, 0x0, 0x0, 0x0, 0x0, 0x0, false⟩,
  ⟨0x70024, 0, 1, 0x0, 0x0, 0x0, 0xffffffff, 0x0, 0x0, 0x0, false⟩,
  ⟨0x70028, 0, 1, 0x0, 0x0, 0x0, 0xffffffff, 0x0, 0x0, 0x0, false⟩]

/-- The rows of HLS_. -/
def regsHLS : List RegRow := [
  ⟨0x80000, 0, 1, 0x0, 0x0, 0x3f, 0xc0, 0x0, 0x0, 0x0, false⟩,
  ⟨0x80004, 0, 1, 0x0, 0x3, 0x0, 0x0, 0x4, 0xf0000000, 0x3, false⟩,
  ⟨0x80008, 0, 1, 0x0, 0xfffff00f, 0x0, 0x0, 0x0, 0x0, 0xfffff00f, false⟩,
  ⟨0x8000c, 0, 1, 0x0, 0xffffffff, 0x0, 0x0, 0x0, 0x0, 0xffffffff, false⟩,
  ⟨0x80010, 0, 1, 0x0, 0x0, 0x0, 0xffffffff, 0x0, 0x0, 0x0, false⟩,
  ⟨0x80014, 0, 1, 0x0, 0x0, 0x0, 0xffffffff, 0x0, 0x0, 0x0, false⟩,
  ⟨0x80018, 0, 1, 0x0, 0xfffff01f, 0x0, 0x0, 0x0, 0x0, 0xfffff01f, false⟩,
  ⟨0x8001c, 0, 1, 0x0, 0xffffffff, 0x0, 0x0, 0x0, 0x0, 0xffffffff, false⟩,
  ⟨0x80020, 0, 1, 0x0, 0xfffff000, 0x0, 0x0, 0x0, 0x0, 0xfffff000, false⟩,
  ⟨0x80024, 0, 1, 0x0, 0xffffffff, 0x0, 0x0, 0x0, 0x0, 0xffffffff, false⟩,
  ⟨0x80028, 0, 1, 0x0, 0xffffffff, 0x0, 0x0, 0x0, 0x0, 0xffffffff, false⟩,
  ⟨0x8002c, 0, 1, 0x64, 0xffff, 0x0, 0x0, 0x0, 0x0, 0xffff, false⟩,
  ⟨0x80040, 0, 1, 0x0, 0xf, 0x0, 0x0, 0x0, 0x0, 0xf, false⟩,
  ⟨0x80044, 0, 1, 0x0, 0x70000000, 0x0, 0x0, 0x80000000, 0x0, 0x70000000, false⟩,
  ⟨0x80048, 0, 1, 0x0, 0x0, 0x0, 0xf1f300ff, 0x0, 0x0, 0x0, false⟩,
  ⟨0x8004c, 0, 1, 0x0, 0x0, 0x0, 0xffff, 0x0, 0x0, 0x0, false⟩,
  ⟨0x80050, 0, 1, 0x0, 0x0, 0x0, 0xffffffff, 0x0, 0x0, 0x0, false⟩,
  ⟨0x80054, 0, 1, 0x0, 0x0, 0x0, 0xffffffff, 0x0, 0x0, 0x0, false⟩,
  ⟨0x80058, 0, 1, 0x0, 0x0, 0x0, 0xffffffff, 0x0, 0x0, 0x0, false⟩,
  ⟨0x8005c, 0, 1, 0x0, 0x0, 0x0, 0xffffffff, 0x0, 0x0, 0x0, false⟩,
  ⟨0x80060, 0, 1, 0x0, 0x7f00ffff, 0x0, 0x0, 0x80000000, 0x0, 0x7f00ffff, false⟩,
  ⟨0x80064, 0, 1, 0x0, 0x0, 0x0, 0xffffffff, 0x0, 0x0, 0x0, false⟩,
  ⟨0x80100, 16, 16, 0x0, 0xfffff1ff, 0x0, 0x0, 0x0, 0x0, 0xfffff1ff, false⟩,
  ⟨0x80104, 16, 16, 0x0, 0xffffffff, 0x0, 0x0, 0x0, 0x0, 0xffffffff, false⟩,
  ⟨0x80108, 16, 16, 0x0, 0x0, 0x0, 0x0, 0xffff, 0x0, 0x0, false⟩,
  ⟨0x8010c, 16, 16, 0x0, 0x0, 0x0, 0xffff000f, 0x0, 0x0, 0x0, false⟩]

/-- The rows of WRP_. -/
def regsWRP : List RegRow := [
  ⟨0x90000, 0, 1, 0x0, 0x0, 0xe000, 0x1331, 0x0, 0x0, 0x0, false⟩,
  ⟨0x90004, 0, 1, 0x0, 0x0, 0x0, 0x0, 0x3, 0xf0000000, 0x0, false⟩,
  ⟨0x90008, 0, 1, 0x0, 0x3, 0x0, 0x0, 0x80000000, 0x0, 0x0, false⟩,
  ⟨0x9000c, 0, 1, 0x0, 0x0, 0x0, 0xfff0ffff, 0x0, 0x0, 0x0, false⟩,
  ⟨0x90010, 0, 1, 0x0, 0x0, 0x0, 0xffffffff, 0x0, 0x0, 0x0, false⟩,
  ⟨0x90014, 0, 1, 0x0, 0x7, 0x0, 0x0, 0x80000000, 0x0, 0x0, false⟩,
  ⟨0x90018, 0, 1, 0x0, 0xffffffff, 0x0, 0x0, 0x0, 0x0, 0x0, false⟩,
  ⟨0x9001c, 0, 1, 0x0, 0xffffffff, 0x0, 0x0, 0x0, 0x0, 0x0, false⟩,
  ⟨0x90020, 0, 1, 0x0, 0x0, 0x0, 0xff03ffff, 0x0, 0x0, 0x0, false⟩,
  ⟨0x90030, 4, 4, 0x0, 0x0, 0x0, 0xc0001fff, 0x0, 0x0, 0x0, false⟩,
  ⟨0x90040, 4, 4, 0x0, 0x0, 0x0, 0xffffffff, 0x0, 0x0, 0x0, false⟩,
  ⟨0x90060, 4, 12, 0x0, 0x0, 0x0, 0xffffffff, 0x0, 0x0, 0x0, false⟩,
  ⟨0x90090, 0, 1, 0x0, 0x7, 0x0, 0x0, 0x0, 0x0, 0x0, false⟩,
  ⟨0x90100, 0, 1, 0x0, 0x37ffff, 0x0, 0x0, 0x0, 0x0, 0x0, false⟩,
  ⟨0x90104, 0, 1, 0x0, 0x0, 0x0, 0x7ffff, 0x0, 0x0, 0x0, false⟩,
  ⟨0x90108, 0, 1, 0x0, 0x0, 0x0, 0x80003fff, 0x0, 0x0, 0x0, false⟩,
  ⟨0x90110, 0, 1, 0x0, 0x3f, 0x0, 0x0, 0x0, 0x0, 0x0, false⟩,
  ⟨0x90114, 0, 1, 0x0, 0x0, 0x0, 0xe000ffff, 0x0, 0x0, 0x0, false⟩,
  ⟨0x90118, 0, 1, 0x0, 0x0, 0x0, 0xffff, 0x0, 0x0, 0x0, false⟩]

/-- The rows of PCK_. -/
def regsPCK : List RegRow := [
  ⟨0xa0400, 0, 1, 0x0, 0xff, 0x0, 0x0, 0x0, 0x0, 0x0, false⟩,
  ⟨0xa0404, 0, 1, 0x0, 0x0, 0x0, 0xffffffff, 0x0, 0x0, 0x0, false⟩,
  ⟨0xa0408, 0, 1, 0x0, 0x0, 0x0, 0xffffffff, 0x0, 0x0, 0x0, false⟩,
  ⟨0xa040c, 0, 1, 0x0, 0x0, 0x0, 0xffffffff, 0x0, 0x0, 0x0, false⟩,
  ⟨0xa0410, 0, 1, 0x0, 0x0, 0x0, 0x0, 0x3, 0x0, 0x0, false⟩,
  ⟨0xa0420, 4, 5, 0x0, 0x0, 0xffffffff, 0x0, 0x0, 0x0, 0x0, false⟩,
  ⟨0xa0000, 0, 1, 0x0, 0x0, 0x4000, 0x973f, 0x0, 0x0, 0x0, false⟩,
  ⟨0xa0004, 0, 1, 0x0, 0x0, 0x0, 0xffffffff, 0x0, 0x0, 0x0, false⟩,
  ⟨0xa0008, 0, 1, 0x0, 0x0, 0x0, 0xffff, 0x0, 0x0, 0x0, false⟩,
  ⟨0xa000c, 0, 1, 0x10, 0x11, 0x0, 0x0, 0xe, 0xf0000000, 0x0, false⟩,
  ⟨0xa0010, 0, 1, 0x1c8, 0x0, 0x0, 0xffff, 0x0, 0x0, 0x0, false⟩,
  ⟨0xa0014, 0, 1, 0x184, 0x0, 0x0, 0xffff, 0x0, 0x0, 0x0, false⟩,
  ⟨0xa0018, 0, 1, 0x0, 0x0, 0x0, 0xffffffff, 0x0, 0x0, 0x0, false⟩,
  ⟨0xa001c, 0, 1, 0x1000, 0xffff, 0x0, 0x0, 0x0, 0x0, 0xffff, true⟩,
  ⟨0xa0020, 0, 1, 0x0, 0x0, 0x0, 0xffffffff, 0x0, 0x0, 0x0, false⟩,
  ⟨0xa0024, 0, 1, 0x0, 0x0, 0x0, 0xffffffff, 0x0, 0x0, 0x0, false⟩,
  ⟨0xa0028, 0, 1, 0x0, 0x0, 0x0, 0xffffffff, 0x0, 0x0, 0x0, false⟩,
  ⟨0xa002c, 0, 1, 0x0, 0x0, 0x0, 0xffff, 0x0, 0x0, 0x0, false⟩,
  ⟨0xa0030, 0, 1, 0x0, 0x173, 0x0, 0x0, 0x80000000, 0x0, 0x0, false⟩,
  ⟨0xa0034, 0, 1, 0x0, 0x0, 0x0, 0xffff1f0f, 0x0, 0x0, 0x0, false⟩,
  ⟨0xa0038, 0, 1, 0x0, 0x0, 0x0, 0x7, 0x0, 0x0, 0x0, false⟩,
  ⟨0xa0040, 0, 1, 0x400, 0xffff, 0x0, 0x0, 0x0, 0x0, 0xffff, true⟩,
  ⟨0xa0044, 0, 1, 0x0, 0x0, 0x0, 0xffff003f, 0x0, 0x0, 0x0, false⟩,
  ⟨0xa0048, 0, 1, 0x0, 0x0, 0x0, 0xffffffff, 0x0, 0x0, 0x0, false⟩,
  ⟨0xa004c, 0, 1, 0x0, 0x0, 0x0, 0x1fffffff, 0x0, 0x0, 0x0, false⟩,
  ⟨0xa0050, 0, 1, 0x10000, 0x0, 0x0, 0x7f3f03, 0x0, 0x0, 0x0, false⟩,
  ⟨0xa0054, 0, 1, 0x0, 0x0, 0x80000000, 0xffffff, 0x0, 0x0, 0x0, false⟩,
  ⟨0xa0100, 4, 60, 0x0, 0x3f, 0x0, 0xff0000, 0x0, 0x0, 0x3f, true⟩]

/-- The rows of SKN_. -/
def regsSKN : List RegRow := [
  ⟨0xb0000, 0, 1, 0x0, 0x0, 0x25, 0x1a, 0x0, 0x0, 0x0, false⟩,
  ⟨0xb0004, 0, 1, 0x3, 0x3, 0x0, 0x0, 0xc, 0xf0000000, 0x0, false⟩,
  ⟨0xb0008, 4, 4, 0x0, 0x0, 0x0, 0x1fff1fff, 0x0, 0x0, 0x0, false⟩,
  ⟨0xb0018, 0, 1, 0x0, 0x0, 0x0, 0x1fff1fff, 0x0, 0x0, 0x0, false⟩,
  ⟨0xb0020, 0, 1, 0x1000, 0xfffff, 0x0, 0x0, 0x0, 0x0, 0xfffff, true⟩,
  ⟨0xb0024, 0, 1, 0x10000, 0xfffff, 0x0, 0x0, 0x0, 0x0, 0xfffff, true⟩,
  ⟨0xb0028, 0, 1, 0x2008, 0xffff, 0x0, 0x0, 0x0, 0x0, 0xffff, true⟩,
  ⟨0xb0040, 0, 1, 0x0, 0xf0fff, 0x0, 0x0, 0x0, 0x0, 0x0, false⟩,
  ⟨0xb0044, 0, 1, 0x0, 0x0, 0x0, 0xffffffff, 0x0, 0x0, 0x0, false⟩,
  ⟨0xb0048, 0, 1, 0x0, 0x0, 0x0, 0xffffffff, 0x0, 0x0, 0x0, false⟩,
  ⟨0xb0080, 8, 8, 0x104001, 0x1fffff, 0x0, 0x0, 0x0, 0x0, 0x1fffff, true⟩,
  ⟨0xb0084, 8, 8, 0x0, 0x0, 0x0, 0xff001fff, 0x0, 0x0, 0x0, false⟩,
  ⟨0xb00c0, 0, 1, 0x0, 0x3ff, 0x0, 0x0, 0x0, 0x0, 0x0, false⟩,
  ⟨0xb00c4, 0, 1, 0x0, 0xffffffff, 0x0, 0x0, 0x0, 0x0, 0x0, false⟩,
  ⟨0xb0100, 0, 1, 0x0, 0x0, 0x0, 0xffffffff, 0x0, 0x0, 0x0, false⟩,
  ⟨0xb0104, 0, 1, 0x0, 0x0, 0x0, 0xffffffff, 0x0, 0x0, 0x0, false⟩,
  ⟨0xb0108, 0, 1, 0x0, 0x0, 0x0, 0xffffffff, 0x0, 0x0, 0x0, false⟩,
  ⟨0xb010c, 0, 1, 0x0, 0x0, 0x0, 0xffffffff, 0x0, 0x0, 0x0, false⟩,
  ⟨0xb0110, 0, 1, 0x0, 0x0, 0x0, 0xffffffff, 0x0, 0x0, 0x0, false⟩,
  ⟨0xb0114, 0, 1, 0x0, 0x0, 0x0, 0xffffffff, 0x0, 0x0, 0x0, false⟩,
  ⟨0xb0118, 0, 1, 0x0, 0x0, 0x0, 0xffffffff, 0x0, 0x0, 0x0, false⟩,
  ⟨0xb011c, 0, 1, 0x0, 0x0, 0x0, 0xffffffff, 0x0, 0x0, 0x0, false⟩]

/-- The rows of SPL_. -/
def regsSPL : List RegRow := [
  ⟨0xc0000, 0, 1, 0x0, 0x0, 0x7f, 0x180, 0x0, 0x0, 0x0, false⟩,
  ⟨0xc0004, 0, 1, 0x1, 0x1, 0x0, 0x0, 0x6, 0xf0000000, 0x0, false⟩,
  ⟨0xc0010, 0, 1, 0x0, 0x7f, 0x0, 0x0, 0x0, 0x0, 0x0, false⟩,
  ⟨0xc0014, 0, 1, 0x0, 0x0, 0x0, 0xfffff, 0x0, 0x0, 0x0, false⟩,
  ⟨0xc0018, 0, 1, 0x4000, 0xfffff, 0x0, 0x0, 0x0, 0x0, 0xfffff, false⟩,
  ⟨0xc001c, 0, 1, 0x0, 0x0, 0x0, 0xfffff, 0x0, 0x0, 0x0, false⟩,
  ⟨0xc0020, 0, 1, 0x0, 0x0, 0x0, 0x1ffffff, 0x0, 0x0, 0x0, false⟩,
  ⟨0xc0030, 0, 1, 0x0, 0x0, 0x0, 0xffc00fff, 0x0, 0x0, 0x0, false⟩,
  ⟨0xc0034, 0, 1, 0x0, 0x0, 0x0, 0xffffffff, 0x0, 0x0, 0x0, false⟩,
  ⟨0xc0038, 0, 1, 0x0, 0x0, 0x0, 0xffff1fff, 0x0, 0x0, 0x0, false⟩,
  ⟨0xc003c, 0, 1, 0x0, 0x0, 0x0, 0xffff, 0x0, 0x0, 0x0, false⟩,
  ⟨0xc0040, 0, 1, 0x0, 0x0, 0x0, 0xffffffff, 0x0, 0x0, 0x0, false⟩,
  ⟨0xc0044, 0, 1, 0x0, 0x0, 0x0, 0xffff, 0x0, 0x0, 0x0, false⟩,
  ⟨0xc0048, 0, 1, 0x0, 0x0, 0x20000000, 0xc0000fff, 0x0, 0x0, 0x0, false⟩,
  ⟨0xc004c, 0, 1, 0x0, 0x0, 0x0, 0x1ffffff, 0x0, 0x0, 0x0, false⟩,
  ⟨0xc0050, 0, 1, 0xf0, 0xffff, 0x0, 0x0, 0x0, 0x0, 0xffff, false⟩,
  ⟨0xc0054, 0, 1, 0x2, 0x7, 0x0, 0x0, 0x0, 0x0, 0x7, false⟩,
  ⟨0xc0060, 0, 1, 0x0, 0x3f, 0x0, 0x0, 0x0, 0x0, 0x0, false⟩,
  ⟨0xc0064, 0, 1, 0x0, 0x0, 0x0, 0xffffffff, 0x0, 0x0, 0x0, false⟩,
  ⟨0xc0068, 0, 1, 0x0, 0x0, 0x0, 0xffffffff, 0x0, 0x0, 0x0, false⟩,
  ⟨0xc0070, 0, 1, 0x0, 0xfff, 0x0, 0x0, 0x0, 0x0, 0x0, false⟩,
  ⟨0xc0074, 0, 1, 0x0, 0x0, 0x0, 0xffffff07, 0x0, 0x0, 0x0, false⟩,
  ⟨0xc0080, 0, 1, 0x0, 0x60000fff, 0x0, 0x0, 0x80000000, 0x0, 0x0, false⟩,
  ⟨0xc0084, 0, 1, 0x0, 0x0, 0x0, 0xffffffff, 0x0, 0x0, 0x0, false⟩,
  ⟨0xc0090, 0, 1, 0x0, 0xffff0000, 0x0, 0x0, 0x0, 0x0, 0xffff0000, false⟩,
  ⟨0xc0094, 0, 1, 0x0, 0xffffffff, 0x0, 0x0, 0x0, 0x0, 0xffffffff, false⟩,
  ⟨0xc0098, 0, 1, 0x0, 0xffffffff, 0x0, 0x0, 0x0, 0x0, 0xffffffff, false⟩]

/-- The rows of WFT_. -/
def regsWFT : List RegRow := [
  ⟨0xd0000, 0, 1, 0x0, 0x0, 0xbff, 0x400, 0x0, 0x0, 0x0, false⟩,
  ⟨0xd0004, 0, 1, 0x2, 0x3, 0x0, 0x0, 0x4, 0xf0000000, 0x0, false⟩,
  ⟨0xd0008, 0, 1, 0x40, 0xffff, 0x0, 0x0, 0x0, 0x0, 0xffff, true⟩,
  ⟨0xd000c, 0, 1, 0x1008, 0x1f1f, 0x0, 0x0, 0x0, 0x0, 0x1f1f, true⟩,
  ⟨0xd0010, 0, 1, 0x0, 0x0, 0x0, 0xffc7ffff, 0x0, 0x0, 0x0, false⟩,
  ⟨0xd0014, 0, 1, 0x0, 0x0, 0x0, 0xffffffff, 0x0, 0x0, 0x0, false⟩,
  ⟨0xd0018, 0, 1, 0x0, 0x0, 0x0, 0xffff, 0x0, 0x0, 0x0, false⟩,
  ⟨0xd001c, 0, 1, 0x0, 0x0, 0x0, 0xffff, 0x0, 0x0, 0x0, false⟩,
  ⟨0xd0020, 0, 1, 0x0, 0x0, 0x0, 0xffff, 0x0, 0x0, 0x0, false⟩,
  ⟨0xd0024, 0, 1, 0x0, 0x0, 0x0, 0xffffffff, 0x0, 0x0, 0x0, false⟩,
  ⟨0xd0028, 0, 1, 0x0, 0x0, 0x0, 0xffff, 0x0, 0x0, 0x0, false⟩,
  ⟨0xd0030, 4, 4, 0x0, 0x0, 0xffffffff, 0x0, 0x0, 0x0, 0x0, false⟩,
  ⟨0xd0040, 0, 1, 0x0, 0x7ffff, 0x0, 0x0, 0x0, 0x0, 0x0, false⟩,
  ⟨0xd0044, 0, 1, 0x0, 0x0, 0x0, 0xfff, 0x0, 0x0, 0x0, false⟩,
  ⟨0xd0048, 0, 1, 0x0, 0x0, 0x0, 0xffffffff, 0x0, 0x0, 0x0, false⟩,
  ⟨0xd004c, 0, 1, 0x0, 0x0, 0x0, 0xffffffff, 0x0, 0x0, 0x0, false⟩,
  ⟨0xd0050, 0, 1, 0x0, 0x37f, 0x0, 0x0, 0x0, 0x0, 0x0, false⟩,
  ⟨0xd0054, 0, 1, 0x0, 0x0, 0x0, 0xffffffff, 0x0, 0x0, 0x0, false⟩,
  ⟨0xd0060, 0, 1, 0x0, 0xfffff000, 0x0, 0x0, 0x0, 0x0, 0x0, false⟩,
  ⟨0xd0064, 0, 1, 0x0, 0xffffffff, 0x0, 0x0, 0x0, 0x0, 0x0, false⟩,
  ⟨0xd0068, 0, 1, 0x0, 0xff, 0x0, 0x0, 0x0, 0x0, 0x0, false⟩,
  ⟨0xd006c, 0, 1, 0x0, 0x0, 0x0, 0xffffffff, 0x0, 0x0, 0x0, false⟩,
  ⟨0xd0080, 0, 1, 0x0, 0x7fffffff, 0x0, 0x0, 0x80000000, 0x0, 0x0, false⟩,
  ⟨0xd0084, 0, 1, 0x0, 0x0, 0x0, 0xffffffff, 0x0, 0x0, 0x0, false⟩,
  ⟨0xd0088, 0, 1, 0x0, 0x0, 0x0, 0x8000007f, 0x0, 0x0, 0x0, false⟩]

/-- The rows of NVW_. -/
def regsNVW : List RegRow := [
  ⟨0xe0000, 0, 1, 0x0, 0x0, 0x168, 0xe97, 0x0, 0x0, 0x0, false⟩,
  ⟨0xe0004, 0, 1, 0x3, 0x3, 0x0, 0x0, 0xc, 0xf0000000, 0x0, false⟩,
  ⟨0xe0008, 0, 1, 0x0, 0x707ffff, 0x0, 0x0, 0x80000000, 0x0, 0x0, false⟩,
  ⟨0xe000c, 0, 1, 0x0, 0x0, 0x0, 0xf003ffff, 0x0, 0x0, 0x0, false⟩,
  ⟨0xe0010, 0, 1, 0x0, 0x0, 0x0, 0x7ffff, 0x0, 0x0, 0x0, false⟩,
  ⟨0xe0014, 0, 1, 0x253, 0xf77, 0x0, 0x0, 0x0, 0x0, 0xf77, true⟩,
  ⟨0xe0018, 0, 1, 0x18, 0xffff, 0x0, 0x0, 0x0, 0x0, 0xffff, true⟩,
  ⟨0xe001c, 0, 1, 0x0, 0x0, 0x0, 0xffffffff, 0x0, 0x0, 0x0, false⟩,
  ⟨0xe0020, 0, 1, 0x0, 0x0, 0x0, 0xffffffff, 0x0, 0x0, 0x0, false⟩,
  ⟨0xe0030, 0, 1, 0x0, 0xff, 0x0, 0x0, 0x0, 0x0, 0x0, false⟩,
  ⟨0xe0034, 0, 1, 0x0, 0x0, 0x0, 0xffff, 0x0, 0x0, 0x0, false⟩,
  ⟨0xe0038, 0, 1, 0x0, 0x0, 0x0, 0xffff, 0x0, 0x0, 0x0, false⟩,
  ⟨0xe0040, 4, 12, 0x0, 0x0, 0x0, 0xffffffff, 0x0, 0x0, 0x0, false⟩,
  ⟨0xe0080, 0, 1, 0x0, 0x0, 0x0, 0x800000ff, 0x0, 0x0, 0x0, false⟩,
  ⟨0xe0084, 0, 1, 0x0, 0x0, 0x0, 0x1fff, 0x0, 0x0, 0x0, false⟩,
  ⟨0xe0088, 0, 1, 0x101000, 0x7f1fff, 0x0, 0x0, 0x0, 0x0, 0x7f1fff, true⟩,
  ⟨0xe008c, 0, 1, 0x3e8, 0xffff, 0x0, 0x0, 0x0, 0x0, 0xffff, true⟩]

/-- The rows of DMP_. -/
def regsDMP : List RegRow := [
  ⟨0xf0000, 0, 1, 0x0, 0x0, 0xc, 0xf0000003, 0x0, 0x0, 0x0, false⟩,
  ⟨0xf0004, 0, 1, 0x0, 0x0, 0x0, 0x0, 0xf, 0xf0000000, 0x0, false⟩,
  ⟨0xf0008, 0, 1, 0x0, 0x3fff, 0x0, 0x0, 0x0, 0x0, 0x3fff, false⟩,
  ⟨0xf000c, 0, 1, 0x0, 0x0, 0x0, 0xffffffff, 0x0, 0x0, 0x0, false⟩,
  ⟨0xf0010, 0, 1, 0x0, 0x0, 0x0, 0xffffffff, 0x0, 0x0, 0x0, false⟩,
  ⟨0xf0020, 0, 1, 0x0, 0x7f, 0x0, 0x0, 0x0, 0x0, 0x0, false⟩,
  ⟨0xf0024, 0, 1, 0x0, 0x0, 0x0, 0xff80ffff, 0x0, 0x0, 0x0, false⟩,
  ⟨0xf0100, 4, 64, 0x0, 0x8007ffff, 0x0, 0x0, 0x0, 0x0, 0x8007ffff, false⟩]

/-- The rows of TST_. -/
def regsTST : List RegRow := [
  ⟨0x100000, 0, 1, 0x0, 0x0, 0x0, 0xf000000f, 0x0, 0x0, 0x0, false⟩,
  ⟨0x100004, 0, 1, 0x0, 0x1, 0x0, 0x0, 0x0, 0xf0000000, 0x0, false⟩,
  ⟨0x100010, 0, 1, 0x2000000, 0x7e07ffff, 0x0, 0x0, 0x80000000, 0x0, 0x0, false⟩,
  ⟨0x100014, 0, 1, 0xffffffff, 0xffffffff, 0x0, 0x0, 0x0, 0x0, 0x0, false⟩,
  ⟨0x100018, 0, 1, 0x0, 0x0, 0x0, 0xf0000000, 0x0, 0x0, 0x0, false⟩,
  ⟨0x100020, 0, 1, 0x0, 0xfff, 0x0, 0x0, 0x80000000, 0x0, 0x0, false⟩,
  ⟨0x100024, 0, 1, 0x0, 0xffffffff, 0x0, 0x0, 0x0, 0x0, 0x0, false⟩,
  ⟨0x100028, 0, 1, 0x0, 0xfffff000, 0x0, 0x0, 0x0, 0x0, 0x0, false⟩,
  ⟨0x10002c, 0, 1, 0x0, 0xffffffff, 0x0, 0x0, 0x0, 0x0, 0x0, false⟩,
  ⟨0x100030, 0, 1, 0x0, 0x0, 0x0, 0xf00000ff, 0x0, 0x0, 0x0, false⟩,
  ⟨0x100040, 0, 1, 0x0, 0xf, 0x0, 0x0, 0x80000000, 0x0, 0x0, false⟩,
  ⟨0x100044, 0, 1, 0x0, 0x0, 0x0, 0xf007ffff, 0x0, 0x0, 0x0, false⟩,
  ⟨0x100048, 0, 1, 0x0, 0x0, 0x0, 0xffffffff, 0x0, 0x0, 0x0, false⟩]

/-- The rows of TIL_. -/
def regsTIL : List RegRow := [
  ⟨0x110000, 0, 1, 0x0, 0x0, 0x0, 0x7ffff, 0x0, 0x0, 0x0, false⟩,
  ⟨0x110004, 0, 1, 0x0, 0x0, 0x0, 0x3f, 0x0, 0x0, 0x0, false⟩,
  ⟨0x110008, 0, 1, 0x0, 0x1, 0x0, 0x0, 0x1e, 0xf0000000, 0x1, false⟩,
  ⟨0x11000c, 0, 1, 0x0, 0x0, 0x0, 0xffffffff, 0x0, 0x0, 0x0, false⟩,
  ⟨0x110010, 0, 1, 0x0, 0x0, 0x0, 0xfffff, 0x0, 0x0, 0x0, false⟩,
  ⟨0x110020, 0, 1, 0x0, 0x0, 0x3000000, 0xffffff, 0x0, 0x0, 0x0, false⟩,
  ⟨0x110024, 0, 1, 0x4, 0x7, 0x0, 0x0, 0x0, 0x0, 0x7, true⟩,
  ⟨0x110028, 0, 1, 0x0, 0x0, 0x80000000, 0x7ffff, 0x0, 0x0, 0x0, false⟩,
  ⟨0x110030, 0, 1, 0x0, 0x0, 0x1000000, 0xffffff, 0x0, 0x0, 0x0, false⟩,
  ⟨0x110034, 0, 1, 0x0, 0x0, 0x0, 0x1fff, 0x0, 0x0, 0x0, false⟩,
  ⟨0x110040, 0, 1, 0x0, 0x0, 0x1f, 0x0, 0x0, 0x0, 0x0, false⟩,
  ⟨0x110044, 0, 1, 0x0, 0x0, 0x0, 0xffffffff, 0x0, 0x0, 0x0, false⟩,
  ⟨0x110048, 0, 1, 0x0, 0x0, 0x0, 0xffff, 0x0, 0x0, 0x0, false⟩,
  ⟨0x110050, 0, 1, 0x0, 0x0, 0x0, 0xffffffff, 0x0, 0x0, 0x0, false⟩,
  ⟨0x110060, 0, 1, 0xbff0000, 0xfff0fff, 0x0, 0x0, 0x0, 0x0, 0xfff0fff, true⟩,
  ⟨0x110080, 4, 16, 0x0, 0x0, 0x0, 0xffff, 0x0, 0x0, 0x0, false⟩,
  ⟨0x1100c0, 0, 1, 0x0, 0x0, 0x0, 0xffffffff, 0x0, 0x0, 0x0, false⟩,
  ⟨0x1100c4, 0, 1, 0x0, 0x0, 0x0, 0xffffffff, 0x0, 0x0, 0x0, false⟩,
  ⟨0x1100c8, 0, 1, 0x0, 0x0, 0x0, 0xffffffff, 0x0, 0x0, 0x0, false⟩,
  ⟨0x1100e0, 0, 1, 0x0, 0x0, 0x0, 0xffffffff, 0x0, 0x0, 0x0, false⟩,
  ⟨0x1100e4, 0, 1, 0x0, 0x0, 0x0, 0xffffffff, 0x0, 0x0, 0x0, false⟩,
  ⟨0x1100f0, 0, 1, 0x0, 0x7f, 0x0, 0x0, 0x0, 0x0, 0x0, true⟩,
  ⟨0x1100f4, 0, 1, 0x0, 0x0, 0x0, 0xffffffff, 0x0, 0x0, 0x0, false⟩,
  ⟨0x110064, 0, 1, 0xbff0000, 0xfff0fff, 0x0, 0x0, 0x0, 0x0, 0xfff0fff, true⟩]

/-- The rows of the block whose window holds an address: block `k` at `k × 0x10000` (R523); 17 is TIL_. -/
def regsOf (k : Nat) : List RegRow :=
  match k with
  | 0 => regsHC
  | 1 => regsBOOT
  | 2 => regsATT
  | 3 => regsSNT
  | 4 => regsCVU
  | 5 => regsCLK
  | 6 => regsVPA
  | 7 => regsTHM
  | 8 => regsHLS
  | 9 => regsWRP
  | 10 => regsPCK
  | 11 => regsSKN
  | 12 => regsSPL
  | 13 => regsWFT
  | 14 => regsNVW
  | 15 => regsDMP
  | 16 => regsTST
  | 17 => regsTIL
  | _ => []

/-- The row that holds the register at an address. -/
def regRow? (a : Nat) : Option RegRow :=
  (regsOf (a / 0x10000)).find? fun r =>
    decide (r.base ≤ a) && (if r.count = 1 then decide (a = r.base)
      else decide ((a - r.base) % r.stride = 0) && decide ((a - r.base) / r.stride < r.count))

end Sys2Proof.Machine
end

