-- ==== Sys2Proof/Machine/RegVal.lean ====
section
/-!
DEFINITION. Register values: the reset value of every register, cutting a field out of a word and putting one in, and reading and
writing a bank. A bank is keyed by `instance × 2^26 + address`: the instance is 0 for a register of its own, and the port,
position, channel, field … for a register that a selector shows (R6, and the selector's own rule).
-/
namespace Sys2Proof.Machine

/-- The key of instance `i` of the register at address `a`. -/
def rkey (a i : Nat) : Nat := i * 2 ^ 26 + a

/-- Reset role of a port: ports 0 and 8 HOST, ports 1 and 9 LWS, the others SPARE, by the factory boot map (R375). -/
def bootRole (p : Nat) : Nat := if p = 0 ∨ p = 8 then 1 else if p = 1 ∨ p = 9 then 2 else 0

/-- Reset VL setpoints by depth (R425). -/
def setptReset (d : Nat) : Nat :=
  match d with
  | 0 => 720
  | 1 => 720
  | 2 => 680
  | 3 => 670
  | 4 => 660
  | 5 => 650
  | _ => 640

/-- The reset value of a key: the tables' reset column, with the four registers whose reset depends on the instance. -/
def regReset (k : Nat) : Word :=
  let a := k % 2 ^ 26
  let i := k / 2 ^ 26
  if R.VPA_VL_SETPT ≤ a ∧ a < R.VPA_VL_SETPT + 28 then BitVec.ofNat 32 (setptReset ((a - R.VPA_VL_SETPT) / 4))
  else if a = R.HLS_PORT_STAT then BitVec.ofNat 32 (bootRole i * 2 ^ 20)
  else if a = R.SKN_NUM then 4096
  else match regRow? a with
    | some r => BitVec.ofNat 32 r.reset
    | none => 0

/-- The value of a field of a word. -/
def fldOf (f : Fld) (r : Word) : Nat := bitsOf r.toNat f.lo f.w

/-- A word with a field replaced; every other bit stays. -/
def fldPut (f : Fld) (v : Nat) (r : Word) : Word := BitVec.ofNat 32 (bitsPut r.toNat f.lo f.w v)

/-- The register of key `k` in a bank. -/
def bankReg (k : Nat) (b : SMap Word) : Word := smGet (regReset k) k b

/-- A bank with the register of key `k` written. -/
def bankPut (k : Nat) (v : Word) (b : SMap Word) : SMap Word := smSet (regReset k) k v b

/-- Field `f` of instance `i`. -/
def bankGet (f : Fld) (i : Nat) (b : SMap Word) : Nat := fldOf f (bankReg (rkey f.reg i) b)

/-- Field `f` of instance `i` replaced. -/
def bankSet (f : Fld) (i v : Nat) (b : SMap Word) : SMap Word :=
  bankPut (rkey f.reg i) (fldPut f v (bankReg (rkey f.reg i) b)) b

/-- Add to a field that saturates at its largest value (the counts of every table). -/
def bankAdd (f : Fld) (i n : Nat) (b : SMap Word) : SMap Word :=
  bankSet f i (satAdd (2 ^ f.w - 1) (bankGet f i b) n) b

/-- The masks of a register's bits that the tables do not show as written: bits [31:2] of PCK_ARITH_MAP_4 and bits [31:24] of
WFT_SEAM_FAIL_3 are RES-0 (R106, R188). -/
def res0Mask (a : Nat) : Nat :=
  if a = R.PCK_ARITH_MAP + 16 then 3 else if a = R.WFT_SEAM_FAIL + 12 then 0xFFFFFF else 0xFFFFFFFF

end Sys2Proof.Machine
end

