-- ==== Sys2Proof/Machine/Sha384.lean ====
section
/-!
DEFINITION. SHA-384, the digest that the spec names for darn maps, chunks, global records, fields and firmware bodies (R278, R280,
R322, R328, R501). The algorithm itself is FIPS 180-4's: PRESUMED, log entry 6.
-/
namespace Sys2Proof.Machine

/-- The primes from `n` on, `k` candidates tried, given those below `n`. -/
def primesFrom : Nat → Nat → List Nat → List Nat
  | 0, _, _ => []
  | k + 1, n, below =>
    if below.any fun p => decide (n % p = 0) then primesFrom k (n + 1) below
    else n :: primesFrom k (n + 1) (below ++ [n])

/-- The first eighty primes: 2 to 409. -/
def eightyPrimes : List Nat := primesFrom 408 2 []

/-- The largest `r` below `2 ^ b` that, added to `r0`, has an `e`-th power of at most `n`: the root found bit by bit. -/
def rootBits (e n : Nat) : Nat → Nat → Nat
  | 0, r => r
  | b + 1, r => rootBits e n b (if (r + 2 ^ b) ^ e ≤ n then r + 2 ^ b else r)

/-- The first 64 bits of the fraction of the `e`-th root of `p`. -/
def rootFrac (e p : Nat) : BitVec 64 := BitVec.ofNat 64 (rootBits e (p * 2 ^ (64 * e)) 69 0)

/-- The round constants: fractions of the cube roots of the first eighty primes. -/
def shaK : List (BitVec 64) := eightyPrimes.map (rootFrac 3)

/-- The initial hash value of SHA-384: fractions of the square roots of the ninth to the sixteenth prime. -/
def shaH0 : List (BitVec 64) := ((eightyPrimes.drop 8).take 8).map (rootFrac 2)

/-- The words of a message, big-endian, eight bytes each. -/
def beWords : List Byte → List (BitVec 64)
  | a :: b :: c :: d :: e :: f :: g :: h :: t =>
    (a ++ b ++ c ++ d ++ e ++ f ++ g ++ h : BitVec 64) :: beWords t
  | _ => []

/-- The message schedule grown by `n` words; the list holds the latest word first. -/
def shaSchedule : Nat → List (BitVec 64) → List (BitVec 64)
  | 0, w => w
  | n + 1, w =>
    let x2 := w.getD 1 0
    let x15 := w.getD 14 0
    let s1 := x2.rotateRight 19 ^^^ x2.rotateRight 61 ^^^ (x2 >>> 6)
    let s0 := x15.rotateRight 1 ^^^ x15.rotateRight 8 ^^^ (x15 >>> 7)
    shaSchedule n ((s1 + w.getD 6 0 + s0 + w.getD 15 0) :: w)

/-- The rounds over pairs of schedule word and constant. -/
def shaRounds : List (BitVec 64 × BitVec 64) → List (BitVec 64) → List (BitVec 64)
  | [], v => v
  | (w, k) :: r, v =>
    match v with
    | [a, b, c, d, e, f, g, h] =>
      let t1 := h + (e.rotateRight 14 ^^^ e.rotateRight 18 ^^^ e.rotateRight 41) + ((e &&& f) ^^^ (~~~e &&& g)) + k + w
      let t2 := (a.rotateRight 28 ^^^ a.rotateRight 34 ^^^ a.rotateRight 39) + ((a &&& b) ^^^ (a &&& c) ^^^ (b &&& c))
      shaRounds r [t1 + t2, a, b, c, d + t1, e, f, g]
    | _ => v

/-- One block of sixteen words absorbed. -/
def shaBlock (h blk : List (BitVec 64)) : List (BitVec 64) :=
  let w := (shaSchedule 64 blk.reverse).reverse
  (h.zip (shaRounds (w.zip shaK) h)).map fun p => p.1 + p.2

/-- `n` blocks absorbed. -/
def shaBlocks : Nat → List (BitVec 64) → List (BitVec 64) → List (BitVec 64)
  | 0, h, _ => h
  | n + 1, h, ws => shaBlocks n (shaBlock h (ws.take 16)) (ws.drop 16)

/-- The SHA-384 of a byte list: 48 bytes. -/
def sha384 (m : List Byte) : List Byte :=
  let pad := (128 - (m.length + 17) % 128) % 128
  let full := m ++ (0x80#8 :: zeroBytes pad) ++ (leBytes 16 (8 * m.length)).reverse
  let h := shaBlocks (full.length / 128) shaH0 (beWords full)
  (h.take 6).flatMap fun x => (leBytes 8 x.toNat).reverse

end Sys2Proof.Machine
end

