-- ==== Sys2Proof/Machine/State.lean ====
section
/-!
DEFINITION. The state of the block, as plain data: every register, queue, buffer, counter, mode and pin that the spec gives the
device, the commands that wait, and the state right after power-on reset. Structures of the parts first, by chapter.
-/
namespace Sys2Proof.Machine

/-! ### The tile (R26 to R75, R351 to R363) -/

/-- A shuttle: its 32-byte header as a number (R159) and its payload bytes. -/
structure Shuttle where
  hdr : Nat
  payload : List Byte
  deriving DecidableEq, Repr

/-- A write made in the current turn of the slot wheel, not yet visible (R46): slot, byte address, bytes. -/
structure Staged where
  slot : Nat
  addr : Nat
  data : List Byte
  deriving DecidableEq, Repr

/-- An access of the current turn: slot, line, whether it wrote (R48). -/
structure Access where
  slot : Nat
  line : Nat
  write : Bool
  deriving DecidableEq, Repr

/-- A stream command in the port queue (R34): kind (0 FIXED, 1 ROUTED, 2 UNION), descriptor line, selection position, lane,
and how many expert-lane pairs of a UNION have been served (R37). -/
structure StreamCmd where
  kind : Nat
  line : Nat
  j : Nat
  lane : Nat
  served : Nat
  deriving DecidableEq, Repr

/-- A register result of fixed-slot mode that is not yet due (R357): due time, issue time, register, value. -/
structure PendRes where
  due : Nat
  issue : Nat
  reg : Nat
  val : Word
  deriving DecidableEq, Repr

/-- A scratchpad access of fixed-slot mode that waits for its slot (R359): access time, issue time, address, and either a load
(`byte` tells LDB from LDW) into a register or a store of bytes. -/
structure PendAcc where
  at' : Nat
  issue : Nat
  addr : Nat
  load : Bool
  byte : Bool
  reg : Nat
  data : List Byte
  deriving DecidableEq, Repr

/-- A write of fixed-slot mode that becomes visible at a program time (R359). -/
structure PendWrite where
  due : Nat
  addr : Nat
  data : List Byte
  deriving DecidableEq, Repr

/-- An accumulator set: its nonzero accumulators, its exponent Q (R85), the poison mark of the whole pass (R39), the lanes whose pass is
poisoned (R36), and the shape that filled it. -/
structure AccSet where
  vals : SMap Int
  q : Int
  poison : Bool
  bad : List Nat
  lanes : List Nat
  shape : Nat
  lane : Nat
  deriving DecidableEq, Repr

/-- A row that the port holds: its number, its 128 bytes as they were delivered, and whether it was uncorrectable (R34, R37, R39). -/
structure PortRow where
  row : Nat
  data : List Byte
  bad : Bool
  deriving DecidableEq, Repr

/-- What the fold and edge unit works on (R30, R55): the sets it drains, turns until it is through (the last of 5 is its latency of 6 cycles,
the 4 before drain the set), and what it then writes to the scratchpad or hands the router. -/
structure DrainRun where
  sets : List Nat
  left : Nat
  addr : Nat
  data : List Byte
  shs : List Shuttle
  deriving DecidableEq, Repr

/-- An accumulator set that completes at a program time of fixed-slot mode (R359). -/
structure PendSet where
  due : Nat
  set : Nat
  val : AccSet
  deriving DecidableEq, Repr

/-- A spool request issued by a tile (R56, R354): its number, write bit, spool virtual address, first line, units of 64 B, lane
and, for a write, its data; and its translation once it has one (R218): `some (some f)` frame `f`, `some none` no valid leaf. `poison` is the mark of the
pass that wrote (R202). `ctrl` is the router at whose SPOOL port the channel controller stands that has the request or awaits it, and `away` the
SPOOL_REQ shuttles still on the weft to it (R218). -/
structure SpoolReq where
  id : Nat
  write : Bool
  sva : Nat
  line : Nat
  units : Nat
  lane : Nat
  data : List Byte
  xlat : Option (Option Nat)
  poison : Bool
  ctrl : Nat
  away : Nat
  deriving DecidableEq, Repr

/-- A spool response on its way to a tile (R56): the request it answers, read data, or a fault completion, and how many of its
shuttles are still on the weft from the controller at router `ctrl`. -/
structure SpoolRsp where
  id : Nat
  write : Bool
  line : Nat
  fault : Bool
  data : List Byte
  ctrl : Nat
  away : Nat
  deriving DecidableEq, Repr

/-- A tile: everything the spec gives it beyond what stands in another unit. -/
structure Tile where
  /-- State of R58. -/
  st : Nat
  /-- Pattern slot last loaded (R63). -/
  slot : Nat
  /-- The registers g1 to g31 (R353). -/
  g : SMap Word
  /-- The link register (R353). -/
  lk : Word
  /-- The program counter (R353). -/
  pc : BitVec 16
  /-- The pick program is running: restarted and not yet at DONE (R54). -/
  active : Bool
  /-- The program of this pick has executed DONE (R51). -/
  doneExec : Bool
  /-- The tile has reported done for this pick (R51). -/
  reported : Bool
  /-- A strobe arrived before DONE and is held for the next restart (R54). -/
  strobeHeld : Bool
  /-- A halt request waits for the next DONE (R59). -/
  haltReq : Bool
  /-- A rewritten static area waits for the next strobe (R59). -/
  reloaded : Bool
  /-- Entry points of the four modes (R315). -/
  entry : SMap Nat
  /-- The scratchpad (R40). -/
  scratch : SMap Byte
  /-- Writes of the current turn (R46). -/
  staged : List Staged
  /-- Accesses of the current turn (R48). -/
  accesses : List Access
  /-- Accumulator sets 0 and 1 (R26, R30). -/
  acc0 : AccSet
  acc1 : AccSet
  /-- Stream commands in the port queue, at most 4 (R34). -/
  queue : List StreamCmd
  /-- The NVW column: 65,536 rows of 128 bytes (R31). -/
  nvw : SMap Byte
  /-- Rows that service delivers next with other bytes than the column's: zeros for an uncorrectable row (R39), wrong bytes (R38). -/
  rowOvr : SMap (List Byte)
  /-- Rows whose last read, in service or by the scrub, was uncorrectable (R39, R286). -/
  ueRows : SMap Bool
  /-- The staging buffer: at most 128 rows (R34). -/
  staging : List PortRow
  /-- The replay buffer: at most 192 rows (R37). -/
  replay : List PortRow
  /-- The fold and edge unit at work (R30, R55), and the shuttles it has built that wait for room in the local port (R158). -/
  drain : Option DrainRun
  building : List Shuttle
  /-- The 4 KiB instruction buffer: the first instruction it holds, and its bytes by scratchpad address (R54, R360). -/
  ibufAt : Nat
  ibuf : SMap Byte
  /-- Selection words by lane, once the selection shuttle of the pick has arrived (R36). -/
  sel : SMap Nat
  selHere : Bool
  /-- The exclusive map: 96 words (R48, R75). -/
  excl : SMap Word
  /-- Arrival counters (R50). -/
  arr : SMap Nat
  /-- Windows that the counters are bound to: first and last line (R50, R315). -/
  bind : SMap (Nat × Nat)
  /-- The pass of the slot in the band is poisoned (R24, R48). -/
  poison : Bool
  /-- The pass of the next pick is poisoned too: a darn tile's first pick (R292), the pick after a droop reset (R436). -/
  poisonNext : Bool
  /-- Lanes whose pass is poisoned (R36). -/
  lanePoison : List Nat
  /-- CLAMP_COUNT or SAT_COUNT rose in this pick (R102). -/
  clampRose : Bool
  satRose : Bool
  /-- Ring position of the role, 255 for the idle role (R102, R315). -/
  ringPos : Nat
  /-- Spool requests issued and not yet taken by the channel (R56). -/
  spReqs : List SpoolReq
  /-- Spool requests outstanding: reads and writes (R56). -/
  spReads : Nat
  spWrites : Nat
  /-- Number of the next spool request. -/
  spNext : Nat
  /-- Spool responses on their way back (R56). -/
  spOut : List SpoolRsp
  /-- Spool responses that have reached the tile and wait for their slot (R44). -/
  spIn : List SpoolRsp
  /-- Shuttles injected that have not left the router's local port (R51). -/
  outbox : List Shuttle
  /-- Shuttles ejected to the local port that wait for the weft-in slot (R44). -/
  inbox : List Shuttle
  /-- Program time of fixed-slot mode (R356). -/
  p : Nat
  /-- Pending effects of fixed-slot mode (R357 to R359). -/
  pendRes : List PendRes
  pendAcc : List PendAcc
  pendWrite : List PendWrite
  pendSet : List PendSet
  /-- Program times at which a drained set is free again (R359). -/
  setFree : SMap Nat
  /-- Delay slots left and the target of a taken jump (R358). -/
  delay : Option (Nat × Nat)
  /-- The tile's registers by address in the register map (R61 to R75). -/
  regs : SMap Word
  /-- Registers written since the last strobe, with the value still in force (R61). -/
  held : SMap (Option Word)
  /-- Program count of the weight rows (R285) and the stored section record: rows and CRC (R281). -/
  programs : Nat
  secRows : Nat
  secCrc : Nat
  secTile : Nat
  /-- The tile is programming its column (R281). -/
  programming : Bool
  deriving DecidableEq, Repr

/-- An empty accumulator set. -/
def AccSet.empty : AccSet := ⟨[], 0, false, [], [], 0, 0⟩

/-- A tile as VL comes on or before: OFF, nothing loaded (R58). -/
def Tile.empty : Tile :=
  { st := 0, slot := 0, g := [], lk := 0, pc := 0, active := false, doneExec := false, reported := false,
    strobeHeld := false, haltReq := false, reloaded := false, entry := [], scratch := [], staged := [], accesses := [],
    acc0 := AccSet.empty, acc1 := AccSet.empty, queue := [], nvw := [], rowOvr := [], ueRows := [], staging := [], replay := [],
    drain := none, building := [], ibufAt := 0, ibuf := [],
    sel := [], selHere := false, excl := [], arr := [], bind := [], poison := false, poisonNext := false, lanePoison := [],
    clampRose := false, satRose := false, ringPos := 255, spReqs := [], spReads := 0, spWrites := 0, spNext := 0,
    spOut := [], spIn := [], outbox := [], inbox := [], p := 0, pendRes := [], pendAcc := [], pendWrite := [], pendSet := [],
    setFree := [], delay := none, regs := [], held := [], programs := 0, secRows := 0, secCrc := 0, secTile := 0,
    programming := false }

/-- What a tile's operation reads of the rest of the device: its address, the timing discipline and declared latencies of the
loaded pattern (R349, R364), the mode and pick, the fold group records (R88), and the number of the next free value. -/
structure Ctx where
  addr : Nat
  stepping : Nat
  timing : SMap Nat
  mode : Nat
  pick : Nat
  free : Nat
  foldK : SMap Nat
  deriving DecidableEq, Repr

/-! ### Fault records (R555 to R560) and injections (R571) -/

/-- A fault record on its way to the primary (R556, R558): code, register block, scope, unit, detail, pick and time, flags. -/
structure FaultMsg where
  code : Nat
  block : Nat
  scope : Nat
  unit : Nat
  detail : Nat
  pick : Nat
  time : Nat
  injected : Bool
  suppressed : Bool
  deriving DecidableEq, Repr

/-- An injected fault that has fired and waits for what it acts on (R571): kind, target, count. -/
structure Inj where
  kind : Nat
  target : Nat
  n : Nat
  deriving DecidableEq, Repr

/-- The fault facilities: records on the warp's TELEM class, the log with its FSEQ (R556), and for each unit and code the
millisecond of its last record and whether events were suppressed since (R557); the injection that is armed, with its pick (R571). -/
structure Faults where
  telem : List FaultMsg
  log : List (Nat × FaultMsg)
  last : SMap Nat
  supp : SMap Bool
  armed : Option (Inj × Nat)
  deriving DecidableEq, Repr

/-! ### The weight store (R276 to R314) -/

/-- A queued darn or rotation (R293, R295): the tile, whether it is a rotation, CAUSE of R289, and the group in which it is
served: 0 urgent, 1 urgent rotations, 2 every other. -/
structure DarnReq where
  tile : Nat
  rotation : Bool
  cause : Nat
  group : Nat
  /-- The host has asked for it (R294). -/
  host : Bool
  deriving DecidableEq, Repr

/-- A darn that runs (R292): the request, the darn tile D, the darn tiles already tried, whether its rows are checked, whether
the switch strobe has passed. -/
structure DarnRun where
  req : DarnReq
  d : Nat
  tried : List Nat
  switched : Bool
  /-- The idle role program that D held (R290, R295). -/
  idle : List Byte
  deriving DecidableEq, Repr

/-- A darn log entry (R289). -/
structure DarnEntry where
  fromT : Nat
  toT : Nat
  kind : Nat
  cause : Nat
  pick : Nat
  time : Nat
  deriving DecidableEq, Repr

/-! ### The weft (R156 to R193) -/

/-- A combine slot of a router (R170): its key, the kind, format and element count of the first arrival, ports that have
delivered, the values (with tags for a max fold), contributions, lowest HOPS, poison, and header fields carried on. -/
structure CombSlot where
  router : Nat
  group : Nat
  chunk : Nat
  pick : Nat
  kind : Nat
  fmt : Nat
  nblk : Nat
  ports : List Nat
  vals : List (Int × Nat)
  contrib : Nat
  hops : Nat
  poison : Bool
  hdr : Nat
  deriving DecidableEq, Repr

/-- A flit on a link with its sideband (R161): SEQ, VC, TYPE, SINGLE and its 128 bytes. -/
structure WFlit where
  seq : Nat
  vc : Nat
  type : Nat
  single : Bool
  data : List Byte
  deriving DecidableEq, Repr

/-- The sending end of a link (R176): the next SEQ, the retry buffer of flits not yet acknowledged, oldest first, and the flits of granted
shuttles that have no place in it yet. -/
structure LinkTx where
  next : Nat
  keep : List WFlit
  wait : List WFlit
  deriving DecidableEq, Repr

/-- The weft: router tables (R164, R191), explicit link states (R175), input buffers (R158), combine slots (R170), the link
protocol (R176, R177) with the bytes of a shuttle that has come in part, fold results delivered to the reed (R256), watchdog reports (R178), congestion map (R180), the running swatch test (R182), and for the multicast at the
head of a buffer the mask of ports that have taken their copy (R166). Routers are keyed by
tile address; a link or a buffer by `router × 8 + port`, a buffer of a virtual channel by that times 4 plus the channel. -/
structure Weft where
  field : SMap Nat
  mcast : SMap Nat
  fold : SMap Nat
  links : SMap Nat
  bufs : SMap (List Shuttle)
  slots : List CombSlot
  rxSeq : SMap Nat
  nak : SMap Bool
  tx : SMap LinkTx
  part : SMap (List Byte)
  resent : SMap (Nat × Nat)
  reed : List Shuttle
  wdog : List Nat
  cmapCodes : SMap Nat
  swatch : Option (Nat × List (Nat × Nat))
  copied : SMap Nat
  deriving DecidableEq, Repr

/-! ### The pick master (R111 to R155) -/

/-- The pick master beyond its registers. -/
structure PickMaster where
  /-- The 48-bit pick number (R111), and whether a strobe has gone out since reset. -/
  pick : Nat
  strobed : Bool
  /-- A pick is in progress. -/
  running : Bool
  /-- All-done has arrived for this pick (R116); the reed has handled its position (R115). -/
  allDone : Bool
  reedDone : Bool
  /-- Field whose done bit arrived last (R152). -/
  lastField : Nat
  /-- Causes of the step requested in this pick: bit 0 HOST, 1 LAG, 2 POWER, 3 THERMAL, 4 CHAIN (R128). -/
  causes : Nat
  /-- Host setting that takes effect as a step (R132). -/
  hostStep : Option (Nat × Nat)
  /-- The next strobe carries FLUSH (R112). -/
  flush : Bool
  /-- The drain: strobes since it began, at MIN, as a stop, and the setting it leads to (R131, R132, R142). -/
  drainCount : Nat
  /-- Field cycles of the picks that have ended since the drain was decided, with the one then in progress (R425). -/
  drainCy : Nat
  drainFast : Bool
  drainStop : Bool
  drainTarget : Option (Nat × Nat)
  drainHost : Bool
  /-- Ceilings held by the power and the thermal source (R128, R134). -/
  ceilPower : Nat
  ceilThermal : Nat
  /-- Trim of a chain follower (R139), a change that takes effect at a pick (R140): pick, mode, level, causes. -/
  trim : Int
  chainChange : Option (Nat × Nat × Nat × Nat)
  /-- Causes that a follower sends to the head (R140). -/
  chainCauses : Nat
  /-- A chain buffer is full, or empty when it is needed; the pick in progress has been held by one (R139). -/
  chainFull : Bool
  chainHeld : Bool
  /-- Fields in use whose endpoint has not fired the strobe of this pick; messages held by endpoints, plus 1; the last message. -/
  unfired : List Nat
  strobeAt : SMap Nat
  lastStrobe : Nat
  deriving DecidableEq, Repr

/-- A re-weave variant's mapping of a dark region's tiles, channel lists and strobe delays (R321, R299). -/
structure Variant where
  dark : Nat
  home : List (List (Nat × Nat))
  reserve : List (Nat × Nat)
  delays : List Nat
  mapping : List (Nat × Nat)
  deriving DecidableEq, Repr

/-- The pattern in force (R320, R321): what the device takes from the global record of the slot last loaded. -/
structure Pattern where
  digest : List Byte
  lwiDigest : List Byte
  darnDigest : List Byte
  chainId : Nat
  chainIndex : Nat
  chainLength : Nat
  stepping : Nat
  modes : Nat
  spare : Nat
  logBase : Nat
  serial : Nat
  tileMap : List Byte
  fieldDigests : List (List Byte)
  idleCrc : Nat
  foldK : SMap Nat
  foldN : SMap Nat
  formats : List Nat
  timing : SMap Nat
  parts : List (Bool × Nat)
  variants : List Variant
  spareRoutes : List Byte
  /-- Variant in effect (R330). -/
  variant : Nat
  deriving DecidableEq, Repr

/-! ### Skeins and the reed (R243 to R275) -/

/-- An entry of the skein table (R243), with what the reed holds beside it: prompt units fetched and requested (R251), and the
work that runs on it. -/
structure Skein where
  state : Nat
  swapped : Bool
  part : Nat
  prio : Nat
  sampler : Nat
  pfxUse : Bool
  pfxPub : Bool
  hold : Bool
  missed : Bool
  reason : Nat
  voids : Nat
  lane : Nat
  parkPend : Bool
  deadline : Nat
  committed : Nat
  held : Nat
  heldValid : Bool
  limit : Nat
  next : Nat
  seed : Nat
  ptRoot : Nat
  ringWr : Nat
  ringLog2 : Nat
  ringBase : Nat
  promptBase : Nat
  promptLen : Nat
  ringRd : Nat
  pfxBlocks : Nat
  slot : Nat
  /-- Prompt units of 256 tokens that have arrived (R251). -/
  units : SMap (List Nat)
  /-- Units requested and not yet here. -/
  unitsAsked : List Nat
  /-- The next record carries RESUMED (R255). -/
  resumed : Bool
  /-- Prefix blocks still to be copied: page and source skein (R264). -/
  copies : List (Nat × Nat)
  pfxRun : Bool
  /-- The lookup goes on (R264). -/
  pfxLook : Bool
  /-- Swap out running, restore running (R225, R265), RELEASE waiting (R248) with the command that completes with it. -/
  swapOut : Bool
  restore : Bool
  releasing : Option (Nat × Nat)
  /-- Hash of its last whole committed block (R263), and the tokens committed since. -/
  hash : Nat
  blk : List Nat
  deriving DecidableEq, Repr

/-- The step that a lane carries: skein, position, token. -/
structure Step where
  skein : Nat
  pos : Nat
  token : Nat
  deriving DecidableEq, Repr

/-- A lane-slot: its owner and the step it carries (R251). -/
structure Lane where
  owner : Option Nat
  step : Option Step
  deriving DecidableEq, Repr

/-- An entry of the prefix index (R263). -/
structure PfxEntry where
  bucket : Nat
  hash : Nat
  firstPos : Nat
  source : Nat
  part : Nat
  tokens : List Nat
  deriving DecidableEq, Repr

/-- The reed: the skein table, lane-slots by `slot × 32 + lane`, the sampler table and the words that a write changes at the next
strobe (R259), the prefix index, partitions, and what runs. -/
structure Reed where
  skeins : SMap Skein
  lanes : SMap Lane
  sampler : SMap Word
  samplerNext : SMap (Option Word)
  prefixIdx : List PfxEntry
  /-- SKN_ENT_SEL's latched entry: twelve words (R273). -/
  entry : List Nat
  /-- The skein that pre-emption has chosen to swap out (R265). -/
  target : Option Nat
  /-- The lane-valid mask of the slot last handed to band E (R123). -/
  mask : Nat
  /-- Committed steps (R275). -/
  commits : Nat
  /-- Commits and voids since the last beacon (R396). -/
  ivCommits : Nat
  ivVoids : Nat
  /-- A capture armed (R572): skein, position, and the positions written. -/
  capture : Option (Nat × Nat)
  deriving DecidableEq, Repr

/-! ### What leaves the block -/

/-- What leaves the block through its ports and pins, in order. -/
inductive Out where
  /-- A MEM_WR to host memory on a port: traffic class, address and bytes (R384). -/
  | memWr (port tc addr : Nat) (data : List Byte)
  /-- A MEM_RD of host memory on a port: traffic class, tag, address, bytes (R384). -/
  | memRd (port tc tag addr len : Nat)
  /-- A FLUSH on a port: traffic class, tag, address (R384). -/
  | flush (port tc tag addr : Nat)
  /-- An OBJ_RD to the LWS on a port: tag, object kind, key, offset, length (R405). -/
  | objRd (port tag kind key off len : Nat)
  /-- An OBJ_WR to the LWS on a port: an entry of the darn log copy (R405). -/
  | objWr (port : Nat) (data : List Byte)
  /-- A REG_CPL on a port: tag, status, data (R390). -/
  | regCpl (port tag status : Nat) (data : List Byte)
  /-- An ECHO returned on a port (R384). -/
  | echo (port : Nat) (data : List Byte)
  /-- What a flit on a Helsia port returns (R378, R379, R380): ACK, NAK, credits of TC0, TC1 and TC2. -/
  | ack (port seq : Nat) (nak : Bool) (cr0 cr1 cr2 : Nat)
  /-- Flits resent on a Helsia port from a sequence number (R380). -/
  | resend (port seq count : Nat)
  /-- A link NAK of the weft (R176): router, port, sequence number. -/
  | weftNak (router port seq : Nat)
  /-- Flits resent on a weft link (R176). -/
  | weftResend (router port seq count : Nat)
  /-- A shuttle that leaves toward a selvage die (R165): seam and channel. -/
  | selvage (seam channel : Nat) (sh : Shuttle)
  /-- The reed multicasts to the head tiles the numbers of the buckets it has chosen (R256): pick, lane, bucket numbers. -/
  | gather (pick lane : Nat) (buckets : List Nat)
  /-- A warp message (R333): destination field, or 60 for a controller, and its 64 bits. -/
  | warp (dest msg : Nat)
  /-- A chain TIMING message or its reply on a port: its 32 bytes (R139, R404). -/
  | timing (port : Nat) (data : List Byte)
  /-- A chain HANDOFF sent (R403). -/
  | handoff (port pick lane : Nat) (data : List Byte)
  /-- A handoff that leaves a chain buffer toward the fabric: bond, pick, lane, lane-valid mask, data (R138, R403). -/
  | fromChain (bond pick lane mask : Nat) (data : List Byte)
  /-- A line on the management serial pin (R592, R504). -/
  | mgmt (line : List Byte)
  /-- A level on an output pin (R591). -/
  | pin (name : Nat) (level : Bool)
  deriving DecidableEq, Repr

/-- The beacon's records (R397): the next RSEQ and the latest 64 records as RSEQ, TYPE, PICK and 16 bytes of DATA; BSEQ of the
last beacon (R396). -/
structure Beacon where
  rseq : Nat
  recs : List (Nat × Nat × Nat × List Byte)
  bseq : Nat
  deriving DecidableEq, Repr

/-! ### The host interface (R384 to R402) -/

/-- What a MEM_RD of the device is for (R401). -/
inductive Purpose where
  /-- Prompt unit `u` of a skein (R251). -/
  | prompt (id u : Nat)
  /-- Read count of a skein's token ring (R253). -/
  | ringRd (id : Nat)
  /-- Part `part` of 16 of a swapped frame: skein, and the table word that maps it (R225, R399). -/
  | restore (id leaf part : Nat)
  /-- Entries of a submission ring from a head count (R393). -/
  | sq (ring head : Nat)
  /-- Read count of a completion ring (R393) and of the event ring (R395). -/
  | compRd (ring : Nat)
  | evRd
  /-- A chunk of an installation (R324). -/
  | install (off : Nat)
  /-- A FLUSH that a class of records waits for (R398, R407). -/
  | flush (cls : Nat)
  /-- A FLUSH that ends a swap out (R399) and one that ends a dump or a fetch (R400, R567). -/
  | swapFlush (id : Nat)
  | dumpFlush
  /-- A FLUSH that ends an attestation report (R508). -/
  | report
  deriving DecidableEq, Repr

/-- A read of host memory, or a FLUSH, that waits for its MEM_CPL: tag, port, address, bytes, attempts made, and whether it has been
issued (R401, R402). -/
structure HostRead where
  tag : Nat
  port : Nat
  addr : Nat
  len : Nat
  tries : Nat
  issued : Bool
  why : Purpose
  deriving DecidableEq, Repr

/-- A record that waits in SN (R402, R407): its class (a skein, 4,096 plus a ring, or 4,112 for events), address and bytes. -/
structure HostWrite where
  cls : Nat
  addr : Nat
  data : List Byte
  deriving DecidableEq, Repr

/-- A register access that stalls at the warp bridge (R337). -/
structure Stall where
  port : Nat
  tag : Nat
  write : Bool
  tile : Nat
  off : Nat
  deriving DecidableEq, Repr

/-- The sending side of a Helsia port (R379, R380, R385): the transactions of `out` that it has taken up; those with flits still to be sent
(their place in `out`, class, flits left), in issue order; the retry buffer, as runs of flits in SEQ order (place in `out`, flits); the DATA
flits sent since power on; the credits used, by class; and the flits granted to other classes since TC2, while TC2 had a flit and a credit. -/
structure SendLink where
  taken : Nat
  wait : List (Nat × Nat × Nat)
  kept : List (Nat × Nat)
  sent : Nat
  used : SMap Nat
  turn : Nat
  deriving DecidableEq, Repr

/-- A port that has sent nothing and holds every credit. -/
def SendLink.empty : SendLink := { taken := 0, wait := [], kept := [], sent := 0, used := [], turn := 0 }

/-- The host interface beyond its registers: reads in flight, the next tag, waiting records (R402), the port each class of records
last used and the FLUSHes that hold classes (R398), and by ring the completion records written and read and the entries fetched
(R393); the events waiting (R395). -/
structure HostIf where
  /-- The sending side of each port (R379, R380, R385). -/
  links : SMap SendLink
  /-- Flits that a receive buffer holds, by port × 4 + traffic class (R379). -/
  rxBuf : SMap Nat
  reads : List HostRead
  nextTag : Nat
  queue : List HostWrite
  clsPort : SMap (Option Nat)
  compWr : SMap Nat
  compRd : SMap Nat
  fetched : SMap (List (List Byte))
  nextRing : Nat
  evQueue : List (List Byte)
  evWr : Nat
  evRd : Nat
  swatch : Option (Nat × Nat)
  /-- OBJ_RD in flight to the LWS: tag, kind, byte offset, bytes (R405). -/
  objs : List (Nat × Nat × Nat × Nat)
  /-- Port actions and retrains: training attempts that failed, by port (R381), a DISABLE that waits for training (R407, R409). -/
  trainFails : SMap Nat
  disableNext : SMap Bool
  /-- Link protocol by port (R380): the next flit expected, a NAK that has been sent for the current gap, and the oldest flit resent, by
  number, with how often. -/
  rxSeq : SMap Nat
  nakOut : SMap Bool
  resent : SMap (Nat × Nat)
  /-- New roles that wait for a port to leave DRAINING (R409). -/
  roleNext : SMap (Option Nat)
  /-- Chain handoffs held in the buffers of the bonds: bond, pick, lane, bytes (R403). -/
  chainBuf : List (Nat × Nat × Nat × Nat × List Byte)
  /-- Register accesses that stall at the warp bridge (R337), oldest first. -/
  stalls : List Stall
  deriving DecidableEq, Repr

/-! ### The spool (R194 to R242) -/

/-- A frame on its way back from host memory (R225): the skein, the key of its table word, its band, the frame allocated for it, and the
parts of 4 KiB that lack. -/
structure Coming where
  id : Nat
  key : Nat
  band : Nat
  frame : Nat
  left : Nat
  deriving DecidableEq, Repr

/-- The spool: DRAM bytes by channel (field × 64 + channel) × 2^31 + offset; page table words by RSA / 8 (R216); table blocks in
use (8 KiB each), frames in use by band, frames held by `skein × 128 + band` (R221, R222); translation caches by field × 256 + set,
latest used first, as tag and frame (R218); swap window slots in use with the host address of each, and frames on their way back (R225);
units that a channel's write buffer held after its last write (R195); the channel under a swatch test and its state before
(R231). -/
structure Spool where
  dram : SMap Byte
  tbl : SMap Nat
  blocks : List Nat
  frames : SMap (List Nat)
  owned : SMap Nat
  xc : SMap (List (Nat × Nat))
  slots : List (Nat × Nat)
  coming : List Coming
  wbuf : SMap Nat
  swatch : Option (Nat × Nat)
  deriving DecidableEq, Repr

/-! ### Objects that are fetched (R282, R324, R405) -/

/-- A fetch of an object in order: the source (0 host memory, 1 LWS), the kind and key of the object (or the host address), the
offset of the next byte to ask for, the bytes that the current item lacks, and those of it that have arrived. -/
structure Fetch where
  src : Nat
  kind : Nat
  key : Nat
  off : Nat
  want : Nat
  buf : List Byte
  deriving DecidableEq, Repr

/-! ### The weight store (R276 to R314) -/

/-- A section table entry (R279): placement tile, rows, offset, CRC. -/
structure Section where
  tile : Nat
  rows : Nat
  off : Nat
  crc : Nat
  deriving DecidableEq, Repr

/-- The weight store and the heddle controller's work on it: the running NVW_OP operation (0 none, else OP of R307) and its slot, its
fetch, stage (0 header, 1 tables, 2 payload), chunk, whether the chunk was fetched again, header, section table and chunk digests
(R278 to R282); queued darns and the running one (R292, R293); the darn log (R289) and the factory darn map (R288); rows found
uncorrectable by the last service read (`tile × 65536 + row`), reserve tiles removed, positions of tiles returned to the reserve plus
1, and by tile that has taken a role the tile whose role it is, plus 1 (R292, R295, R312); the region being re-woven (R300); a
rotated tile that is being reprogrammed, with its position and the idle program (R295). -/
structure Nvw where
  op : Nat
  slot : Nat
  fetch : Option Fetch
  stage : Nat
  chunk : Nat
  retried : Bool
  hdr : List Byte
  tables : List Byte
  secs : List Section
  queue : List DarnReq
  run : Option DarnRun
  log : List DarnEntry
  mapHdr : List Byte
  map : List Byte
  mapDigest : List Byte
  lastUe : SMap Bool
  removed : List Nat
  returned : SMap Nat
  roles : SMap Nat
  weave : Option Nat
  rot : Option (Nat × Nat × List Byte)
  /-- Tiles whose rows come from the LWS, as the tile they are for and the tile they go to, the one that is fetched first (R292, R295,
  R300). -/
  jobs : List (Nat × Nat)
  /-- Parts of sections that have come and wait for a tile to end its programming, with their offset in the payload (R281). -/
  backlog : List (Section × Nat × List Byte)
  /-- Entries of the darn log that the copy in the LWS does not have yet (R289). -/
  logOut : List (List Byte)
  /-- The pick master waits for a new XKP (R296, R302), and the digest of the XKP whose cover is gone. -/
  hold : Bool
  cover : List Byte
  /-- Tiles that the entries of an emptied log marked defective, the digest of the XKP that emptied it, and the slots whose images lack
  some of those entries (R289). -/
  bad : List Nat
  logXkp : List Byte
  stale : List Nat
  deriving DecidableEq, Repr

/-! ### The loader (R315 to R348) -/

/-- An installation: slot, fetch, stage (0 header, 1 rest of the global record, 2 images), the global record, and the tiles whose
images have still to come (R324). -/
structure Install where
  slot : Nat
  fetch : Fetch
  stage : Nat
  record : List Byte
  tiles : List Nat
  deriving DecidableEq, Repr

/-- The loader: the running installation, the slot being loaded with its start, the global records of the boot store (R319), the digest of
the last loaded XKP (R326), and warp messages that failed, by field (R333). -/
structure Loader where
  install : Option Install
  load : Option (Nat × Nat)
  store : SMap (List Byte)
  lastDigest : List Byte
  resends : SMap Nat
  deriving DecidableEq, Repr

/-! ### Power (R420 to R453) -/

/-- The power sequencer and the VPA beyond their registers: regions that wait for a ramp and the one in its soft start, each with who asked
(1 VPA_REGION_CTRL, 2 load, 3 re-weave) (R437); samples in a row in a band of the main and the standby input (R420, R421), above 95 %
and at the limit of input current (R422); samples in a row above the path bound, by domain (R433); stretched fields (R434). -/
structure Power where
  wait : List (Nat × Nat)
  ramp : Option (Nat × Nat)
  vinBand : Nat
  vinRun : Nat
  stbyBand : Nat
  stbyRun : Nat
  iinRun : Nat
  limRun : Nat
  pathRun : SMap Nat
  stretch : List Nat
  deriving DecidableEq, Repr

/-! ### Clocks (R454 to R474) -/

/-- The clock unit beyond its registers: the reference input counts as lost (R457); spreading that stops or resumes at the next crest
(R456); relock attempts of a PLL that failed (R459); a field clock that has stopped (R459). -/
structure Clock where
  lost : Bool
  ssc : Option Bool
  tries : SMap Nat
  stopped : List Nat
  deriving DecidableEq, Repr

/-! ### Cooling (R475 to R493) -/

/-- The forecaster and the tray readings beyond their registers: heddle time of the last valid reading (R478), readings of the last
200 ms as time and flow (R484), times since which the flow and the inlet are out of bounds or back in bounds, plus 1 (R484), the
last reading valid (R476), samples in a row at or above the trip value by field and sensor (R486), the first action since cold start
taken (R482), the time since which every prediction is 5 K below, plus 1 (R483), and a coolant stop under way. -/
structure Thermal where
  last : Nat
  valid : Bool
  flows : List (Nat × Nat)
  flowBad : Nat
  flowGood : Nat
  inletBad : Nat
  inletGood : Nat
  trip : SMap Nat
  acted : Bool
  calm : Nat
  stopping : Bool
  deriving DecidableEq, Repr
/-! ### The sentinel (R532 to R540) -/

/-- The sentinel, by segment ID (R532): the CRC of the last complete sweep and the reference, each plus 1; the segments whose sweep of
the current millisecond has not ended, those among them whose sweep is late (R534); a segment of this round has differed; the segments
that have still to capture, those of them whose sweep began after the commit, and restarts of the capture (R535); segments included in
the round. -/
structure Sentinel where
  vals : SMap Nat
  refs : SMap Nat
  sweep : List Nat
  again : List Nat
  differs : Bool
  capture : List Nat
  fresh : List Nat
  restarts : Nat
  round : List Nat
  deriving DecidableEq, Repr

/-! ### Start-up and trust (R494 to R513) -/

/-- The heddle controllers beyond their registers: firmware banks by `controller × 2 + bank` (R500), the bank each runs from, image digests
and handoff versions that run (R501, R512), digests of Rinonty's firmware keys and the enrolled pattern key (R498, R509), rekey
certificates (R511), the next HSS index, the end of the reserved block, bottom trees built and keys generated (R510, R511), reports in the
current second (R508), a report whose FLUSH is out, the mirrored state (R495): darn queue, BSEQ and RSEQ; time of the last heartbeat; a
standby that was restarted (R495); a reset that waits for a dump (R513), as SCOPE and LAST_RESET; when VK came up (R518). -/
structure Trust where
  banks : SMap (List Byte)
  cur : SMap Nat
  digests : SMap (List Byte)
  handoff : SMap Nat
  fwEcdsa : List Byte
  fwHss : List Byte
  patKey : List Byte
  certs : List (List Byte)
  lmsNext : Nat
  lmsEnd : Nat
  trees : Nat
  keys : Nat
  second : Nat
  inSecond : Nat
  report : Bool
  mirror : Option (List DarnReq × Nat × Nat)
  beat : Nat
  retried : Bool
  /-- A controller that a takeover holds in reset, until the next warm or cold reset (R495). -/
  heldReset : Option Nat
  resetWait : Option (Nat × Nat)
  vkTime : Nat
  deriving DecidableEq, Repr

/-! ### Dumps and tests (R562 to R573) -/

/-- A dump that is being written: reason, FSEQ of its record, pick and time of the halt, port (R562, R565). -/
structure DumpRun where
  reason : Nat
  fseq : Nat
  pick : Nat
  time : Nat
  port : Nat
  deriving DecidableEq, Repr

/-- The dump facilities: segments of the dump pen with whether the dump was cut and its bytes (R566), the dump that is being written, a
fetch that waits for its FLUSH, with its result (R567), and the region under BIST (R573). -/
structure Dumps where
  pen : SMap (Option (Bool × List Byte))
  run : Option DumpRun
  fetch : Option Nat
  bist : Option Nat
  deriving DecidableEq, Repr

/-! ### Pins (R591, R592) -/

/-- The sideband pins: RESET_N held low, PWRGOOD, HC_STAT, and the bytes read from MGMT_RX. -/
structure Pins where
  resetLow : Bool
  pwrgood : Bool
  hcStat : Bool
  mgmtIn : List Byte
  deriving DecidableEq, Repr

/-! ### The whole state -/

/-- Why a step stops. -/
inductive Fault where
  /-- The command names a tile, field, port, channel or other instance that the device does not have (R8, R12, R173, R195, R373).
  Raised by onTile and by the few commands with a channel operand. Safe: nothing of the device corresponds to the command. -/
  | noTile
  /-- A sequencer command addresses the scratchpad outside 0x0_0000 to 0x2_FFFF, or a line above 3,071 (R40). Raised by the
  sequencer's loads and stores. Safe: the spec gives no such location. -/
  | scratchAddr
  /-- A register write gives a RES-L bit another value than it read as: "undefined behaviour" (R5, R6). Raised by register writes.
  Safe. -/
  | reslWrite
  deriving DecidableEq, Repr

/-- Why a step has no meaning in the model. -/
inductive Refusal where
  /-- An arm of exec that has no meaning yet. Raised by such an arm only. Safe. -/
  | notModelled (mnemonic : String)
  deriving DecidableEq, Repr

/-- The state of the block: the register bank, with the values in force of registers that wait for a strobe and the latched upper words;
heddle time; the number of the next free value (the model's own field, log entry 4); the units; what has left the block; and the commands
that wait, first in, first out. -/
structure State where
  /-- Every register of R523 but the tiles' own, by `instance × 2^26 + address`. -/
  bank : SMap Word
  /-- Values in force of registers written since the last strobe (R143, R183, R232, R269, R304). -/
  held : SMap (Option Word)
  /-- Upper words latched by a read of the lower one (R526). -/
  latch : SMap (Option Word)
  /-- Heddle time, µs (R455, R530). -/
  timeUs : Nat
  /-- The model's own: number of the next free value. -/
  free : Nat
  tiles : SMap Tile
  flt : Faults
  inj : List Inj
  pat : Pattern
  pm : PickMaster
  weft : Weft
  reed : Reed
  bcn : Beacon
  host : HostIf
  spool : Spool
  nvw : Nvw
  ld : Loader
  pwr : Power
  clk : Clock
  thm : Thermal
  snt : Sentinel
  trust : Trust
  dmp : Dumps
  pins : Pins
  /-- What has left the block, in order. -/
  out : List Out
  /-- The commands that wait. -/
  pending : List Instr
  deriving DecidableEq, Repr

/-! ### The state right after power-on reset -/

/-- No pattern (R325). -/
def Pattern.empty : Pattern :=
  { digest := [], lwiDigest := [], darnDigest := [], chainId := 0, chainIndex := 0, chainLength := 1, stepping := 0, modes := 0, spare := 0,
    logBase := 0, serial := 0, tileMap := [], fieldDigests := [], idleCrc := 0, foldK := [], foldN := [], formats := [], timing := [],
    parts := [], variants := [], spareRoutes := [], variant := 0 }

/-- The pick master: IDLE, pick 0 to come (R111, R141). -/
def PickMaster.empty : PickMaster :=
  { pick := 0, strobed := false, running := false, allDone := false, reedDone := false, lastField := 0, causes := 0, hostStep := none,
    flush := false, drainCount := 0, drainCy := 0, drainFast := false, drainStop := false, drainTarget := none, drainHost := false,
    ceilPower := 0, ceilThermal := 0, trim := 0, chainChange := none, chainCauses := 0, chainFull := false, chainHeld := false, unfired := [], strobeAt := [], lastStrobe := 0 }

/-- The weft: every link as its power says, tables INVALID or empty, buffers empty (R164, R175). -/
def Weft.empty : Weft :=
  { field := [], mcast := [], fold := [], links := [], bufs := [], slots := [], rxSeq := [], nak := [], tx := [], part := [], resent := [], reed := [],
    wdog := [], cmapCodes := [], swatch := none, copied := [] }

/-- The reed: every entry FREE, every lane-slot free, the sampler table 0, the prefix index empty (R243, R259, R263). -/
def Reed.empty : Reed :=
  { skeins := [], lanes := [], sampler := [], samplerNext := [], prefixIdx := [], entry := [], target := none, mask := 0, commits := 0,
    ivCommits := 0, ivVoids := 0, capture := none }

/-- The host interface with nothing under way. -/
def HostIf.empty : HostIf :=
  { reads := [], nextTag := 0, queue := [], clsPort := [], compWr := [], compRd := [], fetched := [], nextRing := 0,
    evQueue := [], evWr := 0, evRd := 0, swatch := none, objs := [], trainFails := [], disableNext := [], rxSeq := [], links := [], rxBuf := [],
    nakOut := [], resent := [], stalls := [], roleNext := [], chainBuf := [] }

/-- The spool: nothing allocated; DRAM reads 0 until it is written (log entry 11). -/
def Spool.empty : Spool :=
  { dram := [], tbl := [], blocks := [], frames := [], owned := [], xc := [], slots := [], coming := [], wbuf := [], swatch := none }

/-- The weight store and its controller: nothing programmed; the factory darn map is what production wrote. -/
def Nvw.empty : Nvw :=
  { op := 0, slot := 0, fetch := none, stage := 0, chunk := 0, retried := false, hdr := [], tables := [], secs := [], queue := [],
    run := none, log := [], mapHdr := sliceB Config.mapHeader 0 64, map := sliceB Config.darnMap 0 34560,
    mapDigest := sha384 (sliceB Config.mapHeader 0 64 ++ sliceB Config.darnMap 0 34560), lastUe := [], removed := [],
    returned := [], roles := [], weave := none, rot := none, jobs := [], backlog := [], logOut := [], hold := false, cover := [], bad := [],
    logXkp := [], stale := [] }

/-- The loader with nothing under way and no record stored. -/
def Loader.empty : Loader := { install := none, load := none, store := [], lastDigest := [], resends := [] }

/-- The power sequencer at rest. -/
def Power.empty : Power :=
  { wait := [], ramp := none, vinBand := 0, vinRun := 0, stbyBand := 0, stbyRun := 0, iinRun := 0, limRun := 0, pathRun := [], stretch := [] }

/-- The clock unit on its reference. -/
def Clock.empty : Clock := { lost := false, ssc := none, tries := [], stopped := [] }

/-- The forecaster before the first reading. -/
def Thermal.empty : Thermal :=
  { last := 0, valid := false, flows := [], flowBad := 0, flowGood := 0, inletBad := 0, inletGood := 0, trip := [], acted := false,
    calm := 0, stopping := false }

/-- The sentinel without a reference (R541). -/
def Sentinel.empty : Sentinel :=
  { vals := [], refs := [], sweep := [], again := [], differs := false, capture := [], fresh := [], restarts := 0, round := [] }

/-- The heddle controllers: firmware and keys as production wrote them, no pattern key enrolled. -/
def Trust.empty : Trust :=
  { banks := [(0, Config.factoryFw 0), (1, Config.factoryFw 1), (2, Config.factoryFw 2), (3, Config.factoryFw 3)], cur := [], digests := [],
    handoff := [], fwEcdsa := Config.fwEcdsaDigest, fwHss := Config.fwHssDigest, patKey := [], certs := [], lmsNext := 0, lmsEnd := 0,
    trees := 1, keys := 0, second := 0, inSecond := 0, report := false, mirror := none, beat := 0, retried := false, heldReset := none, resetWait := none,
    vkTime := 0 }

/-- The state right after power-on reset: every register at its reset value, nothing powered, nothing waiting (R503, R506). -/
def State.reset : State :=
  { bank := [], held := [], latch := [], timeUs := 0, free := 0, tiles := [],
    flt := { telem := [], log := [], last := [], supp := [], armed := none }, inj := [], pat := Pattern.empty, pm := PickMaster.empty,
    weft := Weft.empty, reed := Reed.empty, bcn := { rseq := 0, recs := [], bseq := 0 }, host := HostIf.empty, spool := Spool.empty,
    nvw := Nvw.empty, ld := Loader.empty, pwr := Power.empty, clk := Clock.empty, thm := Thermal.empty, snt := Sentinel.empty,
    trust := Trust.empty, dmp := { pen := [], run := none, fetch := none, bist := none },
    pins := { resetLow := false, pwrgood := false, hcStat := false, mgmtIn := [] }, out := [], pending := [] }

end Sys2Proof.Machine
end

