-- ==== Sys2Proof/Machine/Arith.lean ====
section
/-!
DEFINITION. The integer arithmetic of 03_narrow_arithmetic.md: the rounding rule, weight and activation formats, the
scaling of a pass, widening and combining folds, the residual, narrowing, table functions, exp2, normalisation and the
gated activation. Everything is exact on integers and narrows only where the spec narrows.
-/
namespace Sys2Proof.Machine

/-- `2 ^ n` as an integer. -/
def p2 (n : Nat) : Int := ((2 ^ n : Nat) : Int)

/-- `rne(x / 2^s)` of R84: round to nearest, ties to even; for `s ≤ 0` the exact `x * 2^(-s)`. -/
def rne (x : Int) (s : Int) : Int :=
  if s ≤ 0 then x * p2 (-s).toNat
  else
    let d := p2 s.toNat
    let q := x / d
    let rem := x - q * d
    if 2 * rem > d ∨ (2 * rem = d ∧ q % 2 ≠ 0) then q + 1 else q

/-- The number of significant bits, with `bitlen 0 = 0` (R84). -/
def bitlen (a : Nat) : Nat := if a = 0 then 0 else Nat.log2 a + 1

/-- The nearest value in `[lo, hi]`. -/
def clampI (lo hi z : Int) : Int := if z < lo then lo else if hi < z then hi else z

/-- The nearest two's complement value of `w` bits ("takes the nearest limit"). -/
def satI (w : Nat) (z : Int) : Int := clampI (-(p2 (w - 1))) (p2 (w - 1) - 1) z

/-- Element width of a weight format code (R76); the low nibble picks W4, W3, W2, WT. -/
def wfmtWidth (code : Nat) : Nat :=
  match code % 16 with
  | 1 => 4
  | 2 => 3
  | 3 => 2
  | 4 => 2
  | _ => 0

/-- Stored elements per block of a weight format code (R76): 32 dense, 16 in the 2:4 forms, 8 in the 1:4 forms. -/
def wfmtStored (code : Nat) : Nat :=
  match code / 16 with
  | 0 => 32
  | 1 => 16
  | 2 => 8
  | _ => 0

/-- The code is one of R76's table. -/
def wfmtOk (code : Nat) : Bool :=
  decide (code / 16 < 3) && decide (1 ≤ code % 16) && decide (code % 16 ≤ 4)

/-- Bytes of a weight block (R76, R78): scale, value field, index field. -/
def wfmtBytes (code : Nat) : Nat :=
  if wfmtOk code then
    1 + wfmtWidth code * wfmtStored code / 8 + (if code / 16 = 0 then 0 else wfmtStored code / 4)
  else 0

/-- A weight element from its stored bits (R77). -/
def wElem (code x : Nat) : Int :=
  if code % 16 = 4 then
    match x % 4 with
    | 1 => 1
    | 3 => -1
    | _ => 0
  else sgn (wfmtWidth code) x

/-- The input position that stored element `j` multiplies (R78, R79). -/
def wPos (code idx j : Nat) : Nat :=
  match code / 16 with
  | 0 => j
  | 1 => j / 2 * 4 + bitsOf idx (2 * j) 2
  | _ => j * 4 + bitsOf idx (2 * j) 2

/-- The stored elements of a weight block as (position, value) pairs, from the block's value and index fields. -/
def wElems (code vals idx : Nat) : List (Nat × Int) :=
  (rangeFrom 0 (wfmtStored code)).map fun j =>
    (wPos code idx j, wElem code (bitsOf vals (wfmtWidth code * j) (wfmtWidth code)))

/-- Scale `S` of a weight block and its (position, value) pairs (R78). -/
def wBlock (code : Nat) (bs : List Byte) : Int × List (Nat × Int) :=
  let nv := wfmtWidth code * wfmtStored code / 8
  (sgn 8 (leNat (sliceB bs 0 1)),
   wElems code (leNat (sliceB bs 1 nv)) (leNat (bs.drop (1 + nv))))

/-- The block sum `P` of R85: exact, over the stored elements, with the full activation elements `m`. -/
def blockSum (ws : List (Nat × Int)) (m : Nat → Int) : Int :=
  ws.foldl (fun acc pw => acc + pw.2 * m pw.1) 0

/-- The scaled sum of R85: `P × 2^(C - Q)`, rounded by rne where `C < Q`. -/
def scaledSum (p c q : Int) : Int := rne p (q - c)

/-- One addition to a 24-bit accumulator: the new value, and whether it saturated (R29). -/
def accAdd (acc v : Int) : Int × Bool :=
  let z := acc + v
  (satI 24 z, decide (satI 24 z ≠ z))

/-- Element width of an activation format code (R81). -/
def afmtWidth (code : Nat) : Nat :=
  if code = 0x81 then 8 else if code = 0x82 then 4 else if code = 0x83 then 16 else 0

/-- Bytes of an activation block without outliers (R81). -/
def afmtBytes (code : Nat) : Nat := 1 + 4 * afmtWidth code

/-- The code is one of R81's table. -/
def afmtOk (code : Nat) : Bool := decide (afmtWidth code ≠ 0)

/-- An outlier entry (R82) as a word. -/
def outlierWord (blk pos : Nat) (v : Int) : Nat := (blk % 2048) * 2 ^ 21 + (pos % 32) * 2 ^ 16 + tow 16 v

/-- The markers of A8 block `blk` paired with the outlier entries (R83): a marker with no entry reads 0, an entry
whose position holds no marker is ignored. -/
def outlierAt (entries : List Nat) (blk pos : Nat) : Int :=
  match entries.find? (fun e => decide (bitsOf e 21 11 = blk) && decide (bitsOf e 16 5 = pos)) with
  | some e => sgn 16 e
  | none => 0

/-- Element `i` of an activation block: the signed field, or for an A8 marker its outlier value (R81, R82, R83). -/
def actElem (code : Nat) (bs : List Byte) (entries : List Nat) (blk i : Nat) : Int :=
  let w := afmtWidth code
  let x := bitsOf (leNat (bs.drop 1)) (w * i) w
  if code = 0x81 ∧ x = 0x80 then outlierAt entries blk i else sgn w x

/-- Exponent `E` of an activation block (R81). -/
def actExp (bs : List Byte) : Int := sgn 8 (leNat (sliceB bs 0 1))

/-! ### Folds (R88 to R93) -/

/-- A fold value: `acc × 2^K` in 40 bits (R88). -/
def foldValue (acc : Int) (k : Nat) : Int := acc * p2 k

/-- A sum of two 40-bit values (R89); the loader's check keeps it in range, and the register has 40 bits. -/
def foldAdd (a b : Int) : Int := sgn 40 (tow 40 (a + b))

/-- The max fold of two (value, tag) pairs: the larger value, on a tie the lower tag (R90). -/
def foldMax (a b : Int × Nat) : Int × Nat :=
  if a.1 > b.1 then a else if b.1 > a.1 then b else if a.2 ≤ b.2 then a else b

/-- The order of R90: the larger value first, ties to the lower token. -/
def candBefore (a b : Int × Nat) : Bool := decide (b.1 < a.1) || (decide (a.1 = b.1) && decide (a.2 ≤ b.2))

/-- Insertion in the order of R90; a pair that is there already is not entered again. -/
def candInsert (x : Int × Nat) : List (Int × Nat) → List (Int × Nat)
  | [] => [x]
  | y :: ys => if x = y then y :: ys else if candBefore x y then x :: y :: ys else y :: candInsert x ys

/-- The first 64 pairs by the order of R90 (R256). -/
def topCands (l : List (Int × Nat)) : List (Int × Nat) := (l.foldr candInsert []).take 64

/-- The collector's sum with the residual element `m × 2^E` aligned to `F`, in 48 bits; and whether it saturated (R92). -/
def residualAdd (foldSum m e f : Int) : Int × Bool :=
  let z := foldSum + rne m (f - e)
  (satI 48 z, decide (satI 48 z ≠ z))

/-! ### Narrowing (R94) -/

/-- A narrowed block: exponent, stored elements (0x80 for a marker), outliers as (position, value), and the two counts. -/
structure Narrowed where
  e : Int
  m : List Int
  outliers : List (Nat × Int)
  clamps : Nat
  sats : Nat
  deriving DecidableEq, Repr

/-- The candidates by `|x|` descending, ties to the lower index: pairs come in ascending index. -/
def sortMag : List (Nat × Int) → List (Nat × Int)
  | [] => []
  | x :: xs => insertMagLe x (sortMag xs)
where
  /-- Insertion that keeps the new (lower) index before equal magnitudes. -/
  insertMagLe (x : Nat × Int) : List (Nat × Int) → List (Nat × Int)
    | [] => [x]
    | y :: ys => if y.2.natAbs ≤ x.2.natAbs then x :: y :: ys else y :: insertMagLe x ys

/-- The block exponent of R94 before and after the clamp: `(uncapped, E)`. -/
def narrowExp (fmt h : Nat) (f : Int) (xs : List Int) : Int × Int :=
  let a := if fmt = 0x83 then maxNat (xs.map Int.natAbs) else sumNat (xs.map Int.natAbs)
  let s : Int := if fmt = 0x83 then (bitlen a : Int) - 15 else (bitlen a : Int) - 5 - h
  let u := if a = 0 then f else f + s
  (u, clampI (-128) 127 u)

/-- Narrowing of one block at exponent `f` into format `fmt` with budget `b` and headroom `h` (R94, R95). -/
def narrow (fmt b h : Nat) (f : Int) (xs : List Int) : Narrowed :=
  let ue := narrowExp fmt h f xs
  let e := ue.2
  let capped := decide (ue.1 > 127)
  let q := xs.map fun x => rne x (e - f)
  if fmt = 0x81 then
    let cand := (sortMag (((rangeFrom 0 xs.length).zip (xs.zip q)).filterMap fun t =>
      if (t.2.2).natAbs > 127 then some (t.1, t.2.1) else none)).map Prod.fst
    let kept := cand.take b
    let m := ((rangeFrom 0 q.length).zip q).map fun t =>
      if t.1 ∈ kept then (0x80 : Int)
      else if t.2.natAbs > 127 then (if t.2 < 0 then -127 else 127) else t.2
    let outs := ((rangeFrom 0 q.length).zip q).filterMap fun t =>
      if t.1 ∈ kept then some (t.1, satI 16 t.2) else none
    let sats := if capped then
      (((rangeFrom 0 q.length).zip q).filter fun t => decide (t.1 ∈ kept) && decide (satI 16 t.2 ≠ t.2)).length else 0
    ⟨e, m, outs, cand.length - kept.length, sats⟩
  else if fmt = 0x82 then
    ⟨e, q.map (clampI (-8) 7), [], (q.filter fun z => decide (clampI (-8) 7 z ≠ z)).length, 0⟩
  else
    ⟨e, q.map (satI 16), [],
     0, if capped then (q.filter fun z => decide (satI 16 z ≠ z)).length else 0⟩

/-- Elements of width `w` packed from bit 0 (R81). -/
def packElems (w : Nat) : List Int → Nat
  | [] => 0
  | z :: zs => tow w z + 2 ^ w * packElems w zs

/-- The bytes of a narrowed block (R81). -/
def narrowBytes (fmt : Nat) (n : Narrowed) : List Byte :=
  BitVec.ofNat 8 (tow 8 n.e) :: leBytes (4 * afmtWidth fmt) (packElems (afmtWidth fmt) n.m)

/-! ### Nonlinear functions (R96 to R100), on Q15.16 -/

/-- A table function (R96): base, span exponent, identity flag, and its entries. -/
structure TabFn where
  base : Int
  k : Int
  hiIdent : Bool
  t : List Int
  deriving DecidableEq, Repr

/-- Entry `i` of a table function. -/
def TabFn.at (tab : TabFn) (i : Nat) : Int := tab.t.getD i 0

/-- A table function from its bytes in the static area (R96): only the entries named are decoded. -/
def tabEntry (bytesAt : Nat → Nat → Nat) (i : Nat) : Int := sgn 32 (bytesAt (8 + 4 * i) 4)

/-- `tf(tab, x)` of R97, with the table given by its fields and an entry reader. -/
def tfEval (base k : Int) (hiIdent : Bool) (entry : Nat → Int) (x : Int) : Int :=
  let d := x - base
  if d < 0 then entry 0
  else if d ≥ p2 (k + 17).toNat then (if hiIdent then x else entry 512)
  else
    let sh := (k + 8).toNat
    let i := (d / p2 sh).toNat
    let r := d % p2 sh
    entry i + rne ((entry (i + 1) - entry i) * r) (k + 8)

/-- `tf` on a decoded table. -/
def TabFn.eval (tab : TabFn) (x : Int) : Int := tfEval tab.base tab.k tab.hiIdent tab.at x

/-- `exp2` of an input `t ≤ 0` with the EXP2 table (R98). -/
def exp2 (tab : TabFn) (t : Int) : Int :=
  let n := t / 65536
  let f := t % 65536
  if n ≤ -32 then 0 else rne (tab.eval f) (-n)

/-- The natural exponent of `u` (R98): `exp2(rne(u × 94,548 / 2^16))`. -/
def expNat (tab : TabFn) (u : Int) : Int := exp2 tab (rne (u * 94548) 16)

/-- Division by a positive integer, rounded to nearest with ties to even (R84, R210). -/
def rneDiv (x d : Int) : Int :=
  let q := x / d
  let rem := x - q * d
  if 2 * rem > d ∨ (2 * rem = d ∧ q % 2 ≠ 0) then q + 1 else q

/-- Normalisation of a vector of blocks `(E, elements)` (R99): the inputs of narrowing, each with its exponent `F`. -/
def rmsNorm (invD : Nat) (rsq : Int → Int) (blocks : List (Int × List Int)) : List (Int × List Int) :=
  let emax := blocks.foldl (fun a b => if b.1 > a then b.1 else a) ((blocks.head?.map Prod.fst).getD 0)
  let ss := blocks.foldl (fun a b =>
    a + rne (b.2.foldl (fun t m => t + m * m) 0) (2 * (emax - b.1))) 0
  let ms := rne (ss * invD) 32
  if ms = 0 then blocks.map fun b => (b.1 - emax - 16, b.2.map fun _ => 0)
  else
    let u0 := bitlen ms.toNat - 1
    let u := if u0 % 2 = 1 then u0 - 1 else u0
    let mant := rne (ms * 65536) u
    let rm := rsq mant
    blocks.map fun b => (b.1 - emax - (u / 2 : Nat) - 16, b.2.map fun m => m * rm)

/-- An accumulator at exponent `q` as Q15.16, saturating to 32 bits; and whether it saturated (R100). -/
def accQ1516 (acc q : Int) : Int × Bool :=
  let z := rne acc (-(q + 16))
  (satI 32 z, decide (satI 32 z ≠ z))

/-- The gated activation of R100 at exponent -16, in 48 bits. -/
def gatedAct (act : Int → Int) (vGate vUp : Int) : Int := satI 48 (rne (act vGate * vUp) 16)

/-- The activation of R100 computed from gate and up accumulators, and how many conversions saturated. -/
def gatedElem (act : Int → Int) (accG qG accU qU : Int) : Int × Nat :=
  let g := accQ1516 accG qG
  let u := accQ1516 accU qU
  (gatedAct act g.1 u.1, b2n g.2 + b2n u.2)

end Sys2Proof.Machine
end

