-- ==== Sys2Proof/Machine/Exp2.lean ====
section
/-!
DEFINITION. The EXP2 table of R98: `T[i]` is `2^16 × 2^(i/512)` rounded to nearest, for `i` from 0 to 512. The numbers follow from
the rule's own formula.
-/
namespace Sys2Proof.Machine

/-- Entries 0 to 63. -/
def exp2Tab0 : List Int := [
  65536, 65625, 65714, 65803, 65892, 65981, 66071, 66160, 66250, 66339, 66429, 66519,
  66609, 66700, 66790, 66880, 66971, 67062, 67153, 67244, 67335, 67426, 67517, 67609,
  67700, 67792, 67884, 67976, 68068, 68160, 68252, 68345, 68438, 68530, 68623, 68716,
  68809, 68902, 68996, 69089, 69183, 69276, 69370, 69464, 69558, 69653, 69747, 69841,
  69936, 70031, 70126, 70221, 70316, 70411, 70507, 70602, 70698, 70793, 70889, 70985,
  71082, 71178, 71274, 71371]

/-- Entries 64 to 127. -/
def exp2Tab1 : List Int := [
  71468, 71564, 71661, 71758, 71856, 71953, 72050, 72148, 72246, 72344, 72442, 72540,
  72638, 72736, 72835, 72934, 73032, 73131, 73230, 73330, 73429, 73528, 73628, 73728,
  73828, 73928, 74028, 74128, 74229, 74329, 74430, 74531, 74632, 74733, 74834, 74935,
  75037, 75139, 75240, 75342, 75444, 75547, 75649, 75751, 75854, 75957, 76060, 76163,
  76266, 76369, 76473, 76576, 76680, 76784, 76888, 76992, 77096, 77201, 77305, 77410,
  77515, 77620, 77725, 77830]

/-- Entries 128 to 191. -/
def exp2Tab2 : List Int := [
  77936, 78041, 78147, 78253, 78359, 78465, 78572, 78678, 78785, 78891, 78998, 79105,
  79212, 79320, 79427, 79535, 79642, 79750, 79858, 79967, 80075, 80183, 80292, 80401,
  80510, 80619, 80728, 80837, 80947, 81057, 81166, 81276, 81386, 81497, 81607, 81718,
  81828, 81939, 82050, 82161, 82273, 82384, 82496, 82607, 82719, 82831, 82944, 83056,
  83169, 83281, 83394, 83507, 83620, 83733, 83847, 83960, 84074, 84188, 84302, 84416,
  84531, 84645, 84760, 84875]

/-- Entries 192 to 255. -/
def exp2Tab3 : List Int := [
  84990, 85105, 85220, 85336, 85451, 85567, 85683, 85799, 85915, 86032, 86148, 86265,
  86382, 86499, 86616, 86733, 86851, 86968, 87086, 87204, 87322, 87441, 87559, 87678,
  87796, 87915, 88034, 88154, 88273, 88393, 88513, 88632, 88752, 88873, 88993, 89114,
  89234, 89355, 89476, 89598, 89719, 89840, 89962, 90084, 90206, 90328, 90451, 90573,
  90696, 90819, 90942, 91065, 91188, 91312, 91436, 91559, 91684, 91808, 91932, 92057,
  92181, 92306, 92431, 92557]

/-- Entries 256 to 319. -/
def exp2Tab4 : List Int := [
  92682, 92807, 92933, 93059, 93185, 93311, 93438, 93564, 93691, 93818, 93945, 94072,
  94200, 94327, 94455, 94583, 94711, 94840, 94968, 95097, 95226, 95355, 95484, 95613,
  95743, 95872, 96002, 96132, 96263, 96393, 96524, 96654, 96785, 96916, 97048, 97179,
  97311, 97443, 97575, 97707, 97839, 97972, 98104, 98237, 98370, 98504, 98637, 98771,
  98905, 99039, 99173, 99307, 99442, 99576, 99711, 99846, 99982, 100117, 100253, 100388,
  100524, 100661, 100797, 100934]

/-- Entries 320 to 383. -/
def exp2Tab5 : List Int := [
  101070, 101207, 101344, 101482, 101619, 101757, 101895, 102033, 102171, 102309, 102448, 102587,
  102726, 102865, 103004, 103144, 103283, 103423, 103564, 103704, 103844, 103985, 104126, 104267,
  104408, 104550, 104691, 104833, 104975, 105117, 105260, 105402, 105545, 105688, 105831, 105975,
  106118, 106262, 106406, 106550, 106694, 106839, 106984, 107129, 107274, 107419, 107565, 107710,
  107856, 108002, 108149, 108295, 108442, 108589, 108736, 108883, 109031, 109178, 109326, 109474,
  109623, 109771, 109920, 110069]

/-- Entries 384 to 447. -/
def exp2Tab6 : List Int := [
  110218, 110367, 110517, 110667, 110816, 110967, 111117, 111267, 111418, 111569, 111720, 111872,
  112023, 112175, 112327, 112479, 112631, 112784, 112937, 113090, 113243, 113396, 113550, 113704,
  113858, 114012, 114167, 114321, 114476, 114631, 114787, 114942, 115098, 115254, 115410, 115566,
  115723, 115879, 116036, 116194, 116351, 116509, 116667, 116825, 116983, 117141, 117300, 117459,
  117618, 117777, 117937, 118097, 118257, 118417, 118577, 118738, 118899, 119060, 119221, 119383,
  119544, 119706, 119869, 120031]

/-- Entries 448 to 511. -/
def exp2Tab7 : List Int := [
  120194, 120356, 120519, 120683, 120846, 121010, 121174, 121338, 121502, 121667, 121832, 121997,
  122162, 122328, 122493, 122659, 122825, 122992, 123158, 123325, 123492, 123660, 123827, 123995,
  124163, 124331, 124500, 124668, 124837, 125006, 125176, 125345, 125515, 125685, 125855, 126026,
  126197, 126367, 126539, 126710, 126882, 127054, 127226, 127398, 127571, 127744, 127917, 128090,
  128263, 128437, 128611, 128785, 128960, 129135, 129310, 129485, 129660, 129836, 130012, 130188,
  130364, 130541, 130718, 130895]

/-- Entries 512 to 512. -/
def exp2Tab8 : List Int := [
  131072]

/-- The EXP2 table (R98): BASE 0, K = -1. -/
def exp2Table : TabFn := { base := 0, k := -1, hiIdent := false, t := exp2Tab0 ++ exp2Tab1 ++ exp2Tab2 ++ exp2Tab3 ++ exp2Tab4 ++ exp2Tab5 ++ exp2Tab6 ++ exp2Tab7 ++ exp2Tab8 }

end Sys2Proof.Machine
end

