-- ==== Sys2Proof/Machine/Attention.lean ====
section
/-!
DEFINITION. Sparse attention as integer arithmetic on stored bytes (06_spool_and_attention.md, R202 to R210): entries, summaries and
selection records, scores, the selection, the positions attended, and the attention result. Every function depends on its bytes
and numbers alone (R209). The commands that run them stand in Units.lean.
-/
namespace Sys2Proof.Machine

/-- Block `b` of A8 blocks without outliers: exponent and elements (R81, R202, R203). -/
def a8Block (bs : List Byte) (b : Nat) : Int × List Int :=
  let x := sliceB bs (33 * b) 33
  (actExp x, (rangeFrom 0 32).map fun i => actElem 0x81 x [] b i)

/-- The sum of a list of integers. -/
def sumInt (l : List Int) : Int := l.foldl (fun a x => a + x) 0

/-- The exact sum of products of two blocks. -/
def dotInt (a b : List Int) : Int := sumInt ((a.zip b).map fun p => p.1 * p.2)

/-! ### Scores and the order of scored things (R206, R207) -/

/-- The score of a summary against a summary query, and whether it was clamped (R206). -/
def score (fs : Int) (query sm : List Byte) : Int × Bool :=
  let v := sumInt ((rangeFrom 0 3).map fun b =>
    let x := a8Block query b
    let y := a8Block sm b
    rne (dotInt x.2 y.2) (fs - x.1 - y.1))
  (satI 48 v, decide (satI 48 v ≠ v))

/-- Insertion by value descending, equal values by number ascending (R207). -/
def insertScore (x : Int × Nat) : List (Int × Nat) → List (Int × Nat)
  | [] => [x]
  | y :: ys => if y.1 < x.1 ∨ (y.1 = x.1 ∧ x.2 ≤ y.2) then x :: y :: ys else y :: insertScore x ys

/-- Scored numbers by value descending, equal values by number ascending. -/
def sortScores : List (Int × Nat) → List (Int × Nat)
  | [] => []
  | x :: xs => insertScore x (sortScores xs)

/-- The numbers of the `n` highest scores, ties to the lower number (R207). -/
def topScores (n : Nat) (l : List (Int × Nat)) : List Nat := ((sortScores l).take n).map Prod.snd

/-! ### The selection (R204, R205, R207) -/

/-- The open shelves of the step at position `r` (R207). -/
def openShelves (r : Nat) (shelves : List (Int × Nat)) : List Nat :=
  if r / 4096 ≤ 16 then rangeFrom 0 (r / 4096)
  else topScores 16 (shelves.filter fun x => decide (x.2 < r / 4096))

/-- The candidate pages of the step at position `r` for target `q = r + 2` (R207). -/
def candPages (r : Nat) (opens : List Nat) : List Nat :=
  let c := (r + 2) / 64
  let hs := r / 4096
  ((sortAsc (dedupNat opens)).flatMap (fun h => rangeFrom (64 * h) 64) ++ rangeFrom (64 * hs) (c - 64 * hs)).filter
    fun g => decide (1 ≤ g) && decide (g + 2 ≤ c)

/-- The chosen pages of rec(r + 2), ascending (R207). -/
def chosenPages (r : Nat) (shelves pages : List (Int × Nat)) : List Nat :=
  let cand := candPages r (openShelves r shelves)
  if cand.length ≤ 32 then sortAsc cand
  else sortAsc (topScores 32 (pages.filter fun x => decide (x.2 ∈ cand)))

/-- The 128 bytes of a selection record (R204): pages, TARGET, COUNT, and STATUS with WRITTEN and the mark of a poisoned pass. -/
def recordBytes (q : Nat) (chosen : List Nat) (poison : Bool) : List Byte :=
  (rangeFrom 0 32).flatMap (fun i => leBytes 3 (chosen.getD i 0xFFFFFF)) ++ leBytes 5 q ++ leBytes 1 chosen.length
    ++ leBytes 1 (1 + 2 * b2n poison) ++ zeroBytes 25

/-- The place of rec(q) in area 3 (R205). -/
def recordAt (q : Nat) : Nat := if q % 64 < 2 then 32768 + 256 * (q / 64) + 128 * (q % 64) else 128 * (q % 256)

/-- A spool virtual address from its fields (R215). -/
def svaOf (area band at' : Nat) : Nat := at' % 2 ^ 36 + (band % 128) * 2 ^ 36 + (area % 4) * 2 ^ 43

/-- The spool descriptor that writes rec(q) of a band from a line (R205, R354): 128 bytes are 2 units. -/
def recordDesc (q band line lane : Nat) : List Byte :=
  leBytes 16 (1 + svaOf 3 band (recordAt q) * 2 + (line % 4096) * 2 ^ 46 + 2 * 2 ^ 64 + (lane % 32) * 2 ^ 71)

/-- The pages that a record names: the first COUNT of them (R204). -/
def recordPages (rcd : List Byte) : List Nat :=
  (rangeFrom 0 (min 32 (leNat (sliceB rcd 101 1)))).map fun i => leNat (sliceB rcd (3 * i) 3)

/-- The record serves the step at position `q`: WRITTEN, not POISON, TARGET = q (R208). Positions 0 and 1 use empty records and need none
(R207). -/
def recordOk (q : Nat) (rcd : List Byte) : Bool :=
  decide (q < 2) ||
    (bitAt (leNat (sliceB rcd 102 1)) 0 && !bitAt (leNat (sliceB rcd 102 1)) 1 && decide (leNat (sliceB rcd 96 5) = q % 2 ^ 40))

/-- The pages of the record of the step at `q`. -/
def pagesFor (q : Nat) (rcd : List Byte) : List Nat := if q < 2 then [] else recordPages rcd

/-- The step at position `q` attends position `i` of its layer (R208). -/
def attends (q : Nat) (pages : List Nat) (i : Nat) : Bool :=
  decide (i = q) ||
    (decide (i < q) && (decide (i / 64 ∈ pages) || decide (i / 64 = 0) || decide (i / 64 + 1 = q / 64) || decide (i / 64 = q / 64)))

/-! ### Entries and summaries (R202, R203) -/

/-- The STATUS byte of what a pass writes: WRITTEN, and POISON when the pass is poisoned (R202). -/
def statusByte (poison : Bool) : Byte := BitVec.ofNat 8 (1 + 2 * b2n poison)

/-- The 1,024 bytes of an entry from its latent (R202). -/
def entryBytes (latent : List Byte) (poison : Bool) : List Byte := sliceB latent 0 1023 ++ [statusByte poison]

/-- The 128 bytes of a summary from its keys (R203). -/
def summaryBytes (keys : List Byte) (poison : Bool) (first : Nat) : List Byte :=
  sliceB keys 0 99 ++ [statusByte poison] ++ zeroBytes 4 ++ leBytes 5 first ++ zeroBytes 19

/-- Block `b` of a shelf summary before narrowing, with its exponent: the 64 page summaries aligned to the largest and summed (R203). -/
def shelfBlock (sums : List (List Byte)) (b : Nat) : Int × List Int :=
  let bl := sums.map fun s => a8Block s b
  let e := bl.foldl (fun m x => if m < x.1 then x.1 else m) ((bl.head?.map Prod.fst).getD 0)
  (e, (rangeFrom 0 32).map fun i => sumInt (bl.map fun x => rne (x.2.getD i 0) (e - x.1)))

/-! ### The attention arithmetic (R210) -/

/-- `z` of one position from the head's query and the position's entry, and whether it saturated (R210). -/
def zScore (fl : Int) (query ent : List Byte) : Int × Bool :=
  let v := sumInt ((rangeFrom 0 31).map fun b =>
    let x := a8Block query b
    let y := a8Block ent b
    rne (dotInt x.2 y.2) (fl - 16 - x.1 - y.1))
  (satI 32 v, decide (satI 32 v ≠ v))

/-- The weight of a position: the natural exponent of `z - zmax` (R98, R210). -/
def attnWeight (zmax z : Int) : Int := expNat exp2Table (z - zmax)

/-- The partial sums of y, block by block, over weighted entries, given the exponents Emax (R210). -/
def attnY (emax : List Int) (ents : List (Int × List Byte)) : List Int :=
  (rangeFrom 0 31).flatMap fun b =>
    (rangeFrom 0 32).map fun j =>
      sumInt (ents.map fun we =>
        let x := a8Block we.2 b
        rne (we.1 * x.2.getD j 0) (emax.getD b 0 - x.1))

/-- The result of a head before narrowing: 31 blocks at `F = Emax - 8` (R210). A divisor of 0, which no attended position gives, has no
stated quotient: `free` supplies it. -/
def attnOut (free : Nat → Int) (emax y : List Int) (w : Int) : List (Int × List Int) :=
  (rangeFrom 0 31).map fun b =>
    (emax.getD b 0 - 8, (rangeFrom 0 32).map fun j =>
      if w = 0 then free (32 * b + j) else rneDiv (y.getD (32 * b + j) 0 * 256) w)

end Sys2Proof.Machine
end

