-- ==== Sys2Proof/Machine/Tile.lean ====
section
/-!
DEFINITION. The tile's operations (02_tile.md, 10_compiler_contract.md): its registers, the scratchpad and its slot wheel, the
hazards, the register file in both timing disciplines, the stream queue, passes, drains and spool requests. Each works on one
tile; the meanings of the sequencer commands stand in Sequencer.lean.
-/
namespace Sys2Proof.Machine

/-! ### Registers of the tile -/

/-- A field of a tile register. -/
def tGet (f : Fld) (t : Tile) : Nat := bankGet f 0 t.regs

/-- A field of a tile register replaced. -/
def tSet (f : Fld) (v : Nat) (t : Tile) : Tile := { t with regs := bankSet f 0 v t.regs }

/-- A saturating count of a tile register increased. -/
def tAdd (f : Fld) (n : Nat) (t : Tile) : Tile := { t with regs := bankAdd f 0 n t.regs }

/-- The word of a configuration register that is in force: the value before a write until the next strobe (R61). -/
def tCfgWord (a : Nat) (t : Tile) : Word :=
  match smGet none a t.held with
  | some w => w
  | none => bankReg a t.regs

/-- A configuration field as it is in force. -/
def tCfg (f : Fld) (t : Tile) : Nat := fldOf f (tCfgWord f.reg t)

/-- Set what the sequencer waits on (R66). -/
def tWait (code : Nat) (t : Tile) : Tile := tSet F.TIL_SEQ_WAIT code t

/-- Poison the pass of the slot in the band (R24, R60). -/
def tPoison (t : Tile) : Tile := { t with poison := true }

/-- Poison the pass of one lane. -/
def tPoisonLane (l : Nat) (t : Tile) : Tile :=
  { t with lanePoison := if l ∈ t.lanePoison then t.lanePoison else l :: t.lanePoison }

/-- Count clamps (R94) and remember when the count rose in this pick (R102): a count that stands at its limit rises no more. -/
def tClamp (n : Nat) (t : Tile) : Tile :=
  let u := tAdd F.TIL_ARITH_CLAMP_COUNT n t
  { u with clampRose := t.clampRose || decide (tGet F.TIL_ARITH_CLAMP_COUNT u ≠ tGet F.TIL_ARITH_CLAMP_COUNT t) }

/-- Count saturations (R29, R95) and remember when the count rose in this pick (R102). -/
def tSat (n : Nat) (t : Tile) : Tile :=
  let u := tAdd F.TIL_ARITH_SAT_COUNT n t
  { u with satRose := t.satRose || decide (tGet F.TIL_ARITH_SAT_COUNT u ≠ tGet F.TIL_ARITH_SAT_COUNT t) }

/-! ### Scratchpad -/

/-- Bytes of the scratchpad: 0x0_0000 to 0x2_FFFF (R40). -/
def spadBytes : Nat := 0x30000

/-- Lines of the scratchpad (R40). -/
def spadLines : Nat := 3072

/-- Lines of the static area (R40). -/
def staticLines : Nat := 1536

/-- The bank of a line (R40). -/
def bankOf (line : Nat) : Nat := line % 16

/-- `n` visible bytes from byte address `a`. -/
def tBytes (a n : Nat) (t : Tile) : List Byte := smGetBytes a n t.scratch

/-- The visible number of `n` bytes at byte address `a`, little-endian. -/
def tNum (a n : Nat) (t : Tile) : Nat := leNat (tBytes a n t)

/-- The lines that `n` bytes from `a` touch. -/
def linesOf (a n : Nat) : List Nat :=
  if n = 0 then [] else rangeFrom (a / 64) ((a + n - 1) / 64 - a / 64 + 1)

/-- Note accesses of the current turn (R41, R48). -/
def tNote (slot : Nat) (lines : List Nat) (wr : Bool) (t : Tile) : Tile :=
  { t with accesses := t.accesses ++ lines.map (fun l => ⟨slot, l, wr⟩) }

/-- A write made in a slot: accepted now, visible at the end of the turn (R46). -/
def tStage (slot a : Nat) (bs : List Byte) (t : Tile) : Tile :=
  tNote slot (linesOf a bs.length) true { t with staged := t.staged ++ [⟨slot, a, bs⟩] }

/-- Line `l` is in the exclusive map (R48). -/
def tExcl (l : Nat) (t : Tile) : Bool := (smGet 0 (l / 32) t.excl).getLsbD (l % 32)

/-- The exclusive-line hazards of a turn's accesses: for each exclusive line that one slot wrote and another slot accessed, the
line, the writing slot and the other slot (R48). -/
def hazardsOf (t : Tile) : List (Nat × Nat × Nat) :=
  (dedupNat (t.accesses.map Access.line)).filterMap fun l =>
    if tExcl l t then
      match t.accesses.find? (fun a => a.write && decide (a.line = l)) with
      | none => none
      | some w =>
        match t.accesses.find? (fun a => decide (a.line = l) && decide (a.slot ≠ w.slot)) with
        | none => none
        | some o => some (l, w.slot, o.slot)
    else none

/-- The effect of one hazard (R48): EXCL set, the first captured, counted, the pass poisoned. The capture holds until EXCL is
cleared, so a set EXCL means that TIL_HAZ_CAP is not empty. -/
def tHazard (pick : Nat) (h : Nat × Nat × Nat) (t : Tile) : Tile :=
  let t1 := if tGet F.TIL_HAZ_EXCL t = 1 then t else
    tSet F.TIL_HAZ_CAP_PICK_LSB pick (tSet F.TIL_HAZ_CAP_SLOT_B h.2.2
      (tSet F.TIL_HAZ_CAP_SLOT_A h.2.1 (tSet F.TIL_HAZ_CAP_LINE h.1 t)))
  tPoison (tAdd F.TIL_HAZ_COUNT_COUNT 1 (tSet F.TIL_HAZ_EXCL 1 t1))

/-- Arrival counters bound to a window that holds a line of a visible write increase (R50): once for each write. A counter at 65,535 goes
on at 0, since the spec states neither a wrap nor a limit (R50, R72): log entry 105, DESIGN CHOICE. -/
def tArrive (a n : Nat) (t : Tile) : Tile :=
  { t with arr := (rangeFrom 0 16).foldl (fun m c =>
      let w := smGet (1, 0) c t.bind
      if (linesOf a n).any (fun l => decide (w.1 ≤ l) && decide (l ≤ w.2))
      then smSet 0 c ((smGet 0 c m + 1) % 65536) m else m) t.arr }

/-- One write becomes visible (R46). -/
def tApply (t : Tile) (a : Nat) (bs : List Byte) : Tile :=
  tArrive a bs.length { t with scratch := smSetBytes a bs t.scratch }

/-- The writes of a turn: its hazards, then every write applied in slot order, the later slot winning byte by byte (R46, R47, R48), then the
counters (R50). -/
def tTurnWrites (pick : Nat) (t : Tile) : Tile :=
  let t1 := (hazardsOf t).foldl (fun u h => tHazard pick h u) t
  let ws := sortBy Staged.slot t.staged
  let t2 := ws.foldl (fun u w => tApply u w.addr w.data) t1
  { t2 with staged := [], accesses := [] }

/-! ### Shuttles on their way to the router (R51, R55, R158) -/

def hKind (h : Nat) : Nat := bitsOf h 0 4
def hVc (h : Nat) : Nat := bitsOf h 4 2
def hPoison (h : Nat) : Bool := bitAt h 6
def hHops (h : Nat) : Nat := bitsOf h 8 12
def hLen (h : Nat) : Nat := bitsOf h 20 11
def hDest (h : Nat) : Nat := bitsOf h 32 19
def hGroup (h : Nat) : Nat := bitsOf h 32 12
def hSrc (h : Nat) : Nat := bitsOf h 64 19
def hChunk (h : Nat) : Nat := bitsOf h 96 12
def hContrib (h : Nat) : Nat := bitsOf h 108 17
def hFmt (h : Nat) : Nat := bitsOf h 128 8
def hNblk (h : Nat) : Nat := bitsOf h 136 12
def hNout (h : Nat) : Nat := bitsOf h 148 12
def hFirstBlk (h : Nat) : Nat := bitsOf h 160 12
def hLine (h : Nat) : Nat := bitsOf h 172 12
def hPick (h : Nat) : Nat := bitsOf h 192 16
def hLane (h : Nat) : Nat := bitsOf h 208 5
/-- The address word of SPOOL_REQ, SPOOL_RSP, HOST_OUT and HOST_IN (R159). -/
def hAddr (h : Nat) : Nat := bitsOf h 192 64

/-- Flits of a shuttle: the header and payload in flits of 128 B, at least one (R159). -/
def flitsOf (sh : Shuttle) : Nat := (32 + sh.payload.length + 127) / 128

/-- Flits of a virtual channel that wait in the local input buffer (R158). -/
def outboxFlits (vc : Nat) (t : Tile) : Nat :=
  sumNat ((t.outbox.filter fun s => decide (hVc s.hdr = vc)).map flitsOf)

/-- The local input buffer of a virtual channel has room for a whole shuttle: it holds 9 flits (R158). -/
def outRoom (sh : Shuttle) (t : Tile) : Bool :=
  decide (outboxFlits (hVc sh.hdr) t = 0) || decide (outboxFlits (hVc sh.hdr) t + flitsOf sh ≤ 9)

/-- Shuttles handed to the router's local port (R51). -/
def tSendOut (shs : List Shuttle) (t : Tile) : Tile := { t with outbox := t.outbox ++ shs }

/-- Built shuttles enter the local port in order while it has room (R158). -/
def tBuild : List Shuttle → Tile → Tile
  | [], t => { t with building := [] }
  | sh :: shs, t => if outRoom sh t then tBuild shs (tSendOut [sh] t) else { t with building := sh :: shs }

/-- The router in row 36 of a tile's column, whose SPOOL port faces the channel controller of the column (R56, R194). -/
def ctrlRouter (t : Nat) : Nat := t / 128 * 128 + 36

/-- A list in pieces of `n`; `k` bounds their number. -/
def chunksOf (n : Nat) : Nat → List Byte → List (List Byte)
  | 0, _ => []
  | k + 1, bs => if bs.length ≤ n then [bs] else bs.take n :: chunksOf n k (bs.drop n)

/-- The poison mark that a shuttle built now carries (R55, R59). -/
def tMark (t : Tile) : Bool := t.poison || decide (t.st = 4)

/-- A shuttle with POISON set. -/
def markShuttle (sh : Shuttle) : Shuttle := { sh with hdr := bitsPut sh.hdr 6 1 1 }

/-- What the fold and edge unit made leaves it: bytes in MAC-feed slot 0, shuttles to the local port as there is room, marked when the pass
has been poisoned meanwhile (R55). -/
def tDeliver (r : DrainRun) (t : Tile) : Tile :=
  let t1 := if r.data = [] then t else tStage 2 r.addr r.data t
  tBuild (t1.building ++ r.shs.map fun sh =>
    if tMark t || decide (hLane sh.hdr ∈ t.lanePoison) then markShuttle sh else sh) t1

/-- The fold and edge unit through one turn (R30, R55). -/
def tFoldTurn (t : Tile) : Tile :=
  match t.drain with
  | none => tBuild t.building t
  | some r =>
    if 1 < r.left then tBuild t.building { t with drain := some { r with left := r.left - 1 } }
    else tDeliver r { t with drain := none }

/-- The set is being drained (R30). -/
def tDraining (set : Nat) (t : Tile) : Bool :=
  match t.drain with
  | some r => decide (set ∈ r.sets) && decide (1 < r.left)
  | none => false

/-! ### The instruction buffer (R54, R360) -/

/-- Instructions that the buffer holds: 4 KiB. -/
def ibufSize : Nat := 1024

/-- The buffer filled from instruction `pc` on, in the sequencer slot. -/
def tFill (pc : Nat) (t : Tile) : Tile :=
  tNote 6 (linesOf (4 * pc) 4096) false
    { t with ibufAt := pc, ibuf := t.scratch.filter fun kv => decide (4 * pc ≤ kv.1) && decide (kv.1 < 4 * pc + 4096) }

/-- The refill of native mode: a buffer that no longer holds the next instruction is filled from it on (R54). -/
def tRefill (stepping : Nat) (t : Tile) : Tile :=
  if stepping = 0 ∧ t.active = true ∧ (t.pc.toNat < t.ibufAt ∨ t.ibufAt + ibufSize ≤ t.pc.toNat) then tFill t.pc.toNat t else t

/-- The end of a turn: its writes, the fold and edge unit's progress, and the sequencer's refill. -/
def tTurnEnd (cx : Ctx) (t : Tile) : Tile := tRefill cx.stepping (tFoldTurn (tTurnWrites cx.pick t))

/-- A transposed read (R45): byte `col` of each of the 64 lines of the 4 KiB block that holds byte address `a`. -/
def tTransposed (a col : Nat) (t : Tile) : List Byte :=
  (rangeFrom 0 64).map fun i => smGet 0 (a / 4096 * 4096 + 64 * i + col % 64) t.scratch

/-- A strided read (R45): 16 elements of 4 bytes, element `k` from `base + k × stride`. -/
def tStrided (base stride : Nat) (t : Tile) : List Nat :=
  (rangeFrom 0 16).map fun k => tNum (base + k * stride) 4 t

/-- A line that the tile's own units have written, or are about to write, and that is not yet visible. -/
def tBusyLine (lines : List Nat) (t : Tile) : Bool :=
  (t.staged.any fun w => decide (2 ≤ w.slot) && (linesOf w.addr w.data.length).any (fun l => decide (l ∈ lines))) ||
    (match t.drain with
      | some r => (linesOf r.addr r.data.length).any fun l => decide (l ∈ lines)
      | none => false)

/-- Turns that end until the lines are visible. -/
def tSettleN (cx : Ctx) (lines : List Nat) : Nat → Tile → Tile
  | 0, t => t
  | n + 1, t => if tBusyLine lines t then tSettleN cx lines n (tTurnEnd cx t) else t

/-- The scoreboard of native mode (R351): a read of a line that an earlier instruction has written holds until the line is
visible: at the end of the turn, or when the fold and edge unit is through (5 turns) and its write visible. -/
def tSettle (cx : Ctx) (lines : List Nat) (t : Tile) : Tile :=
  if cx.stepping = 0 ∧ tBusyLine lines t = true then tSettleN cx lines 6 t else t

/-! ### The register file and program time (R353, R356, R357) -/

/-- Read a general register: g0 reads 0. -/
def tReg (r : Nat) (t : Tile) : Word := if r = 0 then 0 else smGet 0 r t.g

/-- Write a general register at once: writes to g0 are ignored. -/
def tPutReg (r : Nat) (v : Word) (t : Tile) : Tile := if r = 0 then t else { t with g := smSet 0 r v t.g }

/-- The device's own latency of a class (R366). -/
def ownLat (c : Nat) : Nat :=
  match c with
  | 1 => 1
  | 2 => 3
  | 3 => 1
  | 4 => 2
  | 5 => 4
  | 6 => 23
  | 7 => 3
  | 8 => 50
  | 9 => 33
  | _ => 0

/-- The latency at which a class runs: declared, or the device's own where TIMING lists none (R365, R367). -/
def latOf (cx : Ctx) (c : Nat) : Nat :=
  let d := smGet 0 c cx.timing
  if d = 0 then ownLat c else d

/-- A register result of class `c` (R351, R357): at once in native mode, at its due time in fixed-slot mode. -/
def tResult (cx : Ctx) (c r : Nat) (v : Word) (t : Tile) : Tile :=
  if cx.stepping = 0 then tPutReg r v t
  else { t with pendRes := t.pendRes ++ [⟨t.p + latOf cx c, t.p, r, v⟩] }

/-- What becomes due at the current program time of fixed-slot mode: writes that become visible, accesses whose slot it is,
register results in issue order, and accumulator sets (R357, R359). -/
def tTick (cx : Ctx) (t : Tile) : Tile :=
  let t1 := (t.pendWrite.filter fun w => decide (w.due ≤ t.p)).foldl (fun u w => tApply u w.addr w.data)
    { t with pendWrite := t.pendWrite.filter fun w => decide (t.p < w.due) }
  let now := t1.pendAcc.filter fun a => decide (a.at' ≤ t.p)
  let t2 := now.foldl (fun u a =>
      if a.load then
        let v : Word := BitVec.ofNat 32 (if a.byte then tNum a.addr 1 u else tNum (a.addr / 4 * 4) 4 u)
        tNote 6 [a.addr / 64] false { u with pendRes := u.pendRes ++ [⟨t.p + latOf cx 3, a.issue, a.reg, v⟩] }
      else tNote 6 [a.addr / 64] true { u with pendWrite := u.pendWrite ++ [⟨t.p + 2, a.addr, a.data⟩] })
    { t1 with pendAcc := t1.pendAcc.filter fun a => decide (t.p < a.at') }
  let due := sortBy PendRes.issue (t2.pendRes.filter fun r => decide (r.due ≤ t.p))
  let t3 := due.foldl (fun u r => tPutReg r.reg r.val u)
    { t2 with pendRes := t2.pendRes.filter fun r => decide (t.p < r.due) }
  (t3.pendSet.filter fun x => decide (x.due ≤ t.p)).foldl
    (fun u x => if x.set = 0 then { u with acc0 := x.val } else { u with acc1 := x.val })
    { t3 with pendSet := t3.pendSet.filter fun x => decide (t.p < x.due) }

/-- Program time advances by one (R356). -/
def tAdvance (cx : Ctx) (t : Tile) : Tile :=
  if cx.stepping = 0 then t else tTick cx { t with p := t.p + 1 }

/-- The end of an instruction that does not jump: the next instruction, or the target after the last delay slot (R358). -/
def tNext (cx : Ctx) (t : Tile) : Tile :=
  let t1 := tWait 0 t
  tAdvance cx (match t1.delay with
    | none => { t1 with pc := t1.pc + 1 }
    | some (n, tgt) =>
      if n ≤ 1 then { t1 with pc := BitVec.ofNat 16 tgt, delay := none }
      else { t1 with pc := t1.pc + 1, delay := some (n - 1, tgt) })

/-- A jump (R351, R358): in native mode at once; in fixed-slot mode after `L(BR) - 1` delay slots, and not taken in one. -/
def tJump (cx : Ctx) (taken : Bool) (target : BitVec 16) (t : Tile) : Tile :=
  if taken = false ∨ t.delay.isSome = true then tNext cx t
  else
    let n := if cx.stepping = 0 then 0 else latOf cx 4 - 1
    if n = 0 then tAdvance cx { tWait 0 t with pc := target }
    else tAdvance cx { tWait 0 t with pc := t.pc + 1, delay := some (n, target.toNat) }

/-- The first program time at or after the current one in wheel slot 6 whose turn has no access of another line of the same
bank (R359, R361). -/
def slotTime (acc : List PendAcc) (line : Nat) : Nat → Nat → Nat
  | 0, u => u
  | n + 1, u =>
    if acc.any fun a => decide (a.at' = u) && decide (a.addr / 64 ≠ line) && decide (bankOf (a.addr / 64) = bankOf line)
    then slotTime acc line n (u + 8) else u

/-- The access time of a load or store issued now (R359). -/
def accTime (t : Tile) (line : Nat) : Nat :=
  slotTime t.pendAcc line (t.pendAcc.length + 1) (t.p + (14 - t.p % 8) % 8)

/-- A load (R353, R359). -/
def tLoad (cx : Ctx) (byte : Bool) (r a : Nat) (t : Tile) : Tile :=
  if cx.stepping = 0 then
    let a' := if byte then a else a / 4 * 4
    let t1 := tSettle cx [a / 64] t
    let v : Word := BitVec.ofNat 32 (tNum a' (if byte then 1 else 4) t1)
    tPutReg r v (tNote 6 [a / 64] false t1)
  else { t with pendAcc := t.pendAcc ++ [⟨accTime t (a / 64), t.p, a, true, byte, r, []⟩] }

/-- A store (R353, R359). -/
def tStore (cx : Ctx) (byte : Bool) (a : Nat) (v : Word) (t : Tile) : Tile :=
  let a' := if byte then a else a / 4 * 4
  let bs := leBytes (if byte then 1 else 4) v.toNat
  if cx.stepping = 0 then tStage 6 a' bs t
  else { t with pendAcc := t.pendAcc ++ [⟨accTime t (a / 64), t.p, a', false, byte, 0, bs⟩] }

/-- The next program time at which something pending is due. -/
def nextDue (t : Tile) : Nat :=
  let ds := t.pendRes.map PendRes.due ++ t.pendAcc.map PendAcc.at' ++ t.pendWrite.map PendWrite.due ++ t.pendSet.map PendSet.due
  ds.foldl min (ds.headD 0)

/-- Everything of fixed-slot mode that is still pending takes effect in its order (the wheel runs on through the hold of DONE); `n` bounds
how many due times are left. -/
def tFlushN (cx : Ctx) : Nat → Tile → Tile
  | 0, t => t
  | n + 1, t =>
    if t.pendRes = [] ∧ t.pendAcc = [] ∧ t.pendWrite = [] ∧ t.pendSet = [] then t
    else tFlushN cx n (tTick cx { t with p := max t.p (nextDue t) })

/-- All of it: an access leaves a result or a write behind, so each counts twice. -/
def tFlush (cx : Ctx) (t : Tile) : Tile :=
  tFlushN cx (t.pendRes.length + 2 * t.pendAcc.length + t.pendWrite.length + t.pendSet.length) t

/-! ### The restart of the program (R54) -/

/-- The restart of a pick program at its entry point for a mode (R54, R114, R315), with what lasts for one pick cleared. In native mode the
instruction buffer follows; in fixed-slot mode the strobe has filled it where it does (R360). -/
def tRestart (stepping mode : Nat) (t : Tile) : Tile :=
  tRefill stepping (tWait 0 { t with
    pc := BitVec.ofNat 16 (smGet 0 mode t.entry), active := true, doneExec := false, reported := false, strobeHeld := false,
    poison := t.poisonNext, poisonNext := false, lanePoison := [], clampRose := false, satRose := false, sel := [], selHere := false, p := 0, delay := none })

/-! ### Table functions in the scratchpad (R96, R97) -/

/-- `tf` with the table at byte address `a`. -/
def tTableFn (a : Nat) (x : Int) (t : Tile) : Int :=
  tfEval (sgn 32 (tNum a 4 t)) (sgn 8 (tNum (a + 4) 1 t)) (bitAt (tNum (a + 5) 1 t) 0)
    (fun i => sgn 32 (tNum (a + 8 + 4 * i) 4 t)) x

/-! ### Streams (R34 to R37) -/

/-- A slice: first row, rows, format code (R35). -/
structure Slice where
  first : Nat
  rows : Nat
  fmt : Nat
  deriving DecidableEq, Repr

/-- The slice descriptor at byte address `a` (R35). -/
def sliceAt (a : Nat) (t : Tile) : Slice :=
  let d := tNum a 8 t
  ⟨bitsOf d 0 16, bitsOf d 16 16, bitsOf d 32 8⟩

/-- The slice lies in the weight rows 0 to 61,439 (R34, R35). ROWS = 0, below the 1 that R35 states, is a slice of no rows and lies in them
wherever it begins: log entry 106, DESIGN CHOICE. -/
def Slice.ok (s : Slice) : Bool := decide (s.first + s.rows ≤ 61440)

/-- The routed expert count in a descriptor table's header (R36). R36 gives the table no layout: the count stands in bits [15:0] of its first
8 bytes, and the descriptors of 8 bytes follow from byte 8 on, by expert: log entry 107, DESIGN CHOICE. -/
def tableCount (line : Nat) (t : Tile) : Nat := bitsOf (tNum (64 * line) 8 t) 0 16

/-- The descriptor of expert `e` in the table at a line. -/
def tableSlice (line e : Nat) (t : Tile) : Slice := sliceAt (64 * line + 8 + 8 * e) t

/-- COUNT of a selection word (R36). -/
def selCount (w : Nat) : Nat := bitsOf w 50 3

/-- Expert index of position `j` (R36). -/
def selExp (w j : Nat) : Nat := bitsOf w (10 * j) 10

/-- VALID of a selection word (R36). -/
def selValid (w : Nat) : Bool := bitAt w 63

/-- The valid indices of a selection word. -/
def selList (w : Nat) : List Nat := (rangeFrom 0 (min (selCount w) 5)).map (selExp w)

/-- COUNT above 5, or a valid index twice (R36). -/
def selFaulty (w : Nat) : Bool :=
  decide (5 < selCount w) || decide ((dedupNat (selList w)).length < (selList w).length)

/-- The lanes of the slot that carry a token, ascending (R36). -/
def selLanes (t : Tile) : List Nat := (rangeFrom 0 32).filter fun l => selValid (smGet 0 l t.sel)

/-- The pairs of expert and lane that a UNION serves: experts ascending, lanes ascending within one (R37). -/
def unionPairs (line : Nat) (t : Tile) : List (Nat × Nat) :=
  let ls := selLanes t
  let es := sortAsc (dedupNat (ls.flatMap fun l => selList (smGet 0 l t.sel)))
  (es.filter fun e => decide (e < tableCount line t)).flatMap fun e =>
    (ls.filter fun l => decide (e ∈ selList (smGet 0 l t.sel))).map fun l => (e, l)

/-- Lanes whose selection word holds an index at or above the table's expert count (R36). -/
def badIndexLanes (line : Nat) (t : Tile) : List Nat :=
  (selLanes t).filter fun l => (selList (smGet 0 l t.sel)).any fun e => decide (tableCount line t ≤ e)

/-- Poison the lanes of faulty selection words and log SELECT (R36). -/
def tSelFault (ls : List Nat) (t : Tile) : Tile :=
  if ls = [] then t else tSet F.TIL_HAZ_SELECT 1 (ls.foldl (fun u l => tPoisonLane l u) t)

/-- The row that a buffer of the port holds. -/
def portRow (r : Nat) (l : List PortRow) : Option PortRow := l.find? fun x => decide (x.row = r)

/-- A row as the port reads it from the column: the column's bytes, or what a read with errors delivered (R38, R39). -/
def tColumnRow (r : Nat) (t : Tile) : List Byte :=
  match smGet [] r t.rowOvr with
  | [] => smGetBytes (128 * r) 128 t.nvw
  | bs => sliceB bs 0 128

/-- A row as the pass receives it: from the replay buffer where `rep` says so (R37), else from the staging buffer where it is there (R34),
else from the column. -/
def tRow (rep : Bool) (r : Nat) (t : Tile) : List Byte :=
  match portRow r (if rep then t.replay else t.staging) with
  | some x => x.data
  | none => tColumnRow r t

/-- `n` bytes of a slice from its byte `o`, across row boundaries (R78); bytes past the slice are 0. -/
def tSliceBytes (rep : Bool) (s : Slice) (o n : Nat) (t : Tile) : List Byte :=
  let r0 := o / 128
  let r1 := (o + n - 1) / 128
  let bs := (rangeFrom r0 (r1 - r0 + 1)).flatMap fun r =>
    if r < s.rows then tRow rep (s.first + r) t else zeroBytes 128
  sliceB bs (o % 128) n

/-- The rows of a slice. -/
def Slice.rowList (s : Slice) : List Nat := rangeFrom s.first s.rows

/-- The row held for a pass to come, as the port reads it now: `bad` when that read was uncorrectable (R39). -/
def tHold (r : Nat) (t : Tile) : PortRow :=
  ⟨r, tColumnRow r t, smGet false r t.ueRows && decide (smGet [] r t.rowOvr ≠ [])⟩

/-- The staging buffer filled with the first 128 rows of a slice (R34); what errors had made of them goes along. -/
def tStageRows (s : Slice) (t : Tile) : Tile :=
  let rs := rangeFrom s.first (min 128 s.rows)
  { t with staging := rs.map fun r => tHold r t, rowOvr := t.rowOvr.filter fun kv => decide (kv.1 ∉ rs) }

/-- What the command at the head of the queue gives the next pass: nothing yet (it waits for the selection word), or a slice
(none where it reads nothing) with the lane it serves (none where the pass descriptor names it). -/
inductive HeadRead where
  | wait
  | skip
  | read (s : Option Slice) (lane : Option Nat)
  deriving DecidableEq, Repr

/-- The read of the command at the head of the queue (R34, R36, R37). -/
def headRead (c : StreamCmd) (t : Tile) : HeadRead :=
  if c.kind = 0 then .read (some (sliceAt (64 * c.line) t)) none
  else if t.selHere = false then .wait
  else if c.kind = 1 then
    let w := smGet 0 c.lane t.sel
    if selValid w = false ∨ selCount w ≤ c.j ∨ 5 < selCount w ∨ tableCount c.line t ≤ selExp w c.j then .read none none
    else .read (some (tableSlice c.line (selExp w c.j) t)) none
  else
    match (unionPairs c.line t)[c.served]? with
    | none => .skip
    | some (e, l) => .read (some (tableSlice c.line e t)) (some l)

/-- The head command after one pass has consumed its read: a UNION stays until its last pair is served (R37). -/
def popHead (t : Tile) : Tile :=
  match t.queue with
  | [] => t
  | c :: cs =>
    if c.kind = 2 ∧ c.served + 1 < (unionPairs c.line t).length then { t with queue := { c with served := c.served + 1 } :: cs }
    else { t with queue := cs }

/-- The head command is skipped (R60): the whole of it. -/
def dropHead (t : Tile) : Tile := { t with queue := t.queue.drop 1 }

/-- A UNION's further lanes of one expert read the replay buffer, when the slice fits it (R37). -/
def replays (c : StreamCmd) (s : Slice) (t : Tile) : Bool :=
  let ps := unionPairs c.line t
  decide (c.kind = 2) && decide (s.rows ≤ 192) && decide (0 < c.served) &&
    decide ((ps[c.served - 1]?).map Prod.fst = (ps[c.served]?).map Prod.fst)

/-- The port after a pass has taken a slice: the rows leave the staging buffer and what errors made of them is used up; a UNION's first
lane of an expert leaves them in the replay buffer when they fit (R34, R37). -/
def tTaken (c : StreamCmd) (s : Slice) (t : Tile) : Tile :=
  if replays c s t then t
  else { t with
    replay := if c.kind = 2 ∧ s.rows ≤ 192 then s.rowList.map fun r =>
        (portRow r t.staging).getD (tHold r t) else t.replay
    staging := t.staging.filter fun x => decide (x.row ∉ s.rowList)
    rowOvr := t.rowOvr.filter fun kv => decide (kv.1 ∉ s.rowList) }

/-- Rows of the slice that were uncorrectable when they were staged poison the pass that takes them (R39). -/
def tStagedBad (s : Slice) (t : Tile) : Tile :=
  if t.staging.any fun x => x.bad && decide (x.row ∈ s.rowList) then tPoison t else t

/-! ### Passes (R27, R28, R85) -/

/-- A pass descriptor (R354). -/
structure PassDesc where
  inLine : Nat
  nblk : Nat
  shape : Nat
  wfmt : Nat
  afmt : Nat
  q : Int
  set : Nat
  acc : Bool
  budget : Nat
  feed : Nat
  lane : Nat
  deriving DecidableEq, Repr

/-- The pass descriptor at a line (R354). -/
def passDesc (line : Nat) (t : Tile) : PassDesc :=
  let d := tNum (64 * line) 16 t
  ⟨bitsOf d 0 12, bitsOf d 12 12, bitsOf d 24 2, bitsOf d 26 8, bitsOf d 34 8, sgn 9 (bitsOf d 42 9), bitsOf d 51 1,
   bitAt d 52, bitsOf d 53 3, bitsOf d 56 2, bitsOf d 58 5⟩

/-- Lanes of the slot that a shape serves (R27). SHAPE 3 is reserved (R354) and runs as DOT: log entry 108, DESIGN CHOICE. -/
def shapeLanes (shape : Nat) : Nat := if shape = 1 then 4 else if shape = 2 then 32 else 1

/-- Outputs per lane in flight of a shape (R27). -/
def shapeOuts (shape : Nat) : Nat := 1024 / shapeLanes shape

/-- Bytes of one lane's input buffer: the blocks, and for A8 the outlier list at the next 4-byte boundary (R83). -/
def inputBytes (d : PassDesc) : Nat :=
  let b := d.nblk * afmtBytes d.afmt
  if d.afmt = 0x81 then (b + 3) / 4 * 4 + 4 * d.budget * d.nblk else b

/-- Lines from one lane's input buffer to the next. -/
def inputLines (d : PassDesc) : Nat := (inputBytes d + 63) / 64

/-- First byte of the input buffer of lane `l` for a shape of several lanes, or of a lane that a UNION serves. The spec names only IN_LINE:
the lanes' buffers lie one after another, each rounded up to lines, with room for the whole outlier budget: log entry 109, DESIGN CHOICE. -/
def inputBase (d : PassDesc) (l : Nat) : Nat := 64 * (d.inLine + l * inputLines d)

/-- The outlier entries of an A8 buffer (R83). A buffer in the scratchpad states no count of its entries: BUDGET × NBLK words after the blocks
are read, and markers are paired with them by BLOCK and POS: log entry 110, DESIGN CHOICE. -/
def inputEntries (d : PassDesc) (base : Nat) (t : Tile) : List Nat :=
  if d.afmt = 0x81 then
    let o := base + (d.nblk * afmtBytes d.afmt + 3) / 4 * 4
    (rangeFrom 0 (d.budget * d.nblk)).map fun i => tNum (o + 4 * i) 4 t
  else []

/-- Block `b` of a lane's input: its exponent and its elements by position. -/
def inputBlock (d : PassDesc) (base b : Nat) (ents : List Nat) (t : Tile) : Int × (Nat → Int) :=
  let bs := tBytes (base + b * afmtBytes d.afmt) (afmtBytes d.afmt) t
  (actExp bs, fun i => actElem d.afmt bs ents b i)

/-- One MAC lane's result: the blocks of the pass in order, each scaled and added with saturation (R29, R85). The slice's weight blocks lie by
input block, and within one by output: log entry 111, DESIGN CHOICE. -/
def macLane (rep : Bool) (d : PassDesc) (s : Slice) (ib : List (Int × (Nat → Int))) (o nOut : Nat) (t : Tile) (acc0 : Int) : Int × Nat :=
  ((rangeFrom 0 ib.length).zip ib).foldl (fun r bi =>
    let w := wBlock d.wfmt (tSliceBytes rep s ((bi.1 * nOut + o) * wfmtBytes d.wfmt) (wfmtBytes d.wfmt) t)
    let v := scaledSum (blockSum w.2 bi.2.2) (bi.2.1 + w.1) d.q
    let a := accAdd r.1 v
    (a.1, r.2 + b2n a.2)) (acc0, 0)

/-- The contents of an accumulator set as the next pass sees it: the latest, completed or not. -/
def latestSet (n : Nat) (t : Tile) : AccSet :=
  match t.pendSet.reverse.find? (fun x => decide (x.set = n)) with
  | some x => x.val
  | none => if n = 0 then t.acc0 else t.acc1

/-- The set after a pass, and how many additions saturated. -/
def passResult (rep : Bool) (d : PassDesc) (s : Option Slice) (lane : Option Nat) (t : Tile) : AccSet × Nat :=
  let old := latestSet d.set t
  let start := fun i => if d.acc then smGet 0 i old.vals else 0
  let nl := shapeLanes d.shape
  let no := shapeOuts d.shape
  let l0 := lane.getD d.lane
  let cells := (rangeFrom 0 nl).flatMap fun k =>
    let base := if nl = 1 then (if lane = none then 64 * d.inLine else inputBase d l0) else inputBase d k
    let ents := inputEntries d base t
    let ib := (rangeFrom 0 d.nblk).map fun b => inputBlock d base b ents t
    (rangeFrom 0 no).map fun o =>
      match s with
      | none => (k * no + o, start (k * no + o), 0)
      | some sl => (k * no + o, macLane rep d sl ib o no t (start (k * no + o)))
  let lanes := if nl = 1 then [l0] else rangeFrom 0 nl
  (⟨cells.filterMap (fun c => if c.2.1 = 0 then none else some (c.1, c.2.1)), d.q,
    (d.acc && old.poison) || t.poison,
    lanes.filter (fun l => decide (l ∈ t.lanePoison) || (d.acc && decide (l ∈ old.bad))), lanes, d.shape, l0⟩, sumNat (cells.map fun c => c.2.2))

/-- Input cycles of a pass with every block at its budget (R28, R87, R359). -/
def passCycles (d : PassDesc) : Nat :=
  let dual := decide (d.wfmt % 16 = 3) || decide (d.wfmt % 16 = 4)
  let dense := if d.afmt = 0x83 then (if dual then 32 else 64) else (if dual then 16 else 32)
  d.nblk * (dense * wfmtStored d.wfmt / 32) + (if dual && decide (d.afmt = 0x81) then d.budget * d.nblk else 0)

/-- The result of a pass stored: at once in native mode, at `t + n + L(PASS)` in fixed-slot mode, started no earlier than the
set is free (R359). -/
def tPutSet (cx : Ctx) (d : PassDesc) (v : AccSet) (t : Tile) : Tile :=
  if cx.stepping = 0 then
    if d.set = 0 then { t with acc0 := v } else { t with acc1 := v }
  else
    let start := max t.p (smGet 0 d.set t.setFree)
    { t with pendSet := t.pendSet ++ [⟨start + passCycles d + latOf cx 7, d.set, v⟩] }

/-! ### Drains (R55, R88, R93, R94) -/

/-- A drain descriptor (R354). -/
structure DrainDesc where
  fold : Bool
  dest : Nat
  fmt : Nat
  b : Nat
  h : Nat
  firstBlk : Nat
  deriving DecidableEq, Repr

/-- The drain descriptor at a line (R354). -/
def drainDesc (line : Nat) (t : Tile) : DrainDesc :=
  let d := tNum (64 * line) 8 t
  ⟨bitAt d 0, bitsOf d 1 12, bitsOf d 13 8, bitsOf d 21 3, bitsOf d 24 3, bitsOf d 27 12⟩

/-- The 32 blocks of 32 accumulators of a set, in MAC lane order. -/
def setBlocks (a : AccSet) : List (List Int) :=
  (rangeFrom 0 32).map fun k => (rangeFrom 0 32).map fun i => smGet 0 (32 * k + i) a.vals

/-- The bytes of narrowed blocks, each given with its exponent F, and the clamps and saturations of their narrowing (R83, R94, R95). -/
def narrowAll (fmt b h : Nat) (bl : List (Int × List Int)) : List Byte × Nat × Nat :=
  let ns := bl.map fun x => narrow fmt b h x.1 x.2
  let blocks := ns.flatMap (narrowBytes fmt)
  let pad := zeroBytes ((4 - blocks.length % 4) % 4)
  let ents := ((rangeFrom 0 ns.length).zip ns).flatMap fun kn =>
    kn.2.outliers.flatMap fun o => leBytes 4 (outlierWord kn.1 o.1 o.2)
  (blocks ++ (if fmt = 0x81 ∧ ents ≠ [] then pad ++ ents else []), sumNat (ns.map Narrowed.clamps), sumNat (ns.map Narrowed.sats))

/-- What a drain to the scratchpad writes: the set's blocks narrowed at F = Q (R93). -/
def drainBytes (d : DrainDesc) (a : AccSet) : List Byte × Nat × Nat :=
  narrowAll d.fmt d.b d.h ((setBlocks a).map fun xs => (a.q, xs))

/-- A shuttle header from its fields (R159): kind, VC, poison, HOPS, LEN, DEST, SRC, CHUNK, CONTRIB, FMT, NBLK, NOUT, FIRST_BLK,
LINE, PICK_LSB, LANE. -/
def mkHdr (kind vc : Nat) (poison : Bool) (hops len dest src chunk contrib fmt nblk nout firstBlk line pick lane : Nat) : Nat :=
  kind % 16 + (vc % 4) * 2 ^ 4 + b2n poison * 2 ^ 6 + (hops % 4096) * 2 ^ 8 + (len % 2048) * 2 ^ 20 + (dest % 2 ^ 19) * 2 ^ 32
  + (src % 2 ^ 19) * 2 ^ 64 + (chunk % 4096) * 2 ^ 96 + (contrib % 2 ^ 17) * 2 ^ 108 + (fmt % 256) * 2 ^ 128
  + (nblk % 4096) * 2 ^ 136 + (nout % 4096) * 2 ^ 148 + (firstBlk % 4096) * 2 ^ 160 + (line % 4096) * 2 ^ 172
  + (pick % 65536) * 2 ^ 192 + (lane % 32) * 2 ^ 208

/-- The shuttles of a spool request or response (R159, R160): kind, channel, destination, source, POISON, first line, spool virtual address
and bytes, at most 1,024 in a shuttle. Bits [255:192] hold the SVA as the address word, HOPS is 4,095: log entry 115, DESIGN CHOICE. -/
def spoolShuttles (kind vc dest src : Nat) (poison : Bool) (line sva : Nat) (data : List Byte) : List Shuttle :=
  ((rangeFrom 0 (data.length / 1024 + 1)).zip (chunksOf 1024 (data.length / 1024 + 1) data)).map fun c =>
    ⟨mkHdr kind vc poison 4095 c.2.length dest src 0 0 0 0 0 0 (line + 16 * c.1) 0 0 + (sva + 1024 * c.1) % 2 ^ 64 * 2 ^ 192, c.2⟩

/-- Elements of a full fold shuttle: 192 values of 5 B, or 128 pairs of 8 B (R160). -/
def foldPer (isMax : Bool) : Nat := if isMax then 128 else 192

/-- A fold shuttle of a drain (R55, R159, R160) with the hop limit at its largest. FIRST_BLK is the vector's block of the payload's first
element. The spec gives CHUNK no source: it is FIRST_BLK of the descriptor plus the number of the shuttle in its drain: log entry 112,
DESIGN CHOICE. -/
def foldShuttle (cx : Ctx) (d : DrainDesc) (isMax poison : Bool) (chunk firstBlk lane : Nat) (vals : List (Int × Nat)) : Shuttle :=
  let elems := vals.flatMap fun x => leBytes 5 (tow 40 x.1) ++ (if isMax then leBytes 3 x.2 else [])
  ⟨mkHdr (if isMax then 3 else 2) 0 poison 4095 elems.length d.dest cx.addr (d.firstBlk + chunk) 1 (if isMax then 0xF1 else 0xF0)
    vals.length 0 firstBlk 0 cx.pick lane, elems⟩

/-- The fold shuttles of an accumulator set, lane by lane of the shape that filled it, each accumulator widened by K of its group (R55,
R88); a lane's shuttles carry its poison mark (R36). -/
def drainShuttles (cx : Ctx) (d : DrainDesc) (a : AccSet) (poison : Bool) (badLanes : List Nat) : List Shuttle :=
  let k := smGet 0 d.dest cx.foldK
  let isMax := decide (d.fmt = 0xF1)
  let per := foldPer isMax
  let nl := shapeLanes a.shape
  let no := shapeOuts a.shape
  let m := (no + per - 1) / per
  (rangeFrom 0 nl).flatMap fun l =>
    let lane := if nl = 1 then a.lane else l
    (rangeFrom 0 m).map fun c =>
      foldShuttle cx d isMax (poison || a.poison || decide (lane ∈ a.bad) || decide (lane ∈ badLanes)) (l * m + c)
        (d.firstBlk + per * c / 32) lane
        ((rangeFrom (per * c) (min per (no - per * c))).map fun i => (foldValue (smGet 0 (no * l + i) a.vals) k, 32 * d.firstBlk + i))

end Sys2Proof.Machine
end

