-- ==== Sys2Proof/Machine/Ops.lean ====
section
/-!
DEFINITION. The named operations over the state: the register bank and its fields, the registers whose writes wait for the next
strobe, tiles, fault records, injections, what leaves the block, and free values. Every meaning is written over these.
-/
namespace Sys2Proof.Machine

/-- The outcome of a command. -/
abbrev Res := Host.Outcome State Fault Refusal

/-! ### The register bank -/

/-- The word of instance `i` of the register at address `a`. -/
def State.reg (s : State) (a : Nat) (i : Nat := 0) : Word := bankReg (rkey a i) s.bank

/-- The word of instance `i` of the register at address `a` replaced. -/
def State.setReg (s : State) (a : Nat) (v : Word) (i : Nat := 0) : State := { s with bank := bankPut (rkey a i) v s.bank }

/-- A field of a register. -/
def State.get (s : State) (f : Fld) (i : Nat := 0) : Nat := bankGet f i s.bank

/-- A field of a register replaced; every other bit stays. -/
def State.set (s : State) (f : Fld) (v : Nat) (i : Nat := 0) : State := { s with bank := bankSet f i v s.bank }

/-- A count of a register increased, saturating at its largest value. -/
def State.add (s : State) (f : Fld) (n : Nat) (i : Nat := 0) : State := { s with bank := bankAdd f i n s.bank }

/-- The word in force of a register whose writes take effect at the next strobe: the value before the first write since the last
strobe (R143, R183, R269, R304). -/
def State.cfgWord (s : State) (a : Nat) : Word :=
  match smGet none a s.held with
  | some w => w
  | none => s.reg a

/-- A field in force of such a register. -/
def State.cfg (s : State) (f : Fld) : Nat := fldOf f (s.cfgWord f.reg)

/-- A write to such a register: what was in force is kept for the rest of the pick. -/
def State.hold (s : State) (a : Nat) : State := { s with held := smSet none a (some (s.cfgWord a)) s.held }

/-- The next strobe: every such write comes into force. -/
def State.release (s : State) : State := { s with held := [] }

/-! ### Tiles -/

/-- Fields of the wafer (R8, R12). -/
def fieldCount : Nat := 60

/-- The address names a tile: field 0 to 59, column 0 to 63, row 0 to 71 (R8). -/
def tileOk (a : Nat) : Bool := decide (a / 8192 < 60) && decide (a % 128 < 72)

/-- Field of a tile address (R8). -/
def fieldOf (a : Nat) : Nat := a / 8192

/-- Column of a tile address (R8). -/
def colOf (a : Nat) : Nat := a / 128 % 64

/-- Row of a tile address (R8). -/
def rowOf (a : Nat) : Nat := a % 128

/-- Field coordinates of a field index (R12). -/
def fieldXY (f : Nat) : Nat × Nat :=
  if f < 6 then (f + 1, 0) else if f < 54 then ((f - 6) % 8, (f - 6) / 8 + 1) else (f - 53, 7)

/-- Field index of coordinates, none at the empty corners and off the grid (R12). -/
def fieldAt (x y : Nat) : Option Nat :=
  if 7 < x ∨ 7 < y then none
  else if y = 0 then (if 1 ≤ x ∧ x ≤ 6 then some (x - 1) else none)
  else if y = 7 then (if 1 ≤ x ∧ x ≤ 6 then some (53 + x) else none)
  else some (6 + 8 * (y - 1) + x)

/-- Region of a field (R13). -/
def regionOf (f : Nat) : Nat := 4 * ((fieldXY f).2 / 2) + (fieldXY f).1 / 2

/-- Quadrant of a region: regions 0, 1, 4, 5 form quadrant 0, and so on (R13). -/
def quadOf (r : Nat) : Nat := 2 * (r / 8) + r % 4 / 2

/-- Fields of a region (R13). -/
def fieldsOf (r : Nat) : List Nat := (rangeFrom 0 60).filter fun f => decide (regionOf f = r)

/-- The tile at an address. -/
def State.tile (s : State) (a : Nat) : Tile := smGet Tile.empty a s.tiles

/-- The tile at an address replaced. -/
def State.setTile (s : State) (a : Nat) (t : Tile) : State := { s with tiles := smSet Tile.empty a t s.tiles }

/-- Every tile that is not as at reset changed by a function of its address and itself. -/
def mapTiles (f : Nat → Tile → Tile) : SMap Tile → SMap Tile
  | [] => []
  | (a, t) :: m =>
    let t' := f a t
    if t' = Tile.empty then mapTiles f m else (a, t') :: mapTiles f m

/-- Every tile that is not as at reset changed. -/
def State.onTiles (s : State) (f : Nat → Tile → Tile) : State := { s with tiles := mapTiles f s.tiles }

/-- What a tile's operations read of the rest of the device. -/
def State.ctx (s : State) (a : Nat) : Ctx :=
  { addr := a, stepping := s.pat.stepping, timing := s.pat.timing, mode := s.get F.PCK_STATUS_MODE,
    pick := s.pm.pick, free := s.free, foldK := s.pat.foldK }

/-! ### Writes to host memory (R383, R384) -/

/-- Pieces of 4 KiB from an address. -/
def pieces4k (at' : Nat) (bs : List Byte) : List (Nat × List Byte) :=
  (rangeFrom 0 ((bs.length + 4095) / 4096)).map fun i => (at' + 4096 * i, (bs.drop (4096 * i)).take 4096)

/-- Bytes written to host memory on a port and class, at most 4,096 in one transaction. -/
def memWrs (port tc at' : Nat) (bs : List Byte) : List Out := (pieces4k at' bs).map fun x => .memWr port tc x.1 x.2

/-! ### Fault records (R556, R557) -/

/-- A unit raises a fault record: it goes to the primary on TELEM, or is counted when the unit has already raised one of the same
code in this millisecond (R557). -/
def State.raise (s : State) (code block scope unit detail : Nat) (injected : Bool := false) : State :=
  let ms := s.timeUs / 1000 + 1
  let k := code * 2 ^ 24 + unit
  if smGet 0 k s.flt.last = ms then
    { s with bank := bankAdd F.DMP_SUPPRESSED_COUNT 0 1 (bankSet F.DMP_STATUS_SUPPRESSED 0 1 s.bank),
             flt := { s.flt with supp := smSet false k true s.flt.supp } }
  else
    { s with flt := { s.flt with
        telem := s.flt.telem ++ [⟨code, block, scope, unit, detail, s.pm.pick, s.timeUs, injected, smGet false k s.flt.supp⟩],
        last := smSet 0 k ms s.flt.last, supp := smSet false k false s.flt.supp } }

/-! ### Injections (R571) -/

/-- An injection of a kind that has fired and waits at a target. -/
def State.injAt (s : State) (kind target : Nat) : Option Inj :=
  s.inj.find? fun j => decide (j.kind = kind) && decide (j.target = target)

/-- Is there one? -/
def State.injHas (s : State) (kind target : Nat) : Bool := (s.injAt kind target).isSome

/-- The count of that injection, 0 without one. -/
def State.injN (s : State) (kind target : Nat) : Nat := ((s.injAt kind target).map Inj.n).getD 0

/-- The injection has acted: it is gone. -/
def State.injUse (s : State) (kind target : Nat) : State :=
  { s with inj := s.inj.filter fun j => !(decide (j.kind = kind) && decide (j.target = target)) }

/-! ### Free values and output -/

/-- `n` free values are used up. -/
def State.useFree (s : State) (n : Nat) : State := { s with free := s.free + n }

/-- What leaves the block, in order. -/
def State.emit (s : State) (o : List Out) : State := { s with out := s.out ++ o }

/-- A beacon record is added (R397): the beacon carries the latest 64. -/
def State.beacon (s : State) (type : Nat) (data : List Byte) : State :=
  let rs := s.bcn.recs ++ [(s.bcn.rseq + 1, type, s.pm.pick, sliceB data 0 16)]
  { s with bcn := { s.bcn with rseq := s.bcn.rseq + 1, recs := rs.drop (rs.length - 64) } }

/-! ### Power and ports that other chapters ask about -/

/-- A domain instance at its setpoint: ON or CAPPED (R439). -/
def State.domOn (s : State) (d : Nat) : Bool :=
  decide (s.get F.VPA_DOM_STAT_STATE d = 3) || decide (s.get F.VPA_DOM_STAT_STATE d = 4)

/-- VL, VA and VS of a field's region (R424). -/
def State.vlOn (s : State) (f : Nat) : Bool := s.domOn (regionOf f)
def State.vaOn (s : State) (f : Nat) : Bool := s.domOn (16 + regionOf f)
def State.vsOn (s : State) (f : Nat) : Bool := s.domOn (32 + regionOf f)

/-- State of a Helsia port (R382). -/
def State.portState (s : State) (p : Nat) : Nat := s.get F.HLS_PORT_STAT_STATE p

/-- Role of a Helsia port (R374). -/
def State.portRole (s : State) (p : Nat) : Nat := s.get F.HLS_PORT_STAT_ROLE p

/-- The UP ports of a role in ascending order. -/
def State.upPorts (s : State) (role : Nat) : List Nat :=
  (rangeFrom 0 16).filter fun p => decide (s.portState p = 3) && decide (s.portRole p = role)

/-- The UP HOST ports (R398). -/
def State.hostPorts (s : State) : List Nat := s.upPorts 1

/-- The preferred port when it is an UP HOST port, else the lowest one (R396). -/
def State.hostPort (s : State) (pref : Nat) : Option Nat :=
  if pref ∈ s.hostPorts then some pref else s.hostPorts.head?

/-- State of the pick master (R141). -/
def State.pickState (s : State) : Nat := s.get F.PCK_STATUS_STATE

/-- Test mode is in effect (R570). -/
def State.testMode (s : State) : Bool := decide (s.get F.TST_STATUS_TEST_MODE = 1)

/-! ### Commands on one tile -/

/-- A command on a tile that exists; any other address faults. -/
def onTile (a : TileAddr) (s : State) (f : Tile → State) : Res :=
  if tileOk a.toNat then .next (f (s.tile a.toNat)) else .fault .noTile

end Sys2Proof.Machine
end

