-- ==== Sys2Proof/Machine/Units.lean ====
section
/-!
DEFINITION. What the units of a tile compute from the scratchpad: the inputs of a MAC pass with the special reads of R45, the work of
PASS beside the MAC pass (R206 to R210), and the jobs of the fold and edge unit (R92, R99, R100, R202, R203, R210). Each function reads
a tile and answers what it writes; the commands stand in Sequencer.lean.
-/
namespace Sys2Proof.Machine

/-! ### Reading what lies in the scratchpad -/

/-- `n` bytes from a line on. -/
def tLineBytes (line : BitVec 12) (n : Nat) (t : Tile) : List Byte := tBytes (64 * line.toNat) n t

/-- A scored list: `n` entries of a signed value and a number (Work.lean). -/
def tScored (line : BitVec 12) (n : Nat) (t : Tile) : List (Int × Nat) :=
  (rangeFrom 0 n).map fun i =>
    (sgn 64 (tNum (64 * line.toNat + 16 * i) 8 t), tNum (64 * line.toNat + 16 * i + 8) 8 t)

/-- The bytes of a scored list. -/
def scoredBytes (l : List (Int × Nat)) : List Byte := l.flatMap fun x => leBytes 8 (tow 64 x.1) ++ leBytes 8 x.2

/-- `n` blocks of 32 fold sums of 5 bytes (R160). -/
def tSums (line : BitVec 12) (n : Nat) (t : Tile) : List (List Int) :=
  (rangeFrom 0 n).map fun b => (rangeFrom 0 32).map fun i => sgn 40 (tNum (64 * line.toNat + 5 * (32 * b + i)) 5 t)

/-- The 31 exponents Emax (R210). -/
def tEmax (line : BitVec 12) (t : Tile) : List Int := (rangeFrom 0 31).map fun b => sgn 8 (tNum (64 * line.toNat + b) 1 t)

/-- Activation blocks of a format at a line: exponents and elements (R81, R83). -/
def tBlocks (line : BitVec 12) (fmt n budget : Nat) (t : Tile) : List (Int × List Int) :=
  let d : PassDesc := ⟨line.toNat, n, 0, 0, fmt, 0, 0, false, budget, 0, 0⟩
  let ents := inputEntries d (64 * line.toNat) t
  (rangeFrom 0 n).map fun b =>
    let x := inputBlock d (64 * line.toNat) b ents t
    (x.1, (rangeFrom 0 32).map x.2)

/-! ### Where the units read and write: byte address and length -/

/-- Every span lies in the scratchpad (R40). -/
def spansOk (l : List (Nat × Nat)) : Bool := l.all fun x => decide (x.1 + x.2 ≤ spadBytes)

/-- The lines of spans. -/
def spanLines (l : List (Nat × Nat)) : List Nat := l.flatMap fun x => linesOf x.1 x.2

/-- A span that begins at a line. -/
def lineSpan (line : BitVec 12) (n : Nat) : Nat × Nat := (64 * line.toNat, n)

/-- The input of a MAC pass: every lane's buffer of its shape, or the one buffer of the lane that a UNION serves. -/
def inputSpan (d : PassDesc) (lane : Option Nat) : Nat × Nat :=
  match lane with
  | some l => (inputBase d l, 64 * inputLines d)
  | none => (64 * d.inLine, shapeLanes d.shape * 64 * inputLines d)

/-- The bytes of the special read of a pass (R45). -/
def specialSpans (w : PassWork) : List (Nat × Nat) :=
  match w with
  | .transposed a _ => [(a.toNat / 4096 * 4096, 4096)]
  | .strided base stride => (rangeFrom 0 16).map fun k => (base.toNat + k * (4 * (stride.toNat + 1)), 4)
  | _ => []

/-- What the work of a PASS beside the MAC pass reads. -/
def workSpans (w : PassWork) : List (Nat × Nat) :=
  match w with
  | .mac => []
  | .transposed _ _ => []
  | .strided _ _ => []
  | .score query src _ n _ _ => [lineSpan query 99, lineSpan src (128 * n.toNat)]
  | .select _ _ _ shelves ns pages np _ _ => [lineSpan shelves (16 * ns.toNat), lineSpan pages (16 * np.toNat)]
  | .zScore _ rcd query src _ n _ _ => [lineSpan rcd 128, lineSpan query 1023, lineSpan src (1024 * n.toNat)]
  | .weigh list src best emax n _ => [lineSpan list (16 * n.toNat), lineSpan src (1024 * n.toNat), lineSpan best 5, lineSpan emax 31]

/-- What a job of the fold and edge unit reads. -/
def jobSpans (j : DrainJob) : List (Nat × Nat) :=
  match j with
  | .acc => []
  | .collect src n _ add resid fmt budget =>
    lineSpan src (160 * n.toNat) ::
      (if add then [lineSpan resid (n.toNat * afmtBytes fmt.toNat + 3 + 4 * budget.toNat * n.toNat)] else [])
  | .norm src fmt n budget _ rsq => [lineSpan src (n.toNat * afmtBytes fmt.toNat + 3 + 4 * budget.toNat * n.toNat), lineSpan rsq 2060]
  | .gated act => [lineSpan act 2060]
  | .entry src _ => [lineSpan src (160 * 31)]
  | .page src _ _ => [lineSpan src (160 * 3)]
  | .shelf src _ => [lineSpan src (128 * 64)]
  | .sums src n => [lineSpan src (8 * n.toNat)]
  | .best src n => [lineSpan src (16 * n.toNat)]
  | .result src emax => [lineSpan src (10 * 993), lineSpan emax 31]

/-! ### The special reads of a pass (R45) -/

/-- The bytes of the special read, none for a plain pass. -/
def specialBytes (w : PassWork) (t : Tile) : List Byte :=
  match w with
  | .transposed a col => tTransposed a.toNat col.toNat t
  | .strided base stride => (tStrided base.toNat (4 * (stride.toNat + 1)) t).flatMap (leBytes 4)
  | _ => []

/-- The tile as the pass sees its input: the special read stands in place of the first 64 bytes. -/
def withSpecial (w : PassWork) (base : Nat) (t : Tile) : Tile :=
  { t with scratch := smSetBytes base (specialBytes w t) t.scratch }

/-! ### The work of PASS beside the MAC pass (R206 to R210) -/

/-- What a unit makes: writes by byte address, fold shuttles, clamps, saturations, and whether it found its input unfit, which poisons the
pass. -/
structure Made where
  writes : List (Nat × List Byte)
  shs : List Shuttle
  clamps : Nat
  sats : Nat
  bad : Bool
  deriving DecidableEq, Repr

/-- Nothing made. -/
def Made.none : Made := ⟨[], [], 0, 0, false⟩

/-- The work of a PASS beside the MAC pass. -/
def workMade (w : PassWork) (t : Tile) : Made :=
  match w with
  | .mac => Made.none
  | .transposed _ _ => Made.none
  | .strided _ _ => Made.none
  | .score query src first n fs out =>
    let q := tLineBytes query 99 t
    let l := (rangeFrom 0 n.toNat).map fun i => (score fs.toInt q (tBytes (64 * src.toNat + 128 * i) 128 t), first.toNat + i)
    { Made.none with
      writes := [(64 * out.toNat, scoredBytes (l.map fun x => (x.1.1, x.2)))]
      sats := sumNat (l.map fun x => b2n x.1.2) }
  | .select r band lane shelves ns pages np out desc =>
    let q := r.toNat + 2
    let chosen := chosenPages r.toNat (tScored shelves ns.toNat t) (tScored pages np.toNat t)
    { Made.none with
      writes := [(64 * out.toNat, recordBytes q chosen (tMark t || decide (lane.toNat ∈ t.lanePoison))),
        (64 * desc.toNat, recordDesc q band.toNat out.toNat lane.toNat)] }
  | .zScore q rcd query src first n fl out =>
    let rb := tLineBytes rcd 128 t
    let qa := tLineBytes query 1023 t
    let pages := pagesFor q.toNat rb
    let l := ((rangeFrom 0 n.toNat).filter fun i => attends q.toNat pages (first.toNat + i)).map fun i =>
      (zScore fl.toInt qa (tBytes (64 * src.toNat + 1024 * i) 1024 t), first.toNat + i)
    { Made.none with
      writes := [(64 * out.toNat, scoredBytes (l.map fun x => (x.1.1, x.2)))]
      sats := sumNat (l.map fun x => b2n x.1.2)
      bad := !recordOk q.toNat rb }
  | .weigh list src best emax n out =>
    let zmax := sgn 40 (tNum (64 * best.toNat) 5 t)
    let ws := (tScored list n.toNat t).map fun x => attnWeight zmax x.1
    let ents := (rangeFrom 0 n.toNat).map fun i => tBytes (64 * src.toNat + 1024 * i) 1024 t
    { Made.none with
      writes := [(64 * out.toNat, (attnY (tEmax emax t) (ws.zip ents) ++ [sumInt ws]).flatMap fun y => leBytes 8 (tow 64 y))] }

/-! ### The jobs of the fold and edge unit -/

/-- The bytes of narrowed blocks written from a line on. -/
def narrowedMade (d : DrainDesc) (bl : List (Int × List Int)) : Made :=
  let r := narrowAll d.fmt d.b d.h bl
  { Made.none with writes := [(64 * d.dest, r.1)], clamps := r.2.1, sats := r.2.2 }

/-- A stored structure made of A8 blocks narrowed with B = 0 (R202, R203). -/
def storedMade (d : DrainDesc) (bl : List (Int × List Int)) (f : List Byte → List Byte) : Made :=
  let r := narrowAll 0x81 0 d.h bl
  { Made.none with writes := [(64 * d.dest, f r.1)], clamps := r.2.1, sats := r.2.2 }

/-- The collector's sums with the residual of the input blocks, block by block, and how many left 48 bits (R92). -/
def collectBlocks (f : Int) (sums : List (List Int)) (resid : List (Int × List Int)) : List (List Int) × Nat :=
  let rs := (sums.zip resid).map fun x => (x.1.zip x.2.2).map fun y => residualAdd y.1 y.2 x.2.1 f
  (rs.map fun r => r.map Prod.fst, sumNat (rs.map fun r => sumNat (r.map fun z => b2n z.2)))

/-- Blocks of zeros, the residual of a collector that adds none. -/
def zeroBlocks (n : Nat) : List (Int × List Int) := List.replicate n (0, List.replicate 32 0)

/-- The shuttles that carry a list of values, `per` to a shuttle. -/
def valueShuttles (cx : Ctx) (d : DrainDesc) (isMax poison : Bool) (lane : Nat) (vals : List (Int × Nat)) : List Shuttle :=
  let per := foldPer isMax
  (rangeFrom 0 ((vals.length + per - 1) / per)).map fun c =>
    foldShuttle cx d isMax poison c (d.firstBlk + per * c / 32) lane ((vals.drop (per * c)).take per)

/-- The gated activation of R100 in MAC lane order, and how many conversions saturated. -/
def gatedBlocks (act : Int → Int) (gate up : AccSet) : List (Int × List Int) × Nat :=
  let es := (rangeFrom 0 1024).map fun i => gatedElem act (smGet 0 i gate.vals) gate.q (smGet 0 i up.vals) up.q
  ((rangeFrom 0 32).map fun k => ((-16 : Int), (es.drop (32 * k)).take 32 |>.map Prod.fst), sumNat (es.map Prod.snd))

/-- What a DRAIN makes of set `a` (and `b`, the other one). A 64-bit partial sum of R210 travels as two fold values, its low 32 bits and the
signed rest: log entry 104. -/
def jobMade (cx : Ctx) (j : DrainJob) (d : DrainDesc) (a b : AccSet) (t : Tile) : Made :=
  let mark := tMark t
  match j with
  | .acc =>
    if d.fold then { Made.none with shs := drainShuttles cx d a mark t.lanePoison }
    else narrowedMade d ((setBlocks a).map fun xs => (a.q, xs))
  | .collect src n f add resid fmt budget =>
    let r := collectBlocks f.toInt (tSums src n.toNat t)
      (if add then tBlocks resid fmt.toNat n.toNat budget.toNat t else zeroBlocks n.toNat)
    let m := narrowedMade d (r.1.map fun xs => (f.toInt, xs))
    { m with sats := m.sats + r.2 }
  | .norm src fmt n budget invD rsq =>
    narrowedMade d (rmsNorm invD.toNat (fun x => tTableFn (64 * rsq.toNat) x t) (tBlocks src fmt.toNat n.toNat budget.toNat t))
  | .gated act =>
    let r := gatedBlocks (fun x => tTableFn (64 * act.toNat) x t) a b
    let m := narrowedMade d r.1
    { m with sats := m.sats + r.2 }
  | .entry src f => storedMade d ((tSums src 31 t).map fun xs => (f.toInt, xs)) fun l => entryBytes l mark
  | .page src f first => storedMade d ((tSums src 3 t).map fun xs => (f.toInt, xs)) fun l => summaryBytes l mark first.toNat
  | .shelf src first =>
    let sums := (rangeFrom 0 64).map fun i => tBytes (64 * src.toNat + 128 * i) 128 t
    storedMade d ((rangeFrom 0 3).map fun k => shelfBlock sums k) fun l => summaryBytes l mark first.toNat
  | .sums src n =>
    { Made.none with shs := valueShuttles cx d false mark a.lane ((rangeFrom 0 n.toNat).flatMap fun i =>
        let y := sgn 64 (tNum (64 * src.toNat + 8 * i) 8 t)
        [(y % p2 32, 0), (y / p2 32, 0)]) }
  | .best src n =>
    match tScored src n.toNat t with
    | [] => Made.none
    | x :: xs => { Made.none with shs := valueShuttles cx d true mark a.lane [xs.foldl foldMax x] }
  | .result src emax =>
    let y := (rangeFrom 0 993).map fun i =>
      ((tNum (64 * src.toNat + 10 * i) 5 t : Nat) : Int) + p2 32 * sgn 40 (tNum (64 * src.toNat + 10 * i + 5) 5 t)
    narrowedMade d (attnOut (fun i => sgn 64 (leNat ((rangeFrom 0 8).map fun k => Config.freeByte cx.free (8 * i + k))))
      (tEmax emax t) y (y.getD 992 0))

/-- The spans that a DRAIN reads and writes lie in the scratchpad. -/
def jobOk (cx : Ctx) (j : DrainJob) (d : DrainDesc) (a b : AccSet) (t : Tile) : Bool :=
  spansOk (jobSpans j) && spansOk ((jobMade cx j d a b t).writes.map fun w => (w.1, w.2.length))

/-- The sets that a job drains. -/
def jobSets (j : DrainJob) (set : Nat) : List Nat :=
  match j with
  | .acc => [set]
  | .gated _ => [0, 1]
  | _ => []

/-- The lanes of a set whose poison the drained result takes on: the whole pass's, or single lanes (R36, R55). -/
def tTakePoison (a : AccSet) (t : Tile) : Tile :=
  a.bad.foldl (fun u l => tPoisonLane l u) (if a.poison then tPoison t else t)

end Sys2Proof.Machine
end

