-- ==== Sys2Proof/Machine/Sequencer.lean ====
section
/-!
DEFINITION. The commands of a tile's sequencer (R353), each with its effect in native mode (R351) and in fixed-slot mode (R356 to
R363). A command acts while the tile is in RUN and its pick program is running (R54, R58).
-/
namespace Sys2Proof.Machine

/-- A tile whose sequencer issues: in RUN, with its pick program running. -/
def issuing (t : Tile) : Bool := decide (t.st = 3) && t.active

/-- A sequencer command: `ok` says that every scratchpad address it uses exists (R40). -/
def seqRun (a : TileAddr) (s : State) (ok : Ctx → Tile → Bool) (f : Ctx → Tile → Tile) : Res :=
  if tileOk a.toNat then
    let t := s.tile a.toNat
    if issuing t then
      if ok (s.ctx a.toNat) t then .next (s.setTile a.toNat (f (s.ctx a.toNat) t)) else .fault .scratchAddr
    else .next s
  else .fault .noTile

/-- A sequencer command that uses no scratchpad address. -/
def seqPlain (a : TileAddr) (s : State) (f : Ctx → Tile → Tile) : Res := seqRun a s (fun _ _ => true) f

/-- The sign-extended constant of a K format word (R352). -/
def kSigned (k : BitVec 14) : Word := k.signExtend 32

/-- ALU result by function code (R353); a code above 9 has no stated result. -/
def aluOp (free : Nat) (fn : Nat) (a b : Word) : Word :=
  match fn with
  | 0 => a + b
  | 1 => a - b
  | 2 => a &&& b
  | 3 => a ||| b
  | 4 => a ^^^ b
  | 5 => a <<< (b.toNat % 32)
  | 6 => a >>> (b.toNat % 32)
  | 7 => a.sshiftRight (b.toNat % 32)
  | 8 => if a.slt b then 1 else 0
  | 9 => if a.ult b then 1 else 0
  | _ => Config.freeWord free

/-- ALU (R353). -/
def execAlu (t : TileAddr) (fn : BitVec 9) (d a b : BitVec 5) (s : State) : Res :=
  seqPlain t (if fn.toNat ≤ 9 then s else s.useFree 1) fun cx u =>
    tNext cx (tResult cx 1 d.toNat (aluOp s.free fn.toNat (tReg a.toNat u) (tReg b.toNat u)) u)

/-- MUL (R353). -/
def execMul (t : TileAddr) (d a b : BitVec 5) (s : State) : Res :=
  seqPlain t s fun cx u => tNext cx (tResult cx 2 d.toNat (tReg a.toNat u * tReg b.toNat u) u)

/-- ADDK (R353). -/
def execAddk (t : TileAddr) (d a : BitVec 5) (k : BitVec 14) (s : State) : Res :=
  seqPlain t s fun cx u => tNext cx (tResult cx 1 d.toNat (tReg a.toNat u + kSigned k) u)

/-- ORK (R353). -/
def execOrk (t : TileAddr) (d a : BitVec 5) (k : BitVec 14) (s : State) : Res :=
  seqPlain t s fun cx u => tNext cx (tResult cx 1 d.toNat (tReg a.toNat u ||| k.zeroExtend 32) u)

/-- SETH (R353). -/
def execSeth (t : TileAddr) (d : BitVec 5) (k : BitVec 19) (s : State) : Res :=
  seqPlain t s fun cx u => tNext cx (tResult cx 1 d.toNat (k.zeroExtend 32 <<< 13) u)

/-- LTSK (R353). -/
def execLtsk (t : TileAddr) (d a : BitVec 5) (k : BitVec 14) (s : State) : Res :=
  seqPlain t s fun cx u => tNext cx (tResult cx 1 d.toNat (if (tReg a.toNat u).slt (kSigned k) then 1 else 0) u)

/-! ### Scratchpad reads and their errors (R52) -/

/-- The course an SRAM read takes: 0 clean, 1 corrected, 2 double-bit error, 3 miscorrected, 4 undetected. Three or more bits in
error take course 2, 3 or 4, and which one is not defined. -/
def sramCourse (free e : Nat) : Nat := if e ≤ 2 then e else 2 + Config.freeChoice free % 3

/-- The record of a course in the tile (R52): corrected errors count and are logged unless an uncorrectable one stands; a
double-bit error poisons, counts, is logged, and takes the tile of a static line from RUN into RELOAD (R59). -/
def tSram (course line : Nat) (t : Tile) : Tile :=
  if course = 1 ∨ course = 3 then
    let t1 := tAdd F.TIL_SP_ERR_CE_COUNT 1 t
    if tGet F.TIL_SP_ERR_UE t = 1 then t1 else tSet F.TIL_SP_LOG_UE 0 (tSet F.TIL_SP_LOG_LINE line t1)
  else if course = 2 then
    let t1 := tPoison (tSet F.TIL_SP_LOG_UE 1 (tSet F.TIL_SP_LOG_LINE line
      (tAdd F.TIL_SP_ERR_UE_COUNT 1 (tSet F.TIL_SP_ERR_UE 1 t))))
    if line < staticLines ∧ t.st = 3 then { t1 with st := 6, active := false, reloaded := false } else t1
  else t

/-- The bits in error that the reads of a command meet: those of the command, and first the double-bit error of an injection where its first
read is of a dynamic line (R571, kind 2). -/
def State.metErrs (s : State) (a first : Nat) (e : List (Nat × Nat)) : List (Nat × Nat) :=
  if s.injHas 2 a = true ∧ staticLines ≤ first / 64 then (first, 2) :: e else e

/-- Words read in error, as byte address, course and the number of the free value that chooses it and fills the word. -/
abbrev Met := Nat × Nat × Nat

/-- The course of each. -/
def coursesOf (free : Nat) (e : List (Nat × Nat)) : List Met :=
  (e.zip (rangeFrom free e.length)).map fun x => (x.1.1, sramCourse x.2 x.1.2, x.2)

/-- A word whose error was not put right: its 8 bytes hold what the error left, which the spec leaves open (R52). -/
def tWrong (adr k : Nat) (t : Tile) : Tile :=
  { t with scratch := smSetBytes (adr / 8 * 8) ((rangeFrom 0 8).map fun i => Config.freeByte k i) t.scratch }

/-- The scratchpad as the reads find it: a single-bit error is put right, every other word is wrong. -/
def tMeet (l : List Met) (t : Tile) : Tile := l.foldl (fun u m => if 2 ≤ m.2.1 then tWrong m.1 m.2.2 u else u) t

/-- The records of the courses in the tile, in order. -/
def tSrams (l : List Met) (t : Tile) : Tile := l.foldl (fun u m => tSram m.2.1 (m.1 / 64) u) t

/-- The fault records of double-bit errors (R559, code 2), and the injection used up. -/
def State.metRecords (s : State) (a first : Nat) (l : List Met) (r : State) : State :=
  let inj := s.injHas 2 a && decide (staticLines ≤ first / 64)
  let r1 := l.foldl (fun q m => if m.2.1 = 2 then
    q.raise 2 17 (if m.1 / 64 < staticLines then 3 else 2) a (bankReg R.TIL_SP_LOG (q.tile a).regs).toNat inj else q) r
  if inj then r1.injUse 2 a else r1

/-- The record TILE_HAZ of a tile (R559, code 3). -/
def State.hazRecord (s : State) (a : Nat) : State :=
  let r := (s.tile a).regs
  s.raise 3 17 2 a ((bankReg R.TIL_HAZ r).toNat % 65536 + (bankReg R.TIL_HAZ_CAP r).toNat * 65536)

/-- A command that reads the scratchpad: `on` says which tiles run it, `first` the first byte it reads, `ok` whether every address it uses
exists, `nf` how many free values it uses, `haz` whether it meets a stream command outside the weight rows (R60). The words it reads in error are met, then it acts, then
the errors are recorded (R52); hazards of turns that it waited for are recorded too (R48). -/
def seqMeet (on : Tile → Bool) (a : TileAddr) (e : List (Nat × Nat)) (first : Tile → Nat) (ok haz : Ctx → Tile → Bool)
    (f : Ctx → Tile → Tile) (s : State) (nf : Nat := 0) : Res :=
  if tileOk a.toNat then
    let u := s.tile a.toNat
    if on u then
      let l := coursesOf s.free (s.metErrs a.toNat (first u) e)
      let cx := { s.ctx a.toNat with free := s.free + l.length }
      let u0 := tMeet l u
      if (e.all fun x => decide (x.1 < spadBytes)) && ok cx u0 then
        let v := tSrams l (f cx u0)
        let r := s.metRecords a.toNat (first u) l ((s.useFree (l.length + nf)).setTile a.toNat v)
        .next (if haz cx u0 || decide (tGet F.TIL_HAZ_COUNT_COUNT v ≠ tGet F.TIL_HAZ_COUNT_COUNT u) then r.hazRecord a.toNat else r)
      else .fault .scratchAddr
    else .next s
  else .fault .noTile

/-- Errors as a command's operand gives them. -/
def errNums (e : List (BitVec 18 × Nat)) : List (Nat × Nat) := e.map fun x => (x.1.toNat, x.2)

/-- No stream command outside the weight rows. -/
def noHaz (_ : Ctx) (_ : Tile) : Bool := false

/-- Byte address of a load or store. -/
def kAddr (u : Tile) (a : BitVec 5) (k : BitVec 14) : Nat := (tReg a.toNat u + kSigned k).toNat

/-- A load with the `e` bits in error that its word meets. -/
def seqLoad (byte : Bool) (t : TileAddr) (d a : BitVec 5) (k : BitVec 14) (e : Nat) (s : State) : Res :=
  let u := s.tile t.toNat
  seqMeet issuing t (if e = 0 then [] else [(kAddr u a k, e)]) (fun v => kAddr v a k) (fun _ v => decide (kAddr v a k < spadBytes)) noHaz
    (fun cx v => tNext cx (tLoad cx byte d.toNat (kAddr v a k) v)) s

/-- LDW (R353, R52). -/
def execLdw (t : TileAddr) (d a : BitVec 5) (k : BitVec 14) (e : Nat) (s : State) : Res := seqLoad false t d a k e s

/-- LDB (R353, R52). -/
def execLdb (t : TileAddr) (d a : BitVec 5) (k : BitVec 14) (e : Nat) (s : State) : Res := seqLoad true t d a k e s

/-- STW (R353). -/
def execStw (t : TileAddr) (d a : BitVec 5) (k : BitVec 14) (s : State) : Res :=
  seqRun t s (fun _ u => decide (kAddr u a k < spadBytes)) fun cx u =>
    tNext cx (tStore cx false (kAddr u a k) (tReg d.toNat u) u)

/-- STB (R353). -/
def execStb (t : TileAddr) (d a : BitVec 5) (k : BitVec 14) (s : State) : Res :=
  seqRun t s (fun _ u => decide (kAddr u a k < spadBytes)) fun cx u =>
    tNext cx (tStore cx true (kAddr u a k) (tReg d.toNat u) u)

/-! ### Jumps (R351, R353, R358) -/

/-- The target of a K format jump: offsets count from the jump's own address. -/
def kTarget (u : Tile) (k : BitVec 14) : BitVec 16 := u.pc + k.signExtend 16

/-- A conditional jump. -/
def jumpIf (t : TileAddr) (d a : BitVec 5) (k : BitVec 14) (p : Word → Word → Bool) (s : State) : Res :=
  seqPlain t s fun cx u => tJump cx (p (tReg d.toNat u) (tReg a.toNat u)) (kTarget u k) u

/-- JEQ (R353). -/
def execJeq (t : TileAddr) (d a : BitVec 5) (k : BitVec 14) (s : State) : Res :=
  jumpIf t d a k (fun x y => decide (x = y)) s

/-- JNE (R353). -/
def execJne (t : TileAddr) (d a : BitVec 5) (k : BitVec 14) (s : State) : Res :=
  jumpIf t d a k (fun x y => decide (x ≠ y)) s

/-- JLT (R353). -/
def execJlt (t : TileAddr) (d a : BitVec 5) (k : BitVec 14) (s : State) : Res :=
  jumpIf t d a k (fun x y => x.slt y) s

/-- JGE (R353). -/
def execJge (t : TileAddr) (d a : BitVec 5) (k : BitVec 14) (s : State) : Res :=
  jumpIf t d a k (fun x y => !(x.slt y)) s

/-- CALL (R351, R353, R358): LK takes the return address, past the delay slots in fixed-slot mode; a CALL in a delay slot is not
taken. -/
def execCall (t : TileAddr) (k : BitVec 24) (s : State) : Res :=
  seqPlain t s fun cx u =>
    let link : BitVec 16 := u.pc + BitVec.ofNat 16 (if cx.stepping = 0 then 1 else latOf cx 4)
    tJump cx true (u.pc + k.truncate 16) (if u.delay.isSome then u else { u with lk := link.zeroExtend 32 })

/-- RET (R353). -/
def execRet (t : TileAddr) (s : State) : Res := seqPlain t s fun cx u => tJump cx true (u.lk.truncate 16) u

/-- JMP (R353). -/
def execJmp (t : TileAddr) (a : BitVec 5) (s : State) : Res :=
  seqPlain t s fun cx u => tJump cx true ((tReg a.toNat u).truncate 16) u

/-! ### Arrival counters and the end of the program -/

/-- WAIT (R50): goes on when the counter is at least the register, otherwise holds. -/
def execWait (t : TileAddr) (a : BitVec 5) (c : BitVec 4) (s : State) : Res :=
  seqPlain t s fun cx u => if (tReg a.toNat u).toNat ≤ smGet 0 c.toNat u.arr then tNext cx u else tWait 2 u

/-- CLRC (R353). -/
def execClrc (t : TileAddr) (c : BitVec 4) (s : State) : Res :=
  seqPlain t s fun cx u => tNext cx { u with arr := smSet 0 c.toNat 0 u.arr }

/-- DONE (R54, R59): the program ends; a pending halt request takes effect; a held strobe restarts it. -/
def execDone (t : TileAddr) (s : State) : Res :=
  seqPlain t s fun cx u =>
    let u1 := tFlush cx u
    let u2 := tWait 1 { u1 with active := false, doneExec := true }
    if u.haltReq then { u2 with st := 4, haltReq := false }
    else if u.strobeHeld then tRestart cx.stepping cx.mode u2 else u2

/-- The lines of a table that a table function reads: its header, and the entries that the input selects (R97). -/
def tfnLines (base : Nat) (x : Int) (t : Tile) : List Nat :=
  let k := sgn 8 (tNum (base + 4) 1 t)
  let d := x - sgn 32 (tNum base 4 t)
  let ent := fun i => (base + 8 + 4 * i) / 64
  base / 64 ::
    (if d < 0 then [ent 0]
     else if d ≥ p2 (k + 17).toNat then (if bitAt (tNum (base + 5) 1 t) 0 then [] else [ent 512])
     else let i := (d / p2 (k + 8).toNat).toNat
       [ent i, ent (i + 1)])

/-- TFN (R97, R353). -/
def execTfn (t : TileAddr) (d a b : BitVec 5) (s : State) (e : List (BitVec 18 × Nat) := []) : Res :=
  seqMeet issuing t (errNums e) (fun u => (tReg a.toNat u).toNat * 64) (fun _ u => decide ((tReg a.toNat u).toNat * 64 + 2060 ≤ spadBytes))
    noHaz (fun cx u =>
      let base := (tReg a.toNat u).toNat * 64
      let u1 := tSettle cx (linesOf base 2060) u
      let v := tTableFn base (tReg b.toNat u).toInt u1
      tNext cx (tResult cx 5 d.toNat (BitVec.ofInt 32 v) (tNote 6 (dedupNat (tfnLines base (tReg b.toNat u).toInt u1)) false u1))) s

/-! ### PASS -/

/-- The lane whose one input buffer the head's read is for, when a UNION names it (R37). -/
def headLane (t : Tile) : Option Nat :=
  match t.queue with
  | [] => none
  | c :: _ =>
    match headRead c t with
    | .read _ l => l
    | _ => none

/-- The descriptor of a pass: a UNION's passes are DOT passes (R37). -/
def passOf (dl : Nat) (lane : Option Nat) (t : Tile) : PassDesc :=
  let d := passDesc dl t
  match lane with
  | some _ => { d with shape := 0 }
  | none => d

/-- The command at the head of the queue names rows outside the weight rows (R60). -/
def headBad (t : Tile) : Bool :=
  match t.queue with
  | [] => false
  | c :: _ =>
    match headRead c t with
    | .read (some x) _ => !x.ok
    | _ => false

/-- A write of a unit: in a MAC-feed slot of the turn, or at its program time of fixed-slot mode (R41, R359). -/
def tUnitWrite (cx : Ctx) (cls a : Nat) (bs : List Byte) (t : Tile) : Tile :=
  if cx.stepping = 0 then tStage 2 a bs t
  else tNote 2 (linesOf a bs.length) true { t with pendWrite := t.pendWrite ++ [⟨t.p + latOf cx cls, a, bs⟩] }

/-- The pass on a slice, once its stream delivers (R85, R359); a slice outside the weight rows is skipped and poisons the pass (R60). -/
def passRun (cx : Ctx) (w : PassWork) (d : PassDesc) (c : StreamCmd) (sl : Option Slice) (lane : Option Nat) (u : Tile) : Tile :=
  let u1 := tSettle cx (spanLines (inputSpan d lane :: specialSpans w)) u
  let u2 := match sl with
    | some x => tStagedBad x u1
    | none => u1
  let rep := match sl with
    | some x => replays c x u1
    | none => false
  let r := passResult rep d sl lane (withSpecial w (inputSpan d lane).1 u2)
  let u3 := tSat r.2 (tPutSet cx d r.1 (tNote (2 + d.feed) (dedupNat (spanLines (inputSpan d lane :: specialSpans w))) false u2))
  match sl with
  | some x => tTaken c x u3
  | none => u3

/-- The MAC pass: it holds without a stream command, without the selection word, and while its set is drained (R30, R66). -/
def doPass (cx : Ctx) (w : PassWork) (line : Nat) (u : Tile) : Tile :=
  let u0 := tNote 6 [line] false (tSettle cx [line] u)
  match u.queue with
  | [] => tWait 5 u
  | c :: _ =>
    match headRead c u0 with
    | .wait => tWait 3 u
    | .skip => tNext cx (popHead u0)
    | .read sl lane =>
      let d := passOf line lane u0
      if tDraining d.set u0 then tWait 4 u
      else if headBad u0 then
        tNext cx (passRun cx w d c none lane (dropHead (tPoison (tSet F.TIL_HAZ_STREAM 1 u0))))
      else tNext cx (popHead (passRun cx w d c sl lane u0))

/-- The other work of a PASS (Work.lean): its inputs read and its results written in MAC-feed slot 0. -/
def doWork (cx : Ctx) (w : PassWork) (u : Tile) : Tile :=
  let ls := spanLines (workSpans w)
  let u1 := tNote 2 (dedupNat ls) false (tSettle cx ls u)
  let m := workMade w u1
  let u2 := tSat m.sats (if m.bad then tPoison u1 else u1)
  tNext cx (m.writes.foldl (fun v x => tUnitWrite cx 7 x.1 x.2 v) u2)

/-- A MAC pass, with or without a special read; the other works use neither descriptor nor stream. -/
def macWork (w : PassWork) : Bool :=
  match w with
  | .mac => true
  | .transposed _ _ => true
  | .strided _ _ => true
  | .score _ _ _ _ _ _ => false
  | .select _ _ _ _ _ _ _ _ _ => false
  | .zScore _ _ _ _ _ _ _ _ => false
  | .weigh _ _ _ _ _ _ => false

/-- Every address of a pass exists. -/
def passOk (w : PassWork) (line : Nat) (u : Tile) : Bool :=
  if macWork w then
    decide (line < spadLines) && spansOk (inputSpan (passOf line (headLane u) u) (headLane u) :: specialSpans w)
  else spansOk (workSpans w) && spansOk ((workMade w u).writes.map fun x => (x.1, x.2.length))

/-- The first byte that a PASS reads of what it works on. -/
def passFirst (w : PassWork) (line : Nat) (u : Tile) : Nat :=
  if macWork w then (inputSpan (passOf line (headLane u) u) (headLane u)).1 else ((workSpans w).headD (0, 0)).1

/-- PASS (R27, R85, R353), with the errors that its scratchpad reads meet (R52). -/
def execPass (t : TileAddr) (a : BitVec 5) (w : PassWork) (e : List (BitVec 18 × Nat)) (s : State) : Res :=
  seqMeet issuing t (errNums e) (fun u => passFirst w (tReg a.toNat u).toNat u) (fun _ u => passOk w (tReg a.toNat u).toNat u)
    (fun _ u => macWork w && headBad u && !tDraining (passOf (tReg a.toNat u).toNat (headLane u) u).set u)
    (fun cx u => if macWork w then doPass cx w (tReg a.toNat u).toNat u else doWork cx w u) s

/-! ### STREAM -/

/-- A FIXED slice outside the weight rows (R35, R60). -/
def fixedBad (kind line : Nat) (u : Tile) : Bool := decide (kind = 0) && !(sliceAt (64 * line) u).ok

/-- STREAM (R34, R35, R60): queued, held while the queue is full; a FIXED slice outside the weight rows is skipped and poisons the
pass; the selection words already here are checked against the table (R36). The first FIXED command of an empty queue begins to fill the
staging buffer (R34). -/
def doStream (cx : Ctx) (kind j lane line : Nat) (u : Tile) : Tile :=
  let u0 := tNote 6 [line] false (tSettle cx [line] u)
  if fixedBad kind line u0 then tNext cx (tPoison (tSet F.TIL_HAZ_STREAM 1 u0))
  else if 4 ≤ u.queue.length then tWait 5 u
  else
    let u1 := if u0.selHere = true ∧ kind ≠ 0 then tSelFault (badIndexLanes line u0) u0 else u0
    let u2 := { u1 with queue := u1.queue ++ [⟨kind, line, j, lane, 0⟩] }
    tNext cx (if kind = 0 ∧ u1.queue = [] then tStageRows (sliceAt (64 * line) u1) u2 else u2)

/-- The record of lanes that a stream command poisons: a faulty selection word (R559, code 4). -/
def streamFaults (a : Nat) (u v : Tile) (s : State) : State :=
  if u.lanePoison.length < v.lanePoison.length then s.raise 4 17 1 a (v.lanePoison.headD 0) else s

/-- STREAM (R34, R353). -/
def execStream (t : TileAddr) (a : BitVec 5) (kind : Fin 3) (j : BitVec 3) (lane : BitVec 5) (s : State) (e : List (BitVec 18 × Nat) := []) : Res :=
  match seqMeet issuing t (errNums e) (fun u => 64 * (tReg a.toNat u).toNat) (fun _ u => decide ((tReg a.toNat u).toNat < spadLines))
      (fun cx u => fixedBad kind.val (tReg a.toNat u).toNat (tSettle cx [(tReg a.toNat u).toNat] u))
      (fun cx u => doStream cx kind.val j.toNat lane.toNat (tReg a.toNat u).toNat u) s with
  | .next r => .next (streamFaults t.toNat (s.tile t.toNat) (r.tile t.toNat) r)
  | .fault f => .fault f
  | .refused f => .refused f

/-! ### DRAIN -/

/-- Accumulator set `n` as it stands. -/
def accSet (n : Nat) (t : Tile) : AccSet := if n = 0 then t.acc0 else t.acc1

/-- DRAIN (R30, R55, R353, R359). In native mode the fold and edge unit takes the set for 4 turns and delivers what it makes after the
fifth; it holds while the unit is busy. In fixed-slot mode the results fall at their program times. -/
def doDrain (cx : Ctx) (set line : Nat) (job : DrainJob) (u : Tile) : Tile :=
  if u.drain.isSome then tWait 4 u
  else
    let u0 := tNote 6 [line] false (tSettle cx [line] u)
    let d := drainDesc line u0
    let ls := spanLines (jobSpans job)
    let u1 := tNote 2 (dedupNat ls) false (tSettle cx ls u0)
    let a := accSet set u1
    let b := accSet (1 - set) u1
    let m := jobMade cx job d a b u1
    let u2 := if m.shs = [] then (jobSets job set).foldl (fun v n => tTakePoison (accSet n u1) v) u1 else u1
    let u3 := tSat m.sats (tClamp m.clamps u2)
    if cx.stepping = 0 then
      tNext cx { u3 with drain := some ⟨jobSets job set, 5, (m.writes.headD (0, [])).1, (m.writes.headD (0, [])).2, m.shs⟩ }
    else
      let u4 := (jobSets job set).foldl (fun v n => { v with setFree := smSet 0 n (v.p + latOf cx 9) v.setFree }) u3
      tNext cx (tBuild (u4.building ++ m.shs) (m.writes.foldl (fun v x => tUnitWrite cx 8 x.1 x.2 v) u4))

/-- A unit command that a HALTED tile's sequence still makes, marking what it sends (R59): SEND and DRAIN act there too. -/
def sends (t : Tile) : Bool := issuing t || decide (t.st = 4)

/-- Every address of a drain exists. -/
def drainOk (cx : Ctx) (set line : Nat) (job : DrainJob) (u : Tile) : Bool :=
  decide (line < spadLines) && jobOk cx job (drainDesc line u) (accSet set u) (accSet (1 - set) u) u

/-- Free values that a job uses: one, for the quotients that a divisor of 0 leaves open (R210). -/
def jobFree (job : DrainJob) : Nat :=
  match job with
  | .result _ _ => 1
  | _ => 0

/-- DRAIN (R55, R353). -/
def execDrain (t : TileAddr) (a : BitVec 5) (set : BitVec 1) (s : State) (job : DrainJob := .acc) (e : List (BitVec 18 × Nat) := []) : Res :=
  seqMeet sends t (errNums e) (fun u => 64 * (tReg a.toNat u).toNat) (fun cx u => drainOk cx set.toNat (tReg a.toNat u).toNat job u) noHaz
    (fun cx u => doDrain cx set.toNat (tReg a.toNat u).toNat job u) s (jobFree job)

/-! ### SEND and SPOOL -/

/-- The shuttle that SEND injects (R159, R353): the 32-byte header at the line with SRC and the pick written by the tile, POISON where the
pass or its lane is poisoned, and the payload after it. -/
def sendShuttle (cx : Ctx) (line : Nat) (mark : Bool) (u : Tile) : Shuttle :=
  let h := bitsPut (tNum (64 * line) 32 u) 64 19 cx.addr
  ⟨if mark || decide (hLane h ∈ u.lanePoison) then bitsPut h 6 1 1 else h, tBytes (64 * line + 32) (hLen h) u⟩

/-- SEND: it holds while the local input buffer of the virtual channel has no room (R158). -/
def doSend (cx : Ctx) (line : Nat) (mark : Bool) (u : Tile) : Tile :=
  let ls := linesOf (64 * line) (32 + hLen (tNum (64 * line) 32 u))
  let u0 := tSettle cx ls u
  let sh := sendShuttle cx line mark u0
  if outRoom sh u0 then tNext cx (tSendOut [sh] (tNote 7 ls false u0)) else tWait 7 u0

/-- SEND (R353), with an injected POISON in the tile's first outgoing shuttle (R571, kind 3). -/
def execSend (t : TileAddr) (a : BitVec 5) (s : State) (e : List (BitVec 18 × Nat) := []) : Res :=
  match seqMeet sends t (errNums e) (fun u => 64 * (tReg a.toNat u).toNat)
      (fun _ u => decide (64 * (tReg a.toNat u).toNat + 32 + hLen (tNum (64 * (tReg a.toNat u).toNat) 32 u) ≤ spadBytes)) noHaz
      (fun cx u => doSend cx (tReg a.toNat u).toNat (tMark u || s.injHas 3 t.toNat) u) s with
  | .next r => .next (if (s.tile t.toNat).outbox.length < (r.tile t.toNat).outbox.length then r.injUse 3 t.toNat else r)
  | .fault f => .fault f
  | .refused f => .refused f

/-- A spool descriptor (R354): write bit, address, line, units, lane. -/
def spoolDesc (line : Nat) (u : Tile) : Bool × Nat × Nat × Nat × Nat :=
  let d := tNum (64 * line) 16 u
  (bitAt d 0, bitsOf d 1 45, bitsOf d 46 12, bitsOf d 64 7, bitsOf d 71 5)

/-- A request starts toward the channel controller of the tile's own column (R218): it stands in the tile's list, and its shuttles go by the
local port (R56, R160). -/
def tAsk (cx : Ctx) (r : SpoolReq) (t : Tile) : Tile :=
  let shs := spoolShuttles 4 3 (ctrlRouter cx.addr) cx.addr r.poison r.line r.sva r.data
  tBuild (t.building ++ shs)
    { t with spNext := t.spNext + 1, spReqs := t.spReqs ++ [{ r with id := t.spNext, ctrl := ctrlRouter cx.addr, away := shs.length }] }

/-- SPOOL (R56, R354): refused and poisoned for 0 or more than 64 units; held at 16 reads or 8 writes outstanding. -/
def doSpool (cx : Ctx) (line : Nat) (u : Tile) : Tile :=
  let u0 := tNote 6 [line] false (tSettle cx [line] u)
  let (wr, sva, ln, units, lane) := spoolDesc line u0
  if units = 0 ∨ 64 < units then tNext cx (tPoison u0)
  else if wr then
    if 8 ≤ u.spWrites then tWait 6 u
    else
      let u1 := tSettle cx (rangeFrom ln units) u0
      tNext cx (tAsk cx ⟨0, true, sva, ln, units, lane, tBytes (64 * ln) (64 * units) u1, none,
          tMark u1 || decide (lane ∈ u1.lanePoison), 0, 0⟩
        { tNote 7 (rangeFrom ln units) false u1 with spWrites := u1.spWrites + 1 })
  else if 16 ≤ u.spReads then tWait 6 u
  else tNext cx (tAsk cx ⟨0, false, sva, ln, units, lane, [], none, false, 0, 0⟩ { u0 with spReads := u0.spReads + 1 })

/-- SPOOL (R56, R353). -/
def execSpool (t : TileAddr) (a : BitVec 5) (s : State) (e : List (BitVec 18 × Nat) := []) : Res :=
  seqMeet issuing t (errNums e) (fun u => 64 * (tReg a.toNat u).toNat) (fun _ u =>
      let (wr, _, ln, units, _) := spoolDesc (tReg a.toNat u).toNat u
      decide ((tReg a.toNat u).toNat < spadLines) && (!wr || decide (ln + units ≤ spadLines))) noHaz
    (fun cx u => doSpool cx (tReg a.toNat u).toNat u) s

/-- RESERVED_OPCODE: a no-op that records nothing (R353). -/
def execReservedOpcode (t : TileAddr) (_op : BitVec 8) (s : State) : Res := seqPlain t s fun cx u => tNext cx u

end Sys2Proof.Machine
end

