-- ==== Sys2Proof/Machine/SntOps.lean ====
section
/-!
DEFINITION. The sentinel's reports (R532, R535, R538, R539, R544): segment IDs, the capture that a covered write restarts, the first report,
and the check that follows a write through the register path.
-/
namespace Sys2Proof.Machine

/-- Segment IDs (R532). -/
def segTile (a : Nat) : Nat := a
def segRouter (a : Nat) : Nat := 0x100000 + a
def segBlock (k : Nat) : Nat := 0x200000 + k

/-- Covered bits of a register (R523, R532). -/
def covMask (a : Nat) : Nat :=
  match regRow? a with
  | some r => r.cov
  | none => 0

/-- The first report is captured; a later one is not (R539, R544). -/
def State.sntCapture (s : State) (id crc : Nat) (write : Bool) : State :=
  if s.get F.SNT_CAP0_VALID = 1 then s
  else (((s.set F.SNT_CAP0_VALID 1).set F.SNT_CAP0_WRITE (b2n write)).set F.SNT_CAP0_SEGMENT id).set F.SNT_CAP1_CRC crc

/-- A mismatch is reported (R539). -/
def State.sntReport (s : State) (id crc : Nat) (write : Bool) : State :=
  let s1 := ((((s.sntCapture id crc write).set F.SNT_STATUS_MISMATCH 1).set F.SNT_STATUS_MISMATCH_SEEN 1).add F.SNT_MISMATCHES_COUNT 1).set
    F.SKN_CTRL_ADMIT_EN 0
  s1.raise 11 3 5 0 (s1.get F.SNT_CAP0_SEGMENT + s1.get F.SNT_CAP1_CRC % 2 ^ 24 * 2 ^ 24)

/-- A covered write during a capture restarts the capture of its segment; the sixteenth restart ends the capture (R535). -/
def State.sntRestart (s : State) (id : Nat) : State :=
  if s.get F.SNT_STATUS_CAPTURING = 0 then s
  else
    let n := s.snt.restarts + 1
    let s1 := s.add F.SNT_RESTARTS_RESTARTS 1
    if 16 ≤ n then
      { (s1.set F.SNT_STATUS_CAPTURING 0).set F.SNT_STATUS_COMMIT_FAIL 1 with
        snt := { s1.snt with capture := [], fresh := [], restarts := n } }
    else
      { s1 with snt := { s1.snt with
          restarts := n
          capture := if id ∈ s1.snt.capture then s1.snt.capture else id :: s1.snt.capture
          fresh := s1.snt.fresh.filter fun j => decide (j ≠ id) } }

/-- A write through the register path has changed a covered field at an offset of a segment's block or tile (R535, R538). -/
def State.sntWrite (s : State) (id off : Nat) : State :=
  let s1 := s.sntRestart id
  if s1.get F.SNT_STATUS_REF_VALID = 1 then s1.sntReport id off true else s1

/-- The check after a write to instance `i` of the register at `a`: `old` is its word before. -/
def State.sntCheck (s : State) (a i : Nat) (old : Word) : State :=
  if Nat.land old.toNat (covMask a) = Nat.land (s.reg a i).toNat (covMask a) then s else s.sntWrite (segBlock (a / 0x10000)) (a % 0x10000)

/-- The check after a write to the register at an offset of a tile. -/
def State.sntTile (s : State) (t off : Nat) (old : Word) : State :=
  let a := 0x110000 + off
  if Nat.land old.toNat (covMask a) = Nat.land (bankReg (rkey a 0) (s.tile t).regs).toNat (covMask a) then s else s.sntWrite (segTile t) off

end Sys2Proof.Machine
end

