-- ==== Sys2Proof/Machine/Crc.lean ====
section
/-!
DEFINITION. The check values of the device: the one procedure of R547, and the five settings of the worked example that
follows R549 (CRC-32C of the sentinel, CRC-32 of Helsia flits, CRC-16 of weft links, CRC-8 of warp messages and tray
readings, CRC-64 of sections, slots and prefix hashes).
-/
namespace Sys2Proof.Machine

/-- Bits 0 to `w - 1` of `x` in reverse order (`reflectW` of R547). -/
def reflectBits : Nat → Nat → Nat
  | 0, _ => 0
  | w + 1, x => (x % 2) * 2 ^ w + reflectBits w (x / 2)

/-- One bit of a feed: R547's loop body for bit value `b`. -/
def crcBit (w poly st : Nat) (b : Bool) : Nat :=
  let fb := Nat.xor (st / 2 ^ (w - 1) % 2) (b2n b)
  let sh := (st * 2) % 2 ^ w
  if fb = 1 then Nat.xor sh (poly % 2 ^ w) else sh

/-- Bits `n - 1` down to 0 of `d` fed. -/
def crcBits (w poly : Nat) : Nat → Nat → Nat → Nat
  | 0, _, st => st
  | n + 1, d, st => crcBits w poly n d (crcBit w poly st (d.testBit n))

/-- Feed one byte (R547). -/
def crcByte (w poly : Nat) (refin : Bool) (st : Nat) (d : Byte) : Nat :=
  crcBits w poly 8 (if refin then reflectBits 8 d.toNat else d.toNat) st

/-- Feed bytes in order. -/
def crcFeed (w poly : Nat) (refin : Bool) : Nat → List Byte → Nat
  | st, [] => st
  | st, d :: ds => crcFeed w poly refin (crcByte w poly refin st d) ds

/-- The result of R547 from a state. -/
def crcResult (w : Nat) (refout invert : Bool) (st : Nat) : Nat :=
  let r := if refout then reflectBits w st else st
  if invert then Nat.xor r (2 ^ w - 1) else r

/-- CRC-32C (R533). -/
def crc32c (bs : List Byte) : Nat :=
  crcResult 32 true true (crcFeed 32 0x1EDC6F41 true 0xFFFFFFFF bs)

/-- CRC-32 of a Helsia flit (R378). -/
def crc32 (bs : List Byte) : Nat :=
  crcResult 32 true true (crcFeed 32 0x04C11DB7 true 0xFFFFFFFF bs)

/-- CRC-16 of a weft flit (R161). -/
def crc16 (bs : List Byte) : Nat := crcFeed 16 0x1021 false 0xFFFF bs

/-- CRC-8 of warp messages and tray readings (R333, R477). -/
def crc8 (bs : List Byte) : Nat := crcFeed 8 0x07 false 0 bs

/-- The polynomial of R279. -/
def poly64 : Nat := 0x42F0E1EBA9EA3693

/-- CRC-64 of sections, slot images and prefix hashes (R279, R316, R263). -/
def crc64 (bs : List Byte) : Nat := crcFeed 64 poly64 false 0 bs

/-- CRC-64 started from a given value: the chained prefix hash of R263. -/
def crc64From (init : Nat) (bs : List Byte) : Nat := crcFeed 64 poly64 false (init % 2 ^ 64) bs

end Sys2Proof.Machine
end

