-- ==== Sys2Proof/Machine/HostOps.lean ====
section
/-!
DEFINITION. The device's access to host memory (R386, R391 to R402): token, completion and event records, the order of records when a
port changes, reads and their tags, and the SN queue while no HOST port is UP.
-/
namespace Sys2Proof.Machine

/-! ### Reads -/

/-- Traffic class of a read, or of a FLUSH that follows writes (R384): TC2 for swap, dump, installation and reports, else TC1. -/
def Purpose.tc : Purpose → Nat
  | .restore _ _ _ => 2
  | .install _ => 2
  | .swapFlush _ => 2
  | .dumpFlush => 2
  | .report => 2
  | .prompt _ _ => 1
  | .ringRd _ => 1
  | .sq _ _ => 1
  | .compRd _ => 1
  | .evRd => 1
  | .flush _ => 1

/-- The transaction of a read on a port: a FLUSH where it has no length. -/
def HostRead.out (r : HostRead) (p : Nat) : Out :=
  if r.len = 0 then .flush p r.why.tc r.tag r.addr else .memRd p r.why.tc r.tag r.addr r.len

/-- A read of a swapped frame. -/
def Purpose.swapRead : Purpose → Bool
  | .restore _ _ _ => true
  | _ => false

/-- A port takes a read: up to 256 reads of swapped frames are outstanding on it (R399). -/
def State.readRoom (s : State) (p : Nat) (why : Purpose) : Bool :=
  !why.swapRead || decide ((s.host.reads.filter fun r => r.issued && decide (r.port = p) && r.why.swapRead).length < 256)

/-- A read goes out on a port under the next tag. -/
def State.issueOn (s : State) (r : HostRead) (p : Nat) : State :=
  let r' := { r with tag := s.host.nextTag, port := p, tries := r.tries + 1, issued := true }
  { s with host := { s.host with nextTag := (s.host.nextTag + 1) % 4096, reads := s.host.reads ++ [r'] }, out := s.out ++ [r'.out p] }

/-- A read of host memory, or with `len = 0` a FLUSH: issued on the preferred UP HOST port, or waiting while none is UP or the port takes
no more (R399, R402). -/
def State.hostRead (s : State) (pref addr len : Nat) (why : Purpose) : State :=
  let r : HostRead := ⟨0, pref, addr, len, 0, false, why⟩
  match s.hostPort pref with
  | none => { s with host := { s.host with reads := s.host.reads ++ [r] } }
  | some p => if s.readRoom p why then s.issueOn r p else { s with host := { s.host with reads := s.host.reads ++ [{ r with port := p }] } }

/-- A read of this purpose is in flight or waits. -/
def State.reading (s : State) (why : Purpose) : Bool := s.host.reads.any fun r => decide (r.why = why)

/-- The port that a waiting read goes out on: its own while that is UP for a swapped frame, else the lowest UP HOST port. -/
def State.readPort (s : State) (r : HostRead) : Option Nat := s.hostPort (if r.why.swapRead then r.port else 0)

/-- Waiting reads in their order: each that a port takes is issued, the others wait on (R399, R402). -/
def State.issueReads (s : State) : State :=
  let put := fun (u : State) (r : HostRead) => { u with host := { u.host with reads := u.host.reads ++ [r] } }
  let s0 := { s with host := { s.host with reads := s.host.reads.filter HostRead.issued } }
  (s.host.reads.filter fun r => !r.issued).foldl (fun u r => match u.readPort r with
    | none => put u r
    | some p => if u.readRoom p r.why then u.issueOn r p else put u r) s0

/-! ### Records -/

/-- Class of the records of completion ring `n` and of the event ring. -/
def clsComp (n : Nat) : Nat := 4096 + n
def clsEvent : Nat := 4112

/-- Classes of writes that are issued again on another port (R406): those of TC1 and of TC2. -/
def clsAgain (tc : Nat) : Nat := 4112 + tc

/-- Traffic class of a class of records (R384). -/
def clsTc (cls : Nat) : Nat := if cls = clsAgain 2 then 2 else 1

/-- Address of a class's control block: the token ring's, or the ring's (R254, R391, R395). -/
def State.ctlAddr (s : State) (cls : Nat) (skBase : Nat) : Nat :=
  if cls < 4096 then skBase
  else if cls < 4112 then
    s.get (F.HLS_SQ_LO_ADDR_LO.nth (cls - 4096)) * 4096 + s.get (F.HLS_SQ_HI_ADDR_HI.nth (cls - 4096)) * 2 ^ 32
      + 64 * 2 ^ s.get (F.HLS_SQ_LO_LOG2.nth (cls - 4096))
  else s.get F.HLS_EVQ_LO_ADDR_LO * 4096 + s.get F.HLS_EVQ_HI_ADDR_HI * 2 ^ 32

/-- The control block of a class: a token ring's lies at its skein's RING_BASE (R254). -/
def State.clsCtl (s : State) (cls : Nat) : Nat := s.ctlAddr cls
  (((s.reed.skeins.find? fun kv => decide (kv.1 = cls)).map fun kv => kv.2.ringBase).getD 0)

/-- The port that a class of records uses now: token records on the (ID mod H)-th UP HOST port (R398), a ring's on its PORT (R393). -/
def State.clsHostPort (s : State) (cls : Nat) : Option Nat :=
  if cls < 4096 then s.hostPorts[cls % s.hostPorts.length]?
  else if cls < 4112 then s.hostPort (s.get (F.HLS_SQ_LO_PORT.nth (cls - 4096)))
  else s.hostPort 0

/-- A FLUSH holds this class back (R398, R407). -/
def State.clsHeld (s : State) (cls : Nat) : Bool := s.reading (.flush cls)

/-- A record is written: at once on the class's port; in the SN queue while no HOST port is UP (R402), while earlier records of its
class wait, or while a FLUSH on the class's old port is out (R398, R407). -/
def State.hostWrite (s : State) (cls addr : Nat) (data : List Byte) : State :=
  let wait := { s with host := { s.host with queue := s.host.queue ++ [⟨cls, addr, data⟩] } }
  if s.clsHeld cls = true ∨ s.host.queue.any (fun w => decide (w.cls = cls)) = true then wait
  else match s.clsHostPort cls with
    | none => wait
    | some p =>
      match smGet none cls s.host.clsPort with
      | some q =>
        if q ≠ p ∧ (s.portState q = 3 ∨ s.portState q = 4) then
          { wait with host := { wait.host with reads := wait.host.reads ++ [⟨wait.host.nextTag, q, s.clsCtl cls, 0, 1, true, .flush cls⟩],
                                               nextTag := (wait.host.nextTag + 1) % 4096 },
                      out := wait.out ++ [.flush q 1 wait.host.nextTag (s.clsCtl cls)] }
        else { s with host := { s.host with clsPort := smSet none cls (some p) s.host.clsPort }, out := s.out ++ [.memWr p (clsTc cls) addr data] }
      | none => { s with host := { s.host with clsPort := smSet none cls (some p) s.host.clsPort }, out := s.out ++ [.memWr p (clsTc cls) addr data] }

/-- The records that wait are written in order as far as their classes may go (R402). -/
def State.pumpWrites (s : State) : State :=
  s.host.queue.foldl (fun u w => u.hostWrite w.cls w.addr w.data) { s with host := { s.host with queue := [] } }

/-- The FLUSH of a class has completed: its records go on the new port. -/
def State.clsFlushed (s : State) (cls : Nat) : State :=
  ({ s with host := { s.host with clsPort := smSet none cls none s.host.clsPort } }).pumpWrites

/-! ### Completion and event records (R394, R395) -/

/-- PHASE of record number `n` in a ring of `2 ^ k` records (R255). -/
def phaseOf (n k : Nat) : Nat := (n / 2 ^ k + 1) % 2

/-- A 16-byte completion or event record (R394). -/
def recBytes (code status tag id env flags data : Nat) : List Byte :=
  leBytes 1 code ++ leBytes 1 status ++ leBytes 2 tag ++ leBytes 2 id ++ leBytes 1 env ++ leBytes 1 flags ++ leBytes 8 data

/-- LOG2 of a submission ring. -/
def State.sqLog2 (s : State) (n : Nat) : Nat := s.get (F.HLS_SQ_LO_LOG2.nth n)

/-- The completion record of a command (R394). -/
def State.complete (s : State) (ring op status tag id env : Nat) : State :=
  let n := smGet 0 ring s.host.compWr
  let k := s.sqLog2 ring
  let s1 := s.hostWrite (clsComp ring) (s.ctlAddr (clsComp ring) 0 + 64 + 16 * (n % 2 ^ k))
    (recBytes op status tag id env (phaseOf n k) s.pm.pick)
  { s1 with host := { s1.host with compWr := smSet 0 ring (n + 1) s1.host.compWr } }

/-- The completion slot of a ring is free by the read count last fetched (R393). -/
def State.compRoom (s : State) (ring : Nat) : Bool :=
  decide ((smGet 0 ring s.host.compWr + 2 ^ 32 - smGet 0 ring s.host.compRd) % 2 ^ 32 < 2 ^ s.sqLog2 ring)

/-- The event ring takes events: its LOG2 is 6 to 16 (R395). -/
def State.evOpen (s : State) : Bool := decide (6 ≤ s.get F.HLS_EVQ_LO_LOG2) && decide (s.get F.HLS_EVQ_LO_LOG2 ≤ 16)

/-- The event ring has room by the read count last fetched. -/
def State.evRoom (s : State) : Bool :=
  decide ((s.host.evWr + 2 ^ 32 - s.host.evRd) % 2 ^ 32 < 2 ^ s.get F.HLS_EVQ_LO_LOG2)

/-- The first event of the device queue is written. -/
def State.evWrite (s : State) (rec : List Byte) : State :=
  let k := s.get F.HLS_EVQ_LO_LOG2
  let n := s.host.evWr
  let r := rec.take 7 ++ leBytes 1 (phaseOf n k) ++ rec.drop 8
  let s1 := s.hostWrite clsEvent (s.ctlAddr clsEvent 0 + 64 + 16 * (n % 2 ^ k)) r
  { s1 with host := { s1.host with evWr := n + 1 } }

/-- The device queue of events is written in order while the ring takes them; `n` bounds how many. -/
def State.evPump (s : State) : Nat → State
  | 0 => s
  | n + 1 =>
    match s.host.evQueue with
    | [] => s
    | r :: rs =>
      if s.evOpen && s.evRoom then
        (({ s with host := { s.host with evQueue := rs } }).evWrite r).evPump n
      else s

/-- The reed writes an event record (R250, R394, R395): into the ring, into the device queue of 256, or lost. -/
def State.event (s : State) (code id data : Nat) : State :=
  let r := recBytes code 0 0 id 0 0 data
  if s.host.evQueue = [] ∧ s.evOpen = true ∧ s.evRoom = true then s.evWrite r
  else if s.host.evQueue.length < 256 then { s with host := { s.host with evQueue := s.host.evQueue ++ [r] } }
  else (s.set F.HLS_STATUS_EV_LOST 1).beacon 11 (leBytes 2 id)

end Sys2Proof.Machine
end

