-- ==== Sys2Proof/Machine/SpoolMem.lean ====
section
/-!
DEFINITION. The spool's memory (R198 to R225): the striping of a band pool over its home channels, page tables, frames, translation
caches, spool faults, and the ranges that release, copy and swap work on.
-/
namespace Sys2Proof.Machine

/-! ### Addresses -/

/-- Frames of a band pool (R200), bytes of a frame, 8 KiB blocks of the page table area (R201, R216). -/
def poolFrames : Nat := 655360
def frameBytes : Nat := 65536
def tblBlocks : Nat := 2 ^ 24

/-- The variant in effect (R321, R330). -/
def Pattern.inEffect (p : Pattern) : Option Variant := p.variants[p.variant]?

/-- Place of a tile in the bitmaps of R288 and R321: one bit for each tile in address order. -/
def tileIndex (a : Nat) : Nat := fieldOf a * 4608 + colOf a * 72 + rowOf a

/-- The tile of a place in a bitmap. -/
def tileOfIndex (n : Nat) : Nat := n / 4608 * 8192 + n / 72 % 64 * 128 + n % 72

/-- A bit of a bitmap. -/
def mapBit (m : List Byte) (n : Nat) : Bool := (m.getD (n / 8) 0).getLsbD (n % 8)

/-- TILE_MAP gives a field some slot image (R321). -/
def Pattern.mapsField (p : Pattern) (f : Nat) : Bool := ((p.tileMap.drop (576 * f)).take 576).any fun b => decide (b ≠ 0)

/-- The dark region of the variant in effect, none under variant 0. -/
def Pattern.dark (p : Pattern) : Option Nat := if p.variant = 0 then none else p.inEffect.map Variant.dark

/-- The pattern, in its variant in effect, uses a region (R330, R438). -/
def Pattern.uses (p : Pattern) (r : Nat) : Bool :=
  if r = p.spare then decide (p.variant ≠ 0)
  else decide (p.dark ≠ some r) && (fieldsOf r).any p.mapsField

/-- A loaded pattern uses a region (R438). -/
def State.patUses (s : State) (r : Nat) : Bool := decide (s.get F.WRP_STATUS_LOADED = 1) && s.pat.uses r

/-- The home channels of a band as the variant in effect names them (R198). -/
def Pattern.homes (p : Pattern) (band : Nat) : List (Nat × Nat) :=
  match p.inEffect with
  | some v => v.home.getD band []
  | none => []

/-- A channel as one number. -/
def chanOf (fc : Nat × Nat) : Nat := fc.1 * 64 + fc.2

/-- Key of a byte of a channel. -/
def dramKey (ch off : Nat) : Nat := ch * 2 ^ 31 + off

/-- Channel and offset of a band spool address (R199). -/
def Pattern.bsaAt (p : Pattern) (band bsa : Nat) : Option (Nat × Nat) :=
  let u := bsa / 1024
  ((p.homes band)[u % 27]?).map fun fc => (chanOf fc, u / 27 * 1024 + bsa % 1024)

/-- Channel and offset of a reserve address (R201): units of 4 KiB striped over the reserve channels. -/
def Pattern.rsaAt (p : Pattern) (rsa : Nat) : Option (Nat × Nat) :=
  match p.inEffect with
  | some v => (v.reserve[rsa / 4096 % 128]?).map fun fc => (chanOf fc, rsa / 4096 / 128 * 4096 + rsa % 4096)
  | none => none

/-- RSA of the bucket of the prefix index that a hash belongs to: 2^24 buckets of 4 KiB (R201, R263). -/
def bucketRsa (b : Nat) : Nat := 0x2000000000 + b * 4096

/-- State of a spool channel (R240). -/
def State.chState (s : State) (c : Nat) : Nat := s.get F.SPL_CH_STATE_STATE c

/-- The channel of a byte of a band pool. -/
def State.chanAt (s : State) (band bsa : Nat) : Nat := ((s.pat.bsaAt band bsa).map Prod.fst).getD 0

/-- Bytes of a channel range moved to another. -/
def dramMove (src n dst : Nat) (m : SMap Byte) : SMap Byte :=
  (m.filter fun kv => decide (src ≤ kv.1) && decide (kv.1 < src + n)).foldl (fun u kv => smSet 0 (dst + (kv.1 - src)) kv.2 u)
    (smClear dst (dst + n - 1) m)

/-- The 1 KiB pieces of a range of a band pool: BSA and length. -/
def pieces (bsa n : Nat) : List (Nat × Nat) :=
  if n = 0 then [] else
  (rangeFrom (bsa / 1024) ((bsa + n - 1) / 1024 - bsa / 1024 + 1)).map fun u =>
    let a := max bsa (u * 1024)
    (a, min (bsa + n) ((u + 1) * 1024) - a)

/-- A channel cannot serve: FAILED, or not up at all (R197). -/
def State.chDown (s : State) (band bsa n : Nat) : Bool :=
  (pieces bsa n).any fun p => decide (s.chState (s.chanAt band p.1) ≠ 2)

/-- `n` bytes of a band pool. -/
def State.poolRead (s : State) (band bsa n : Nat) : List Byte :=
  (pieces bsa n).flatMap fun p =>
    match s.pat.bsaAt band p.1 with
    | some (c, o) => smGetBytes (dramKey c o) p.2 s.spool.dram
    | none => zeroBytes p.2

/-- Bytes written to a band pool. -/
def State.poolWrite (s : State) (band bsa : Nat) (bs : List Byte) : State :=
  { s with spool := { s.spool with dram := ((pieces bsa bs.length).foldl (fun m p =>
      match s.pat.bsaAt band p.1 with
      | some (c, o) => smSetBytes (dramKey c o) ((bs.drop (p.1 - bsa)).take p.2) m
      | none => m) s.spool.dram) } }

/-- A frame filled with zeros (R222). -/
def State.poolZero (s : State) (band frame : Nat) : State :=
  { s with spool := { s.spool with dram := ((pieces (frame * frameBytes) frameBytes).foldl (fun m p =>
      match s.pat.bsaAt band p.1 with
      | some (c, o) => smClear (dramKey c o) (dramKey c o + p.2 - 1) m
      | none => m) s.spool.dram) } }

/-- Bytes of a band pool copied inside the pool; both ranges lie the same way in their units (R224). -/
def State.poolCopy (s : State) (band src n dst : Nat) : State :=
  { s with spool := { s.spool with dram := ((pieces src n).foldl (fun m p =>
      match s.pat.bsaAt band p.1, s.pat.bsaAt band (dst + (p.1 - src)) with
      | some (c, o), some (c', o') => dramMove (dramKey c o) p.2 (dramKey c' o') m
      | _, _ => m) s.spool.dram) } }

/-! ### Spool virtual addresses (R215) -/

def svaIndex (sva : Nat) : Nat := bitsOf sva 16 20
def svaBand (sva : Nat) : Nat := bitsOf sva 36 7
def svaArea (sva : Nat) : Nat := bitsOf sva 43 2
def svaOff (sva : Nat) : Nat := bitsOf sva 0 16
def mkSva (area band off : Nat) : Nat := area * 2 ^ 43 + band * 2 ^ 36 + off % 2 ^ 36

/-! ### Page tables (R216, R217) -/

/-- Key of entry `i` of the table whose RSA[37:12] is `next`. -/
def tblKey (next i : Nat) : Nat := next * 512 + i

def eValid (e : Nat) : Bool := bitAt e 0
def eSwapped (e : Nat) : Bool := bitAt e 2
def eNext (e : Nat) : Nat := bitsOf e 12 26
def eFrame (e : Nat) : Nat := bitsOf e 12 20
def eHost (e : Nat) : Nat := bitsOf e 16 48 * 65536

/-- Entries as they are written. -/
def mkTable (next : Nat) : Nat := 1 + next * 4096
def mkLeaf (frame : Nat) : Nat := 3 + frame * 4096
def mkSwapped (host : Nat) : Nat := 7 + host / 65536 * 65536

/-- What a walk finds: a fault code of R220, no valid leaf, or the key and value of a valid leaf. -/
inductive Walk where
  | fault (code : Nat)
  | missing
  | leaf (key e : Nat)
  deriving DecidableEq, Repr

/-- The walk of R218 from a root. -/
def Spool.walk (p : Spool) (root sva : Nat) : Walk :=
  if root = 0 ∨ 2 ^ 25 ≤ root then .fault 3
  else
    let e1 := smGet 0 (tblKey root (bitsOf sva 36 9)) p.tbl
    if eValid e1 = false then .missing
    else
      let e2 := smGet 0 (tblKey (eNext e1) (bitsOf sva 26 10)) p.tbl
      if eValid e2 = false then .missing
      else
        let k := tblKey (eNext e2) (bitsOf sva 16 10)
        let e3 := smGet 0 k p.tbl
        if eValid e3 then .leaf k e3 else .missing

/-- The table words that a walk reads, in order, by their keys. -/
def Spool.walkKeys (p : Spool) (root sva : Nat) : List Nat :=
  if root = 0 ∨ 2 ^ 25 ≤ root then []
  else
    let k1 := tblKey root (bitsOf sva 36 9)
    let e1 := smGet 0 k1 p.tbl
    if eValid e1 = false then [k1]
    else
      let k2 := tblKey (eNext e1) (bitsOf sva 26 10)
      let e2 := smGet 0 k2 p.tbl
      if eValid e2 = false then [k1, k2] else [k1, k2, tblKey (eNext e2) (bitsOf sva 16 10)]

/-- Channel and offset of a table word (R201, R216). -/
def Pattern.tblAt (p : Pattern) (key : Nat) : Option (Nat × Nat) := p.rsaAt (key * 8)

/-- The lowest number from `n` that an ascending list lacks. -/
def lowestFree : Nat → List Nat → Nat
  | n, [] => n
  | n, x :: xs => if x = n then lowestFree (n + 1) xs else n

/-- The lowest free 8 KiB block; block 0 is not given out, since a root of 0 is a fault (R220). Log entry 21. -/
def Spool.newBlock (p : Spool) : Option (Nat × Spool) :=
  let b := lowestFree 1 p.blocks
  if b < tblBlocks then some (b, { p with blocks := insertAsc b p.blocks }) else none

/-- A table that an entry names, allocated where the entry is not valid. -/
def Spool.tableAt (p : Spool) (key : Nat) : Option (Nat × Spool) :=
  let e := smGet 0 key p.tbl
  if eValid e then some (eNext e, p)
  else (p.newBlock).map fun r => (2 * r.1, { r.2 with tbl := smSet 0 key (mkTable (2 * r.1)) r.2.tbl })

/-- A leaf written, with the L2 and L3 tables where they are missing (R222). -/
def Spool.putLeaf (p : Spool) (root sva e : Nat) : Option Spool :=
  match p.tableAt (tblKey root (bitsOf sva 36 9)) with
  | none => none
  | some (n2, p1) =>
    match p1.tableAt (tblKey n2 (bitsOf sva 26 10)) with
    | none => none
    | some (n3, p2) => some { p2 with tbl := smSet 0 (tblKey n3 (bitsOf sva 16 10)) e p2.tbl }

/-- The valid entries of a table: index and value. -/
def Spool.entries (p : Spool) (next : Nat) : List (Nat × Nat) :=
  (p.tbl.filter fun kv => decide (tblKey next 0 ≤ kv.1) && decide (kv.1 < tblKey next 1024) && eValid kv.2).map fun kv =>
    (kv.1 - tblKey next 0, kv.2)

/-- Every valid leaf of a root: SVA, key and value. -/
def Spool.leaves (p : Spool) (root : Nat) : List (Nat × Nat × Nat) :=
  ((p.entries root).filter fun a => decide (a.1 < 512)).flatMap fun a =>
    (p.entries (eNext a.2)).flatMap fun b =>
      (p.entries (eNext b.2)).map fun c => (a.1 * 2 ^ 36 + b.1 * 2 ^ 26 + c.1 * 2 ^ 16, tblKey (eNext b.2) c.1, c.2)

/-- The table blocks of a root. -/
def Spool.blocksOf (p : Spool) (root : Nat) : List Nat :=
  (root / 2) :: ((p.entries root).filter fun a => decide (a.1 < 512)).flatMap fun a =>
    (eNext a.2 / 2) :: (p.entries (eNext a.2)).map fun b => eNext b.2 / 2

/-! ### Pools and their marks (R221, R222, R235) -/

/-- Frames free in a band pool. -/
def Spool.free (p : Spool) (band : Nat) : Nat := poolFrames - (smGet [] band p.frames).length

/-- A pattern has been loaded since the reset, so that the band pools exist (R222, R235). -/
def State.poolsExist (s : State) : Bool := decide (s.ld.lastDigest ≠ [])

/-- Some band pool has fewer free frames than SKN_PREEMPT.CRIT in force (R265, R270); before the first load there is no pool. -/
def State.critNow (s : State) : Bool :=
  s.poolsExist && (rangeFrom 0 128).any fun k => decide (s.get F.SPL_POOL_FREE_FREE k < s.cfg F.SKN_PREEMPT_CRIT)

/-- The registers of a band's pool after a change, with FREE_LOW (R222, R233), and the blocks left. -/
def State.poolMarks (s : State) (band : Nat) : State :=
  let n := s.spool.free band
  let s1 := (s.set F.SPL_POOL_FREE_FREE n band).set F.SPL_POOL_MIN_MIN (min n (s.get F.SPL_POOL_MIN_MIN band)) band
  let frees := (rangeFrom 0 128).map fun k => (s1.get F.SPL_POOL_FREE_FREE k, s1.get F.SPL_POOL_LOW_LOW k)
  let low := frees.any fun x => decide (x.1 < x.2)
  (s1.set F.SPL_STATUS_FREE_LOW (b2n low)).set F.SPL_TBL_FREE_BLOCKS (tblBlocks - 1 - s.spool.blocks.length)

/-- The lowest free frame of a band taken for a skein, zero filled and mapped (R222): a fault code of R220, or the frame. -/
def State.allocFrame (s : State) (id root sva : Nat) : Nat ⊕ (Nat × State) :=
  let band := svaBand sva
  let used := smGet [] band s.spool.frames
  let f := lowestFree 0 used
  if poolFrames ≤ f then .inl 4
  else match s.spool.putLeaf root sva (mkLeaf f) with
    | none => .inl 5
    | some p =>
      let k := id * 128 + band
      let p1 := { p with frames := smSet [] band (insertAsc f used) p.frames, owned := smSet 0 k (smGet 0 k p.owned + 1) p.owned }
      .inr (f, ({ s with spool := p1 }.poolZero band f).poolMarks band)

/-- Frames that a skein holds in each band pool: the most of any band (W10, R243). -/
def Spool.framesOf (p : Spool) (id : Nat) : Nat := maxNat ((rangeFrom 0 128).map fun b => smGet 0 (id * 128 + b) p.owned)

/-- All frames of a skein. -/
def Spool.framesAll (p : Spool) (id : Nat) : Nat := sumNat ((rangeFrom 0 128).map fun b => smGet 0 (id * 128 + b) p.owned)

/-! ### Translation caches (R218) -/

/-- Tag of a frame: skein, AREA, BAND, INDEX. -/
def xcTag (id sva : Nat) : Nat := id * 2 ^ 29 + bitsOf sva 16 29

/-- Set of a frame in a field's cache: INDEX modulo 256. Log entry 22. -/
def xcSet (field sva : Nat) : Nat := field * 256 + svaIndex sva % 256

/-- A lookup: the frame, if the cache holds it. -/
def Spool.xcFind (p : Spool) (field id sva : Nat) : Option Nat :=
  ((smGet [] (xcSet field sva) p.xc).find? fun x => decide (x.1 = xcTag id sva)).map Prod.snd

/-- An entry used or filled: it becomes the latest of its set; the least recently used of more than 16 leaves. -/
def Spool.xcUse (p : Spool) (field id sva frame : Nat) : Spool :=
  let k := xcSet field sva
  let old := (smGet [] k p.xc).filter fun x => decide (x.1 ≠ xcTag id sva)
  { p with xc := smSet [] k (((xcTag id sva, frame) :: old).take 16) p.xc }

/-- Every entry of a skein invalidated in every cache (R219). -/
def Spool.xcDrop (p : Spool) (id : Nat) : Spool :=
  { p with xc := p.xc.filterMap fun kv =>
      let l := kv.2.filter fun x => decide (x.1 / 2 ^ 29 ≠ id)
      if l = [] then none else some (kv.1, l) }

/-! ### Faults (R220, R236) -/

/-- A translation or spool fault: captured if the captures are empty, counted, and recorded (R220, R559 code 5). -/
def State.spoolFault (s : State) (code field id sva : Nat) (injected : Bool := false) : State :=
  let s1 := if s.get F.SPL_STATUS_XLAT = 1 then s else
    ((s.setReg R.SPL_FAULT_CAP0 (BitVec.ofNat 32 (code * 2 ^ 28 + field * 2 ^ 22 + id))).setReg R.SPL_FAULT_CAP1
      (BitVec.ofNat 32 sva)).setReg R.SPL_FAULT_CAP2 (BitVec.ofNat 32 (s.pm.pick % 65536 * 65536 + bitsOf sva 32 13))
  let s2 := (s1.set F.SPL_STATUS_XLAT 1).add F.SPL_XLAT_COUNT_FAULTS 1
  s2.raise 5 12 2 field (s2.reg R.SPL_FAULT_CAP0).toNat injected

/-! ### Ranges of a skein (R224) -/

/-- BSA of a byte of a skein's area, if its frame is in the pool. -/
def Spool.bsaOf (p : Spool) (root sva : Nat) : Option Nat :=
  match p.walk root sva with
  | .leaf _ e => if eSwapped e then none else some (eFrame e * frameBytes + svaOff sva)
  | _ => none

/-- The entry of a position in one band takes the poison mark where it is written (R137, R202). -/
def State.markEntry (s : State) (root pos band : Nat) : State :=
  match s.spool.bsaOf root (mkSva 0 band (1024 * pos + 1023)) with
  | none => s
  | some a =>
    let x := leNat (s.poolRead band a 1)
    if bitAt x 0 then s.poolWrite band a (leBytes 1 (bitsPut x 1 1 1)) else s

/-- A range inside one frame copied from one skein to another, the destination frame allocated where it is missing. -/
def State.copyRange (s : State) (srcRoot dst dstRoot sva n : Nat) : State :=
  match s.spool.bsaOf srcRoot sva with
  | none => s
  | some a =>
    match s.spool.bsaOf dstRoot sva with
    | some b => s.poolCopy (svaBand sva) a n b
    | none =>
      match s.allocFrame dst dstRoot sva with
      | .inl _ => s
      | .inr (f, s1) => s1.poolCopy (svaBand sva) a n (f * frameBytes + svaOff sva)

/-- The ranges that a copy of page `g` takes in one band: area, byte offset, bytes (R224). -/
def copyParts (g : Nat) : List (Nat × Nat × Nat) :=
  [(0, g * 65536, 65536), (1, 128 * g, 128)] ++ (if g % 64 = 63 then [(2, 128 * (g / 64), 128)] else []) ++
    [(3, 32768 + 256 * g, 256), (3, 32768 + 256 * (g + 1), 256)]

/-- Page `g` copied in every band (R224). -/
def State.copyPage (s : State) (srcRoot dst dstRoot g : Nat) : State :=
  (rangeFrom 0 128).foldl (fun u band =>
    (copyParts g).foldl (fun v p => v.copyRange srcRoot dst dstRoot (mkSva p.1 band p.2.1) p.2.2) u) s

/-- Frames that a copy of page `g` would allocate in a band (R264). -/
def Spool.copyNeeds (p : Spool) (srcRoot dstRoot g band : Nat) : Nat :=
  (dedupNat (((copyParts g).map fun q => mkSva q.1 band q.2.1).filterMap fun sva =>
    if (p.bsaOf srcRoot sva).isSome && (p.bsaOf dstRoot sva).isNone then some (sva / 65536) else none)).length

/-! ### Release and swap (R223, R225) -/

/-- Host address of a slot. -/
def State.swapAddr (s : State) (slot : Nat) : Nat :=
  s.get F.SPL_SWAP_BASE_LO_ADDR_LO * 65536 + s.get F.SPL_SWAP_BASE_HI_ADDR_HI * 2 ^ 32 + slot * 65536

/-- The address lies in the swap window. -/
def State.inWindow (s : State) (host : Nat) : Bool :=
  decide (s.swapAddr 0 ≤ host) && decide (host + 65536 ≤ s.swapAddr 0 + s.get F.SPL_SWAP_SIZE_SIZE * 65536)

/-- Frames and tables of a skein given back (R223). -/
def State.releaseFrames (s : State) (id root : Nat) : State :=
  if root = 0 then s else
  let p := s.spool
  let ls := p.leaves root
  let bands := dedupNat (ls.map fun l => svaBand l.1)
  let dead := fun (b f : Nat) => ls.any fun l => decide (svaBand l.1 = b) && !(eSwapped l.2.2) && decide (eFrame l.2.2 = f)
  let freed := (ls.filter fun l => eSwapped l.2.2).map fun l => eHost l.2.2
  let bs := p.blocksOf root
  let p1 : Spool := { p with
    frames := bands.foldl (fun m b => smSet [] b ((smGet [] b m).filter fun f => !(dead b f)) m) p.frames
    owned := smClear (id * 128) (id * 128 + 127) p.owned
    blocks := p.blocks.filter fun b => decide (b ∉ bs)
    tbl := bs.foldl (fun m b => smClear (b * 1024) (b * 1024 + 1023) m) p.tbl
    slots := p.slots.filter fun x => decide (x.2 ∉ freed) }
  bands.foldl (fun u b => u.poolMarks b) ({ s with spool := p1.xcDrop id }.poolMarks 0)

/-- One frame written to its slot (R225, R399): 16 MEM_WR of 4 KiB on the slot's port. -/
def State.swapFrame (s : State) (band frame slot : Nat) : State :=
  match s.hostPorts[slot % s.hostPorts.length]? with
  | none => s
  | some p => s.emit ((rangeFrom 0 16).map fun i =>
      .memWr p 2 (s.swapAddr slot + 4096 * i) (s.poolRead band (frame * frameBytes + 4096 * i) 4096))

/-- Every frame of a skein written out: lowest free slots, leaves set to SWAPPED, frames returned (R225). -/
def State.swapOutAll (s : State) (id root : Nat) : State :=
  let s1 := (s.spool.leaves root).foldl (fun u l =>
    if eSwapped l.2.2 then u else
    let band := svaBand l.1
    let slot := lowestFree 0 (u.spool.slots.map Prod.fst)
    let u1 := u.swapFrame band (eFrame l.2.2) slot
    let k := id * 128 + band
    { u1 with spool := { u1.spool with
        tbl := smSet 0 l.2.1 (mkSwapped (u1.swapAddr slot)) u1.spool.tbl
        slots := insertBy Prod.fst (slot, u1.swapAddr slot) u1.spool.slots
        frames := smSet [] band ((smGet [] band u1.spool.frames).filter fun f => decide (f ≠ eFrame l.2.2)) u1.spool.frames
        owned := smSet 0 k (smGet 0 k u1.spool.owned - 1) u1.spool.owned } }) s
  (rangeFrom 0 128).foldl (fun u b => u.poolMarks b) { s1 with spool := s1.spool.xcDrop id }

/-- Every frame of a skein asked back (R225, R399): a frame allocated and 16 reads for each. A leaf stays SWAPPED, and its slot taken,
until its frame is back. -/
def State.restoreAll (s : State) (id root : Nat) : State :=
  let s1 := (s.spool.leaves root).foldl (fun u l =>
    if eSwapped l.2.2 = false then u else
    let band := svaBand l.1
    let used := smGet [] band u.spool.frames
    let f := lowestFree 0 used
    let slot := ((u.spool.slots.find? fun x => decide (x.2 = eHost l.2.2)).map Prod.fst).getD 0
    let u1 := { u with spool := { u.spool with
        frames := smSet [] band (insertAsc f used) u.spool.frames
        coming := u.spool.coming ++ [⟨id, l.2.1, band, f, 16⟩] } }
    (rangeFrom 0 16).foldl (fun v i =>
      v.hostRead (v.hostPorts.getD (slot % v.hostPorts.length) 0) (eHost l.2.2 + 4096 * i) 4096 (.restore id l.2.1 i)) u1) s
  (rangeFrom 0 128).foldl (fun u b => u.poolMarks b) { s1 with spool := s1.spool.xcDrop id }

/-- A part of a frame is back; with the last one the leaf is cleared of SWAPPED and the slot is free (R225). -/
def State.restorePart (s : State) (id key part : Nat) (bs : List Byte) : State :=
  match s.spool.coming.find? fun c => decide (c.id = id) && decide (c.key = key) with
  | none => s
  | some c =>
    let s1 := s.poolWrite c.band (c.frame * frameBytes + 4096 * part) bs
    let p := s1.spool
    let rest := p.coming.filter fun x => !(decide (x.id = id) && decide (x.key = key))
    if 1 < c.left then { s1 with spool := { p with coming := rest ++ [{ c with left := c.left - 1 }] } }
    else
      let k := id * 128 + c.band
      { s1 with spool := { p with
          coming := rest
          slots := p.slots.filter fun x => decide (x.2 ≠ eHost (smGet 0 key p.tbl))
          tbl := smSet 0 key (mkLeaf c.frame) p.tbl
          owned := smSet 0 k (smGet 0 k p.owned + 1) p.owned } }

/-- A restore of a skein is aborted: the frames that are not back return to their pools, their leaves still SWAPPED (R225). -/
def State.restoreStop (s : State) (id : Nat) : State :=
  let gone := s.spool.coming.filter fun c => decide (c.id = id)
  let p := { s.spool with
    coming := s.spool.coming.filter fun c => decide (c.id ≠ id)
    frames := gone.foldl (fun m c => smSet [] c.band ((smGet [] c.band m).filter fun f => decide (f ≠ c.frame)) m) s.spool.frames }
  let asked := s.host.reads.filter fun r => r.issued || !(match r.why with
    | .restore i _ _ => decide (i = id)
    | _ => false)
  (dedupNat (gone.map Coming.band)).foldl (fun u b => u.poolMarks b) { s with spool := p, host := { s.host with reads := asked } }

/-! ### Swatch tests (R231) -/

/-- The end of a loopback test with a result: the channel returns to its state. -/
def State.splSwatchEnd (s : State) (result errs : Nat) : State :=
  match s.spool.swatch with
  | none => s
  | some (c, old) =>
    let s1 := { s with spool := { s.spool with swatch := none } }
    ((((if s.chState c = 4 then s1.set F.SPL_CH_STATE_STATE old c else s1)).set F.SPL_SWATCH_STAT_RESULT result).set F.SPL_SWATCH_STAT_ERR_WORDS
      (min errs (2 ^ 28 - 1))).set F.SPL_STATUS_SWATCH_DONE 1

end Sys2Proof.Machine
end

