-- ==== Sys2Proof/Machine/Reed.lean ====
section
/-!
DEFINITION. The reed's operations (07_skeins_and_serving.md): skein entries and states, lane-slots, the sampler, commit and void,
placement, the prefix index, parking and pre-emption. The meanings of the commands stand in Skein.lean.
-/
namespace Sys2Proof.Machine

/-! ### Entries and lanes -/

/-- A free entry (R244): SLOT is 0x3FFF when there is none (R243). -/
def Skein.empty : Skein :=
  { state := 0, swapped := false, part := 0, prio := 0, sampler := 0, pfxUse := false, pfxPub := false, hold := false,
    missed := false, reason := 0, voids := 0, lane := 0, parkPend := false, deadline := 0, committed := 0, held := 0,
    heldValid := false, limit := 0, next := 0, seed := 0, ptRoot := 0, ringWr := 0, ringLog2 := 0, ringBase := 0,
    promptBase := 0, promptLen := 0, ringRd := 0, pfxBlocks := 0, slot := 16383, units := [], unitsAsked := [],
    resumed := false, copies := [], pfxRun := false, pfxLook := false, swapOut := false, restore := false,
    releasing := none, hash := 0, blk := [] }

/-- A free lane-slot that carries nothing. -/
def Lane.empty : Lane := ⟨none, none⟩

/-- The entry of a skein. -/
def State.sk (s : State) (id : Nat) : Skein := smGet Skein.empty id s.reed.skeins

/-- The entry of a skein replaced. -/
def State.setSk (s : State) (id : Nat) (k : Skein) : State :=
  { s with reed := { s.reed with skeins := smSet Skein.empty id k s.reed.skeins } }

/-- Key of lane `j` of slot `n`. -/
def laneKey (n j : Nat) : Nat := n * 32 + j

/-- A lane-slot. -/
def State.lane (s : State) (k : Nat) : Lane := smGet Lane.empty k s.reed.lanes

/-- A lane-slot replaced. -/
def State.setLane (s : State) (k : Nat) (l : Lane) : State :=
  { s with reed := { s.reed with lanes := smSet Lane.empty k l s.reed.lanes } }

/-- Devices of the chain, 1 when standalone (R154). -/
def State.chainLen (s : State) : Nat := s.get F.PCK_CHAIN_LENGTH

/-- Ring positions: 130, or in a chain of n devices with B layer bands in all `B + 2 + 3 n` (R18, R138). Log entry 23. -/
def State.positions (s : State) : Nat := if s.chainLen ≤ 1 then 130 else Config.chainBands s.pat.chainId + 2 + 3 * s.chainLen

/-- Cohort width of a mode (R124). -/
def cohort (mode : Nat) : Nat := if mode = 1 then 4 else if mode = 2 then 32 else 1

/-- The cohort width in force. -/
def State.width (s : State) : Nat := cohort (s.get F.PCK_STATUS_MODE)

/-- The slot at the reed position (R18, R243). -/
def State.reedSlot (s : State) : Nat :=
  (2 * s.positions - 1 - s.pm.pick % s.positions) % s.positions

/-- Lane-slots that a skein owns. -/
def State.lanesOf (s : State) (id : Nat) : Nat := (s.reed.lanes.filter fun kv => decide (kv.2.owner = some id)).length

/-- Owned lane-slots (R271). -/
def State.ownedLanes (s : State) : Nat := (s.reed.lanes.filter fun kv => kv.2.owner.isSome).length

/-- Lane-slots that skeins may own in a mode (R124, R252). -/
def State.laneSlots (s : State) (mode : Nat) : Nat := min 4096 (s.positions * cohort mode)

/-- Lane-slots that a partition's skeins own (R274). -/
def State.partOwned (s : State) (p : Nat) : Nat :=
  (s.reed.lanes.filter fun kv => match kv.2.owner with
    | some id => decide ((s.sk id).part = p)
    | none => false).length

/-- A skein has no lane in the ring (R246): no step of it in flight and no lane-slot owned. -/
def State.outOfRing (s : State) (id : Nat) : Bool :=
  s.reed.lanes.all fun kv => decide (kv.2.owner ≠ some id) && (match kv.2.step with
    | some st => decide (st.skein ≠ id)
    | none => true)

/-- The skeins in some state, in ID order. -/
def State.skeinsIn (s : State) (p : Nat → Bool) : List Nat := (s.reed.skeins.filter fun kv => p kv.2.state).map Prod.fst

/-- PREFILL or DECODE. -/
def inRing (st : Nat) : Bool := decide (st = 2) || decide (st = 3)

/-! ### State changes (R246, R247, R599) -/

/-- The skein leaves DRAINING (R246): DONE for reasons 1 to 3, FAULTED for 4 to 9, with its ENDED event (R250). -/
def State.endSk (s : State) (id : Nat) : State :=
  let k := s.sk id
  (s.setSk id { k with state := if k.reason ≤ 3 then 6 else 7, parkPend := false, slot := 16383 }).event 0x80 id (k.reason + k.committed * 16)

/-- The skein is PARKED (R246) with its event. -/
def State.parkSk (s : State) (id : Nat) : State :=
  let k := s.sk id
  (s.setSk id { k with state := 4, parkPend := false, slot := 16383 }).event 0x81 id k.committed

/-- A skein that waits to leave the ring and has left it does so. -/
def State.settleSk (s : State) (id : Nat) : State :=
  let k := s.sk id
  if s.outOfRing id then
    if k.state = 5 then s.endSk id
    else if k.parkPend = true ∧ inRing k.state = true then s.parkSk id
    else s
  else s

/-- A skein enters DRAINING with a reason; with no lane in the ring it leaves it in the same pick (R246). -/
def State.drainSk (s : State) (id reason : Nat) : State :=
  let k := s.sk id
  (s.setSk id { k with state := 5, reason := reason, parkPend := false, copies := [], pfxRun := false, pfxLook := false }).settleSk id

/-- PARK_PEND of a skein in PREFILL or DECODE (R246). -/
def State.pendPark (s : State) (id : Nat) : State :=
  let k := s.sk id
  if inRing k.state then (s.setSk id { k with parkPend := true }).settleSk id else s

/-- A disabled partition whose last lane has left the ring stops (R267). -/
def State.partSettle (s : State) (p : Nat) : State :=
  if s.get (F.SKN_PART_STAT_STOPPING.nth p) = 1 ∧
      s.reed.lanes.all (fun kv => (match kv.2.owner with
        | some id => decide ((s.sk id).part ≠ p)
        | none => true) && (match kv.2.step with
        | some st => decide ((s.sk st.skein).part ≠ p)
        | none => true)) = true then
    ((s.set (F.SKN_PART_STAT_STOPPING.nth p) 0).set (F.SKN_PART_STAT_ENABLED.nth p) 0).event 0x86 0 p
  else s

/-- Everything that waits for lanes to leave the ring. -/
def State.settle (s : State) : State :=
  let s1 := (s.reed.skeins.map Prod.fst).foldl State.settleSk s
  (rangeFrom 0 8).foldl State.partSettle s1

/-- Every lane-slot free and empty. -/
def State.clearLanes (s : State) : State := { s with reed := { s.reed with lanes := [] } }

/-- HALT at the reed (R247): every lane-slot free; PREFILL and DECODE keep their state with NEXT := COMMITTED; PARK_PEND parks. -/
def State.haltReed (s : State) : State :=
  let s1 := s.clearLanes
  let s2 := { s1 with reed := { s1.reed with skeins := (s1.reed.skeins.map fun (kv : Nat × Skein) =>
    if inRing kv.2.state = true then (kv.1, { kv.2 with next := kv.2.committed, resumed := true, slot := 16383 }) else kv) } }
  s2.settle

/-- A fault of R245 codes 4 to 9 that ends every skein in QUEUED, PREFILL, DECODE or PARKED and empties the ring (R599). -/
def State.faultAll (s : State) (reason : Nat) : State :=
  let s1 := s.clearLanes
  ((s1.skeinsIn fun st => decide (1 ≤ st) && decide (st ≤ 4)).foldl (fun u id => u.drainSk id reason) s1).settle

/-! ### The token stream (R251) -/

/-- A prompt token that has arrived. -/
def Skein.promptTok (k : Skein) (n : Nat) : Option Nat := (smGet [] (n / 256) k.units)[n % 256]?

/-- Bytes of prompt unit `u`. -/
def Skein.unitBytes (k : Skein) (u : Nat) : Nat := 4 * min 256 (k.promptLen - 256 * u)

/-- A prompt unit is requested unless it is held, requested, or past the prompt. -/
def State.askUnit (s : State) (id u : Nat) : State :=
  let k := s.sk id
  if 256 * u < k.promptLen ∧ smGet [] u k.units = [] ∧ u ∉ k.unitsAsked then
    (s.setSk id { k with unitsAsked := k.unitsAsked ++ [u] }).hostRead 0 (k.promptBase + 1024 * u) (k.unitBytes u) (.prompt id u)
  else s

/-- The two units that a skein keeps: the one that holds NEXT and the one after it (R251). -/
def State.keepUnits (s : State) (id : Nat) : State :=
  let k := s.sk id
  let u := k.next / 256
  let s1 := if k.pfxLook then s else
    s.setSk id { k with units := k.units.filter fun x => decide (x.1 = u) || decide (x.1 = u + 1) }
  (s1.askUnit id u).askUnit id (u + 1)

/-! ### Deadlines (R111, R253) -/

/-- Pick `p` is later than pick `d`, in serial order (R111). -/
def later (p d : Nat) : Bool :=
  let x := (p + 2 ^ 48 - d % 2 ^ 48) % 2 ^ 48
  decide (1 ≤ x) && decide (x ≤ 2 ^ 47)

/-- The first miss of a deadline (R253): MISSED, the event and the count. -/
def State.missSk (s : State) (id : Nat) : State :=
  let k := s.sk id
  if k.missed = false ∧ later s.pm.pick k.deadline = true then
    ((s.setSk id { k with missed := true }).event 0x84 id s.pm.pick).add F.SKN_MISSES_MISSES 1
  else s

/-! ### The sampler (R257 to R259) -/

/-- A sampler entry of 128 bits as it stands for sampling (R249, R259). -/
def Reed.sampEntry (r : Reed) (e : Nat) : Nat :=
  (smGet 0 (4 * e) r.sampler).toNat + (smGet 0 (4 * e + 1) r.sampler).toNat * 2 ^ 32
    + (smGet 0 (4 * e + 2) r.sampler).toNat * 2 ^ 64 + (smGet 0 (4 * e + 3) r.sampler).toNat * 2 ^ 96

/-- The entry that a skein uses (R259, R274). -/
def State.sampOf (s : State) (sampler part : Nat) : Nat :=
  if sampler = 0 then
    let d := s.cfg (F.SKN_PART_CFG_SAMPLER.nth part)
    if d = 0 then 1 else d
  else sampler

/-- One round of the generator. -/
def genRound (x0 : Nat) : Nat :=
  let x1 := Nat.xor x0 (x0 / 2 ^ 29)
  let x2 := x1 * 0xB7E151628AED2A6B % 2 ^ 64
  let x3 := Nat.xor x2 (x2 / 2 ^ 32)
  let x4 := x3 * 0x93C467E37DB0C7A5 % 2 ^ 64
  Nat.xor x4 (x4 / 2 ^ 31)

/-- `gen` of R258. -/
def gen (seed pos : Nat) : Nat := genRound (genRound (genRound (Nat.xor (seed % 2 ^ 64) (pos * 0x9E3779B97F4A7C15 % 2 ^ 64))))

/-- Running sums S[1], S[2], … of weights. -/
def runSums (a : Int) : List Int → List Int
  | [] => []
  | w :: ws => (a + w) :: runSums (a + w) ws

/-- The first index at which a list satisfies a test, its length without one. -/
def firstIdx (p : Int → Bool) : List Int → Nat
  | [] => 0
  | x :: xs => if p x then 0 else firstIdx p xs + 1

/-- Sampling of R257 from ordered candidates under an entry: the index of the chosen candidate. -/
def sampleIdx (cfg : Nat) (fh : Int) (seed pos : Nat) (c : List (Int × Nat)) : Nat :=
  let itemp := bitsOf cfg 0 16
  if bitAt cfg 23 = false ∨ itemp = 0 then 0
  else
    let k := if bitsOf cfg 16 7 = 0 ∨ 64 < bitsOf cfg 16 7 then 64 else bitsOf cfg 16 7
    let topp : Int := if bitsOf cfg 24 17 = 0 ∨ 65536 < bitsOf cfg 24 17 then 65536 else bitsOf cfg 24 17
    let cs := c.take k
    let z0 := (cs.head?.map Prod.fst).getD 0
    let ws := cs.map fun x =>
      let u := rne ((x.1 - z0) * itemp) (-(fh + 4))
      expNat exp2Table (if u < -(p2 31) then -(p2 31) else u)
    let sums := runSums 0 ws
    let total := sums.getLastD 0
    let m := firstIdx (fun x => decide (topp * total ≤ x * 65536)) sums
    let r : Int := ((gen seed pos / 2 ^ 32 : Nat) : Int)
    let t := (r * sums.getD m 0) / p2 32
    firstIdx (fun x => decide (t < x)) sums

/-- The stop tokens of an entry (R259). -/
def isStop (cfg tok : Nat) : Bool :=
  bitAt cfg 23 && [64, 84, 104].any fun lo => bitAt cfg (lo + 19) && decide (bitsOf cfg lo 18 = tok)

/-! ### The prefix index (R263) -/

/-- `H_b` from the hash before it. -/
def blockHash (prev part : Nat) (toks : List Nat) : Nat := crc64From (Nat.xor prev part) (toks.flatMap (leBytes 4))

/-- An entry entered into the index (R263); true when a full bucket lost an entry or dropped the new one. -/
def prefixInsert (e : PfxEntry) (idx : List PfxEntry) : List PfxEntry × Bool :=
  let b := idx.filter fun x => decide (x.bucket = e.bucket)
  if b.any fun x => decide (x.hash = e.hash) && decide (x.firstPos = e.firstPos) then (idx, false)
  else if b.length < 16 then (idx ++ [e], false)
  else
    let hi := maxNat (b.map PfxEntry.firstPos)
    if e.firstPos < hi then
      match b.find? fun x => decide (x.firstPos = hi) with
      | some v => (idx.erase v ++ [e], true)
      | none => (idx, true)
    else (idx, true)

/-- Lookups and insertions are on (R270). -/
def State.prefixOn (s : State) : Bool := decide (s.get F.SKN_CTRL_PREFIX_EN = 1)

/-- The token of position `n` of a skein committed: the block hash advances, and a whole block of a publishing skein is entered. -/
def State.noteToken (s : State) (id n tok : Nat) : State :=
  let k := s.sk id
  let blk := k.blk ++ [tok]
  if n % 64 = 63 then
    let h := blockHash k.hash k.part blk
    let s1 := s.setSk id { k with blk := [], hash := h }
    if k.pfxPub = true ∧ s.prefixOn = true ∧ blk.length = 64 then
      let r := prefixInsert ⟨h % 2 ^ 24, h, n - 63, id, k.part, blk⟩ s1.reed.prefixIdx
      let s2 := { s1 with reed := { s1.reed with prefixIdx := r.1 } }
      if r.2 then s2.set F.SKN_STATUS_PREFIX_FULL 1 else s2
    else s1
  else s.setSk id { k with blk := blk }

/-- A skein's entries removed (R263). -/
def Reed.dropPrefix (r : Reed) (id : Nat) : Reed := { r with prefixIdx := r.prefixIdx.filter fun e => decide (e.source ≠ id) }

/-! ### Commit and void (R24, R261, R255) -/

/-- The entries that a voided pass wrote carry the poison mark (R137). -/
def State.markVoided (s : State) (st : Step) : State :=
  let root := (s.sk st.skein).ptRoot
  if root = 0 then s else (rangeFrom 0 128).foldl (fun u b => u.markEntry root st.pos b) s

/-- The void of a step (R24, R137, R261). -/
def State.voidStep (s0 : State) (st : Step) : State :=
  let s := s0.markVoided st
  let k := s.sk st.skein
  let s1 := { s with reed := { s.reed with ivVoids := s.reed.ivVoids + 1 } }.add F.SKN_VOIDS_VOIDS 1
  if st.pos = k.committed then
    let v := min 255 (k.voids + 1)
    let lim := max 1 (s.cfg F.SKN_LIMITS_VOID_LIMIT)
    let s2 := s1.setSk st.skein { k with voids := v }
    if lim ≤ v ∧ k.state ≠ 5 then s2.drainSk st.skein 4 else s2
  else s1

/-- A token record (R255). -/
def tokenRecord (tok pos flags pick : Nat) : List Byte := leBytes 4 tok ++ leBytes 5 pos ++ leBytes 1 flags ++ leBytes 6 pick

/-- The token sampled for position `pos` of a skein (R257): candidate and whether the entry was valid. -/
def State.sampleTok (s : State) (id pos : Nat) (c : List (Int × Nat)) : Nat × Bool :=
  let k := s.sk id
  let cfg := s.reed.sampEntry (s.sampOf k.sampler k.part)
  ((c.getD (sampleIdx cfg (Config.headExp s.pat.serial) k.seed pos c) (0, 0)).2, bitAt cfg 23)

/-- The sampling part of a commit: the token is held, its record written, and an end condition starts DRAINING (R261). -/
def State.sampleStep (s : State) (st : Step) (slot : Nat) (c : List (Int × Nat)) : State :=
  let id := st.skein
  let r := s.sampleTok id (st.pos + 1) c
  let cfg := s.reed.sampEntry (s.sampOf (s.sk id).sampler (s.sk id).part)
  let s1 := (if r.2 then s else s.set F.SKN_STATUS_BAD_SAMPLER 1).missSk id
  let k := s1.sk id
  let stop := isStop cfg r.1
  let lim := decide (st.pos + 1 = k.limit)
  let flags := phaseOf k.ringWr k.ringLog2 + 2 * b2n (stop || lim) + 4 * b2n stop + 8 * b2n lim
    + 16 * b2n (k.missed && !(s.sk id).missed) + 32 * b2n k.resumed
  let s2 := s1.hostWrite id (k.ringBase + 64 + 16 * (k.ringWr % 2 ^ k.ringLog2)) (tokenRecord r.1 (st.pos + 1) flags s.pm.pick)
  let s3 := s2.setSk id { k with
    held := r.1, heldValid := true, ringWr := (k.ringWr + 1) % 2 ^ 20, resumed := false,
    slot := (if k.state = 2 then slot else k.slot), state := (if k.state = 2 then 3 else k.state) }
  if stop then s3.drainSk id 1 else if lim then s3.drainSk id 2 else s3

/-- The handling of a step (R261); true when it was voided. -/
def State.handleStep (s : State) (st : Step) (slot : Nat) (poison : Bool) (cands : List (Int × Nat)) : State × Bool :=
  let k := s.sk st.skein
  let samples := decide (k.promptLen ≤ st.pos + 1) && decide (k.state ≠ 5)
  let c := topCands cands
  if poison = true ∨ st.pos ≠ k.committed ∨ (samples = true ∧ c = []) then (s.voidStep st, true)
  else
    let s1 := s.setSk st.skein { k with committed := st.pos + 1, voids := 0 }
    let s2 := { s1 with reed := { s1.reed with commits := min (2 ^ 64 - 1) (s1.reed.commits + 1), ivCommits := s1.reed.ivCommits + 1 } }
    let s3 := s2.noteToken st.skein st.pos st.token
    if samples then (s3.sampleStep st slot c, false) else (s3.missSk st.skein, false)

/-! ### Placement (R252, R253) -/

/-- Room in the token ring for one more record (R253). -/
def Skein.ringRoom (k : Skein) : Bool := decide ((k.ringWr + 2 ^ 20 - k.ringRd) % 2 ^ 20 < 2 ^ k.ringLog2)

/-- The step at a position samples (R253): every DECODE step and the last prompt step. -/
def Skein.samplesAt (k : Skein) (n : Nat) : Bool := decide (k.promptLen ≤ n + 1)

/-- No new placement (R252): ADMIT_EN, FLOOR, FREE_LOW, STOPPED; SKN_STATUS.ADMIT_STOPPED. -/
def State.admitStopped (s : State) : Bool :=
  decide (s.get F.SKN_CTRL_ADMIT_EN = 0) || decide (s.get F.PCK_STATUS_FLOOR = 1) || decide (s.get F.SPL_STATUS_FREE_LOW = 1)
    || decide (s.get F.THM_STATUS_STOPPED = 1)

/-- A partition that may gain lane-slots: enabled, not stopping, below its quota (R252, R266, R267). -/
def State.partOpen (s : State) (p : Nat) : Bool :=
  decide (s.get (F.SKN_PART_STAT_ENABLED.nth p) = 1) && decide (s.get (F.SKN_PART_STAT_STOPPING.nth p) = 0)
    && decide (s.partOwned p < s.cfg (F.SKN_PART_CFG_QUOTA.nth p))

/-- Admission order as one number, lowest first (R252): PRIO, DEADLINE in serial order about the current pick, ID. -/
def State.admitKey (s : State) (id : Nat) : Nat :=
  let k := s.sk id
  (7 - k.prio) * 2 ^ 61 + (sgn 48 (k.deadline + 2 ^ 48 - s.pm.pick % 2 ^ 48) + p2 47).toNat * 2 ^ 12 + id

/-- The skein has a lane in a slot. -/
def State.inSlot (s : State) (id slot : Nat) : Bool :=
  (rangeFrom 0 32).any fun j => decide ((s.lane (laneKey slot j)).owner = some id)

/-- A slot carries a lane: some lane-slot of it is owned (R252). -/
def State.slotUsed (s : State) (slot : Nat) : Bool := (rangeFrom 0 32).any fun j => (s.lane (laneKey slot j)).owner.isSome

/-- Some lane-slot is free in a slot that carries one (R126, R252). -/
def State.partlyFilled (s : State) : Bool :=
  (dedupNat ((s.reed.lanes.filter fun kv => kv.2.owner.isSome).map fun kv => kv.1 / 32)).any fun sl =>
    (rangeFrom 0 s.width).any fun j => (s.lane (laneKey sl j)).owner.isNone

/-- An unplaced skein that R252 makes a candidate for a lane of a slot. -/
def State.unplaced (s : State) (id slot : Nat) : Bool :=
  let k := s.sk id
  (decide (k.state = 1) || (decide (k.state = 4) && !k.swapped) || (inRing k.state && s.outOfRing id))
    && !k.hold && !k.parkPend && !k.pfxRun && !k.restore && !k.swapOut
    && s.partOpen k.part && !(s.inSlot id slot)
    && (s.slotUsed slot || !s.partlyFilled)
    && (if k.committed < k.promptLen then (k.promptTok k.committed).isSome else true)
    && (!(k.samplesAt k.committed) || k.ringRoom)

/-- A skein in PREFILL that may gain lane `j` of a slot (R252). -/
def State.gains (s : State) (id slot j : Nat) : Bool :=
  let k := s.sk id
  decide (k.state = 2) && decide (0 < s.lanesOf id) && decide (k.lane = j) && decide (k.next < k.promptLen)
    && decide (s.lanesOf id < max 1 (s.cfg F.SKN_LIMITS_PREFILL_MAX)) && !k.hold && !k.parkPend
    && s.partOpen k.part && !(s.inSlot id slot) && (k.promptTok k.next).isSome
    && (!(k.samplesAt k.next) || k.ringRoom)

/-- The first candidate in admission order for a free lane-slot (R252). -/
def State.candidate (s : State) (slot j : Nat) : Option Nat :=
  if s.admitStopped = true ∨ 4096 ≤ s.ownedLanes then none
  else ((sortBy s.admitKey (s.reed.skeins.map Prod.fst)).filter fun id => s.unplaced id slot || s.gains id slot j).head?

/-- A skein placed in a lane-slot, with its first token there (R252). -/
def State.place (s : State) (id slot j : Nat) : State :=
  let k := s.sk id
  if s.gains id slot j then
    ((s.setLane (laneKey slot j) ⟨some id, some ⟨id, k.next, (k.promptTok k.next).getD 0⟩⟩).setSk id
      { k with next := k.next + 1 }).keepUnits id
  else if k.committed < k.promptLen then
    ((s.setLane (laneKey slot j) ⟨some id, some ⟨id, k.committed, (k.promptTok k.committed).getD 0⟩⟩).setSk id
      { k with state := 2, lane := j, next := k.committed + 1 }).keepUnits id
  else
    (s.setLane (laneKey slot j) ⟨some id, some ⟨id, k.committed, k.held⟩⟩).setSk id
      { k with state := 3, lane := j, next := k.committed, slot := slot }

/-- The ring's read count is fetched once per revolution of the lane (R253). -/
def State.askRing (s : State) (id : Nat) : State :=
  if s.reading (.ringRd id) then s else s.hostRead 0 (s.sk id).ringBase 4 (.ringRd id)

/-- An owned lane that lacks ring room stays empty in this pick (R253). -/
def State.ringStall (s : State) (id slot j : Nat) : State :=
  (((s.setLane (laneKey slot j) ⟨some id, none⟩).add F.SKN_RING_STALLS_STALLS 1).set F.SKN_STATUS_RING_STALL 1).askRing id

/-- The next content of a lane whose step has been handled (R251); true when the lane-slot is then free. A drain frees it with
NEXT := COMMITTED (R131). -/
def State.nextContent (s : State) (slot j : Nat) (step : Option Step) (voided drain : Bool) : State × Bool :=
  let key := laneKey slot j
  let freed := (s.setLane key Lane.empty, true)
  match (s.lane key).owner with
  | none => freed
  | some id =>
    let k := s.sk id
    let decode := if slot = k.slot then 16383 else k.slot
    if drain = true ∧ inRing k.state = true then
      ((s.setSk id { k with next := k.committed, slot := decode }).setLane key Lane.empty, true)
    else if drain = true ∨ k.parkPend = true ∨ inRing k.state = false then
      ((s.setSk id { k with slot := decode }).setLane key Lane.empty, true)
    else
      match (if voided then step else none) with
      | some st => (s.setLane key ⟨some id, some st⟩, false)
      | none =>
        if k.state = 3 then
          if slot = k.slot then
            if k.ringRoom then (s.setLane key ⟨some id, some ⟨id, k.committed, k.held⟩⟩, false)
            else (s.ringStall id slot j, false)
          else freed
        else if k.next < k.promptLen ∧ (k.promptTok k.next).isSome = true then
          if k.samplesAt k.next = true ∧ k.ringRoom = false then (s.ringStall id slot j, false)
          else (((s.setLane key ⟨some id, some ⟨id, k.next, (k.promptTok k.next).getD 0⟩⟩).setSk id
            { k with next := k.next + 1 }).keepUnits id, false)
        else freed

/-- One lane of the slot at the reed position (R251, R252, R261). -/
def State.reedLane (s : State) (slot : Nat) (drain : Bool) (j : Nat) (poison : Bool) (cands : List (Int × Nat)) : State :=
  let key := laneKey slot j
  let step := (s.lane key).step
  let (s1, voided) := match step with
    | some st => s.handleStep st slot poison cands
    | none => (s, false)
  let (s2, free) := s1.nextContent slot j step voided drain
  if free = true ∧ drain = false ∧ j < s.width then
    match s2.candidate slot j with
    | some id => s2.place id slot j
    | none => s2
  else s2

/-- The skeins that own no lane-slot and lack the prompt token of their committed length: its unit is requested, so that they can be
placed (R251, R252). -/
def State.askFirsts (s : State) : State :=
  (s.reed.skeins.map Prod.fst).foldl (fun u id =>
    let k := u.sk id
    if 1 ≤ k.state ∧ k.state ≤ 4 ∧ k.pfxLook = false ∧ k.committed < k.promptLen ∧ k.promptTok k.committed = none ∧
        u.lanesOf id = 0 then u.askUnit id (k.committed / 256) else u) s

/-! ### Pre-emption (R265) -/

/-- Eligible for pre-emption: in PREFILL or DECODE, with no prefix copy running from it. -/
def State.preemptable (s : State) (id : Nat) : Bool :=
  inRing (s.sk id).state && !(s.sk id).parkPend &&
    s.reed.skeins.all fun kv => kv.2.copies.all fun c => decide (c.2 ≠ id)

/-- Pre-emption order: the reverse of admission order. -/
def State.preemptOrder (s : State) : List Nat :=
  ((sortBy s.admitKey (s.reed.skeins.map Prod.fst)).filter fun id => s.preemptable id).reverse

/-- Excess skeins of a narrower setting park in pre-emption order (R132). -/
def State.parkExcess (s : State) : State :=
  let n := (s.skeinsIn inRing).length
  (s.preemptOrder.take (n - s.laneSlots (s.get F.PCK_STATUS_MODE))).foldl State.pendPark s

/-- A swap or restore runs (R265, R270). -/
def State.swapRuns (s : State) : Bool := s.reed.skeins.any fun kv => kv.2.swapOut || kv.2.restore

/-! ### The words of an entry (R243, R273) -/

/-- The twelve words of a skein's entry. -/
def State.entryWords (s : State) (id : Nat) : List Nat :=
  let k := s.sk id
  [ id + k.state * 2 ^ 12 + b2n k.swapped * 2 ^ 15 + k.part * 2 ^ 16 + k.prio * 2 ^ 19 + k.sampler * 2 ^ 22 + b2n k.pfxUse * 2 ^ 30
      + b2n k.pfxPub * 2 ^ 31 + b2n k.hold * 2 ^ 32 + b2n k.missed * 2 ^ 33 + k.reason * 2 ^ 34 + k.voids * 2 ^ 38
      + k.lane * 2 ^ 54 + b2n k.parkPend * 2 ^ 59,
    k.deadline, k.committed + k.held * 2 ^ 40 + b2n k.heldValid * 2 ^ 58, k.limit, k.next, k.seed,
    k.ptRoot + k.ringWr * 2 ^ 26 + k.ringLog2 * 2 ^ 46, k.ringBase / 4096 * 4096, k.promptBase / 4 * 4, k.promptLen,
    k.ringRd + s.spool.framesOf id * 2 ^ 20 + s.lanesOf id * 2 ^ 40, k.pfxBlocks + k.slot * 2 ^ 24 ]

end Sys2Proof.Machine
end

