-- ==== Sys2Proof/Machine/Weft.lean ====
section
/-!
DEFINITION. The weft fabric (05_weft_fabric.md): geometry of links and seams, the link protocol, routing, folds, the watchdog, the
congestion map and seam tests.
-/
namespace Sys2Proof.Machine

/-! ### Geometry (R156, R172, R173) -/

/-- What a router's port faces. -/
inductive Neigh where
  | none
  | mesh (r port : Nat)
  | seam (r port : Nat)
  | selvage (seam channel : Nat)
  deriving DecidableEq, Repr

/-- The fields with a neighbour in the east, ascending: the western fields of seams 0 to 51. -/
def ewFields : List Nat := (rangeFrom 0 60).filter fun f => (fieldAt ((fieldXY f).1 + 1) (fieldXY f).2).isSome

/-- The fields with a neighbour in the south, ascending: the northern fields of seams 52 to 103. -/
def nsFields : List Nat := (rangeFrom 0 60).filter fun f => (fieldAt (fieldXY f).1 ((fieldXY f).2 + 1)).isSome

/-- Position of a value in a list. -/
def idxOf (x : Nat) : List Nat → Nat
  | [] => 0
  | y :: ys => if y = x then 0 else idxOf x ys + 1

/-- The field across an edge of a field: 0 north, 1 east, 2 south, 3 west. -/
def fieldAcross (f port : Nat) : Option Nat :=
  let xy := fieldXY f
  match port with
  | 0 => if xy.2 = 0 then none else fieldAt xy.1 (xy.2 - 1)
  | 1 => fieldAt (xy.1 + 1) xy.2
  | 2 => fieldAt xy.1 (xy.2 + 1)
  | _ => if xy.1 = 0 then none else fieldAt (xy.1 - 1) xy.2

/-- The selvage seam at an edge of a field (R173). -/
def selvageSeam (f port : Nat) : Option Nat :=
  match port with
  | 0 => if 1 ≤ f ∧ f ≤ 4 then some (104 + (f - 1)) else none
  | 1 => if f ∈ [21, 29, 37, 45] then some (108 + (f - 21) / 8) else none
  | 2 => if 55 ≤ f ∧ f ≤ 58 then some (112 + (f - 55)) else none
  | _ => if f ∈ [14, 22, 30, 38] then some (116 + (f - 14) / 8) else none

/-- The seam number at an edge of a field that has a neighbour there. -/
def fieldSeam (f g port : Nat) : Nat :=
  match port with
  | 0 => 52 + idxOf g nsFields
  | 1 => idxOf f ewFields
  | 2 => 52 + idxOf f nsFields
  | _ => idxOf g ewFields

/-- The router stands at that edge of its field (R156). -/
def atEdge (r port : Nat) : Bool :=
  match port with
  | 0 => decide (rowOf r = 0)
  | 1 => decide (colOf r = 63)
  | 2 => decide (rowOf r = 71)
  | _ => decide (colOf r = 0)

/-- The channel that a router's edge port carries: its row or its column (R172). -/
def edgeChannel (r port : Nat) : Nat := if port % 2 = 1 then rowOf r else colOf r

/-- A tile address from field, column and row (R8). -/
def mkTile (f c r : Nat) : Nat := f * 8192 + c * 128 + r

/-- The router on the far side of a port inside the field. -/
def meshNext (r port : Nat) : Nat :=
  match port with
  | 0 => r - 1
  | 1 => r + 128
  | 2 => r + 1
  | _ => r - 128

/-- The router on the far side of a field edge. -/
def seamNext (r g port : Nat) : Nat :=
  match port with
  | 0 => mkTile g (colOf r) 71
  | 1 => mkTile g 0 (rowOf r)
  | 2 => mkTile g (colOf r) 0
  | _ => mkTile g 63 (rowOf r)

/-- The port that receives what leaves by `port`. -/
def opposite (port : Nat) : Nat := (port + 2) % 4

/-- What a mesh port of a router faces (R156, R172). -/
def neigh (r port : Nat) : Neigh :=
  if atEdge r port then
    match fieldAcross (fieldOf r) port with
    | some g => .seam (seamNext r g port) (opposite port)
    | none =>
      match selvageSeam (fieldOf r) port with
      | some sm =>
        if edgeChannel r port % 8 = 4 ∧ edgeChannel r port < 64 then .selvage sm ((edgeChannel r port - 4) / 8) else .none
      | none => .none
  else .mesh (meshNext r port) (opposite port)

/-- Seam and channel of a port that faces one (R172, R173). -/
def portSeam (r port : Nat) : Option (Nat × Nat) :=
  match neigh r port with
  | .seam n _ => some (fieldSeam (fieldOf r) (fieldOf n) port, edgeChannel r port)
  | .selvage sm ch => some (sm, ch)
  | _ => none

/-- The fields a seam joins; the second is none for a selvage seam (R173). -/
def seamFields (sm : Nat) : Nat × Option Nat :=
  if sm < 52 then
    let f := ewFields.getD sm 0
    (f, fieldAcross f 1)
  else if sm < 104 then
    let f := nsFields.getD (sm - 52) 0
    (f, fieldAcross f 2)
  else if sm < 108 then (1 + (sm - 104), none)
  else if sm < 112 then (21 + 8 * (sm - 108), none)
  else if sm < 116 then (55 + (sm - 112), none)
  else (14 + 8 * (sm - 116), none)

/-- Channels of a seam (R172). -/
def seamChannels (sm : Nat) : Nat := if sm < 52 then 72 else if sm < 104 then 64 else 8

/-- The near-end router and port of a seam's channel: the western, northern or field end. -/
def seamPort (sm ch : Nat) : Nat × Nat :=
  let f := (seamFields sm).1
  if sm < 52 then (mkTile f 63 ch, 1)
  else if sm < 104 then (mkTile f ch 71, 2)
  else if sm < 108 then (mkTile f (4 + 8 * ch) 0, 0)
  else if sm < 112 then (mkTile f 63 (4 + 8 * ch), 1)
  else if sm < 116 then (mkTile f (4 + 8 * ch) 71, 2)
  else (mkTile f 0 (4 + 8 * ch), 3)

/-! ### Link states (R175) -/

/-- Key of a link. -/
def linkKey (r port : Nat) : Nat := r * 8 + port

/-- The state of a link: NONE without one, DOWN while VS is off at an end or a seam's field clock has stopped (R465), else the state it was put in; a mesh link is UP and a
seam channel TRAINING when VS comes on (R175). -/
def State.linkState (s : State) (r port : Nat) : Nat :=
  match neigh r port with
  | .none => 0
  | .mesh _ _ =>
    if s.vsOn (fieldOf r) = false then 1
    else match smGet 0 (linkKey r port) s.weft.links with
      | 0 => 3
      | v => v
  | .seam n _ =>
    if s.vsOn (fieldOf r) = false ∨ s.vsOn (fieldOf n) = false ∨ fieldOf r ∈ s.clk.stopped ∨ fieldOf n ∈ s.clk.stopped then 1
    else match smGet 0 (linkKey r port) s.weft.links with
      | 0 => 2
      | v => v
  | .selvage _ _ =>
    if s.vsOn (fieldOf r) = false ∨ fieldOf r ∈ s.clk.stopped then 1
    else match smGet 0 (linkKey r port) s.weft.links with
      | 0 => 2
      | v => v

/-- A link's state is put at both its ends. -/
def Weft.setLink (w : Weft) (r port v : Nat) : Weft :=
  match neigh r port with
  | .mesh n p => { w with links := smSet 0 (linkKey n p) v (smSet 0 (linkKey r port) v w.links) }
  | .seam n p => { w with links := smSet 0 (linkKey n p) v (smSet 0 (linkKey r port) v w.links) }
  | _ => { w with links := smSet 0 (linkKey r port) v w.links }

/-- A link has an end in a region. -/
def linkIn (region k : Nat) : Bool :=
  decide (regionOf (fieldOf (k / 8)) = region) ||
    (match neigh (k / 8) (k % 8) with
      | .seam n _ => decide (regionOf (fieldOf n) = region)
      | _ => false)

/-- When VS of a region switches off, its links go DOWN and train anew afterwards (R175), both ends of such a link starting again at SEQ 0.
What stood in its routers is gone; the retry buffer of a sender that keeps its VS resends after training (R463). Log entry 117, DEDUCED. -/
def Weft.vsOff (w : Weft) (region : Nat) : Weft :=
  { w with
    links := w.links.filter fun kv => !(linkIn region kv.1)
    tx := w.tx.filterMap fun kv =>
      if regionOf (fieldOf (kv.1 / 8)) = region then none
      else if linkIn region kv.1 then some (kv.1, { next := 0, keep := [], wait := kv.2.keep ++ kv.2.wait })
      else some kv
    rxSeq := w.rxSeq.filter fun kv => !(linkIn region kv.1)
    nak := w.nak.filter fun kv => !(linkIn region kv.1)
    resent := w.resent.filter fun kv => !(linkIn region kv.1)
    part := w.part.filter fun kv => !(linkIn region (kv.1 / 4))
    bufs := w.bufs.filter fun kv => decide (regionOf (fieldOf (kv.1 / 32)) ≠ region)
    copied := w.copied.filter fun kv => decide (regionOf (fieldOf (kv.1 / 32)) ≠ region)
    slots := w.slots.filter fun c => decide (regionOf (fieldOf c.router) ≠ region) }

/-! ### Errors of the weft (R166 to R168, R171, R186) -/

/-- Capture an error in WFT_ERR_CAP0 and WFT_ERR_CAP1 if they are empty; a write that clears WFT_STATUS to 0 empties them (R171, R186). -/
def State.weftCap (s : State) (bit r port vc info : Nat) : State :=
  if s.reg R.WFT_ERR_CAP0 = 0 ∧ s.reg R.WFT_ERR_CAP1 = 0 then
    { s with bank := (bankPut R.WFT_ERR_CAP1 (BitVec.ofNat 32 (s.pm.pick % 65536 * 65536 + info % 65536))
        (bankPut R.WFT_ERR_CAP0 (BitVec.ofNat 32 (bit * 2 ^ 27 + port * 2 ^ 24 + vc * 2 ^ 22 + r)) s.bank)) }
  else s

/-- The 64 bits of both captures. -/
def State.weftCapBits (s : State) : Nat := (s.reg R.WFT_ERR_CAP0).toNat + (s.reg R.WFT_ERR_CAP1).toNat % 65536 * 2 ^ 32

/-- A shuttle is discarded (R160, R166, R167, R168): its status bit, the count, the capture, and a DISCARD record. -/
def State.discard (s : State) (bit : Fld) (n : Nat) (count : Fld) (r port vc info : Nat) : State :=
  let s1 := (((s.set bit 1).add count 1).weftCap n r port vc info)
  s1.raise 7 13 5 r s1.weftCapBits

/-- A fold error (R171): its status bit, the count, the capture, and a FOLD record. -/
def State.foldErr (s : State) (bit : Fld) (n r port info : Nat) : State :=
  let s1 := (((s.set bit 1).add F.WFT_FOLD_ERR_COUNT_FOLDS 1).weftCap n r port 0 info)
  s1.raise 6 13 2 r (s1.reg R.WFT_ERR_CAP0).toNat

/-! ### Buffers -/

/-- Key of a router's input buffer. -/
def bufKey (r port vc : Nat) : Nat := (r * 8 + port) * 4 + vc

/-- Shuttles in an input buffer; the LOCAL buffer holds what the tile has injected (R51). -/
def State.buf (s : State) (r port vc : Nat) : List Shuttle :=
  if port = 4 then (s.tile r).outbox.filter fun sh => decide (hVc sh.hdr = vc)
  else smGet [] (bufKey r port vc) s.weft.bufs

/-- Remove the first shuttle of a virtual channel. -/
def dropVc (vc : Nat) : List Shuttle → List Shuttle
  | [] => []
  | sh :: l => if hVc sh.hdr = vc then l else sh :: dropVc vc l

/-- The head shuttle of a buffer leaves it. -/
def State.popBuf (s : State) (r port vc : Nat) : State :=
  if port = 4 then s.setTile r { s.tile r with outbox := dropVc vc (s.tile r).outbox }
  else { s with weft := { s.weft with bufs := smSet [] (bufKey r port vc) ((s.buf r port vc).drop 1) s.weft.bufs } }

/-- Flits that an input buffer holds: 32 facing a seam, else one whole shuttle of 9 (R158). -/
def bufCap (r port : Nat) : Nat := if (portSeam r port).isSome then 32 else 9

/-! ### Flits on a link (R161, R176) -/

/-- Flits that a retry buffer holds (R176). -/
def retryCap (r port : Nat) : Nat := if (portSeam r port).isSome then 32 else 8

/-- The sending end of a link. -/
def Weft.txAt (w : Weft) (k : Nat) : LinkTx := smGet ⟨0, [], []⟩ k w.tx

/-- The sending end of a link replaced. -/
def Weft.txPut (w : Weft) (k : Nat) (l : LinkTx) : Weft := { w with tx := smSet ⟨0, [], []⟩ k l w.tx }

/-- Flits in order given the SEQ from `n` on, modulo 64 (R161). -/
def stampFlits : Nat → List WFlit → List WFlit
  | _, [] => []
  | n, f :: fs => { f with seq := n % 64 } :: stampFlits (n + 1) fs

/-- Flits are sent while the retry buffer, which keeps each until it is acknowledged, has room (R176). -/
def LinkTx.pump (cap : Nat) (l : LinkTx) : LinkTx :=
  let n := cap - l.keep.length
  { next := (l.next + (l.wait.take n).length) % 64, keep := l.keep ++ stampFlits l.next (l.wait.take n), wait := l.wait.drop n }

/-- The flits of a shuttle, header first, the last one filled with zeros: head, body and tail, or one head with SINGLE (R159, R161). -/
def flitsOfShuttle (sh : Shuttle) : List WFlit :=
  let n := flitsOf sh
  let bs := leBytes 32 sh.hdr ++ sh.payload ++ zeroBytes (128 * n - 32 - sh.payload.length)
  (rangeFrom 0 n).map fun i =>
    ⟨0, hVc sh.hdr, if i = 0 then 1 else if i + 1 = n then 3 else 2, decide (n = 1), sliceB bs (128 * i) 128⟩

/-- The shuttle that its flits carry: LEN bytes of payload after the header (R159). -/
def shuttleOf (bs : List Byte) : Shuttle := ⟨leNat (bs.take 32), (bs.drop 32).take (hLen (leNat (bs.take 32)))⟩

/-- The sideband of a flit, with its CRC (R161). -/
def WFlit.side (f : WFlit) : Nat :=
  let hi := f.vc + 4 * f.type + 16 * b2n f.single + 32 * f.seq
  crc16 (f.data ++ leBytes 2 hi) + 65536 * hi

/-- The other end of a link inside the wafer: a router and its port. -/
def linkEnd (r port : Nat) : Option (Nat × Nat) :=
  match neigh r port with
  | .mesh n p => some (n, p)
  | .seam n p => some (n, p)
  | _ => none

/-- Flits of a virtual channel on their way over a link and in the part of a shuttle received: the credits that the sender has used beyond
what stands in the buffer (R158). -/
def Weft.onLink (w : Weft) (r port vc : Nat) : Nat :=
  (match linkEnd r port with
    | some (n, p) => ((w.txAt (linkKey n p)).keep ++ (w.txAt (linkKey n p)).wait).countP fun f => decide (f.vc = vc) && decide (f.type ≠ 0)
    | none => 0) + (smGet [] (bufKey r port vc) w.part).length / 128

/-- A shuttle of VC0 or VC1 that a tile sent is still in a buffer, on a link inside the wafer, or in a combine slot (R20). -/
def Weft.carries (w : Weft) (a : Nat) : Bool :=
  (w.bufs.any fun kv => decide (kv.1 % 4 < 2) && kv.2.any fun sh => decide (hSrc sh.hdr = a)) ||
    (w.tx.any fun kv => (linkEnd (kv.1 / 8) (kv.1 % 8)).isSome &&
      (kv.2.keep ++ kv.2.wait).any fun f => decide (f.vc < 2) && decide (f.type = 1) && decide (hSrc (leNat (f.data.take 32)) = a)) ||
    (w.part.any fun kv => decide (kv.1 % 4 < 2) && decide (kv.2 ≠ []) && decide (hSrc (leNat (kv.2.take 32)) = a)) ||
    w.slots.any fun c => decide (hSrc c.hdr = a)

/-- The acknowledgement word that the receiver of a link sends (R161): the last SEQ received in order, the NAK bit, and for each virtual
channel the flits of its buffer that are free, whose returns the credit fields carry. Log entry 118. -/
def State.ackWord (s : State) (r port : Nat) : Nat × Bool × List Nat :=
  ((smGet 0 (linkKey r port) s.weft.rxSeq + 63) % 64, smGet false (linkKey r port) s.weft.nak,
    (rangeFrom 0 4).map fun vc => bufCap r port - (sumNat ((s.buf r port vc).map flitsOf) + s.weft.onLink r port vc))

/-- The next router's buffer has room for the whole shuttle (R158): an empty one takes it whatever its length. -/
def State.room (s : State) (r port vc : Nat) (sh : Shuttle) : Bool :=
  let used := sumNat ((s.buf r port vc).map flitsOf) + s.weft.onLink r port vc
  decide (used = 0) || decide (used + flitsOf sh ≤ bufCap r port)

/-- The flits of a granted shuttle go onto a link (R158, R176). Beyond a selvage channel no acknowledgement is seen: its retry buffer keeps
the last flits sent. -/
def Weft.send (w : Weft) (r port : Nat) (sh : Shuttle) : Weft :=
  let l := w.txAt (linkKey r port)
  let cap := retryCap r port
  w.txPut (linkKey r port) (match linkEnd r port with
    | some _ => { l with wait := l.wait ++ flitsOfShuttle sh }.pump cap
    | none =>
      let fs := flitsOfShuttle sh
      let all := l.keep ++ stampFlits l.next fs
      { next := (l.next + fs.length) % 64, keep := all.drop (all.length - cap), wait := [] })

/-! ### The SPOOL port (R56, R194, R195) -/

/-- The next shuttle of a request reaches the channel controller at router `c`. -/
def reqArrive (c : Nat) : List SpoolReq → List SpoolReq
  | [] => []
  | r :: rs => if r.ctrl = c ∧ 0 < r.away then { r with away := r.away - 1 } :: rs else r :: reqArrive c rs

/-- The next shuttle of a response from the controller at router `c` reaches the tile. -/
def rspArrive (c : Nat) : List SpoolRsp → List SpoolRsp
  | [] => []
  | r :: rs => if r.ctrl = c ∧ 0 < r.away then { r with away := r.away - 1 } :: rs else r :: rspArrive c rs

/-- Reads in the read queue of the channel controller at a router. -/
def State.readQueue (s : State) (c : Nat) : Nat :=
  sumNat (s.tiles.map fun kv => kv.2.spReqs.countP fun r => decide (r.ctrl = c) && decide (r.away = 0) && !r.write)

/-- The router has the SPOOL port (R156), and its controller can take the shuttle: the read queue holds 256 requests (R195). -/
def State.spoolTakes (s : State) (r : Nat) : Bool := decide (rowOf r = 36) && decide (s.readQueue r < 256)

/-- A SPOOL_REQ shuttle handed to the channel controller. -/
def State.toController (s : State) (r : Nat) (sh : Shuttle) : State :=
  if hKind sh.hdr = 4 then
    s.setTile (hSrc sh.hdr) { s.tile (hSrc sh.hdr) with spReqs := reqArrive r (s.tile (hSrc sh.hdr)).spReqs }
  else s

/-! ### The head's results at the reed (R24, R256) -/

/-- The pairs of value and tag that a max fold shuttle carries (R160). -/
def shuttlePairs (sh : Shuttle) : List (Int × Nat) :=
  (rangeFrom 0 (sh.payload.length / 8)).map fun i => (sgn 40 (leNat (sliceB sh.payload (8 * i) 5)), leNat (sliceB sh.payload (8 * i + 5) 3))

/-- The results of a lane among those that have come. -/
def laneShuttles (l : List Shuttle) (j : Nat) : List Shuttle := l.filter fun sh => decide (hLane sh.hdr = j)

/-- The pairs of a lane. A bucket maximum is one of the pairs that the gather of its bucket brings, so both rounds stand in one list. -/
def lanePairs (l : List Shuttle) (j : Nat) : List (Int × Nat) := (laneShuttles l j).flatMap shuttlePairs

/-- The step of a lane is poisoned: a result carries POISON (R24), or none has come. -/
def laneBad (l : List Shuttle) (j : Nat) : Bool := decide (laneShuttles l j = []) || (laneShuttles l j).any fun sh => hPoison sh.hdr

/-- Chunks of a lane's results of a pick. -/
def chunksCome (l : List Shuttle) (pick j : Nat) : List Nat :=
  dedupNat (((laneShuttles l j).filter fun sh => decide (hPick sh.hdr = pick)).map fun sh => hChunk sh.hdr)

/-- A max fold result reaches the reed (R256): with the 32nd chunk of a lane the bucket maxima are all there, and the reed multicasts the
numbers of the first 64 buckets by the order of R90. -/
def State.toReed (s : State) (sh : Shuttle) : State :=
  let l := s.weft.reed ++ [sh]
  let p := hPick sh.hdr
  let j := hLane sh.hdr
  let s1 := { s with weft := { s.weft with reed := l } }
  if (chunksCome s.weft.reed p j).length < 32 ∧ (chunksCome l p j).length = 32 then
    { s1 with out := s1.out ++ [.gather p j ((topCands (lanePairs l j)).map fun x => x.2 / 64)] }
  else s1

/-- Members of the bond toward the next device of a chain that are UP (R403). -/
def State.forwardBond (s : State) : List Nat :=
  (rangeFrom 0 16).filter fun q => decide (s.portState q = 3) && decide (s.portRole q = 3) && decide (s.get F.HLS_PORT_STAT_HOP q = 1)

/-- The member that carries a lane's handoff: the UP members take the lanes round robin (R403). -/
def State.bondPort (s : State) (lane : Nat) : Option Nat := s.forwardBond[lane % s.forwardBond.length]?

/-- A selvage die takes what leaves the wafer: a HOST_OUT shuttle becomes a write to the host address in its address word, on the port that
DEST names, where that port is UP (R387); a max fold result at SN goes to the reed (R256); a handoff that leaves the wafer goes to the next
device of the chain while the bond has an UP member (R403); all else is an output. -/
def State.toDie (s : State) (sm ch : Nat) (sh : Shuttle) : State :=
  let p := (hDest sh.hdr / 8192 - 60) * 4 + hDest sh.hdr % 4
  if hKind sh.hdr = 6 then if p ∈ s.hostPorts then s.emit (memWrs p 2 (hAddr sh.hdr) sh.payload) else s
  else if hKind sh.hdr = 3 ∧ sm < 108 then s.toReed sh
  else if hKind sh.hdr = 1 ∧ s.get F.PCK_CHAIN_ROLE ≠ 0 then
    match s.bondPort (hLane sh.hdr) with
    | some q => s.emit [.handoff q (hPick sh.hdr) (hLane sh.hdr) (leBytes 32 sh.hdr ++ sh.payload)]
    | none => s
  else { s with out := s.out ++ [.selvage sm ch sh] }

/-- A copy of a shuttle can leave by an output port now: link UP and room beyond it (R158); LOCAL always takes it. -/
def State.canLeave (s : State) (r port : Nat) (sh : Shuttle) : Bool :=
  if port = 4 then true
  else if 5 ≤ port then s.spoolTakes r
  else decide (s.linkState r port = 3) &&
    (match neigh r port with
      | .mesh n p => s.room n p (hVc sh.hdr) sh
      | .seam n p => s.room n p (hVc sh.hdr) sh
      | .selvage _ _ => true
      | .none => false)

/-- The tile takes nothing from its router: DARNED, or VL off (R57, R168). -/
def State.deaf (s : State) (r : Nat) : Bool := decide ((s.tile r).st = 5) || !(s.vlOn (fieldOf r))

/-- A shuttle is ejected to the local port (R44); a spool response goes to the tile's spool-in side (R56). -/
def State.eject (s : State) (r : Nat) (sh : Shuttle) : State :=
  if hKind sh.hdr = 5 then s.setTile r { s.tile r with spOut := rspArrive (hSrc sh.hdr) (s.tile r).spOut }
  else s.setTile r { s.tile r with inbox := (s.tile r).inbox ++ [sh] }

/-- A copy leaves by an output port: its flits go onto the link (R176), or out to a selvage die, the tile or the channel controller. -/
def State.leave (s : State) (r port : Nat) (sh : Shuttle) : State :=
  match port with
  | 4 => s.eject r sh
  | 5 => s.toController r sh
  | _ =>
    match neigh r port with
    | .selvage sm ch => { s with weft := s.weft.send r port sh }.toDie sm ch sh
    | .none => s
    | _ => { s with weft := s.weft.send r port sh }

/-! ### Tables (R164, R191) -/

/-- Field table entry: 0 N, 1 E, 2 S, 3 W, 4 OWN, 7 INVALID. -/
def Weft.fieldEntry (w : Weft) (r f : Nat) : Nat := smGet 0 (r * 64 + f) w.field % 8

/-- Multicast word `i` of a router. -/
def Weft.mcastWord (w : Weft) (r i : Nat) : Nat := smGet 0 (r * 64 + i) w.mcast

/-- Fold word `i` of a router. -/
def Weft.foldWord (w : Weft) (r i : Nat) : Nat := smGet 0 (r * 128 + i) w.fold

/-- The port mask that a router's multicast table gives a group. -/
def Weft.mcastMask (w : Weft) (r g : Nat) : Option Nat :=
  ((rangeFrom 0 64).find? fun i =>
    let x := w.mcastWord r i
    bitAt x 31 && decide (bitsOf x 0 12 = g)).map fun i => bitsOf (w.mcastWord r i) 24 5

/-- A fold table entry: COLLECTOR, input mask, output port, arrival count. -/
def Weft.foldEntry (w : Weft) (r g : Nat) : Option (Bool × Nat × Nat × Nat) :=
  ((rangeFrom 0 64).find? fun i =>
    let x := w.foldWord r (2 * i)
    bitAt x 31 && decide (bitsOf x 0 12 = g)).map fun i =>
      let x := w.foldWord r (2 * i)
      (bitAt x 30, bitsOf x 24 6, bitsOf x 21 3, bitsOf (w.foldWord r (2 * i + 1)) 0 17)

/-- A router table word written by the loader or the heddle controller (R164, R292, R317): table 0 field, 1 multicast, 2 fold. -/
def Weft.putTable (w : Weft) (r table entry v : Nat) : Weft :=
  match table with
  | 0 => { w with field := smSet 0 (r * 64 + entry % 64) v w.field }
  | 1 => { w with mcast := smSet 0 (r * 64 + entry % 64) v w.mcast }
  | 2 => { w with fold := smSet 0 (r * 128 + entry % 128) v w.fold }
  | _ => w

/-- WFT_TBL_DATA for an address (R190, R191). -/
def Weft.tableData (w : Weft) (r table entry : Nat) : Nat :=
  match table with
  | 0 => smGet 0 (r * 64 + entry % 64) w.field
  | 1 => smGet 0 (r * 64 + entry % 64) w.mcast
  | 2 => smGet 0 (r * 128 + entry) w.fold
  | _ => 0

/-! ### Routing (R165 to R168) -/

/-- The virtual channel of a kind (R160); none for a reserved kind. -/
def kindVc (k : Nat) : Option Nat :=
  match k with
  | 0 => some 1
  | 1 => some 1
  | 2 => some 0
  | 3 => some 0
  | 4 => some 3
  | 5 => some 2
  | 6 => some 3
  | 7 => some 3
  | _ => none

/-- Direction inside the destination field: along the row to the column, then along the column (R165); 4 at the destination. -/
def xyPort (r dest : Nat) : Nat :=
  if colOf r < colOf dest then 1 else if colOf dest < colOf r then 3
  else if rowOf r < rowOf dest then 2 else if rowOf dest < rowOf r then 0 else 4

/-- Output port of a UNICAST, spool or host shuttle; none where the field table gives no way (R165, R166). A spool request leaves
the destination's router, in row 36, by SPOOL (R156). DEST[18:13] from 60 to 63 names a selvage die (R387): the entry that the XKP assigns to
it gives the direction. -/
def State.unicastPort (s : State) (r : Nat) (sh : Shuttle) : Option Nat :=
  let d := hDest sh.hdr
  if fieldOf d = fieldOf r then
    match xyPort r d with
    | 4 => if hKind sh.hdr = 4 then (if rowOf r = 36 then some 5 else none) else some 4
    | p => some p
  else
    let e := s.weft.fieldEntry r (if fieldOf d < 60 then fieldOf d else Config.selvageEntry s.pat.serial r (fieldOf d - 60) % 60)
    if e < 4 then some e else none

/-- INFO of a capture (R186): DEST for unicast kinds, the group for the others. -/
def capInfo (sh : Shuttle) : Nat :=
  if hKind sh.hdr = 1 ∨ hKind sh.hdr = 2 ∨ hKind sh.hdr = 3 then hGroup sh.hdr else hDest sh.hdr

/-- A shuttle with HOPS decremented (R167). -/
def hopped (sh : Shuttle) : Shuttle := { sh with hdr := bitsPut sh.hdr 8 12 (hHops sh.hdr - 1) }

/-- A shuttle with POISON set (R158). -/
def poisoned (sh : Shuttle) : Shuttle := { sh with hdr := bitsPut sh.hdr 6 1 1 }

/-- A copy toward one port: ejected, dropped at a deaf tile, or forwarded. -/
def State.copyTo (s : State) (r port : Nat) (sh : Shuttle) : State :=
  if port = 4 then
    if s.deaf r then s.add F.WFT_DROP_COUNT_DROPS 1 else s.eject r sh
  else s.leave r port (hopped sh)

/-- The ports of a mask (R164). -/
def maskPorts (m : Nat) : List Nat := (rangeFrom 0 6).filter fun p => bitAt m p

/-- The copies of a multicast proceed independently (R166): each port that can take its copy now takes it; once every port of the
mask has, the shuttle leaves its input buffer. With HOPS at 0 the tile's own copy is ejected and the shuttle, which would be forwarded, is
discarded once (R167). -/
def State.copyOut (s : State) (r port vc : Nat) (sh : Shuttle) (ports : List Nat) : State :=
  let k := bufKey r port vc
  if hHops sh.hdr = 0 then
    let s1 := ((ports.filter fun p => decide (p = 4)).foldl (fun u p => u.copyTo r p sh) s).popBuf r port vc
    if ports.all fun p => decide (p = 4) then s1
    else s1.discard F.WFT_STATUS_HOP 0 F.WFT_HOP_COUNT_HOPS r port vc (capInfo sh)
  else
  let todo := ports.filter fun p => !(bitAt (smGet 0 k s.weft.copied) p)
  let go := todo.filter fun p => s.canLeave r p sh
  let s1 := go.foldl (fun u p => u.copyTo r p sh) s
  if go.length = todo.length then
    { s1 with weft := { s1.weft with copied := smSet 0 k 0 s1.weft.copied } }.popBuf r port vc
  else
    { s1 with weft := { s1.weft with
      copied := smSet 0 k (smGet 0 k s1.weft.copied + sumNat (go.map fun p => 2 ^ p)) s1.weft.copied } }

/-- The shuttle at the head of an input buffer is routed (R160, R165 to R168). -/
def State.route (s : State) (r port vc : Nat) (sh : Shuttle) : State :=
  let k := hKind sh.hdr
  if kindVc k ≠ some vc ∨ hVc sh.hdr ≠ vc then
    (s.popBuf r port vc).discard F.WFT_STATUS_KIND 8 F.WFT_DROP_COUNT_DROPS r port vc (capInfo sh)
  else if k = 2 ∨ k = 3 then
    match s.weft.foldEntry r (hGroup sh.hdr) with
    | some _ => s
    | none => (s.popBuf r port vc).discard F.WFT_STATUS_NO_ROUTE 1 F.WFT_DROP_COUNT_DROPS r port vc (capInfo sh)
  else if k = 1 then
    match s.weft.mcastMask r (hGroup sh.hdr) with
    | none => (s.popBuf r port vc).discard F.WFT_STATUS_NO_ROUTE 1 F.WFT_DROP_COUNT_DROPS r port vc (capInfo sh)
    | some m =>
      s.copyOut r port vc sh (maskPorts m)
  else
    match s.unicastPort r sh with
    | none => (s.popBuf r port vc).discard F.WFT_STATUS_NO_ROUTE 1 F.WFT_DROP_COUNT_DROPS r port vc (capInfo sh)
    | some p =>
      if p = 4 then
        if s.deaf r then (s.popBuf r port vc).discard F.WFT_STATUS_DEST_OFF 2 F.WFT_DROP_COUNT_DROPS r port vc (capInfo sh)
        else (s.popBuf r port vc).eject r sh
      else if p = 5 then if s.canLeave r 5 sh then (s.popBuf r port vc).leave r 5 sh else s
      else if hHops sh.hdr = 0 then
        (s.popBuf r port vc).discard F.WFT_STATUS_HOP 0 F.WFT_HOP_COUNT_HOPS r port vc (capInfo sh)
      else if s.canLeave r p sh then (s.popBuf r port vc).leave r p (hopped sh)
      else s

/-- The first shuttle of a virtual channel with POISON set. -/
def markVc (vc : Nat) : List Shuttle → List Shuttle
  | [] => []
  | sh :: l => if hVc sh.hdr = vc then poisoned sh :: l else sh :: markVc vc l

/-- A buffer read with bits in error (R158): a corrected error is counted; a double-bit error poisons the shuttle and sets BUF_UE,
which is captured as any error of WFT_STATUS (R186). -/
def State.bufRead (s : State) (r port vc e : Nat) (sh : Shuttle) : State :=
  if e = 1 then s.add F.WFT_RTR_RETRY_CE 1 r
  else if e = 2 then
    let s1 := (s.set F.WFT_STATUS_BUF_UE 1).weftCap 9 r port vc (capInfo sh)
    if port = 4 then s1.setTile r { s1.tile r with outbox := markVc vc (s1.tile r).outbox }
    else { s1 with weft := { s1.weft with bufs := (smSet [] (bufKey r port vc)
            (poisoned sh :: (s1.buf r port vc).drop 1) s1.weft.bufs) } }
  else s

/-- SHUTTLE_ROUTE (R158, R165). -/
def execShuttleRoute (r : TileAddr) (port : Fin 6) (vc : Fin 4) (e : Fin 3) (s : State) : Res :=
  onTile r s fun _ =>
    match s.buf r.toNat port.val vc.val with
    | [] => s
    | sh :: _ =>
      let s1 := s.bufRead r.toNat port.val vc.val e.val sh
      if s1.vsOn (fieldOf r.toNat) then s1.route r.toNat port.val vc.val (if e.val = 2 then poisoned sh else sh) else s

/-! ### Folds (R170, R171) -/

/-- The values of a fold shuttle: 5 bytes each, with 3 bytes of tag in a max fold (R160). -/
def foldVals (sh : Shuttle) : List (Int × Nat) :=
  let w := if hKind sh.hdr = 3 then 8 else 5
  (rangeFrom 0 (hNblk sh.hdr)).map fun i =>
    (sgn 40 (leNat (sliceB sh.payload (w * i) 5)), if w = 8 then leNat (sliceB sh.payload (w * i + 5) 3) else 0)

/-- The payload of fold values. -/
def foldPayload (kind : Nat) (vs : List (Int × Nat)) : List Byte :=
  vs.flatMap fun v => leBytes 5 (tow 40 v.1) ++ (if kind = 3 then leBytes 3 v.2 else [])

/-- Two lists of values combined element by element. -/
def foldCombine (kind : Nat) (a b : List (Int × Nat)) : List (Int × Nat) :=
  (a.zip b).map fun p => if kind = 3 then foldMax p.1 p.2 else (foldAdd p.1.1 p.2.1, 0)

/-- The slot of a router for a key. -/
def CombSlot.is (c : CombSlot) (r g ch pk : Nat) : Bool :=
  decide (c.router = r) && decide (c.group = g) && decide (c.chunk = ch) && decide (c.pick = pk)

/-- Combine slots in use at a router (R170). -/
def Weft.slotsAt (w : Weft) (r : Nat) : List CombSlot := w.slots.filter fun c => decide (c.router = r)

/-- An arrival added to its slot: values combined, CONTRIB summed, POISON ORed, the lowest HOPS kept; one from a port outside the mask or
with a wrong format is not added and poisons, a second arrival of a port is added and poisons (R170, R171). A slot with no port delivered
holds no values yet. -/
def CombSlot.arrive (c : CombSlot) (port : Nat) (bad : Bool) (sh : Shuttle) : CombSlot :=
  if bad then { c with hops := min c.hops (hHops sh.hdr), poison := true }
  else if hNblk sh.hdr ≠ c.nblk ∨ hFmt sh.hdr ≠ c.fmt ∨ hKind sh.hdr ≠ c.kind then { c with poison := true, ports := c.ports ++ [port] }
  else { c with vals := if c.vals = [] then foldVals sh else foldCombine c.kind c.vals (foldVals sh), contrib := c.contrib + hContrib sh.hdr,
                hops := min c.hops (hHops sh.hdr), poison := c.poison || hPoison sh.hdr || decide (port ∈ c.ports),
                ports := c.ports ++ [port] }

/-- FOLD_ARRIVAL (R170, R171). -/
def State.foldArrive (s : State) (r port : Nat) : State :=
  match s.buf r port 0 with
  | [] => s
  | sh :: _ =>
    if kindVc (hKind sh.hdr) ≠ some 0 then s else
    match s.weft.foldEntry r (hGroup sh.hdr) with
    | none => s
    | some (_, mask, _, _) =>
      let bad := !(bitAt mask port)
      let g := hGroup sh.hdr
      let ch := hChunk sh.hdr
      let pk := hPick sh.hdr
      match s.weft.slots.find? fun c => c.is r g ch pk with
      | none =>
        if 8 ≤ (s.weft.slotsAt r).length then s
        else
          let c : CombSlot := ⟨r, g, ch, pk, hKind sh.hdr, hFmt sh.hdr, hNblk sh.hdr, if bad then [] else [port],
            if bad then [] else foldVals sh, if bad then 0 else hContrib sh.hdr, hHops sh.hdr, hPoison sh.hdr || bad, sh.hdr⟩
          let s1 := s.popBuf r port 0
          let s2 := { s1 with weft := { s1.weft with slots := s1.weft.slots ++ [c] } }
          if bad then s2.foldErr F.WFT_STATUS_FOLD_PORT 4 r port g else s2
      | some c =>
        let wrong := bad || decide (port ∈ c.ports) || decide (hNblk sh.hdr ≠ c.nblk) || decide (hFmt sh.hdr ≠ c.fmt)
        let s1 := s.popBuf r port 0
        let s2 := { s1 with weft := { s1.weft with slots :=
          (s1.weft.slots.map fun x => if x.is r g ch pk then x.arrive port bad sh else x) } }
        if wrong then s2.foldErr F.WFT_STATUS_FOLD_PORT 4 r port g else s2

/-- FOLD_ARRIVAL. -/
def execFoldArrival (r : TileAddr) (port : Fin 6) (s : State) : Res := onTile r s fun _ => s.foldArrive r.toNat port.val

/-- The combined shuttle of a slot (R170). -/
def CombSlot.shuttle (c : CombSlot) (poison : Bool) : Shuttle :=
  let pl := foldPayload c.kind c.vals
  ⟨bitsPut (bitsPut (bitsPut (bitsPut c.hdr 6 1 (b2n poison)) 8 12 (c.hops - 1)) 108 17 c.contrib) 20 11 pl.length, pl⟩

/-- FOLD_COMBINE_COMPLETE (R170, R171): once every port of the mask has delivered, the combined shuttle leaves by the output port, or
is ejected at the collector, where a contribution count other than n poisons it. With the lowest HOPS at 0 it is discarded instead of
forwarded (R167); a deaf tile's router ejects nothing (R168). -/
def State.foldDone (s : State) (r g ch pk : Nat) : State :=
  match s.weft.slots.find? (fun c => c.is r g ch pk), s.weft.foldEntry r g with
  | some c, some (coll, mask, outPort, n) =>
    if (maskPorts mask).all fun p => decide (p ∈ c.ports) then
      let free := { s with weft := { s.weft with slots := s.weft.slots.filter fun x => !(x.is r g ch pk) } }
      if coll then
        let f1 := if c.contrib ≠ n then free.foldErr F.WFT_STATUS_FOLD_COUNT 3 r 4 c.contrib else free
        if s.deaf r then f1.add F.WFT_DROP_COUNT_DROPS 1 else f1.eject r (c.shuttle (c.poison || decide (c.contrib ≠ n)))
      else if c.hops = 0 then free.discard F.WFT_STATUS_HOP 0 F.WFT_HOP_COUNT_HOPS r outPort 0 g
      else if s.canLeave r outPort (c.shuttle c.poison) then free.leave r outPort (c.shuttle c.poison)
      else s
    else s
  | _, _ => s

/-- FOLD_COMBINE_COMPLETE. -/
def execFoldCombineComplete (r : TileAddr) (group chunk : BitVec 12) (pick : BitVec 16) (s : State) : Res :=
  onTile r s fun _ => s.foldDone r.toNat group.toNat chunk.toNat pick.toNat

/-! ### The link protocol (R161, R176, R177) -/

/-- An injected CRC error on the channel (R571 kind 4): the target is seam in [18:12] and channel in [6:0]. -/
def crcTarget (r port : Nat) : Option Nat := (portSeam r port).map fun sc => sc.1 * 4096 + sc.2

/-- One injected error used up. -/
def State.injCount (s : State) (kind target : Nat) : State :=
  { s with inj := s.inj.filterMap fun j =>
      if j.kind = kind ∧ j.target = target then (if j.n ≤ 1 then none else some { j with n := j.n - 1 }) else some j }

/-- A flit acknowledged: the retry buffer of the sender lets it and all before it go, and sends on (R161, R176). -/
def Weft.acked (w : Weft) (r port seq : Nat) : Weft :=
  match linkEnd r port with
  | none => w
  | some (n, p) =>
    let l := w.txAt (linkKey n p)
    match l.keep.findIdx? fun f => decide (f.seq = seq) with
    | none => w
    | some i => w.txPut (linkKey n p) ({ l with keep := l.keep.drop (i + 1) }.pump (retryCap n p))

/-- What the sender's retry buffer holds of a flit has been discarded at a HALT (R179). -/
def Weft.voided (w : Weft) (r port seq : Nat) : Bool :=
  match linkEnd r port with
  | none => false
  | some (n, p) => (w.txAt (linkKey n p)).keep.any fun f => decide (f.seq = seq) && decide (f.type = 0)

/-- A shuttle has arrived whole in an input buffer (R176). -/
def Weft.deliver (w : Weft) (k : Nat) (bs : List Byte) : Weft :=
  { w with bufs := smSet [] k (smGet [] k w.bufs ++ [shuttleOf bs]) w.bufs, part := smSet [] k [] w.part }

/-- An accepted flit: a head opens its shuttle, a tail closes it; a flit with no shuttle open is dropped (R161). -/
def Weft.takeFlit (w : Weft) (r port : Nat) (flit : List Byte) (side : Nat) : Weft :=
  let k := bufKey r port (bitsOf side 16 2)
  let had := smGet [] k w.part
  match bitsOf side 18 2 with
  | 0 => w
  | 1 => if bitAt side 20 then w.deliver k flit else { w with part := smSet [] k flit w.part }
  | 2 => if had = [] then w else { w with part := smSet [] k (had ++ flit) w.part }
  | _ => if had = [] then w else w.deliver k (had ++ flit)

/-- A flit with a bad CRC, or lost to an overrun of the seam's FIFO, which is treated the same (R174, R176): counted and NAKed. -/
def State.flitBad (s : State) (r port : Nat) : State :=
  let k := linkKey r port
  let s1 := s.add F.WFT_CRC_COUNT_CRC 1
  { s1 with weft := { s1.weft with nak := smSet false k true s1.weft.nak }, out := s1.out ++ [.weftNak r port (smGet 0 k s.weft.rxSeq)] }

/-- An event on a crossing that its class could not hold: XOVR and the count of the class (R462, R464). -/
def State.crossOver (s : State) (cls : Nat) : State := (s.set F.CLK_STATUS_XOVR 1).add F.CLK_XCLASS_STAT_OVERRUNS 1 cls

/-- FLIT_RECEIVE (R176): a failing CRC is counted and NAKed; a flit out of sequence is NAKed unless a NAK is out, and discarded; the
expected one is accepted and acknowledged. `xovr`: the FIFO of the seam has overrun (R174). -/
def State.flitIn (s : State) (r port : Nat) (xovr : Bool) (flit : List Byte) (side : Nat) : State :=
  let k := linkKey r port
  let want := smGet 0 k s.weft.rxSeq
  let inj := match crcTarget r port with
    | some t => s.injHas 4 t
    | none => false
  let ok := decide (crc16 (flit ++ leBytes 2 (side / 65536)) = side % 65536) && !inj
  let s0 := if inj then (match crcTarget r port with | some t => s.injCount 4 t | none => s) else s
  if s.linkState r port ≠ 3 then s
  else if xovr && (portSeam r port).isSome then (s.crossOver 1).flitBad r port
  else if ok = false then s0.flitBad r port
  else if bitsOf side 21 6 ≠ want then
    if smGet false k s.weft.nak then s0
    else { s0 with weft := { s0.weft with nak := smSet false k true s0.weft.nak }, out := s0.out ++ [.weftNak r port want] }
  else
    let w := { s0.weft with nak := smSet false k false s0.weft.nak, rxSeq := smSet 0 k ((want + 1) % 64) s0.weft.rxSeq }
    { s0 with weft := (if w.voided r port want then w else w.takeFlit r port flit side).acked r port want }

/-- FLIT_RECEIVE. -/
def execFlitReceive (r : TileAddr) (port : Fin 4) (flit : List (BitVec 8)) (side : BitVec 32) (s : State) (xovr : Bool := false) : Res :=
  onTile r s fun _ => s.flitIn r.toNat port.val xovr flit side.toNat

/-- NAK_RECEIVED (R176): the sender resends from the flit named, in order; those before it are acknowledged. Each resend is counted, and how
often this flit has been resent is kept for R177. A NAK of a flit that the retry buffer no longer holds resends nothing. -/
def State.nakIn (s : State) (r port seq : Nat) : State :=
  let k := linkKey r port
  let l := s.weft.txAt k
  match l.keep.findIdx? fun f => decide (f.seq = seq) with
  | none => s
  | some i =>
    let again := l.keep.drop i
    let was := smGet (0, 0) k s.weft.resent
    let c := if was.1 = seq then was.2 + 1 else 1
    let s1 := s.add F.WFT_RTR_RETRY_RETRIES again.length r
    { s1 with weft := { s1.weft.txPut k ({ l with keep := again }.pump (retryCap r port)) with
                resent := smSet (0, 0) k (seq, c) s1.weft.resent },
              out := s1.out ++ [.weftResend r port seq again.length] }

/-- NAK_RECEIVED. -/
def execNakReceived (r : TileAddr) (port : Fin 4) (seq : BitVec 6) (s : State) : Res :=
  onTile r s fun _ => if s.linkState r.toNat port.val = 3 then s.nakIn r.toNat port.val seq.toNat else s

/-- A link enters FAILED (R177): its seam's bit in WFT_SEAM_FAIL, LINK_FAIL, a LINK_FAIL record. -/
def State.linkFailed (s : State) (r port : Nat) : State :=
  let s1 := ({ s with weft := s.weft.setLink r port 4 }.set F.WFT_STATUS_LINK_FAIL 1).weftCap 7 r port 0 0
  match portSeam r port with
  | some (sm, ch) =>
    let f := F.WFT_SEAM_FAIL_SEAMS.nth (sm / 32)
    (s1.set f (bitsPut (s1.get f) (sm % 32) 1 1)).raise 9 13 4 r (sm + ch * 128)
  | none => s1.raise 9 13 4 r 0

/-- LINK_RETRAIN (R177): after eight resends of one flit, a seam channel enters TRAINING and a mesh link FAILED. -/
def State.linkRetrain (s : State) (r port : Nat) : State :=
  let k := linkKey r port
  if s.linkState r port = 3 ∧ 8 ≤ (smGet (0, 0) k s.weft.resent).2 then
    let s1 := { s with weft := { s.weft with resent := smSet (0, 0) k (0, 0) s.weft.resent } }
    match portSeam r port with
    | some _ => { s1 with weft := s1.weft.setLink r port 2 }
    | none => s1.linkFailed r port
  else s

/-- LINK_RETRAIN. -/
def execLinkRetrain (r : TileAddr) (port : Fin 4) (s : State) : Res := onTile r s fun _ => s.linkRetrain r.toNat port.val

/-- The FIFO of a seam channel after training: fill 4 (R174, R473). -/
def State.seamFill (s : State) (sm ch : Nat) : State :=
  ((s.set F.CLK_SEAM_FILL_NOW 4 (sm * 128 + ch)).set F.CLK_SEAM_FILL_MAX (max 4 (s.get F.CLK_SEAM_FILL_MAX (sm * 128 + ch)))
    (sm * 128 + ch)).set F.CLK_SEAM_FILL_MIN
      (if s.get F.CLK_SEAM_FILL_MAX (sm * 128 + ch) = 0 then 4 else min 4 (s.get F.CLK_SEAM_FILL_MIN (sm * 128 + ch)))
      (sm * 128 + ch)

/-- Both ends of a link send on from what their retry buffers and senders hold (R177, R463). -/
def Weft.resume (w : Weft) (r port : Nat) : Weft :=
  let go := fun (u : Weft) (e : Nat × Nat) => u.txPut (linkKey e.1 e.2) ((u.txAt (linkKey e.1 e.2)).pump (retryCap e.1 e.2))
  match linkEnd r port with
  | some e => go (go w (r, port)) e
  | none => w

/-- SEAM_TRAINING_COMPLETE (R175, R177): UP or FAILED; a retrain that succeeds sets RETRAIN and is counted. -/
def State.seamTrained (s : State) (sm ch : Nat) (ok : Bool) : State :=
  let rp := seamPort sm ch
  if s.linkState rp.1 rp.2 = 2 then
    if ok then
      let s1 := ({ s with weft := (s.weft.setLink rp.1 rp.2 3).resume rp.1 rp.2 }).seamFill sm ch
      if smGet 0 (linkKey rp.1 rp.2) s.weft.links = 2 then
        (s1.set F.WFT_STATUS_RETRAIN 1).add F.WFT_RETRAIN_COUNT_RETRAINS 1
      else s1
    else s.linkFailed rp.1 rp.2
  else s

/-- SEAM_TRAINING_COMPLETE; a channel above the seam's count is no channel. -/
def execSeamTrainingComplete (seam : Fin 120) (channel : BitVec 7) (ok : Bool) (s : State) : Res :=
  if channel.toNat < seamChannels seam.val then .next (s.seamTrained seam.val channel.toNat ok) else .fault .noTile

/-! ### The watchdog (R178) and HALT (R179) -/

/-- WEFT_WATCHDOG (R178): reported once for each buffer until WDOG is cleared; discards nothing. -/
def State.watchdog (s : State) (r port vc : Nat) : State :=
  let k := bufKey r port vc
  let seen := if s.get F.WFT_STATUS_WDOG = 1 then s.weft.wdog else []
  if s.get F.WFT_CTRL_WDOG_EN = 1 ∧ s.buf r port vc ≠ [] ∧ k ∉ seen then
    let info := match s.buf r port vc with
      | sh :: _ => capInfo sh
      | [] => 0
    let s1 := ({ s with weft := { s.weft with wdog := k :: seen } }.set F.WFT_STATUS_WDOG 1).weftCap 5 r port vc info
    s1.raise 8 13 5 r (s1.reg R.WFT_ERR_CAP0).toNat
  else s

/-- WEFT_WATCHDOG. -/
def execWeftWatchdog (r : TileAddr) (port : Fin 6) (vc : Fin 4) (s : State) : Res :=
  onTile r s fun _ => s.watchdog r.toNat port.val vc.val

/-- A flit of VC0 or VC1 on a link is discarded: it stays as an idle one, so that the sequence goes on (R161, R179). -/
def voidFlit (f : WFlit) : WFlit := if f.vc < 2 then { f with type := 0 } else f

/-- When the pick master enters HALT, every router discards VC0 and VC1, on the links too, and frees its combine slots; VC2 and VC3
go on (R179). -/
def Weft.halt (w : Weft) : Weft :=
  { w with bufs := w.bufs.filter fun kv => decide (2 ≤ kv.1 % 4)
           part := w.part.filter fun kv => decide (2 ≤ kv.1 % 4)
           tx := w.tx.map fun kv => (kv.1, { kv.2 with keep := kv.2.keep.map voidFlit, wait := kv.2.wait.filter fun f => decide (2 ≤ f.vc) })
           copied := [], slots := [], reed := [] }

/-- The tile's part of HALT: what stands on VC0 and VC1 in the local input buffer of its router, or waits to enter it, is discarded
(R179); the pick program of a tile in RUN ends, and its passes in flight are discarded (R142). -/
def tileHalt (t : Tile) : Tile :=
  let t1 := { t with outbox := t.outbox.filter fun sh => decide (2 ≤ hVc sh.hdr),
                     building := t.building.filter fun sh => decide (2 ≤ hVc sh.hdr) }
  if t.st = 3 then { t1 with active := false, doneExec := false, queue := [], staging := [], drain := none, inbox := [] } else t1

/-! ### Congestion maps (R180, R192) -/

/-- The code of a count (R180). -/
def cmapCode (c : Nat) : Nat := if c < 64 then 0 else min 15 (bitlen c - 6)

/-- The count that a millisecond's list gives a router. -/
def blockedOf (l : List (TileAddr × BitVec 32)) (r : Nat) : Nat :=
  match l.find? fun p => decide (p.1.toNat = r) with
  | some p => p.2.toNat
  | none => 0

/-- The field map: two codes per byte, the lower tile index in bits [3:0]; tiles in address order (R180). -/
def fieldMap (l : List (TileAddr × BitVec 32)) (f : Nat) : List Byte :=
  let codes := (rangeFrom 0 64).flatMap fun c => (rangeFrom 0 72).map fun r => cmapCode (blockedOf l (mkTile f c r))
  (rangeFrom 0 2304).map fun i => BitVec.ofNat 8 (codes.getD (2 * i) 0 + 16 * codes.getD (2 * i + 1) 0)

/-- The whole map with its header (R180). -/
def State.cmapBytes (s : State) (seq : Nat) (l : List (TileAddr × BitVec 32)) : List Byte :=
  leBytes 8 seq ++ leBytes 6 s.pm.pick ++ zeroBytes 2 ++ leBytes 8 s.timeUs ++ zeroBytes 40 ++
    (rangeFrom 0 60).flatMap (fieldMap l)

/-- The highest code of each field (R180, R396). -/
def cmapMax (l : List (TileAddr × BitVec 32)) : SMap Nat :=
  (rangeFrom 0 60).foldl (fun m f =>
    smSet 0 f (maxNat ((l.filter fun p => decide (fieldOf p.1.toNat = f)).map fun p => cmapCode p.2.toNat)) m) []

/-- The blocked-cycle counters as WFT_RTR_BLOCK last shows them: a new interval starts at 0. -/
def clearBlocks (b : SMap Word) : SMap Word := b.filter fun kv => decide (kv.1 % 2 ^ 26 ≠ R.WFT_RTR_BLOCK)

/-- CONGESTION_MAP (R180): the codes go into the beacon; while CMAP_EN the map is written into the next entry of the ring, or dropped
with CMAP_LATE where no HOST port is UP. -/
def State.cmap (s : State) (l : List (TileAddr × BitVec 32)) : State :=
  let s1 := { s with bank := clearBlocks s.bank, weft := { s.weft with cmapCodes := cmapMax l } }
  if s.get F.WFT_CTRL_CMAP_EN = 1 then
    match s.hostPort 0 with
    | none => s1.set F.WFT_STATUS_CMAP_LATE 1
    | some p =>
      let seq := s1.get F.WFT_CMAP_SEQ_SEQ + 1
      let depth := if s1.get F.WFT_CMAP_DEPTH_DEPTH = 0 then 256 else s1.get F.WFT_CMAP_DEPTH_DEPTH
      let base := s1.get F.WFT_CMAP_BASE_LO_ADDR_LO * 4096 + s1.get F.WFT_CMAP_BASE_HI_ADDR_HI * 2 ^ 32
      (s1.set F.WFT_CMAP_SEQ_SEQ seq).emit (memWrs p 2 (base + (seq - 1) % depth * 139264) (s1.cmapBytes seq l))
  else s1

/-- CONGESTION_MAP. -/
def execCongestionMap (l : List (TileAddr × BitVec 32)) (s : State) : Res := .next (s.cmap l)

/-! ### Seam swatch points (R181, R182) -/

/-- The channels under test. -/
def swatchChannels (sm ch : Nat) : List Nat := if ch = 127 then rangeFrom 0 (seamChannels sm) else [ch]

/-- The active pattern routes traffic through a seam: some router of either field on that edge sends other fields' traffic, a
multicast copy or a fold there, by its tables. -/
def State.seamUsed (s : State) (sm ch : Nat) : Bool :=
  let rp := seamPort sm ch
  let ends := match neigh rp.1 rp.2 with
    | .seam n p => [(rp.1, rp.2), (n, p)]
    | _ => [rp]
  ends.any fun e =>
    (rangeFrom 0 60).any (fun f => decide (f ≠ fieldOf e.1) && decide (s.weft.fieldEntry e.1 f = e.2)) ||
    (rangeFrom 0 64).any (fun i => bitAt (s.weft.mcastWord e.1 i) 31 && bitAt (s.weft.mcastWord e.1 i) (24 + e.2)) ||
    (rangeFrom 0 64).any (fun i => bitAt (s.weft.foldWord e.1 (2 * i)) 31 &&
      decide (bitsOf (s.weft.foldWord e.1 (2 * i)) 21 3 = e.2))

/-- VS is on at the ends that a depth needs: both ends for a channel to be under test at all, FAR included (R182). -/
def State.seamPower (s : State) (sm : Nat) : Bool :=
  s.vsOn (seamFields sm).1 && (match (seamFields sm).2 with | some g => s.vsOn g | none => true)

/-- WFT_SWATCH_CTRL.GO (R182): the first refusal that holds, or the channels enter SWATCH and the test runs. A channel in TRAINING is
refused with BUSY, and one in FAILED, which step 5 of the procedure names, is taken: log entry 119, DESIGN CHOICE. -/
def State.wftSwatch (s : State) (depth sm ch k : Nat) : State :=
  let s0 := (((s.set F.WFT_SWATCH_CTRL_DEPTH depth).set F.WFT_SWATCH_CTRL_SEAM sm).set F.WFT_SWATCH_CTRL_CHANNEL ch).set
    F.WFT_SWATCH_CTRL_FLITS_K k
  let chs := swatchChannels sm ch
  if 119 < sm ∨ (ch ≠ 127 ∧ seamChannels sm ≤ ch) then s0.set F.WFT_SWATCH_STAT_RESULT 6
  else if s.weft.swatch.isSome then s0.set F.WFT_SWATCH_STAT_RESULT 4
  else if s.seamPower sm = false then s0.set F.WFT_SWATCH_STAT_RESULT 5
  else if s.pickState ≠ 0 ∧ s.get F.WRP_STATUS_LOADED = 1 ∧ chs.any (fun c => s.seamUsed sm c) = true then
    s0.set F.WFT_SWATCH_STAT_RESULT 4
  else if chs.any (fun c => decide (s.linkState (seamPort sm c).1 (seamPort sm c).2 = 2)) = true then s0.set F.WFT_SWATCH_STAT_RESULT 4
  else
    let old := chs.map fun c => (c, smGet 0 (linkKey (seamPort sm c).1 (seamPort sm c).2) s.weft.links)
    let w := chs.foldl (fun u c => u.setLink (seamPort sm c).1 (seamPort sm c).2 5) s.weft
    ((({ s0 with weft := { w with swatch := some (sm, old) } }.set F.WFT_SWATCH_STAT_RESULT 1).set F.WFT_SWATCH_STAT_ERR_FLITS 0).set
      F.WFT_STATUS_SWATCH_DONE 0).set F.WFT_SWATCH_CH_VALID 0

/-- WFT_SWATCH_START. -/
def execWftSwatchStart (depth : BitVec 2) (seam channel : BitVec 7) (flitsK : BitVec 15) (s : State) : Res :=
  .next (s.wftSwatch depth.toNat seam.toNat channel.toNat flitsK.toNat)

/-- The channels under test return to their state before it; one that had been FAILED retrains (R182). -/
def Weft.swatchEnd (w : Weft) : Weft :=
  match w.swatch with
  | none => w
  | some (sm, old) =>
    { old.foldl (fun u c => u.setLink (seamPort sm c.1).1 (seamPort sm c.1).2 (if c.2 = 4 then 2 else c.2)) w with swatch := none }

/-- The end of a test with a result (R182). -/
def State.wftSwatchEnd (s : State) (result errs : Nat) (first : Option Nat) : State :=
  let s1 := ((({ s with weft := s.weft.swatchEnd }.set F.WFT_SWATCH_STAT_RESULT result).set F.WFT_SWATCH_STAT_ERR_FLITS
    (min errs (2 ^ 28 - 1))).set F.WFT_STATUS_SWATCH_DONE 1)
  match first with
  | some c => (s1.set F.WFT_SWATCH_CH_CH c).set F.WFT_SWATCH_CH_VALID 1
  | none => s1

/-- WFT_SWATCH_COMPLETE (R182). -/
def execWftSwatchComplete (errs : Nat) (first : BitVec 7) (s : State) : Res :=
  .next (if s.weft.swatch.isSome then
    (if errs = 0 then s.wftSwatchEnd 2 0 none else s.wftSwatchEnd 3 errs (some first.toNat)) else s)

/-- WFT_CTRL.CLR_COUNTS: every count of the block and of every router (R185). -/
def weftCountKeys : List Nat :=
  [R.WFT_HOP_COUNT, R.WFT_DROP_COUNT, R.WFT_FOLD_ERR_COUNT, R.WFT_CRC_COUNT, R.WFT_RETRAIN_COUNT, R.WFT_RTR_BLOCK, R.WFT_RTR_RETRY]

/-- A bank in which the registers at some addresses, in every instance, hold their reset values. -/
def bankClear (as : List Nat) (b : SMap Word) : SMap Word := b.filter fun kv => decide (kv.1 % 2 ^ 26 ∉ as)

/-- Counts of the block and of every router cleared (R185). -/
def State.wftClr (s : State) : State := { s with bank := bankClear weftCountKeys s.bank }

/-- WFT_CLR_COUNTS. -/
def execWftClrCounts (s : State) : Res := .next s.wftClr

end Sys2Proof.Machine
end

