-- ==== Sys2Proof/Machine/Pick.lean ====
section
/-!
DEFINITION. The pick master (04_picks_and_modes.md) and its commands: strobes, the done-tree, pick length and lag, steps, drains, mode
changes, HALT, chains, and the arithmetic counts of R102 to R106.
-/
namespace Sys2Proof.Machine

/-! ### Settings and the ladder (R124, R127, R134) -/

/-- Nominal pick of a mode and level, cy. -/
def nomOf (mode level : Nat) : Nat :=
  (if mode = 0 then 456 else if mode = 2 then 14592 else 1824) * (8 + level) / 8

/-- Minimum pick of a mode and level, cy. -/
def minOf (mode level : Nat) : Nat :=
  (if mode = 0 then 388 else if mode = 2 then 12416 else 1552) * (8 + level) / 8

/-- Depth of a setting on its ladder. -/
def depthOf (mode level : Nat) : Nat := if mode = 0 then 0 else if mode = 1 then 1 else 2 + level

/-- The next deeper setting on the ladder that a pattern with the schedules `modes` supports. -/
def stepDown (modes mode level : Nat) : Option (Nat × Nat) :=
  match mode with
  | 0 => if bitAt modes 1 then some (1, 0) else if bitAt modes 2 then some (2, 0) else none
  | 1 => if bitAt modes 2 then some (2, 0) else none
  | m => if level < 4 then some (m, level + 1) else none

/-- The mode in force. -/
def State.mode (s : State) : Nat := s.get F.PCK_STATUS_MODE

/-- The stretch level in force. -/
def State.level (s : State) : Nat := s.get F.PCK_STATUS_LEVEL

/-- The depth in force. -/
def State.depth (s : State) : Nat := depthOf s.mode s.level

/-- The setting differs from the one that the last strobe carried, before the first strobe from the one in force (R112). -/
def State.flushFor (s : State) (m l : Nat) : Bool :=
  if s.pm.strobed then decide (bitsOf s.pm.lastStrobe 48 2 ≠ m) || decide (bitsOf s.pm.lastStrobe 50 3 ≠ l)
  else s.pm.flush || decide (m ≠ s.mode) || decide (l ≠ s.level)

/-- A setting put in force: MODE, LEVEL, NOM and MIN, and FLUSH with the next strobe when it differs (R112, R147). -/
def State.applySetting (s : State) (m l : Nat) : State :=
  let s1 := (((s.set F.PCK_STATUS_MODE m).set F.PCK_STATUS_LEVEL l).set F.PCK_NOMINAL_CY_NOM (nomOf m l)).set F.PCK_MIN_CY_MIN (minOf m l)
  { s1 with pm := { s1.pm with flush := s.flushFor m l } }

/-- The last change in PCK_MODE_STAT (R151). -/
def State.noteChange (s : State) (causes pick : Nat) : State :=
  (s.set F.PCK_MODE_STAT_CAUSES causes).set F.PCK_MODE_STAT_PICK_LSB pick

/-- The number of the next pick (R111). -/
def State.nextPick (s : State) : Nat := if s.pm.strobed then (s.pm.pick + 1) % 2 ^ 48 else 0

/-- A setting lowered to the ceiling where it lies above it (R134); a pattern without a setting that deep gives its deepest. -/
def State.ceilTarget (s : State) (t : Nat × Nat) : Nat × Nat :=
  let c := s.get F.PCK_CEILING_DEPTH
  if c ≤ depthOf t.1 t.2 then t
  else if t.1 = 3 then (3, c - 2)
  else if c ≤ 1 ∧ bitAt s.pat.modes 1 = true then (1, 0)
  else if bitAt s.pat.modes 2 then (2, c - 2)
  else if bitAt s.pat.modes 1 then (1, 0)
  else t

/-! ### The strobe (R111, R112, R334) -/

/-- The 64-bit strobe message (R112). -/
def strobeMsg (pick mode level : Nat) (drain flush : Bool) : Nat :=
  pick % 2 ^ 48 + mode * 2 ^ 48 + level * 2 ^ 50 + b2n drain * 2 ^ 53 + b2n flush * 2 ^ 54

/-- Fields whose tiles see strobes. -/
def State.usedFields (s : State) : List Nat :=
  dedupNat ((s.tiles.filter fun kv => decide (kv.2.st ∈ [2, 3, 4, 6])).map fun kv => fieldOf kv.1)

/-- The 32 bytes of a TIMING transaction (R404): pick, setting, launch cycle, a pending change as its pick and setting; in a reply
causes and skew. -/
def timingMsg (pick mode level launch : Nat) (change : Option (Nat × Nat × Nat × Nat)) (causes skew : Nat) : List Byte :=
  leBytes 6 pick ++ leBytes 1 (mode + 4 * level + 32 * b2n change.isSome) ++ zeroBytes 1 ++ leBytes 4 launch ++
    (match change with
      | some (p, m, l, _) => leBytes 6 p ++ leBytes 1 (m + 4 * l)
      | none => zeroBytes 7) ++ leBytes 1 causes ++ leBytes 4 skew ++ zeroBytes 8

/-- The handoffs of a pick leave the chain buffers with the strobe of the third pick after it, to land before the pick after that: each hop
holds a slot for three picks (R138, R403). Log entry 123, DEDUCED. -/
def State.takeHandoffs (s : State) (p : Nat) : State :=
  let due := fun (x : Nat × Nat × Nat × Nat × List Byte) => decide ((x.2.1 + 3) % 65536 = p % 65536)
  { s with
    host := { s.host with chainBuf := s.host.chainBuf.filter fun x => !(due x) }
    out := s.out ++ (s.host.chainBuf.filter due).map fun x => .fromChain x.1 x.2.1 x.2.2.1 x.2.2.2.1 x.2.2.2.2 }

/-- A strobe is launched: the next pick begins, registers written since the last strobe come into force, and on a chain the handoffs due are
taken and the head sends its timing message (R111, R112, R138, R139, R143, R404). The model has no count of timebase cycles: LAUNCH is a
free value. -/
def State.launch (s0 : State) : State :=
  let p := s0.nextPick
  let s := s0.takeHandoffs p
  let drain := decide (s.pickState = 2)
  let heads := if s.get F.PCK_CHAIN_ROLE = 1 then
      (s.upPorts 3).filter fun q => decide (s.get F.HLS_PORT_STAT_HOP q = 1) else []
  { s with
    held := []
    reed := { s.reed with
      sampler := s.reed.samplerNext.foldl (fun m kv => smSet 0 kv.1 (kv.2.getD 0) m) s.reed.sampler
      samplerNext := [] }
    pm := { s.pm with
      pick := p, strobed := true, running := true, allDone := false, reedDone := false, flush := false, chainHeld := s.pm.chainFull,
      drainCount := (if drain then s.pm.drainCount + 1 else s.pm.drainCount), unfired := s.usedFields,
      lastStrobe := strobeMsg p s.mode s.level drain s.pm.flush }
    out := s.out ++ heads.map fun q => .timing q (timingMsg p s.mode s.level (Config.freeWord s.free).toNat s.pm.chainChange 0 0)
    free := if heads = [] then s.free else s.free + 1 }

/-- A copy of the strobe is good: 8 bytes and their CRC-8 (R333, R334). -/
def goodCopy (c : List Byte) : Bool := decide (c.length = 9) && decide (crc8 (c.take 8) = leNat (c.drop 8))

/-- STROBE_RECEIVE (R334): the first good copy is held for firing; without one the field does not fire. -/
def execStrobeReceive (f : Fin 60) (c0 c1 c2 : List (BitVec 8)) (s : State) : Res :=
  .next (if s.vsOn f.val then
    match [c0, c1, c2].find? goodCopy with
    | some c => { s with pm := { s.pm with strobeAt := smSet 0 f.val (leNat (c.take 8) + 1) s.pm.strobeAt } }
    | none => (s.set F.WRP_STATUS_STROBE_ERR 1).raise 12 9 5 f.val 0
  else s)

/-- The fill of the instruction buffer in fixed-slot mode: with the program of the mode in force, from its entry point on (R360). -/
def tFixedFill (stepping mode : Nat) (t : Tile) : Tile :=
  if stepping = 0 then t else tFill (smGet 0 mode t.entry) t

/-- A tile sees a strobe (R54, R59, R61, R65, R114, R360): READY with ENABLE and a rewritten static area go to RUN; a program before DONE
goes on and the strobe is held; a FLUSH empties the staging buffer and the command queue and fills the instruction buffer of fixed-slot
mode; a HALTED tile owes its report (R59). -/
def tileStrobe (stepping mode pick : Nat) (flush : Bool) (t : Tile) : Tile :=
  if t.st = 0 ∨ t.st = 1 ∨ t.st = 5 then t
  else
    let t1 := tSet F.TIL_PICK_PICK_LO pick { t with held := [] }
    let t2 := if flush then tFixedFill stepping mode { t1 with staging := [], queue := [] } else t1
    if t2.st = 2 then (if tGet F.TIL_CTRL_ENABLE t2 = 1 then tRestart stepping mode (tFixedFill stepping mode { t2 with st := 3 }) else t2)
    else if t2.st = 6 then (if t2.reloaded then tRestart stepping mode { t2 with st := 3, reloaded := false } else t2)
    else if t2.st = 3 then (if t2.active then { t2 with strobeHeld := true } else tRestart stepping mode t2)
    else { t2 with poison := false, lanePoison := [], doneExec := true, reported := false }

/-- The armed injection fires at its strobe (R571). -/
def State.fireInj (s : State) (pick : Nat) : State :=
  match s.flt.armed with
  | some (j, p) =>
    if p = pick % 2 ^ 32 ∨ p = 2 ^ 32 - 1 then
      ({ s with flt := { s.flt with armed := none }, inj := s.inj ++ [j] }.set F.TST_INJ_STAT_RESULT 2).set F.TST_STATUS_INJ_PEND 0
    else s
  | none => s

/-- STROBE_FIRE (R113, R114): the endpoint fires the message it holds to all tiles of the field. -/
def State.strobeFire (s : State) (f : Nat) : State :=
  match (if s.vlOn f then smGet 0 f s.pm.strobeAt else 0) with
  | 0 => s
  | m + 1 =>
    let s1 := s.onTiles fun a t => if fieldOf a = f then tileStrobe s.pat.stepping (bitsOf m 48 2) (bitsOf m 0 32) (bitAt m 54) t else t
    ({ s1 with pm := { s1.pm with
      strobeAt := smSet 0 f 0 s1.pm.strobeAt, unfired := s1.pm.unfired.filter fun x => decide (x ≠ f) } }).fireInj (bitsOf m 0 48)

/-- STROBE_FIRE. -/
def execStrobeFire (f : Fin 60) (s : State) : Res := .next (s.strobeFire f.val)

/-! ### The done-tree (R115, R116) -/

/-- The tile has not yet reported done: in RUN and HALTED before TILE_DONE, in RELOAD before the rewrite (R59, R115). -/
def tilePending (t : Tile) : Bool := ((decide (t.st = 3) || decide (t.st = 4)) && !t.reported) || (decide (t.st = 6) && !t.reloaded)

/-- The field has not reported done: a tile, a spool write not yet accepted, or a strobe that has not fired (R115, R334). -/
def State.fieldPending (s : State) (f : Nat) : Bool :=
  decide (f ∈ s.pm.unfired) ||
    s.tiles.any fun kv => decide (fieldOf kv.1 = f) && (tilePending kv.2 || kv.2.spReqs.any fun r => r.write)

/-- The reed's part: it serves skeins on every device but a chain follower (R138). -/
def State.reedPending (s : State) : Bool := !s.pm.reedDone && decide (s.get F.PCK_CHAIN_ROLE ≠ 2)

/-- ALL_DONE (R116). -/
def State.allDoneIn (s : State) (last : Nat) : State :=
  if s.pm.running = true ∧ s.pm.allDone = false ∧ s.reedPending = false ∧
      (rangeFrom 0 60).any (fun f => s.fieldPending f) = false then
    { s with pm := { s.pm with allDone := true, lastField := last } }
  else s

/-- ALL_DONE. -/
def execAllDone (last : Fin 60) (s : State) : Res := .next (s.allDoneIn last.val)

/-! ### HALT (R142, R179, R247) -/

/-- The pick master enters HALT: strobes stop, the weft and the tiles discard the passes in flight, every lane-slot is free. -/
def State.haltPick (s : State) : State :=
  let s1 := s.set F.PCK_STATUS_STATE 4
  let s2 := { s1 with
    pm := { s1.pm with
      running := false, allDone := false, drainStop := false, drainTarget := none, drainHost := false, strobeAt := [], unfired := [],
      hostStep := none, causes := 0, chainChange := none, chainFull := false, chainHeld := false }
    host := { s1.host with chainBuf := [] }
    weft := s1.weft.halt
    inj := s1.inj.filter fun j => decide (j.kind ≠ 6) }
  (s2.onTiles fun _ t => tileHalt t).haltReed

/-- HALT from RUN, DRAIN and SWITCH only (R142). -/
def State.halt (s : State) : State :=
  if s.pickState = 1 ∨ s.pickState = 2 ∨ s.pickState = 3 then s.haltPick else s

/-- The missing done bits of the fields `lo` to `lo + n - 1`. -/
def State.missBits (s : State) (lo n : Nat) : Nat :=
  sumNat ((rangeFrom 0 n).map fun k => if s.fieldPending (lo + k) then 2 ^ k else 0)

/-- DONE_LIMIT_EXPIRED (R120, R153): the missing bits, DONE_TIMEOUT, HALT, and record DONE_TIMEOUT. -/
def State.doneLimit (s : State) : State :=
  if s.pm.running = true ∧ s.pm.allDone = false then
    let s1 := (((s.set F.PCK_DONE_MISS_LO_FIELDS_LO (s.missBits 0 32)).set F.PCK_DONE_MISS_HI_FIELDS_HI (s.missBits 32 28)).set
      F.PCK_DONE_MISS_HI_REED (b2n s.reedPending)).set F.PCK_STATUS_DONE_TIMEOUT 1
    s1.halt.raise 10 10 5 (bitsOf (s1.reg R.PCK_DONE_MISS_HI).toNat 16 13)
      ((s1.reg R.PCK_DONE_MISS_LO).toNat + bitsOf (s1.reg R.PCK_DONE_MISS_HI).toNat 0 16 * 2 ^ 32)
  else s

/-! ### Drains (R131, R142) -/

/-- A drain begins from RUN; a host's step that has not yet been taken is then its target. During a drain a stop makes it a stop and drops
the new setting; in SWITCH a stop waits for the pick's end (R131, R142, R487). Log entry 125. -/
def State.beginDrain (s : State) (stop fast : Bool) (target : Option (Nat × Nat)) (host : Bool) : State :=
  if s.pickState = 1 then
    let s1 := s.set F.PCK_STATUS_STATE 2
    { s1 with pm := { s1.pm with
      drainCount := 0, drainCy := 0, drainFast := fast || decide (s.get F.PCK_MODE_CTRL_FAST_DRAIN = 1), drainStop := stop,
      drainTarget := (if stop then none else target.orElse fun _ => s.pm.hostStep)
      drainHost := !stop && (host || s.pm.hostStep.isSome), hostStep := none } }
  else if s.pickState = 2 ∧ stop = true then
    { s with pm := { s.pm with
      drainStop := true, drainFast := s.pm.drainFast || fast, drainTarget := none, drainHost := false, chainChange := none } }
  else if s.pickState = 3 ∧ stop = true then { s with pm := { s.pm with drainStop := true, drainFast := fast } }
  else s

/-- DRAIN_BEGIN (R131). -/
def execDrainBegin (stop : Bool) (s : State) : Res := .next (s.beginDrain stop false none false)

/-- The setting that a drain leads to (R131, R132). -/
def State.drainGoal (s : State) : Nat × Nat := s.pm.drainTarget.getD (s.mode, s.level)

/-- At the head of a chain a drain's new setting waits for the pick at which it takes effect, 16 picks after the ring is empty (R140). -/
def State.drainWaits (s : State) : Bool :=
  decide (s.get F.PCK_CHAIN_ROLE = 1) && !s.pm.drainStop && decide (s.drainGoal ≠ (s.mode, s.level)) &&
    (match s.pm.chainChange with
      | some (p, _) => decide (s.nextPick ≠ p)
      | none => true)

/-- DRAIN_END (R142): after 130 strobes, or P in a chain, the pick master runs one pick in SWITCH with the new setting, or enters IDLE. A
host's request that a stop has overtaken keeps its RESULT: log entry 125. -/
def State.drainEnd (s : State) : State :=
  if s.pickState = 2 ∧ s.pm.running = false ∧ s.positions ≤ s.pm.drainCount ∧ s.drainWaits = false then
    let s0 := { s with pm := { s.pm with drainTarget := none, drainHost := false, drainStop := false, drainFast := false, chainChange := none } }
    if s.pm.drainStop then s0.set F.PCK_STATUS_STATE 0
    else
      let t := s.drainGoal
      let s1 := s0.applySetting t.1 t.2
      let s2 := if t = (s.mode, s.level) then s1 else s1.noteChange (s.pm.causes ||| b2n s.pm.drainHost) s.nextPick
      let s3 := if s.pm.drainHost then s2.set F.PCK_MODE_STAT_RESULT 1 else s2
      (({ s3 with pm := { s3.pm with causes := 0 } }).set F.PCK_STATUS_STATE 3).parkExcess.launch
  else s

/-- DRAIN_END. -/
def execDrainEnd (s : State) : Res := .next s.drainEnd

/-! ### Steps and ceilings (R128 to R130, R134) -/

/-- The ceiling that PCK_CEILING shows. -/
def State.showCeiling (s : State) : State := s.set F.PCK_CEILING_DEPTH (max s.pm.ceilPower s.pm.ceilThermal)

/-- A ceiling is raised to one more than the current depth by a power (1) or thermal (2) request (R128). -/
def State.raiseCeiling (s : State) (source : Nat) : State :=
  let d := min 6 (s.depth + 1)
  if source = 1 then { s with pm := { s.pm with ceilPower := max s.pm.ceilPower d } }.showCeiling
  else if source = 2 then { s with pm := { s.pm with ceilThermal := max s.pm.ceilThermal d } }.showCeiling
  else s

/-- A source releases its ceiling; that never moves the device back up (R128). -/
def State.dropCeiling (s : State) (source : Nat) : State :=
  if source = 1 then { s with pm := { s.pm with ceilPower := 0 } }.showCeiling
  else { s with pm := { s.pm with ceilThermal := 0 } }.showCeiling

/-- Cause bit of a source: LAG, POWER, THERMAL, CHAIN (R151). -/
def causeBit (source : Nat) : Nat := 2 ^ (source + 1)

/-- FLOOR (R130): admission stops, with a record when it rises. -/
def State.raiseFloor (s : State) : State :=
  if s.get F.PCK_STATUS_FLOOR = 1 then s else (s.set F.PCK_STATUS_FLOOR 1).beacon 2 (Config.recordData 2 [])

/-- A step requested during a drain (R130, R134): it lowers the drain's new setting to the ceiling, and finds the floor where the setting in
force has no deeper one. -/
def State.drainStep (s : State) (source : Nat) : State :=
  let t := s.drainGoal
  let s1 := if s.ceilTarget t = t then s else
    { s with pm := { s.pm with drainTarget := some (s.ceilTarget t), causes := s.pm.causes ||| causeBit source } }
  if stepDown s.pat.modes s.mode s.level = none then s1.raiseFloor else s1

/-- A step is requested (R128): merged with the other requests of the pick, or handled at once in a drain (R134); a follower's go to the head
as causes CHAIN (R140). -/
def State.requestStep (s : State) (source : Nat) : State :=
  let s1 := s.raiseCeiling source
  if s.get F.PCK_CHAIN_ROLE = 2 then { s1 with pm := { s1.pm with chainCauses := s1.pm.chainCauses ||| causeBit source } }
  else if s1.pickState = 2 ∧ s1.pm.drainStop = false then s1.drainStep source
  else { s1 with pm := { s1.pm with causes := s1.pm.causes ||| causeBit source } }

/-- STEP_REQUEST (R128). -/
def execStepRequest (source : Fin 4) (s : State) : Res := .next (s.requestStep source.val)

/-- Bytes of a STEP record: causes, mode, level and LAG before the step, in a layout that the spec does not give. Log entry 9. -/
def stepData (causes mode level lag : Nat) : List Byte := Config.recordData 1 [causes, mode, level, lag]

/-- A step to a deeper setting takes effect with the strobe of pick `pick` (R129). -/
def State.takeStep (s : State) (m l causes pick : Nat) : State :=
  let lag := s.get F.PCK_LAG_CY_LAG
  let s1 := (((s.applySetting m l).noteChange causes pick).set F.PCK_LAG_CY_LAG 0).add F.PCK_STEP_COUNT_STEPS 1
  let s2 := { s1 with pm := { s1.pm with causes := 0, hostStep := none } }
  let s3 := if bitAt causes 0 = true ∨ s.pm.hostStep = some (m, l) then s2.set F.PCK_MODE_STAT_RESULT 1 else s2
  let recs := (s3.bcn.recs ++ [(s3.bcn.rseq + 1, 1, pick, sliceB (stepData causes m l lag) 0 16)])
  { s3 with bcn := { s3.bcn with rseq := s3.bcn.rseq + 1, recs := recs.drop (recs.length - 64) } }

/-- A step that finds no lower setting (R130). -/
def State.floorStep (s : State) : State := { s with pm := { s.pm with causes := 0 } }.raiseFloor

/-- The decision at the end of a pick (R128 to R130, R140): at most one step; the head of a chain makes it effective 16 picks later. -/
def State.decideStep (s : State) : State :=
  let causes := s.pm.causes ||| b2n s.pm.hostStep.isSome
  if causes = 0 ∨ s.get F.PCK_CHAIN_ROLE = 2 then s
  else
    match (match s.pm.hostStep with
      | some t => some (s.ceilTarget t)
      | none => stepDown s.pat.modes s.mode s.level) with
    | none => s.floorStep
    | some (m, l) =>
      if s.get F.PCK_CHAIN_ROLE = 1 then
        match s.pm.chainChange with
        | some _ => s
        | none => { s with pm := { s.pm with chainChange := some ((s.pm.pick + 16) % 2 ^ 48, m, l, causes), causes := 0, hostStep := none } }
      else s.takeStep m l causes s.nextPick

/-! ### The arithmetic counts (R102, R104, R106) -/

/-- Positions of tiles whose CLAMP or SAT bit is set in this pick. -/
def State.rosePositions (s : State) (p : Tile → Bool) : List Nat :=
  dedupNat ((s.tiles.filter fun kv => p kv.2 && decide (kv.2.ringPos < 130)).map fun kv => kv.2.ringPos)

/-- One position's counts, first pick and map bit. -/
def State.countPos (s : State) (clamp sat : Bool) (p : Nat) : State :=
  if clamp = false ∧ sat = false then s
  else
    let fresh := decide (s.get F.PCK_ARITH_CLAMP_CLAMP_PICKS p = 0) && decide (s.get F.PCK_ARITH_SAT_SAT_PICKS p = 0)
    let s1 := if fresh then s.set F.PCK_ARITH_FIRST_FIRST_PICK_LO s.pm.pick p else s
    let s2 := (s1.add F.PCK_ARITH_CLAMP_CLAMP_PICKS (b2n clamp) p).add F.PCK_ARITH_SAT_SAT_PICKS (b2n sat) p
    let f := F.PCK_ARITH_MAP_POS_BITS.nth (p / 32)
    s2.set f (bitsPut (s2.get f) (p % 32) 1 1)

/-- The pick's CLAMP and SAT bits counted for every position; the bits are the pick's own (R102). -/
def State.countArith (s : State) : State :=
  let cl := s.rosePositions Tile.clampRose
  let sa := s.rosePositions Tile.satRose
  ((dedupNat (cl ++ sa)).foldl (fun u p => u.countPos (decide (p ∈ cl)) (decide (p ∈ sa)) p) s).onTiles fun _ t =>
    { t with clampRose := false, satRose := false }

/-! ### The end of a pick (R118) -/

/-- The strobe of the pick in progress carries DRAIN (R112, R131). -/
def State.strobeDrains (s : State) : Bool := bitAt s.pm.lastStrobe 53

/-- The target of the pick in progress (R118): at MIN in a fast drain, whose picks are those with DRAIN in their strobe (R131). -/
def State.target (s : State) : Nat :=
  let mn := s.get F.PCK_MIN_CY_MIN
  if s.strobeDrains = true ∧ s.pm.drainFast = true then mn
  else max mn ((s.get F.PCK_NOMINAL_CY_NOM : Int) - s.get F.PCK_LAG_CY_LAG + s.pm.trim).toNat

/-- The lag after a pick of `len` cycles. -/
def State.lagAfter (s : State) (len : Nat) : Nat :=
  min (2 ^ 32 - 1) (s.get F.PCK_LAG_CY_LAG + len - s.get F.PCK_NOMINAL_CY_NOM)

/-- Lag, lengths and late picks recorded (R118, R149, R152). -/
def State.notePick (s0 : State) (len : Nat) : State :=
  let s := if s0.pickState = 2 then { s0 with pm := { s0.pm with drainCy := s0.pm.drainCy + len } } else s0
  let t := s.target
  let s1 := ((s.set F.PCK_LAG_CY_LAG (s.lagAfter len)).set F.PCK_LAST_CY_LAST (min len (2 ^ 32 - 1))).set F.PCK_MAX_CY_MAX
    (max (s.get F.PCK_MAX_CY_MAX) (min len (2 ^ 32 - 1)))
  if t < len then
    ((s1.add F.PCK_LATE_COUNT_LATE 1).set F.PCK_LATE_SRC_WAIT_CY (min 65535 (len - t))).set F.PCK_LATE_SRC_FIELD s.pm.lastField
  else s1

/-- The lag rule (R118, R146): a step with cause LAG, or with AUTO_STEP = 0 only a beacon record. -/
def State.lagRule (s : State) : State :=
  let bound := max 1 (s.cfg F.PCK_LAG_BOUND_BOUND)
  if bound * s.get F.PCK_NOMINAL_CY_NOM < s.get F.PCK_LAG_CY_LAG then
    if s.get F.PCK_CTRL_AUTO_STEP = 1 then s.requestStep 0
    else s.beacon 3 (Config.recordData 3 [s.get F.PCK_LAG_CY_LAG])
  else s

/-- The next strobe begins the pick at which a change of the chain's setting takes effect, or a later one (R140). -/
def State.changeDue (s : State) : Bool :=
  match s.pm.chainChange with
  | some (p, _) => decide (s.nextPick = p) || later s.nextPick p
  | none => false

/-- The pick has ended and the next strobe waits. -/
def State.pause (s : State) : State := { s with pm := { s.pm with running := false } }

/-- A pick of a drain has ended (R131, R142): a step that the head announced before the drain is taken when it is due (R140); a complete drain
waits for DRAIN_END; at the head of a chain its new setting is decided then, and the drain goes on until the pick at which it takes effect
(R140). -/
def State.goDrain (s : State) : State :=
  if s.pm.drainCount < s.positions then
    match (if s.changeDue then s.pm.chainChange else none) with
    | some (p, m, l, c) => (({ s with pm := { s.pm with chainChange := none } }).takeStep m l c p).launch
    | none => s.launch
  else if s.drainWaits = false then s.pause
  else match s.pm.chainChange with
    | some _ => s.launch
    | none =>
      let t := s.drainGoal
      { s with pm := { s.pm with chainChange := some ((s.pm.pick + 16) % 2 ^ 48, t.1, t.2, s.pm.causes ||| b2n s.pm.drainHost) } }.launch

/-- After the accounts of a pick: SWITCH returns to RUN; steps are taken in RUN and SWITCH; a change of the chain's setting that is due waits
for CHAIN_CHANGE_EFFECTIVE; else the next strobe goes out. -/
def State.goOn (s : State) : State :=
  if s.pickState = 2 then s.goDrain
  else
    let s1 := if s.pickState = 3 then s.set F.PCK_STATUS_STATE 1 else s
    let s2 := s1.decideStep
    let s3 := if s1.pm.drainStop then s2.beginDrain true s1.pm.drainFast none false else s2
    if s3.changeDue = true ∧ s3.pickState = 1 then s3.pause else s3.launch

/-- An instance of VL or VA is allowed only deeper than the device stands (R430). -/
def State.capDeeper (s : State) : Bool :=
  (rangeFrom 0 32).any fun d => decide (s.get F.VPA_DOM_STAT_STATE d = 4) && decide (s.depth < s.get F.VPA_DOM_STAT_ALLOWED d)

/-- A capped instance requests one step in each pick until the device is deep enough (R430). -/
def State.capStep (s : State) : State := if s.capDeeper then s.requestStep 1 else s

/-- The done limit in cycles (R120, R152): 0 is treated as 1. -/
def State.doneCy (s : State) : Nat := 1024 * max 1 (s.cfg F.PCK_DONE_LIMIT_LIMIT)

/-- VL setpoint at a ladder depth, mV (R425, R452). -/
def State.vlAt (s : State) (d : Nat) : Nat := min 800 (max 600 (s.get (F.VPA_VL_SETPT_MV.nth d)))

/-- The pick in progress is the last of a drain to a setting with a higher VL setpoint (R425). -/
def State.rises (s : State) : Bool :=
  decide (s.pickState = 2) && !s.pm.drainStop && decide (s.positions ≤ s.pm.drainCount) && !s.drainWaits &&
    decide (s.vlAt s.depth < s.vlAt (depthOf s.drainGoal.1 s.drainGoal.2))

/-- The least length of the pick: its target; before a strobe that carries a setting with a higher VL setpoint, also the rest of 200 µs since
the change was decided (R118, R425). -/
def State.leastLen (s : State) : Nat := if s.rises then max s.target (260000 - s.pm.drainCy) else s.target

/-- A length that the pick can have: beyond the least length the pick waited for all-done, which came before the done limit, or for a chain
buffer (R118, R120, R139). -/
def State.lenOk (s : State) (len : Nat) : Bool :=
  decide (s.leastLen ≤ len) && (decide (len ≤ max s.leastLen s.doneCy) || s.pm.chainHeld)

/-- PICK_END (R118): the target is reached, all-done has arrived and no chain buffer holds the strobe (R139); the pick is counted and the next
strobe launched. -/
def State.pickEnd (s : State) (len : Nat) : State :=
  if s.pm.running = true ∧ s.pm.allDone = true ∧ s.pm.chainFull = false ∧ s.lenOk len = true then
    ((s.notePick len).set F.PCK_STATUS_CHAIN_HOLD (b2n s.pm.chainHeld)).countArith.lagRule.capStep.goOn
  else s

/-- PICK_END. -/
def execPickEnd (len : Nat) (s : State) : Res := .next (s.pickEnd len)

/-! ### Host requests (R132, R133) -/

/-- The setting is on the ladder of the setting in force, and deeper (R132). -/
def deeper (m l m' l' : Nat) : Bool :=
  (decide (m ≤ 2) && decide (m' ≤ 2) && decide (depthOf m l < depthOf m' l')) || (decide (m = 3) && decide (m' = 3) && decide (l < l'))

/-- A change is in progress: a drain, a switch, or in RUN a step that has been requested; or the pick master is in HALT (R133). -/
def State.modeBusy (s : State) : Bool :=
  decide (s.pickState = 2) || decide (s.pickState = 3) || decide (s.pickState = 4) ||
    (decide (s.pickState = 1) && (s.pm.hostStep.isSome || decide (s.pm.causes ≠ 0) || s.pm.chainChange.isSome))

/-- The refusal of a request, 1 when there is none (R133). -/
def State.modeRefusal (s : State) (m l : Nat) : Nat :=
  if s.modeBusy then 2
  else if 4 < l ∨ (0 < l ∧ m ≤ 1) then 5
  else if bitAt s.pat.modes m = false then 3
  else if depthOf m l < s.get F.PCK_CEILING_DEPTH then 4
  else 1

/-- A request (R132): refused, done at once, a step at the end of the pick, or a drain. A chain follower that runs hands it to the head as a
cause in its timing reply (R140): log entry 124. -/
def State.modeRequest (s : State) (m l : Nat) : State :=
  let r := s.modeRefusal m l
  if r ≠ 1 then s.set F.PCK_MODE_STAT_RESULT r
  else if m = s.mode ∧ l = s.level then s.set F.PCK_MODE_STAT_RESULT 1
  else if s.pickState = 0 then ((s.applySetting m l).noteChange 1 s.pm.pick).set F.PCK_MODE_STAT_RESULT 1
  else if s.get F.PCK_CHAIN_ROLE = 2 then { s with pm := { s.pm with hostStep := some (m, l), chainCauses := s.pm.chainCauses ||| 1 } }
  else if deeper s.mode s.level m l then { s with pm := { s.pm with hostStep := some (m, l) } }
  else (s.set F.PCK_MODE_STAT_RESULT 6).beginDrain false false (some (m, l)) true

/-- MODE_REQUEST (R132): PCK_MODE_CTRL takes MODE, LEVEL and FAST_DRAIN, and the request is handled. -/
def execModeRequest (mode : BitVec 2) (level : BitVec 3) (fast : Bool) (s : State) : Res :=
  .next ((((s.set F.PCK_MODE_CTRL_MODE mode.toNat).set F.PCK_MODE_CTRL_LEVEL level.toNat).set F.PCK_MODE_CTRL_FAST_DRAIN
    (b2n fast)).modeRequest mode.toNat level.toNat)

/-! ### PCK_CTRL (R142, R146) -/

/-- A VM instance is TRIPPED (R432, R439). -/
def State.vmTripped (s : State) : Bool := (rangeFrom 48 4).any fun d => decide (s.get F.VPA_DOM_STAT_STATE d = 6)

/-- PCK_CTRL.RUN may leave IDLE (R142): a pattern loaded, the sentinel reference committed, no VM instance TRIPPED; not
while it waits for a new XKP (R296, R302). -/
def State.runOk (s : State) : Bool :=
  decide (s.pickState = 0) && decide (s.get F.WRP_STATUS_LOADED = 1) && decide (s.get F.SNT_STATUS_REF_VALID = 1) && !s.vmTripped &&
    !s.nvw.hold

/-- Loopback tests that run end ABORTED when the pick master leaves IDLE (R182, R231). -/
def State.abortTests (s : State) : State :=
  let s1 := if s.weft.swatch.isSome then s.wftSwatchEnd 7 0 none else s
  if s1.spool.swatch.isSome then s1.splSwatchEnd 7 0 else s1

/-- PCK_CTRL.RUN written 1. -/
def State.pckRun (s : State) : State := if s.runOk then (s.set F.PCK_STATUS_STATE 1).abortTests.parkExcess.launch else s

/-- PCK_RUN (R142). -/
def execPckRun (s : State) : Res := .next s.pckRun

/-- PCK_CTRL.RUN written 0: HALT ends in IDLE (R142, R146). -/
def State.pckRunClear (s : State) : State := if s.pickState = 4 then s.set F.PCK_STATUS_STATE 0 else s

/-- PCK_RUN_CLEAR (R142). -/
def execPckRunClear (s : State) : Res := .next s.pckRunClear

/-- PCK_HALT (R142). -/
def execPckHalt (s : State) : Res := .next s.halt

/-- FLOOR cleared (R130). -/
def State.resumeAdmit (s : State) : State := s.set F.PCK_STATUS_FLOOR 0

/-- RESUME_ADMIT (R130, R146): FLOOR cleared. -/
def execResumeAdmit (s : State) : Res := .next s.resumeAdmit

/-- Statistics cleared (R146). -/
def State.clrStats (s : State) : State := { s with bank := bankClear [R.PCK_LAST_CY, R.PCK_MAX_CY, R.PCK_LATE_COUNT, R.PCK_STEP_COUNT] s.bank }

/-- CLR_STATS (R146). -/
def execClrStats (s : State) : Res :=
  .next s.clrStats

/-- The registers that hold the arithmetic counts and map bits. -/
def arithRegs : List Nat :=
  [R.PCK_ARITH_CLAMP, R.PCK_ARITH_SAT, R.PCK_ARITH_FIRST] ++ (rangeFrom 0 5).map fun n => R.PCK_ARITH_MAP + 4 * n

/-- Counts and map bits of every position cleared (R105). -/
def State.clrAll (s : State) : State := { s with bank := bankClear arithRegs s.bank }

/-- CLR_ALL (R105): the counts and map bits of every position. -/
def execClrAll (s : State) : Res := .next s.clrAll

/-- One position's counts and map bit cleared. -/
def State.clrPos (s : State) (p : Nat) : State :=
  if 129 < p then s
  else
    let f := F.PCK_ARITH_MAP_POS_BITS.nth (p / 32)
    let s1 := ((s.set F.PCK_ARITH_CLAMP_CLAMP_PICKS 0 p).set F.PCK_ARITH_SAT_SAT_PICKS 0 p).set F.PCK_ARITH_FIRST_FIRST_PICK_LO 0 p
    s1.set f (bitsPut (s1.get f) (p % 32) 1 0)

/-- CLR_SEL (R105): the position in POS. -/
def execClrSel (s : State) : Res := .next (s.clrPos (s.get F.PCK_ARITH_SEL_POS))

/-- PCK_PICK_LO_READ (R145, R526): PCK_PICK_HI is latched until it is read. -/
def State.latchPick (s : State) : State :=
  { s with latch := smSet none R.PCK_PICK_HI (some (BitVec.ofNat 32 (s.pm.pick / 2 ^ 32))) s.latch }

/-- PCK_PICK_LO_READ. -/
def execPckPickLoRead (s : State) : Res := .next s.latchPick

/-! ### Chains (R138 to R140, R403, R404) -/

/-- A transaction that the port's role does not carry is discarded and counted (R384). -/
def State.badTxn (s : State) (port : Nat) : State := s.add F.HLS_PORT_CRC_BAD_TXN 1 port

/-- A chain buffer that is full, or empty when it is needed, holds the strobe until it allows the pick (R139). -/
def State.chainHold (s : State) (full : Bool) : State :=
  let s1 := { s with pm := { s.pm with chainFull := full, chainHeld := s.pm.chainHeld || full } }
  if full then s1.set F.PCK_SKEW_MAX_EXCEEDED 1 else s1

/-- CHAIN_TIMING at a follower (R139, R140, R404): the skew and trim, a change that is pending at the head, and the reply. -/
def State.timingFollower (s : State) (port : Nat) (data : List Byte) (skewPicks skewCy : Nat) (trim : Int) (full : Bool) : State :=
  let d := leNat (sliceB data 0 32)
  let s2 := ((s.set F.PCK_SKEW_SKEW_PICKS skewPicks).set F.PCK_SKEW_SKEW_CY skewCy).chainHold full
  let change := if bitAt d 53 then some (bitsOf d 96 48, bitsOf d 144 2, bitsOf d 146 3, 16) else s2.pm.chainChange
  (({ s2 with pm := { s2.pm with trim := trim, chainChange := change, chainCauses := 0 } }).useFree 1).emit
    [.timing port (timingMsg s.pm.pick s.mode s.level (Config.freeWord s.free).toNat none s.pm.chainCauses
      (tow 32 (sgn 16 skewCy)))]

/-- CHAIN_TIMING at the head: a follower's causes become a request with cause CHAIN (R140); a buffer that is full or empty when needed
holds the strobe (R139). -/
def State.timingHead (s : State) (data : List Byte) (full : Bool) : State :=
  let s2 := s.chainHold full
  if bitsOf (leNat (sliceB data 0 32)) 152 5 = 0 then s2 else s2.requestStep 3

/-- CHAIN_TIMING. -/
def execChainTiming (port : Fin 16) (data : List (BitVec 8)) (skewPicks : BitVec 8) (skewCy : BitVec 16) (trim : Fin 17) (full : Bool)
    (s : State) : Res :=
  .next (if s.portState port.val ≠ 3 then s
    else if s.portRole port.val ≠ 3 then s.badTxn port.val
    else if s.get F.PCK_CHAIN_ROLE = 2 then
      s.timingFollower port.val data skewPicks.toNat skewCy.toNat ((trim.val : Int) - 8) full
    else if s.get F.PCK_CHAIN_ROLE = 1 then s.timingHead data full
    else s)

/-- CHAIN_CHANGE_EFFECTIVE (R140): between the picks, the change decided 16 picks before takes effect with the strobe that is launched. -/
def State.chainEffective (s : State) : State :=
  match s.pm.chainChange with
  | some (p, m, l, c) =>
    if s.pickState = 1 ∧ s.pm.running = false ∧ s.changeDue = true then
      (({ s with pm := { s.pm with chainChange := none } }).takeStep m l c p).launch
    else s
  | none => s

/-- CHAIN_CHANGE_EFFECTIVE. -/
def execChainChangeEffective (s : State) : Res := .next s.chainEffective

/-- Bytes held in the chain buffer of a bond (R403). -/
def State.chainBytes (s : State) (bond : Nat) : Nat :=
  sumNat ((s.host.chainBuf.filter fun x => decide (x.1 = bond)).map fun x => x.2.2.2.2.length)

/-- HANDOFF (R123, R403): placed in the chain buffer of 2 MiB of its bond by pick and lane, with the slot's lane-valid mask. -/
def State.handoff (s : State) (port pick lane mask : Nat) (data : List Byte) : State :=
  if s.portState port ≠ 3 then s
  else if s.portRole port ≠ 3 then s.badTxn port
  else
    let bond := s.get F.HLS_PORT_STAT_HOP port
    if s.chainBytes bond + data.length ≤ 2 ^ 21 then
      { s with host := { s.host with chainBuf := s.host.chainBuf ++ [(bond, pick, lane, mask, data)] } }
    else s

/-- HANDOFF. -/
def execHandoff (port : Fin 16) (pick : BitVec 16) (lane : BitVec 5) (data : List (BitVec 8)) (s : State)
    (mask : BitVec 32 := BitVec.allOnes 32) : Res :=
  .next (s.handoff port.val pick.toNat lane.toNat mask.toNat data)

end Sys2Proof.Machine
end

