-- ==== Sys2Proof/Machine/Spool.lean ====
section
/-!
DEFINITION. The commands of the spool (06_spool_and_attention.md): translation, reads and writes of tiles, ECC, refresh and scrub,
loopback tests, and the counts. Those that belong to a skein's life stand in Skein.lean.
-/
namespace Sys2Proof.Machine

/-! ### Requests of a tile (R56, R211, R218) -/

/-- The first request of a list that satisfies a test, and the rest. -/
def takeReq (p : SpoolReq → Bool) : List SpoolReq → Option (SpoolReq × List SpoolReq)
  | [] => none
  | r :: rs => if p r then some (r, rs) else (takeReq p rs).map fun x => (x.1, r :: x.2)

/-- The frame that a request is translated to: from its own walk, or from the STU's cache (R218). -/
def State.reqFrame (s : State) (field id : Nat) (r : SpoolReq) : Option (Option Nat) :=
  match r.xlat with
  | some x => some x
  | none => (s.spool.xcFind field id r.sva).map some

/-- A hit is counted when the cache, not a walk, gave the translation (R239). -/
def State.countHit (s : State) (field id : Nat) (r : SpoolReq) : State :=
  match r.xlat, s.spool.xcFind field id r.sva with
  | none, some f => { s with spool := s.spool.xcUse field id r.sva f }.add F.SPL_XC_HIT_HITS 1 field
  | _, _ => s

/-- Shuttles enter the SPOOL port's input buffer at a router, behind what waits there. Log entry 120. -/
def State.fromController (s : State) (c vc : Nat) (shs : List Shuttle) : State :=
  { s with weft := { s.weft with bufs := smSet [] (bufKey c 5 vc) (smGet [] (bufKey c 5 vc) s.weft.bufs ++ shs) s.weft.bufs } }

/-- A request answered: it leaves the tile's list and its response starts back on the weft (R56, R160). -/
def State.answer (s : State) (t : Nat) (rest : List SpoolReq) (r : SpoolReq) (fault : Bool) (data : List Byte) : State :=
  let u := s.tile t
  let shs := spoolShuttles 5 2 t r.ctrl false r.line r.sva data
  (s.setTile t { u with spReqs := rest, spOut := u.spOut ++ [⟨r.id, r.write, r.line, fault, data, r.ctrl, shs.length⟩] }).fromController
    r.ctrl 2 shs

/-- A request that ends in a fault completion (R220). -/
def State.failReq (s : State) (t id : Nat) (rest : List SpoolReq) (r : SpoolReq) (code : Nat) (injected : Bool := false) : State :=
  (s.spoolFault code (fieldOf t) id r.sva injected).answer t rest r true []

/-- Size of the structures of an area and the place of their STATUS byte (R202 to R204). -/
def areaShape (area : Nat) : Nat × Nat := if area = 0 then (1024, 1023) else if area = 3 then (128, 102) else (128, 99)

/-- Offsets in a range of `n` bytes from `off` at which a STATUS byte stands. -/
def statusAt (area off n : Nat) : List Nat :=
  (rangeFrom 0 n).filter fun i => decide ((off + i) % (areaShape area).1 = (areaShape area).2)

/-- Bytes with POISON set in every STATUS byte (R202). -/
def markPoison (ps : List Nat) (bs : List Byte) : List Byte :=
  ((rangeFrom 0 bs.length).zip bs).map fun x => if x.1 ∈ ps then x.2 ||| 2 else x.2

/-- Units that a channel's write buffer still holds: at most those it held after its last write, of which `used` are not yet in DRAM
(R195, R211). -/
def State.wbufUsed (s : State) (c used : Nat) : Nat := min used (smGet 0 c s.spool.wbuf)

/-- The router of the channel controller that serves a byte of a band pool (R194). -/
def State.ctrlOf (s : State) (band bsa : Nat) : Nat := mkTile (s.chanAt band bsa / 64) (s.chanAt band bsa % 64) 36

/-- The column's controller forwards a request, with its translation, over the weft to the controller of the target channel (R218). A range
that runs on into further channels goes to the controller of its first byte: log entry 121, DEDUCED. -/
def State.forward (s : State) (t : Nat) (rest : List SpoolReq) (r : SpoolReq) (frame target : Nat) : State :=
  let shs := spoolShuttles 4 3 target t r.poison r.line r.sva r.data
  let u := s.tile t
  (s.setTile t { u with spReqs := rest ++ [{ r with xlat := some (some frame), ctrl := target, away := shs.length }] }).fromController r.ctrl 3 shs

/-- The write of a request into its frame, with the mark of a poisoned pass, and the buffer's highest occupancy. -/
def State.acceptWrite (s : State) (t id : Nat) (rest : List SpoolReq) (r : SpoolReq) (frame used : Nat) : State :=
  let off := svaOff r.sva
  let bs := if r.poison then markPoison (statusAt (svaArea r.sva) off r.data.length) r.data else r.data
  let bsa := frame * frameBytes + off
  let c := s.chanAt (svaBand r.sva) bsa
  let held := s.wbufUsed c used + (r.data.length + 1023) / 1024
  let s1 := (s.poolWrite (svaBand r.sva) bsa bs).set F.SPL_CH_STATE_WBUF_MAX (max (s.get F.SPL_CH_STATE_WBUF_MAX c) held) c
  ({ s1 with spool := { s1.spool.xcUse (fieldOf t) id r.sva frame with wbuf := smSet 0 c held s1.spool.wbuf } }).answer t rest r false []

/-- A write whose frame is known (R197, R211, R218): forwarded to the channel's controller, which ends it with DATA_UE when the channel
cannot serve, lets it wait while the write buffer lacks room, or accepts it. -/
def State.writeTo (s : State) (t id : Nat) (rest : List SpoolReq) (r : SpoolReq) (frame used : Nat) : State :=
  let bsa := frame * frameBytes + svaOff r.sva
  if s.ctrlOf (svaBand r.sva) bsa ≠ r.ctrl then s.forward t rest r frame (s.ctrlOf (svaBand r.sva) bsa)
  else if s.chDown (svaBand r.sva) bsa r.data.length then s.failReq t id rest r 7
  else if 64 < s.wbufUsed (s.chanAt (svaBand r.sva) bsa) used + (r.data.length + 1023) / 1024 then s.set F.SPL_STATUS_WBUF_STALL 1
  else s.acceptWrite t id rest r frame used

/-- The frame that the tables map now: an earlier write may have allocated it since this request's walk (R222). -/
def State.mappedNow (s : State) (root sva : Nat) : Option Nat :=
  match s.spool.walk root sva with
  | .leaf _ e => if eSwapped e then none else some (eFrame e)
  | _ => none

/-- SPOOL_WRITE_ACCEPT (R211, R219, R222): the oldest write that has reached its controller is forwarded, waits, faults, or is accepted;
an unmapped frame is allocated first. -/
def State.spoolWrite (s : State) (t id root used : Nat) : State :=
  match takeReq (fun r => r.write && decide (r.away = 0)) (s.tile t).spReqs with
  | none => s
  | some (r, rest) =>
    match s.reqFrame (fieldOf t) id r with
    | none => s
    | some x =>
      let s1 := s.countHit (fieldOf t) id r
      match (match x with
        | some f => some f
        | none => s1.mappedNow root r.sva) with
      | some f => s1.writeTo t id rest r f used
      | none =>
        match s1.allocFrame id root r.sva with
        | .inl c => (if c = 4 then s1.set F.SPL_STATUS_NO_FRAME 1 else s1).failReq t id rest r c
        | .inr (f, s2) => s2.writeTo t id rest { r with xlat := some (some f) } f used

/-- SPOOL_WRITE_ACCEPT. -/
def execSpoolWriteAccept (t : TileAddr) (skein : BitVec 12) (root : BitVec 26) (used : Nat) (s : State) : Res :=
  onTile t s fun _ => s.spoolWrite t.toNat skein.toNat root.toNat used

/-- An uncorrectable line logged, unless the log is full (R229, R237). -/
def State.eccLog (s : State) (c line : Nat) (scrub : Bool) : State :=
  if s.get F.SPL_ECC_LOG0_VALID = 1 then s.set F.SPL_ECC_LOG0_OVF 1
  else ((((s.set F.SPL_ECC_LOG0_VALID 1).set F.SPL_ECC_LOG0_SCRUB (b2n scrub)).set F.SPL_ECC_LOG0_FIELD (c / 64)).set
    F.SPL_ECC_LOG0_CHANNEL (c % 64)).set F.SPL_ECC_LOG1_LINE line

/-- A read met an uncorrectable line (R229): ECC_UE, the count, the log. -/
def State.eccUe (s : State) (at' : Nat × Nat) : State :=
  ((s.set F.SPL_STATUS_ECC_UE 1).add F.SPL_ECC_UE_UE 1).eccLog at'.1 (at'.2 / 64) false

/-- The structures of an area that a read of `n` bytes from `off` touches: the offset of each in its frame (R202 to R204). -/
def structsAt (area off n : Nat) : List Nat :=
  let z := (areaShape area).1
  if n = 0 then [] else (rangeFrom (off / z) ((off + n - 1) / z - off / z + 1)).map fun i => i * z

/-- A structure's STATUS byte, in or beyond the bytes read. -/
def State.statusOf (s : State) (band area frame i : Nat) : Nat :=
  leNat (s.poolRead band (frame * frameBytes + i + (areaShape area).2) 1)

/-- The faults that a read of structures gives: UNWRITTEN for one that is not written (R214); REC for a selection record that is not
written, poisoned or meant for another step (R208). A record that is not written falls under both. -/
def State.dataFaults (s : State) (band area frame pos off n : Nat) : List Nat :=
  let xs := structsAt area off n
  (if xs.any fun i => !(bitAt (s.statusOf band area frame i) 0) then [8] else []) ++
    (if area = 3 ∧ xs.any (fun i => !(bitAt (s.statusOf band area frame i) 0) || bitAt (s.statusOf band area frame i) 1 ||
        decide (leNat (s.poolRead band (frame * frameBytes + i + 96) 5) ≠ pos)) = true then [9] else [])

/-- A structure read that carries POISON poisons the reading pass (R214). -/
def State.dataPoison (s : State) (band area frame off n : Nat) : Bool :=
  (structsAt area off n).any fun i => bitAt (s.statusOf band area frame i) 1

/-- Serve a read from its frame (R211, R214, R218, R229) at its channel's controller, with uncorrectable lines met and an injected one (R571,
kind 5). -/
def State.serveRead (s : State) (t id pos : Nat) (rest : List SpoolReq) (r : SpoolReq) (frame ce : Nat) (ue : List Nat) : State :=
  let band := svaBand r.sva
  let area := svaArea r.sva
  let off := svaOff r.sva
  let bsa := frame * frameBytes + off
  let n := 64 * r.units
  let c0 := s.chanAt band bsa
  if s.ctrlOf band bsa ≠ r.ctrl then s.forward t rest r frame (s.ctrlOf band bsa)
  else
    let inj := s.injHas 5 c0
    let s1 := (if inj then s.injUse 5 c0 else s).add F.SPL_ECC_CE_CE ce
    if s.chDown band bsa n then s1.failReq t id rest r 7
    else
      match (if inj then 0 :: ue else ue).filter fun i => decide (i < r.units) with
      | i :: is =>
        (dedupNat (i :: is)).foldl (fun u x => u.eccUe ((s.pat.bsaAt band (bsa + 64 * x)).getD (0, 0))) s1 |>.failReq t id rest r 7 inj
      | [] =>
        match s1.dataFaults band area frame pos off n with
        | code :: codes => (codes.foldl (fun u c => u.spoolFault c (fieldOf t) id r.sva) (s1.failReq t id rest r code))
        | [] =>
          let s2 := s1.answer t rest r false (s1.poolRead band bsa n)
          if s1.dataPoison band area frame off n then s2.setTile t (tPoison (s2.tile t)) else s2

/-- SPOOL_READ (R211, R219, R220): the oldest read that has reached its controller. -/
def State.spoolRead (s : State) (t id pos ce : Nat) (ue : List Nat) : State :=
  match takeReq (fun r => !r.write && decide (r.away = 0)) (s.tile t).spReqs with
  | none => s
  | some (r, rest) =>
    match s.reqFrame (fieldOf t) id r with
    | none => s
    | some none => s.failReq t id rest r 1
    | some (some f) => (s.countHit (fieldOf t) id r).serveRead t id pos rest r f ce ue

/-- SPOOL_READ. The walk has already found the frame; the root stands in the lane descriptor. -/
def execSpoolRead (t : TileAddr) (skein : BitVec 12) (_root : BitVec 26) (pos : BitVec 40) (ce : Nat) (ue : List (Fin 64))
    (s : State) : Res :=
  onTile t s fun _ => s.spoolRead t.toNat skein.toNat pos.toNat ce (ue.map Fin.val)

/-- The request of a tile given its translation. -/
def setXlat (id : Nat) (x : Option Nat) (l : List SpoolReq) : List SpoolReq :=
  l.map fun r => if r.id = id then { r with xlat := some x } else r

/-- A table word lies in a channel that cannot serve (R197, R201). -/
def State.tblDown (s : State) (key : Nat) : Bool :=
  match s.pat.tblAt key with
  | some (c, _) => decide (s.chState c ≠ 2)
  | none => false

/-- TRANSLATION_WALK (R218, R220): on a cache miss the tables are walked; a leaf fills the cache, a fault ends the request. A table in a
failed reserve channel ends it with DATA_UE (R197), an uncorrectable table word, the `ue`-th read, with TABLE_UE. -/
def State.walkReq (s : State) (t id root : Nat) (ue : Option Nat) : State :=
  let f := fieldOf t
  match takeReq (fun r => r.xlat.isNone && decide (r.away = 0)) (s.tile t).spReqs with
  | none => s
  | some (r, rest) =>
    if (s.spool.xcFind f id r.sva).isSome then s
    else
      let s1 := s.add F.SPL_XC_MISS_MISSES 1 f
      let give := fun (u : State) (x : Option Nat) => u.setTile t { u.tile t with spReqs := setXlat r.id x (u.tile t).spReqs }
      let keys := s.spool.walkKeys root r.sva
      if keys.any s.tblDown then s1.failReq t id rest r 7
      else match ue.bind fun i => keys[i]? with
      | some k => (s1.eccUe ((s.pat.tblAt k).getD (0, 0))).failReq t id rest r 6
      | none =>
        match s.spool.walk root r.sva with
        | .fault c => s1.failReq t id rest r c
        | .missing => if r.write then give s1 none else s1.failReq t id rest r 1
        | .leaf _ e =>
          if eSwapped e then s1.failReq t id rest r 2
          else give { s1 with spool := s1.spool.xcUse f id r.sva (eFrame e) } (some (eFrame e))

/-- TRANSLATION_WALK. -/
def execTranslationWalk (t : TileAddr) (skein : BitVec 12) (root : BitVec 26) (ue : Option (Fin 3)) (s : State) : Res :=
  onTile t s fun _ => s.walkReq t.toNat skein.toNat root.toNat (ue.map Fin.val)

/-- The first response whose shuttles have all reached the tile, and the rest. -/
def takeRsp : List SpoolRsp → Option (SpoolRsp × List SpoolRsp)
  | [] => none
  | r :: rs => if r.away = 0 then some (r, rs) else (takeRsp rs).map fun x => (x.1, r :: x.2)

/-- The oldest response that has arrived is taken in: its request is no longer outstanding (R56). -/
def tSpoolIn (t : Tile) : Tile :=
  match takeRsp t.spOut with
  | none => t
  | some (r, rs) =>
    if r.write then { t with spOut := rs, spIn := t.spIn ++ [r], spWrites := t.spWrites - 1 }
    else { t with spOut := rs, spIn := t.spIn ++ [r], spReads := t.spReads - 1 }

/-- SPOOL_RESPONSE (R56). -/
def execSpoolResponse (t : TileAddr) (s : State) : Res := onTile t s fun u => s.setTile t.toNat (tSpoolIn u)

/-! ### Refresh and scrub (R230) -/

/-- DRAM_REFRESH: the rows keep their contents; the channel's temperature is known (R240). -/
def execDramRefresh (f : Fin 60) (ch : Fin 64) (temp : BitVec 8) (s : State) : Res :=
  .next (s.set F.SPL_CH_STATE_TEMP temp.toNat (f.val * 64 + ch.val))

/-- SPOOL_SCRUB: a corrected line is counted; an uncorrectable one sets SCRUB_UE and is logged with SCRUB = 1. -/
def execSpoolScrub (f : Fin 60) (ch : Fin 64) (line : BitVec 25) (e : Fin 3) (s : State) : Res :=
  .next (if s.get F.SPL_CTRL_SCRUB_EN = 0 ∨ s.chState (f.val * 64 + ch.val) ≠ 2 then s
    else match e.val with
      | 1 => s.add F.SPL_ECC_CE_CE 1
      | 2 => (s.set F.SPL_STATUS_SCRUB_UE 1).eccLog (f.val * 64 + ch.val) line.toNat true
      | _ => s)

/-! ### Loopback tests (R231) -/

/-- VM of a field's quadrant is on (R13, R424). -/
def State.vmOn (s : State) (f : Nat) : Bool := s.domOn (48 + quadOf (regionOf f))

/-- SPL_SWATCH_CTRL.GO (R231): the first refusal that holds, or the test runs. -/
def State.splSwatch (s : State) (f ch depth : Nat) : State :=
  let s0 := ((s.set F.SPL_SWATCH_CTRL_FIELD f).set F.SPL_SWATCH_CTRL_CHANNEL ch).set F.SPL_SWATCH_CTRL_DEPTH depth
  let c := f * 64 + ch
  if 59 < f then s0.set F.SPL_SWATCH_STAT_RESULT 6
  else if s.vmOn f = false then s0.set F.SPL_SWATCH_STAT_RESULT 5
  else if s.spool.swatch.isSome = true ∨ s.chState c ≠ 2 ∨ (s.pickState ≠ 0 ∧ s.patUses (regionOf f) = true) then
    s0.set F.SPL_SWATCH_STAT_RESULT 4
  else
    (((({ s0 with spool := { s0.spool with swatch := some (c, s.chState c) } }).set F.SPL_CH_STATE_STATE 4 c).set
      F.SPL_SWATCH_STAT_RESULT 1).set F.SPL_SWATCH_STAT_ERR_WORDS 0).set F.SPL_STATUS_SWATCH_DONE 0

/-- SPL_SWATCH_START. -/
def execSplSwatchStart (field ch : BitVec 6) (depth : BitVec 2) (s : State) : Res :=
  .next (s.splSwatch field.toNat ch.toNat depth.toNat)

/-- SPL_SWATCH_COMPLETE. -/
def execSplSwatchComplete (errs : Nat) (s : State) : Res := .next (s.splSwatchEnd (if errs = 0 then 2 else 3) errs)

/-! ### SPL_CTRL and the log (R234, R237) -/

/-- Every translation cache is invalidated (R234). -/
def State.xcFlush (s : State) : State := { s with spool := { s.spool with xc := [] } }

/-- XC_FLUSH. -/
def execXcFlush (s : State) : Res := .next s.xcFlush

/-- The counts of the block (R234). -/
def splCountRegs : List Nat := [R.SPL_XLAT_COUNT, R.SPL_ECC_CE, R.SPL_ECC_UE, R.SPL_XC_HIT, R.SPL_XC_MISS]

/-- SPL_CLR_COUNTS: every count; WBUF_MAX is cleared and MIN starts again at FREE (R235, R240). -/
def State.splClr (s : State) : State :=
  let b := bankClear splCountRegs s.bank
  let b1 := (rangeFrom 0 128).foldl (fun m k => bankSet F.SPL_POOL_MIN_MIN k (bankGet F.SPL_POOL_FREE_FREE k m) m) b
  let b2 := b1.map fun (kv : Nat × Word) =>
    if kv.1 % 2 ^ 26 = R.SPL_CH_STATE then (kv.1, fldPut F.SPL_CH_STATE_WBUF_MAX 0 kv.2) else kv
  { s with bank := b2.filter fun (kv : Nat × Word) => decide (kv.2 ≠ regReset kv.1) }

/-- SPL_CLR_COUNTS. -/
def execSplClrCounts (s : State) : Res := .next s.splClr

/-- Reading SPL_ECC_LOG1 empties the log (R237). -/
def State.emptyEccLog (s : State) : State :=
  ((((s.set F.SPL_ECC_LOG0_VALID 0).set F.SPL_ECC_LOG0_SCRUB 0).set F.SPL_ECC_LOG0_FIELD 0).set F.SPL_ECC_LOG0_CHANNEL 0).set
    F.SPL_ECC_LOG1_LINE 0

/-- SPL_ECC_LOG1_READ. -/
def execSplEccLog1Read (s : State) : Res := .next s.emptyEccLog

end Sys2Proof.Machine
end

