-- ==== Sys2Proof/Machine/Skein.lean ====
section
/-!
DEFINITION. The commands of skeins (07_skeins_and_serving.md), and the commands of the spool that belong to a skein's life: release,
prefix copies, swap and restore (R223 to R225, R263 to R265).
-/
namespace Sys2Proof.Machine

/-! ### Release (R223, R248) -/

/-- A prefix copy from the skein is running or waits (R248, R265). -/
def State.copiedFrom (s : State) (id : Nat) : Bool := s.reed.skeins.any fun kv => kv.2.copies.any fun c => decide (c.2 = id)

/-- Fetches of a skein are dropped. -/
def HostIf.dropSkein (h : HostIf) (id : Nat) : HostIf :=
  { h with reads := h.reads.filter fun r => match r.why with
      | .prompt i _ => decide (i ≠ id)
      | .ringRd i => decide (i ≠ id)
      | _ => true }

/-- The release of a skein ends: frames and tables are back, the entry is FREE, RELEASE completes (R223, R246, R248). -/
def State.frameRelease (s : State) (id : Nat) : State :=
  let k := s.sk id
  match k.releasing with
  | none => s
  | some (ring, tag) =>
    if s.copiedFrom id = true ∨ k.swapOut = true ∨ k.restore = true then s
    else
      let s1 := (s.releaseFrames id k.ptRoot).setSk id Skein.empty
      ({ s1 with host := s1.host.dropSkein id }).complete ring 0x14 0 tag id 0

/-- FRAME_RELEASE. -/
def execFrameRelease (id : BitVec 12) (s : State) : Res := .next (s.frameRelease id.toNat)

/-! ### Prefix lookup and copy (R263, R264) -/

/-- The field whose STU manages a band's list: the one that holds the band's first home channel (R221). -/
def Pattern.stuOf (p : Pattern) (band : Nat) : Nat := (((p.homes band).head?).map Prod.fst).getD 0

/-- The 64 prompt tokens of block `b`, if all have arrived. -/
def Skein.block (k : Skein) (b : Nat) : Option (List Nat) :=
  let ts := (rangeFrom (64 * b) 64).filterMap k.promptTok
  if ts.length = 64 then some ts else none

/-- A source that a copy may be made from (R264). -/
def Skein.sourceOk (k : Skein) (b : Nat) : Bool :=
  decide (k.state ∈ [2, 3, 4, 6, 7]) && !k.swapped && !k.swapOut && !k.restore && decide (64 * b + 64 ≤ k.committed)

/-- The entry that a block of a prompt hits: same HASH, FIRST_POS and PART, the same tokens, a good source. -/
def State.prefixHit (s : State) (part h b : Nat) (toks : List Nat) : Option PfxEntry :=
  s.reed.prefixIdx.find? fun e => decide (e.bucket = h % 2 ^ 24) && decide (e.hash = h) && decide (e.firstPos = 64 * b) &&
    decide (e.part = part) && decide (e.tokens = toks) && (s.sk e.source).sourceOk b

/-- The lookup of a skein ends; with nothing found it may be placed. -/
def State.lookEnd (s : State) (id : Nat) : State :=
  let k := s.sk id
  s.setSk id { k with pfxLook := false, pfxRun := decide (k.copies ≠ []) || decide (0 < k.pfxBlocks) }

/-- Blocks looked up while their tokens are here (R264); `n` bounds how many. -/
def State.lookup (s : State) (id : Nat) : Nat → State
  | 0 => s
  | n + 1 =>
    let k := s.sk id
    if k.pfxLook = false then s
    else if s.get F.SKN_CTRL_PREFIX_EN = 0 then s.lookEnd id
    else
      let b := k.pfxBlocks + k.copies.length
      if (k.promptLen - 1) / 64 ≤ b then s.lookEnd id
      else match k.block b with
        | none => (s.askUnit id (64 * b / 256)).askUnit id (64 * b / 256 + 1)
        | some ts =>
          let h := blockHash k.hash k.part ts
          let s1 := s.add F.SKN_PFX_LOOKUPS_LOOKUPS 1
          match s.prefixHit k.part h b ts with
          | none => s1.lookEnd id
          | some e => (s1.setSk id { k with hash := h, copies := k.copies ++ [(b, e.source)] }).lookup id n

/-- The copy of page `g` leaves every pool at or above LOW (R264). -/
def State.copyFits (s : State) (srcRoot dstRoot g : Nat) : Bool :=
  (rangeFrom 0 128).all fun b =>
    decide (s.get F.SPL_POOL_LOW_LOW b + s.spool.copyNeeds srcRoot dstRoot g b ≤ s.spool.free b)

/-- Every part of the page stands in the destination. -/
def Spool.copyWhole (p : Spool) (srcRoot dstRoot g : Nat) : Bool :=
  (rangeFrom 0 128).all fun band => (copyParts g).all fun q =>
    (p.bsaOf srcRoot (mkSva q.1 band q.2.1)).isNone || (p.bsaOf dstRoot (mkSva q.1 band q.2.1)).isSome

/-- The page stands in the spool, in the bands that hold one. -/
def Spool.copySource (p : Spool) (srcRoot g : Nat) : Bool :=
  (rangeFrom 0 128).any fun band => (p.bsaOf srcRoot (mkSva 0 band (g * 65536))).isSome

/-- A channel that a copy of a page reads or writes cannot serve (R197). -/
def State.copyDown (s : State) (root g : Nat) : Bool :=
  (rangeFrom 0 128).any fun band => (copyParts g).any fun q =>
    match s.spool.bsaOf root (mkSva q.1 band q.2.1) with
    | some a => s.chDown band a q.2.2
    | none => false

/-- The next block of a skein is copied; the first that does not fit ends the copies (R264). A block for which the page table area
has no block left does not fit either. Log entry 24. A source that is no longer good ends them too; a channel that cannot serve aborts the
copy with DATA_UE and COPY_ERR (R197, R233). Log entry 122, DEDUCED. -/
def State.prefixCopy (s : State) (id : Nat) : State :=
  let k := s.sk id
  let stop := s.setSk id { k with copies := [], pfxLook := false }
  match k.copies with
  | [] => s
  | (g, src) :: rest =>
    let root := (s.sk src).ptRoot
    if ((s.sk src).sourceOk g && s.spool.copySource root g) = false then stop
    else if s.copyDown root g then (stop.spoolFault 7 (s.pat.stuOf 0) id (mkSva 0 0 (g * 65536))).set F.SPL_STATUS_COPY_ERR 1
    else if s.copyFits root k.ptRoot g then
      let s1 := s.copyPage root id k.ptRoot g
      if s1.spool.copyWhole root k.ptRoot g then
        if s1.copyDown k.ptRoot g then (stop.spoolFault 7 (s.pat.stuOf 0) id (mkSva 0 0 (g * 65536))).set F.SPL_STATUS_COPY_ERR 1
        else (s1.setSk id { k with copies := rest, pfxBlocks := k.pfxBlocks + 1 }).add F.SKN_PFX_HITS_HITS 1
      else stop
    else stop

/-- PREFIX_COPY. -/
def execPrefixCopy (id : BitVec 12) (s : State) : Res := .next (s.prefixCopy id.toNat)

/-- The hash of a skein's first `n` blocks. -/
def Skein.hashTo (k : Skein) (n : Nat) : Nat :=
  (rangeFrom 0 n).foldl (fun h b => blockHash h k.part ((k.block b).getD [])) 0

/-- The copies are done: COMMITTED and NEXT stand after the copied blocks, and PREFIX_HIT is written (R250, R264). -/
def State.prefixDone (s : State) (id : Nat) : State :=
  let k := s.sk id
  if k.pfxRun = true ∧ k.pfxLook = false ∧ k.copies = [] then
    let n := 64 * k.pfxBlocks
    let s1 := s.setSk id { k with pfxRun := false, committed := n, next := n, hash := k.hashTo k.pfxBlocks, blk := [] }
    (if k.pfxBlocks = 0 then s1 else s1.event 0x85 id k.pfxBlocks).keepUnits id
  else s

/-- PREFIX_COPY_COMPLETE. -/
def execPrefixCopyComplete (id : BitVec 12) (s : State) : Res := .next (s.prefixDone id.toNat)

/-! ### Swap and restore (R225, R265, R399) -/

/-- SKN_STATUS.SWAP_RUN as it stands. -/
def State.showSwap (s : State) : State := s.set F.SKN_STATUS_SWAP_RUN (b2n s.swapRuns)

/-- A swap or restore of the frame at an SVA faults: captured, COPY_ERR, and the skein ends with reason SWAP (R220, R225, R265). -/
def State.swapFault (s : State) (code id sva : Nat) : State :=
  let k := s.sk id
  let s1 := (((s.restoreStop id).setSk id { k with swapOut := false, restore := false }).spoolFault code (s.pat.stuOf (svaBand sva)) id sva).set
    F.SPL_STATUS_COPY_ERR 1
  (if 1 ≤ k.state ∧ k.state ≤ 4 then s1.drainSk id 6 else s1).showSwap

/-- The next skein that pre-emption parks to swap it out (R265). -/
def State.nextTarget (s : State) : State :=
  match s.preemptOrder with
  | [] => { s with reed := { s.reed with target := none } }
  | id :: _ => ({ s with reed := { s.reed with target := some id } }).pendPark id

/-- Free slots of the swap window. -/
def State.slotsFree (s : State) : Nat := s.get F.SPL_SWAP_SIZE_SIZE - s.spool.slots.length

/-- The FLUSHes that end a swap out, one on every UP HOST port, to the swap window (R399). -/
def State.swapFlushes (s : State) (id : Nat) : State :=
  s.hostPorts.foldl (fun u p => u.hostRead p (s.swapAddr 0) 0 (.swapFlush id)) s

/-- A leaf of a skein whose frame lies in a channel that cannot serve (R197). -/
def State.leafDown (s : State) (l : Nat × Nat × Nat) : Bool :=
  !(eSwapped l.2.2) && s.chDown (svaBand l.1) (eFrame l.2.2 * frameBytes) frameBytes

/-- SWAP_OUT (R225, R242, R265, R399): the parked skein that pre-emption chose goes to host memory, when the window has slots for all
its frames. A window of size 0 refuses it with HOST_RANGE; it stays PARKED then, as when the slots do not suffice. A frame in a channel
that cannot serve is a fault of the swap (R197). -/
def State.swapOut (s : State) (id : Nat) : State :=
  let k := s.sk id
  if s.reed.target = some id ∧ k.state = 4 ∧ k.swapped = false ∧ s.swapRuns = false ∧ s.copiedFrom id = false
      ∧ s.get F.SPL_STATUS_FREE_LOW = 1 ∧ s.hostPorts ≠ [] then
    if s.get F.SPL_SWAP_SIZE_SIZE = 0 then
      let sva := ((s.spool.leaves k.ptRoot).head?.map Prod.fst).getD 0
      ((s.spoolFault 10 (s.pat.stuOf (svaBand sva)) id sva).set F.SPL_STATUS_COPY_ERR 1).nextTarget
    else if s.slotsFree < s.spool.framesAll id then s.nextTarget
    else match (s.spool.leaves k.ptRoot).find? s.leafDown with
      | some l => ({ s with reed := { s.reed with target := none } }).swapFault 7 id l.1
      | none =>
        let s1 := s.swapOutAll id k.ptRoot
        ((({ s1 with reed := { s1.reed with target := none } }).setSk id { k with swapOut := true }).swapFlushes id).showSwap
  else s

/-- SWAP_OUT. -/
def execSwapOut (id : BitVec 12) (s : State) : Res := .next (s.swapOut id.toNat)

/-- Frames of a root that stand in host memory. -/
def Spool.swappedLeaves (p : Spool) (root : Nat) : List (Nat × Nat × Nat) := (p.leaves root).filter fun l => eSwapped l.2.2

/-- SWAP_OUT_COMPLETE (R265, R399): the FLUSH on every port has completed. -/
def State.swapOutDone (s : State) (id : Nat) : State :=
  let k := s.sk id
  if k.swapOut = true ∧ s.reading (.swapFlush id) = false then
    (((s.setSk id { k with swapOut := false, swapped := true }).add F.SKN_SWAPS_OUT 1).event 0x82 id
      (s.spool.swappedLeaves k.ptRoot).length).showSwap
  else s

/-- SWAP_OUT_COMPLETE. -/
def execSwapOutComplete (id : BitVec 12) (s : State) : Res := .next (s.swapOutDone id.toNat)

/-- Frames that a restore needs in the fullest band pool. -/
def Spool.restoreNeeds (p : Spool) (root : Nat) : Nat :=
  let ls := (p.swappedLeaves root).map fun l => svaBand l.1
  maxNat ((rangeFrom 0 128).map fun b => (ls.filter fun x => decide (x = b)).length)

/-- The first swapped skein in admission order (R265). -/
def State.firstSwapped (s : State) : Option Nat :=
  (sortBy s.admitKey ((s.reed.skeins.filter fun kv => decide (kv.2.state = 4) && kv.2.swapped).map Prod.fst)).head?

/-- RESTORE_START (R265). -/
def State.restoreStart (s : State) : State :=
  match s.firstSwapped with
  | none => s
  | some id =>
    let need := s.cfg F.SKN_RESTORE_MARK + s.spool.restoreNeeds (s.sk id).ptRoot
    if s.get F.SPL_STATUS_FREE_LOW = 0 ∧ s.swapRuns = false ∧
        (rangeFrom 0 128).all (fun b => decide (need ≤ s.spool.free b)) = true then
      (s.setSk id { s.sk id with restore := true }).showSwap
    else s

/-- RESTORE_START. -/
def execRestoreStart (s : State) : Res := .next s.restoreStart

/-- RESTORE (R225): frames are allocated and read back; an address outside the window aborts with HOST_RANGE, a pool without frames enough
with NO_FRAME. -/
def State.restoreRun (s : State) (id : Nat) : State :=
  let k := s.sk id
  let ls := s.spool.swappedLeaves k.ptRoot
  if k.restore = true ∧ ls ≠ [] ∧ s.spool.coming.all (fun c => decide (c.id ≠ id)) = true then
    match ls.find? (fun l => !(s.inWindow (eHost l.2.2))) with
    | some l => s.swapFault 10 id l.1
    | none =>
      match ls.find? (fun l => decide (s.spool.free (svaBand l.1) < (ls.filter fun x => decide (svaBand x.1 = svaBand l.1)).length)) with
      | some l => (s.set F.SPL_STATUS_NO_FRAME 1).swapFault 4 id l.1
      | none => s.restoreAll id k.ptRoot
  else s

/-- RESTORE. -/
def execRestore (id : BitVec 12) (s : State) : Res := .next (s.restoreRun id.toNat)

/-- A read of a restore of this skein is in flight. -/
def State.restoring (s : State) (id : Nat) : Bool :=
  s.host.reads.any fun r => match r.why with
    | .restore i _ _ => decide (i = id)
    | _ => false

/-- RESTORE_COMPLETE (R255, R265): every frame is back; the next token record carries RESUMED. -/
def State.restoreDone (s : State) (id : Nat) : State :=
  let k := s.sk id
  if k.restore = true ∧ s.restoring id = false ∧ s.spool.swappedLeaves k.ptRoot = [] then
    (((s.setSk id { k with restore := false, swapped := false, resumed := true }).add F.SKN_SWAPS_IN 1).event 0x83 id
      (s.spool.framesAll id)).showSwap
  else s

/-- RESTORE_COMPLETE. -/
def execRestoreComplete (id : BitVec 12) (s : State) : Res := .next (s.restoreDone id.toNat)

/-- PREEMPT (R265): while FREE_LOW = 1 and no swap runs, one skein is parked to be swapped out; while a pool is below CRIT, one further
skein is parked. -/
def State.preempt (s : State) : State :=
  if s.get F.SPL_STATUS_FREE_LOW = 1 then
    let waiting := match s.reed.target with
      | none => false
      | some id => decide ((s.sk id).state = 4) || (s.sk id).parkPend
    let s1 := if s.swapRuns = true ∨ waiting = true then s else s.nextTarget
    if s.critNow then
      match s1.preemptOrder with
      | [] => s1
      | id :: _ => s1.pendPark id
    else s1
  else s

/-- PREEMPT. -/
def execPreempt (s : State) : Res := .next s.preempt

/-! ### Commands of the host (R248, R249, R392) -/

/-- The fields of ADMIT (R392). -/
structure AdmitArgs where
  part : Nat
  prio : Nat
  sampler : Nat
  pfxUse : Bool
  pfxPub : Bool
  hold : Bool
  deadline : Nat
  limit : Nat
  seed : Nat
  ringBase : Nat
  promptBase : Nat
  ringLog2 : Nat
  promptLen : Nat
  deriving DecidableEq, Repr

/-- The partition is in the XKP (R249). -/
def State.partPresent (s : State) (p : Nat) : Bool := decide (s.get (F.SKN_PART_STAT_PRESENT.nth p) = 1)

/-- The partition takes ADMIT: present, enabled, not stopping (R249, R267). -/
def State.partAdmits (s : State) (p : Nat) : Bool :=
  s.partPresent p && decide (s.get (F.SKN_PART_STAT_ENABLED.nth p) = 1) && decide (s.get (F.SKN_PART_STAT_STOPPING.nth p) = 0)

/-- The status of ADMIT: the lowest code whose cause holds (R249). -/
def State.admitStatus (s : State) (id : Nat) (a : AdmitArgs) : Nat :=
  if 4095 < id then 1
  else if (s.sk id).state ≠ 0 then 2
  else if s.partAdmits a.part = false then 4
  else if a.ringLog2 < 6 ∨ 19 < a.ringLog2 then 5
  else if a.promptLen = 0 ∨ a.limit < a.promptLen ∨ 2 ^ 40 - 1 ≤ a.limit then 6
  else if bitAt (s.reed.sampEntry (s.sampOf a.sampler a.part)) 23 = false then 7
  else if s.spool.newBlock.isNone then 8
  else 0

/-- ADMIT applied (R248): the entry filled, the L1 table allocated, QUEUED; with PREFIX_USE the lookup begins (R264). -/
def State.admitOk (s : State) (id : Nat) (a : AdmitArgs) : State :=
  match s.spool.newBlock with
  | none => s
  | some (b, p) =>
    let look := a.pfxUse && s.prefixOn && decide (64 < a.promptLen)
    let s1 := ({ s with spool := p }).setSk id { Skein.empty with
      state := 1, part := a.part, prio := a.prio, sampler := a.sampler, pfxUse := a.pfxUse, pfxPub := a.pfxPub, hold := a.hold,
      deadline := a.deadline, limit := a.limit, seed := a.seed, ptRoot := 2 * b, ringLog2 := a.ringLog2,
      ringBase := a.ringBase / 4096 * 4096, promptBase := a.promptBase / 4 * 4, promptLen := a.promptLen, pfxRun := look,
      pfxLook := look }
    (s1.poolMarks 0).keepUnits id

/-- ADMIT (R248): refused or applied, with its status. -/
def State.admitSeq (s : State) (id : Nat) (a : AdmitArgs) : State × Nat :=
  let st := s.admitStatus id a
  (if st = 0 then s.admitOk id a else s, st)

/-- CANCEL (R246, R248). -/
def State.cancel (s : State) (id : Nat) : State × Nat :=
  if 4095 < id then (s, 1)
  else if 1 ≤ (s.sk id).state ∧ (s.sk id).state ≤ 4 then (s.drainSk id 3, 0)
  else (s, 3)

/-- PARK (R248): HOLD, and PARK_PEND in PREFILL and DECODE. -/
def State.park (s : State) (id : Nat) : State × Nat :=
  if 4095 < id then (s, 1)
  else if 1 ≤ (s.sk id).state ∧ (s.sk id).state ≤ 4 then
    ((s.setSk id { s.sk id with hold := true }).pendPark id, 0)
  else (s, 3)

/-- RESUME (R248): HOLD cleared, in a state that placement reads it in. Log entry 25. -/
def State.resume (s : State) (id : Nat) : State × Nat :=
  if 4095 < id then (s, 1)
  else if 1 ≤ (s.sk id).state ∧ (s.sk id).state ≤ 4 then (s.setSk id { s.sk id with hold := false }, 0)
  else (s, 3)

/-- RELEASE (R248, R263): in DONE or FAULTED; the skein's prefix entries go at once, the completion waits for FRAME_RELEASE. -/
def State.release' (s : State) (ring tag id : Nat) : State × Option Nat :=
  if 4095 < id then (s, some 1)
  else if ((s.sk id).state = 6 ∨ (s.sk id).state = 7) ∧ (s.sk id).releasing = none then
    let s1 := s.setSk id { s.sk id with releasing := some (ring, tag) }
    ({ s1 with reed := s1.reed.dropPrefix id }, none)
  else (s, some 3)

/-- SET (R248): PRIO and DEADLINE; MISSED cleared when DEADLINE is later than the current pick. -/
def State.setCmd (s : State) (id prio deadline : Nat) : State × Nat :=
  if 4095 < id then (s, 1)
  else if (s.sk id).state = 0 then (s, 3)
  else
    let k := s.sk id
    (s.setSk id { k with prio := prio, deadline := deadline, missed := k.missed && !(later deadline s.pm.pick) }, 0)

/-- PART_ENABLE (R267): ends a disable in progress. -/
def State.partEnable (s : State) (p : Nat) : State × Nat :=
  if s.partPresent p then
    ((s.set (F.SKN_PART_STAT_ENABLED.nth p) 1).set (F.SKN_PART_STAT_STOPPING.nth p) 0, 0)
  else (s, 4)

/-- PART_DISABLE (R267): STOPPING, and PARK_PEND on each of its skeins in PREFILL or DECODE. -/
def State.partDisable (s : State) (p : Nat) : State × Nat :=
  if s.partPresent p then
    if s.get (F.SKN_PART_STAT_ENABLED.nth p) = 0 ∨ s.get (F.SKN_PART_STAT_STOPPING.nth p) = 1 then (s, 0)
    else
      let s1 := s.set (F.SKN_PART_STAT_STOPPING.nth p) 1
      let ids := (s1.reed.skeins.filter fun kv => inRing kv.2.state && decide (kv.2.part = p)).map Prod.fst
      ((ids.foldl State.pendPark s1).partSettle p, 0)
  else (s, 4)

/-- The completion of a command (R248, R394). -/
def answerCmd (ring op tag id : Nat) (r : State × Nat) : State := r.1.complete ring op r.2 tag (id % 4096) 0

/-- The completion of PART_ENABLE and PART_DISABLE: the spec gives its skein ID no value. Log entry 4. -/
def answerPart (ring op tag : Nat) (r : State × Nat) : State :=
  (answerCmd ring op tag (Config.freeWord r.1.free).toNat r).useFree 1

/-- ADMIT. -/
def execAdmitSeq (ring : Fin 16) (tag id : BitVec 16) (part prio : BitVec 3) (sampler : BitVec 8) (pfxUse pfxPub hold : Bool)
    (deadline : BitVec 48) (limit : BitVec 40) (seed ringBase promptBase : BitVec 64) (ringLog2 : BitVec 5) (promptLen : BitVec 40)
    (s : State) : Res :=
  .next (answerCmd ring.val 0x10 tag.toNat id.toNat (s.admitSeq id.toNat
    ⟨part.toNat, prio.toNat, sampler.toNat, pfxUse, pfxPub, hold, deadline.toNat, limit.toNat, seed.toNat, ringBase.toNat,
      promptBase.toNat, ringLog2.toNat, promptLen.toNat⟩))

/-- CANCEL. -/
def execCancel (ring : Fin 16) (tag id : BitVec 16) (s : State) : Res :=
  .next (answerCmd ring.val 0x11 tag.toNat id.toNat (s.cancel id.toNat))

/-- PARK. -/
def execPark (ring : Fin 16) (tag id : BitVec 16) (s : State) : Res :=
  .next (answerCmd ring.val 0x12 tag.toNat id.toNat (s.park id.toNat))

/-- RESUME. -/
def execResume (ring : Fin 16) (tag id : BitVec 16) (s : State) : Res :=
  .next (answerCmd ring.val 0x13 tag.toNat id.toNat (s.resume id.toNat))

/-- RELEASE with its completion when it is refused. -/
def State.releaseCmd (s : State) (ring tag id : Nat) : State :=
  match s.release' ring tag id with
  | (s1, some st) => s1.complete ring 0x14 st tag (id % 4096) 0
  | (s1, none) => s1

/-- RELEASE. -/
def execRelease (ring : Fin 16) (tag id : BitVec 16) (s : State) : Res := .next (s.releaseCmd ring.val tag.toNat id.toNat)

/-- SET. -/
def execSet (ring : Fin 16) (tag id : BitVec 16) (prio : BitVec 3) (deadline : BitVec 48) (s : State) : Res :=
  .next (answerCmd ring.val 0x15 tag.toNat id.toNat (s.setCmd id.toNat prio.toNat deadline.toNat))

/-- PART_ENABLE. -/
def execPartEnable (ring : Fin 16) (tag : BitVec 16) (part : BitVec 3) (s : State) : Res :=
  .next (answerPart ring.val 0x18 tag.toNat (s.partEnable part.toNat))

/-- PART_DISABLE. -/
def execPartDisable (ring : Fin 16) (tag : BitVec 16) (part : BitVec 3) (s : State) : Res :=
  .next (answerPart ring.val 0x19 tag.toNat (s.partDisable part.toNat))

/-! ### The reed position (R251 to R261) -/

/-- The captured step commits (R572): the records of the ring positions go to host memory, position 129 as the bytes that come
with the command (the spec gives no layout for the 64 candidates and the token: log entry 4), and the capture ends. -/
def State.captureDone (s : State) (last : List Byte) (cap : List (List Byte)) : State :=
  let base := s.get F.TST_CAP_ADDR_LO_ADDR_LO * 4096 + s.get F.TST_CAP_ADDR_HI_ADDR_HI * 2 ^ 32
  let outs := match s.hostPort 0 with
    | none => []
    | some p => ((rangeFrom 0 129).flatMap fun k => memWrs p 2 (base + 32768 * k) (cap.getD k [])) ++
        memWrs p 2 (base + 32768 * 129) last
  ((({ s with reed := { s.reed with capture := none }, out := s.out ++ outs }).set F.TST_CAP_STAT_RESULT 2).set
    F.TST_CAP_STAT_POSITIONS 130).set F.TST_STATUS_CAP_ARMED 0

/-- The committed length before the slot is handled shows whether the captured step commits in it. -/
def State.captureHit (s t : State) (slot : Nat) : Bool :=
  match s.reed.capture with
  | none => false
  | some (id, pos) =>
    decide ((s.sk id).committed = pos) && decide ((t.sk id).committed = pos + 1) &&
      (rangeFrom 0 32).any fun j => decide ((s.lane (laneKey slot j)).step.map (fun x => (x.skein, x.pos)) = some (id, pos))

/-- Every lane of a slot in ascending order (R251), with its result from the head (R24, R256). -/
def State.reedSlotRun (s : State) (slot : Nat) (drain : Bool) (l : List Shuttle) : State :=
  (rangeFrom 0 32).foldl (fun u j => u.reedLane slot drain j (laneBad l j) (lanePairs l j)) s

/-- The lane-valid mask of a slot (R123): bit j is 1 when lane j carries a token. -/
def State.laneMask (s : State) (slot : Nat) : Nat :=
  sumNat ((rangeFrom 0 32).map fun j => if (s.lane (laneKey slot j)).step.isSome then 2 ^ j else 0)

/-- REED_POSITION (R19, R123, R131, R251, R256, R402): once in a pick, from the head's results of the pick; with DRAIN in the pick's strobe, or
with no HOST port UP, nothing new is placed. The slot goes to band E with its lane-valid mask. -/
def State.reedPosition (s : State) (last : List Byte) (cap : List (List Byte)) : State :=
  if s.pm.running = true ∧ s.pm.reedDone = false ∧ s.get F.PCK_CHAIN_ROLE ≠ 2 then
    let slot := s.reedSlot
    let res := s.weft.reed.filter fun sh => decide (hPick sh.hdr = s.pm.pick % 65536)
    let s1 := s.reedSlotRun slot (s.strobeDrains || decide (s.hostPorts = [])) res
    let s2 := if s.captureHit s1 slot then s1.captureDone last cap else s1
    let s3 := s2.settle.askFirsts
    { s3 with pm := { s3.pm with reedDone := true }, reed := { s3.reed with mask := s3.laneMask slot }, weft := { s3.weft with reed := [] } }
  else s

/-- REED_POSITION. -/
def execReedPosition (last : List (BitVec 8)) (cap : List (List (BitVec 8))) (s : State) : Res := .next (s.reedPosition last cap)

/-! ### Fetches and deadlines (R251, R253, R254) -/

/-- A prompt unit arrives (R251): its tokens are checked; a bad one ends the skein with BAD_TOKEN; a lookup goes on. -/
def State.promptUnit (s : State) (id u : Nat) (toks : List Nat) : State :=
  let k := s.sk id
  if u ∈ k.unitsAsked then
    let ts := (toks.take (k.unitBytes u / 4)).map fun t => t % 2 ^ 18
    let s1 := s.setSk id { k with unitsAsked := k.unitsAsked.filter (fun x => decide (x ≠ u)), units := smSet [] u ts k.units }
    if ts.any (fun t => decide (Config.vocabSize s.pat.serial ≤ t)) = true then
      (if 1 ≤ k.state ∧ k.state ≤ 4 then s1.drainSk id 5 else s1)
    else s1.lookup id (ts.length / 64 + 4)
  else s

/-- PROMPT_UNIT_ARRIVAL. -/
def execPromptUnitArrival (id : BitVec 12) (u : Nat) (toks : List (BitVec 32)) (s : State) : Res :=
  .next (s.promptUnit id.toNat u (toks.map BitVec.toNat))

/-- The read count of a skein's ring (R253, R254): kept modulo 2^20. -/
def State.ringCount (s : State) (id count : Nat) : State :=
  if (s.sk id).state = 0 then s else s.setSk id { s.sk id with ringRd := count % 2 ^ 20 }

/-- RING_COUNT_FETCH. -/
def execRingCountFetch (id : BitVec 12) (count : BitVec 32) (s : State) : Res := .next (s.ringCount id.toNat count.toNat)

/-- DEADLINE_CHECK (R253): the skeins in QUEUED and PARKED against the current pick. -/
def State.deadlines (s : State) : State := (s.skeinsIn fun st => decide (st = 1) || decide (st = 4)).foldl State.missSk s

/-- DEADLINE_CHECK. -/
def execDeadlineCheck (s : State) : Res := .next s.deadlines

/-! ### SKN_ registers (R268, R270, R273, R275) -/

/-- STOP_SERVICE (R268): every skein in the ring parks, and a drain as a stop is requested. -/
def State.stopService (s : State) : State := ((s.skeinsIn inRing).foldl State.pendPark s).beginDrain true false none false

/-- STOP_SERVICE. -/
def execStopService (s : State) : Res := .next s.stopService

/-- The counters of R275. -/
def sknCountRegs : List Nat :=
  [R.SKN_COMMITS_LO, R.SKN_COMMITS_HI, R.SKN_VOIDS, R.SKN_MISSES, R.SKN_PFX_LOOKUPS, R.SKN_PFX_HITS, R.SKN_SWAPS, R.SKN_RING_STALLS]

/-- SKN_CLR_COUNTS (R270). -/
def State.sknClr (s : State) : State := { s with bank := bankClear sknCountRegs s.bank, reed := { s.reed with commits := 0 } }

/-- SKN_CLR_COUNTS. -/
def execSknClrCounts (s : State) : Res := .next s.sknClr

/-- SKN_ENT_SEL written (R273): the whole entry is latched. -/
def State.entSel (s : State) (v : Word) : State :=
  let s1 := (s.set F.SKN_ENT_SEL_WORD (bitsOf v.toNat 16 4)).set F.SKN_ENT_SEL_ID (bitsOf v.toNat 0 12)
  { s1 with reed := { s1.reed with entry := s.entryWords (bitsOf v.toNat 0 12) } }

/-- SKN_ENT_SEL_WRITE. -/
def execSknEntSelWrite (v : BitVec 32) (s : State) : Res := .next (s.entSel v)

/-- The sampler table as SKN_SAMP_DATA shows it: word `w` counts `4 × entry + word` (R259, R275). -/
def Reed.sampWord (r : Reed) (w : Nat) : Word :=
  match smGet none w r.samplerNext with
  | some v => v
  | none => smGet 0 w r.sampler

/-- SKN_SAMP_DATA written (R259, R275): the word changes for sampling at the next strobe; writes to entry 0 are ignored. The table is covered
(R269). -/
def State.sampWrite (s : State) (v : Word) : State :=
  let e := s.get F.SKN_SAMP_ADDR_ENTRY
  let w := 4 * e + s.get F.SKN_SAMP_ADDR_WORD
  if e = 0 then s
  else
    let s1 := { s with reed := { s.reed with samplerNext := smSet none w (some v) s.reed.samplerNext } }
    if s.reed.sampWord w = v then s1 else s1.sntWrite (segBlock 11) 0xC4

/-- SKN_SAMP_DATA_WRITE. -/
def execSknSampDataWrite (v : BitVec 32) (s : State) : Res := .next (s.sampWrite v)

/-- SKN_COMMITS_LO read (R275): the high half is latched. -/
def State.latchCommits (s : State) : State :=
  { s with latch := smSet none R.SKN_COMMITS_HI (some (BitVec.ofNat 32 (s.reed.commits / 2 ^ 32))) s.latch }

/-- SKN_COMMITS_LO_READ. -/
def execSknCommitsLoRead (s : State) : Res := .next s.latchCommits

end Sys2Proof.Machine
end

