-- ==== Sys2Proof/Machine/Ports.lean ====
section
/-!
DEFINITION. Operations on Helsia ports and PLLs that several chapters use (R373, R378 to R382, R398, R402, R406 to R411, R458, R459, R471):
flits sent and acknowledged, the states of ports with what follows when one leaves UP, and the PLLs of a power domain.
-/
namespace Sys2Proof.Machine

/-! ### Flits sent (R378, R380, R383) -/

/-- Flits of a transaction with `n` data bytes. -/
def txnFlits (n : Nat) : Nat := (16 + n + 243) / 244

/-- Traffic class and flits of a transaction on a port, none for anything else (R383, R384). -/
def outFlits (p : Nat) : Out → Nat × Nat
  | .memWr q tc _ d => if q = p then (tc, txnFlits d.length) else (0, 0)
  | .memRd q tc _ _ _ => if q = p then (tc, 1) else (0, 0)
  | .flush q tc _ _ => if q = p then (tc, 1) else (0, 0)
  | .objRd q _ _ _ _ _ => if q = p then (2, 1) else (0, 0)
  | .objWr q d => if q = p then (2, txnFlits (48 + d.length)) else (0, 0)
  | .regCpl q _ _ _ => if q = p then (0, 1) else (0, 0)
  | .echo q d => if q = p then (2, txnFlits d.length) else (0, 0)
  | .timing q _ => if q = p then (0, 1) else (0, 0)
  | .handoff q _ _ d => if q = p then (1, txnFlits d.length) else (0, 0)
  | _ => (0, 0)

/-- Credits of a class after training: the flits of its receive buffer (R379). -/
def clsCredits (tc : Nat) : Nat := if tc = 0 then 64 else if tc = 1 then 512 else if tc = 2 then 1024 else 0

/-- DATA flits that the retry buffer holds (R380). -/
def SendLink.keptFlits (l : SendLink) : Nat := sumNat (l.kept.map Prod.snd)

/-- The number of the oldest flit without an ACK. -/
def SendLink.oldest (l : SendLink) : Nat := l.sent - l.keptFlits

/-- A class has a flit and a credit (R379). -/
def SendLink.ready (l : SendLink) (tc : Nat) : Bool :=
  (l.wait.any fun x => decide (x.2.1 = tc)) && decide (smGet 0 tc l.used < clsCredits tc)

/-- The class that the port grants (R385): the lowest that is ready, but TC2 once in every 8 flits in which it is ready; the retry buffer
has room for the flit (R380). -/
def SendLink.grant (l : SendLink) : Option Nat :=
  if 1024 ≤ l.keptFlits then none
  else if l.ready 2 = true ∧ 7 ≤ l.turn then some 2
  else [0, 1, 2].find? l.ready

/-- A flit of the first waiting transaction of a class taken off; the transaction's place with the rest. -/
def takeFlit (tc : Nat) : List (Nat × Nat × Nat) → Option (Nat × List (Nat × Nat × Nat))
  | [] => none
  | (i, c, n) :: rest =>
    if c = tc then some (i, if n ≤ 1 then rest else (i, c, n - 1) :: rest)
    else match takeFlit tc rest with
      | none => none
      | some (j, r) => some (j, (i, c, n) :: r)

/-- One more flit of transaction `i` at the end of the retry buffer. -/
def keepFlit (i : Nat) : List (Nat × Nat) → List (Nat × Nat)
  | [] => [(i, 1)]
  | [(j, n)] => if j = i then [(j, n + 1)] else [(j, n), (i, 1)]
  | x :: y :: rest => x :: keepFlit i (y :: rest)

/-- Flits are sent while one may be, at most `n`. -/
def SendLink.send (l : SendLink) : Nat → SendLink
  | 0 => l
  | n + 1 => match l.grant with
    | none => l
    | some tc => match takeFlit tc l.wait with
      | none => l
      | some (i, w) =>
        SendLink.send { l with wait := w, kept := keepFlit i l.kept, sent := l.sent + 1, used := smSet 0 tc (smGet 0 tc l.used + 1) l.used,
                               turn := if tc = 2 ∨ l.ready 2 = false then 0 else l.turn + 1 } n

/-- The transactions that follow in `out` are taken up in order, each sent as far as it may be. -/
def SendLink.takeUp (p : Nat) (l : SendLink) : Nat → List Out → SendLink
  | k, [] => { l with taken := k }
  | k, o :: os =>
    let x := outFlits p o
    if x.2 = 0 then l.takeUp p (k + 1) os
    else SendLink.takeUp p ({ l with wait := l.wait ++ [(k, x.1, x.2)] }.send x.2) (k + 1) os

/-- The first `n` flits leave the retry buffer. -/
def dropFlits : Nat → List (Nat × Nat) → List (Nat × Nat)
  | _, [] => []
  | n, (i, k) :: rest => if k ≤ n then dropFlits (n - k) rest else (i, k - n) :: rest

/-- The sending side of a port with everything issued so far taken up: a port sends what it may as soon as it may. -/
def State.link (s : State) (p : Nat) : SendLink :=
  let l := smGet SendLink.empty p s.host.links
  l.takeUp p l.taken (s.out.drop l.taken)

/-- The sending side of a port replaced. -/
def State.setLink (s : State) (p : Nat) (l : SendLink) : State := { s with host := { s.host with links := smSet SendLink.empty p l s.host.links } }

/-- DATA flits that a port has sent, and those of them that an ACK covers. -/
def State.flitsSent (s : State) (p : Nat) : Nat := (s.link p).sent
def State.acked (s : State) (p : Nat) : Nat := (s.link p).oldest

/-- A write to host memory: class, address, bytes. -/
def Out.write : Out → Option (Nat × Nat × List Byte)
  | .memWr _ tc a d => some (tc, a, d)
  | _ => none

/-- Writes that are not covered by an ACK, in issue order: class, address, bytes. -/
def State.unacked (s : State) (p : Nat) : List (Nat × Nat × List Byte) :=
  let l := s.link p
  let open' := l.kept.map Prod.fst ++ l.wait.map Prod.fst
  ((rangeFrom 0 l.taken).filter fun i => decide (i ∈ open')).filterMap fun i => (s.out[i]?).bind Out.write

/-- The writes of a port that no ACK covers are issued again on other UP HOST ports (R406). -/
def State.reissue (s : State) (p : Nat) : State :=
  (s.unacked p).foldl (fun u w => u.hostWrite (clsAgain w.1) w.2.1 w.2.2) s

/-- The link of a port begins afresh: nothing waits or is kept, every credit is held, every receive buffer is empty (R379). -/
def State.linkFresh (s : State) (p : Nat) : State :=
  let l := s.link p
  { s with host := { s.host with
      links := smSet SendLink.empty p { SendLink.empty with taken := l.taken, sent := l.sent } s.host.links
      rxBuf := s.host.rxBuf.filter fun kv => decide (kv.1 / 4 ≠ p) } }

/-! ### States of ports (R382, R398, R402, R406 to R409) -/

/-- The set of UP ports has changed: NO_HOST shows, reads and records that waited go on (R402). -/
def State.portsChanged (s : State) : State :=
  let s1 := s.set F.HLS_STATUS_NO_HOST (b2n (decide (s.hostPorts = [])))
  if s1.hostPorts = [] then s1 else s1.issueReads.pumpWrites

/-- A port takes a state (R382); a port that carries no traffic has no lane locked. -/
def State.portTo (s : State) (p st : Nat) : State :=
  if s.portState p = st then s
  else
    let s1 := s.set F.HLS_PORT_STAT_STATE st p
    (if st = 3 ∨ st = 4 then s1 else s1.set F.HLS_PORT_STAT_LANE_LOCK 0 p).portsChanged

/-- Result of the last action on a port (R408). -/
def State.portResult (s : State) (p r : Nat) : State := s.set F.HLS_PORT_STAT_RESULT r p

/-- A PORT_STATE record (R397). -/
def State.portRecord (s : State) (p : Nat) : State :=
  s.beacon 10 (leBytes 1 p ++ leBytes 1 (s.portState p) ++ leBytes 1 (s.get F.HLS_PORT_STAT_RESULT p))

/-- A role that waited for the port to leave DRAINING applies (R409). -/
def State.takeRole (s : State) (p : Nat) : State :=
  match smGet none p s.host.roleNext with
  | none => s
  | some r => { s.set F.HLS_PORT_STAT_ROLE r p with host := { s.host with roleNext := smSet none p none s.host.roleNext } }

/-- A port enters DISABLED with result DONE and a record (R407). -/
def State.portDisabled (s : State) (p : Nat) : State := ((((s.portTo p 5).takeRole p).portResult p 2).portRecord p).portsChanged

/-- Ports of a VX instance: VX-0 feeds SN and SE, VX-1 SS and SW (R373, R424). -/
def vxPorts (x : Nat) : List Nat := rangeFrom (8 * x) 8

/-- VX of a port is on. -/
def State.vxOn (s : State) (p : Nat) : Bool := s.domOn (52 + p / 8)

/-- A swatch test on a port ends: the port returns to its state (R411). -/
def State.hlsSwatchEnd (s : State) (result errs : Nat) : State :=
  match s.host.swatch with
  | none => s
  | some (p, old) =>
    (((({ s with host := { s.host with swatch := none } }).set F.HLS_PORT_STAT_STATE old p).set F.HLS_SWATCH_STAT_RESULT result).set
      F.HLS_SWATCH_STAT_ERRORS (min errs (2 ^ 28 - 1))).portsChanged

/-- A swatch test on this port ends ABORTED. -/
def State.hlsSwatchDrop (s : State) (p : Nat) : State :=
  if (s.host.swatch.map Prod.fst) = some p then s.hlsSwatchEnd 7 0 else s

/-- An action that trains a port ends with a result. -/
def State.actionEnd (s : State) (p r : Nat) : State := if s.get F.HLS_PORT_STAT_RESULT p = 1 then s.portResult p r else s

/-- A port that waits for, or carries, traffic stops: it goes to a state, or to DISABLED where a DISABLE waits or drains it; a HOST port's writes
are issued again (R382, R406, R409). DISABLED and FAILED stay. -/
def State.portLeave (s : State) (p st result : Nat) : State :=
  let s0 := s.hlsSwatchDrop p
  let host := decide (s0.portRole p = 1) && (decide (s0.portState p = 3) || decide (s0.portState p = 4))
  let s1 :=
    if s0.portState p = 4 ∨ smGet false p s0.host.disableNext = true then
      ({ s0 with host := { s0.host with disableNext := smSet false p false s0.host.disableNext } }).portDisabled p
    else if s0.portState p = 5 ∨ s0.portState p = 6 then s0
    else (s0.actionEnd p result).portTo p st
  (if host then s1.reissue p else s1).linkFresh p

/-- A port begins to train (R381, R382, R408). -/
def State.portTrain (s : State) (p : Nat) : State :=
  ({ s with host := { s.host with trainFails := smSet 0 p 0 s.host.trainFails } }).portTo p 2

/-! ### The role map of a pattern (R375, R409) -/

/-- Roles of the loaded pattern: a boot HOST or LWS role stays, with ROLE_KEPT; a port in DRAINING takes its role later. -/
def State.roleMap (s : State) : State :=
  let n := s.pat.serial
  let role := fun p => if bootRole p = 0 then Config.xkpRole n p % 4 else bootRole p
  let late := (rangeFrom 0 16).filter fun p => decide (s.portState p = 4)
  let s1 := (rangeFrom 0 16).foldl (fun u p =>
    let v := u.set F.HLS_PORT_STAT_HOP (if role p = 3 then Config.xkpHop n p % 4 else 0) p
    if p ∈ late then v else v.set F.HLS_PORT_STAT_ROLE (role p) p) s
  let s2 := s1.set F.HLS_STATUS_ROLE_KEPT (b2n ((rangeFrom 0 16).any fun p => decide (bootRole p ≠ 0) && decide (Config.xkpRole n p % 4 ≠ bootRole p)))
  { s2 with host := { s2.host with roleNext := late.foldl (fun m p => smSet none p (some (role p)) m) s2.host.roleNext } }.portsChanged

/-! ### PLLs of a domain (R458, R459, R471) -/

/-- Fields of a quadrant. -/
def quadFields (q : Nat) : List Nat := (rangeFrom 0 60).filter fun f => decide (quadOf (regionOf f) = q)

/-- PLLs fed by a domain instance. -/
def domPlls (d : Nat) : List Nat :=
  if d < 32 then []
  else if d < 48 then fieldsOf (d - 32)
  else if d < 52 then (quadFields (d - 48)).map fun f => 68 + f
  else if d = 52 then 61 :: rangeFrom 128 8
  else if d = 53 then 62 :: 63 :: rangeFrom 136 8
  else [60, 64, 65, 66, 67, 144]

/-- The PLLs of an instance take a state; the time of a lock is not given (log entry 4). -/
def State.plls (s : State) (d st : Nat) : State :=
  (domPlls d).foldl (fun u n =>
    let v := u.set F.CLK_PLL_STAT_STATE st n
    if st = 2 then (v.set F.CLK_PLL_STAT_LOCK_TIME (Config.freeWord v.free).toNat n).useFree 1 else v) s

end Sys2Proof.Machine
end

