-- ==== Sys2Proof/Machine/PowerOps.lean ====
section
/-!
DEFINITION. Operations on power domains and ports that several chapters use (R382, R402, R424 to R432, R437 to R440, R463, R465): phases and
allowed depth, POWER records, switching domains on and off with what it does to tiles, routers, the spool and ports, and ramp requests.
-/
namespace Sys2Proof.Machine

/-! ### Phases and allowed depth (R424, R427 to R429) -/

/-- Fields of the region of a VL, VA or VS instance. -/
def domFields (d : Nat) : Nat := (fieldsOf (d % 16)).length

/-- Phases of an instance (R424). -/
def domPhases (d : Nat) : Nat :=
  if d < 16 then (if domFields d = 3 then 12 else 16)
  else if d < 32 then (if domFields d = 3 then 3 else 4)
  else if d < 48 then 3
  else if d < 54 then 6
  else if d = 54 then 4 else 0

/-- Phases at which an instance trips (R429). -/
def domTrip (d : Nat) : Nat :=
  if d < 16 then (if domFields d = 3 then 7 else 10)
  else if d < 48 then 1
  else if d < 52 then 4
  else if d < 54 then 2
  else 0

/-- Peak current of a field at each depth, VL and VA (R428). -/
def peakVl : List Nat := [595, 549, 427, 380, 342, 311, 285]
def peakVa : List Nat := [140, 130, 100, 89, 80, 73, 67]

/-- The shallowest depth that `k` phases of an instance allow; 7 none (R427, R429). -/
def allowedDepth (d k : Nat) : Nat :=
  if k ≤ domTrip d then 7
  else if d < 32 then firstIdx (fun p => decide (p * domFields d ≤ (k : Int) * 180)) ((if d < 16 then peakVl else peakVa).map Int.ofNat)
  else 0

/-- Phases in service. -/
def State.domOk (s : State) (d : Nat) : Nat := s.get F.VPA_DOM_STAT_OK d

/-- A POWER beacon record (R443). -/
def State.powerRec (s : State) (dom event phase : Nat) : State :=
  let i := if dom = 255 then 0 else dom
  let at' := fun (f : Fld) => if dom = 255 then 0 else s.get f i
  s.beacon 9 (leBytes 1 dom ++ leBytes 1 event ++ leBytes 1 phase ++ leBytes 1 (at' F.VPA_DOM_STAT_OK) ++
    leBytes 1 (at' F.VPA_DOM_STAT_ALLOWED) ++ leBytes 1 (at' F.VPA_DOM_STAT_CAUSE) ++ leBytes 2 (at' F.VPA_DOM_STAT_CURRENT))

/-! ### Domains on and off (R439, R440, R463, R465) -/

/-- State and cause of an instance. -/
def State.putDom (s : State) (d st cause : Nat) : State :=
  (s.set F.VPA_DOM_STAT_STATE st d).set F.VPA_DOM_STAT_CAUSE cause d

/-- What of a tile outlasts VL off: the NVW column with its records and, while VA holds, the scratchpad (R57, R59). -/
def tOff (keep : Bool) (t : Tile) : Tile :=
  { Tile.empty with nvw := t.nvw, programs := t.programs, secRows := t.secRows, secCrc := t.secCrc, secTile := t.secTile,
                    scratch := if keep then t.scratch else [] }

/-- VL of a region is off: its tiles are OFF (R59), and a field that a running pick counts on reports no done (R115). -/
def State.tilesOff (s : State) (r : Nat) (keep : Bool) : State :=
  let gone := (s.usedFields.filter fun f => decide (regionOf f = r))
  { s with
    tiles := mapTiles (fun a t => if regionOf (fieldOf a) = r then tOff keep t else t) s.tiles
    pm := { s.pm with unfired := if s.pm.running then dedupNat (s.pm.unfired ++ gone) else s.pm.unfired }
    pwr := { s.pwr with stretch := s.pwr.stretch.filter fun f => decide (regionOf f ≠ r) } }

/-- A running swatch test whose seam has an end in a region ends ABORTED when VS there goes off (R182). -/
def State.weftTestLost (s : State) (r : Nat) : State :=
  match s.weft.swatch with
  | some (sm, _) =>
    if regionOf (seamFields sm).1 = r ∨ (seamFields sm).2.map regionOf = some r then s.wftSwatchEnd 7 0 none else s
  | none => s

/-- VS of a region is off: its links go DOWN, its field clocks and endpoints stop (R175, R465). -/
def State.fabricOff (s0 : State) (r : Nat) : State :=
  let s := s0.weftTestLost r
  let s1 := { s with weft := s.weft.vsOff r, clk := { s.clk with stopped := s.clk.stopped.filter fun f => decide (regionOf f ≠ r) } }
  (fieldsOf r).foldl (fun u f => u.set F.WRP_EP_STAT_STATE 0 f) (s1.plls (32 + r) 0)

/-- VS of a region is at its setpoint: PLLs lock, endpoints are up (R459). -/
def State.fabricOn (s : State) (r : Nat) : State := (fieldsOf r).foldl (fun u f => u.set F.WRP_EP_STAT_STATE 1 f) (s.plls (32 + r) 2)

/-- A segment of the dump pen has no home channel in a quadrant; without a pattern nothing names its channels (R201, R566). -/
def Pattern.penSafe (p : Pattern) (seg q : Nat) : Bool :=
  decide (p.homes seg ≠ []) && (p.homes seg).all fun fc => decide (quadOf (regionOf fc.1) ≠ q)

/-- A place in a reserve channel lies outside a quadrant. -/
def outsideQuad (q : Nat) (x : Option (Nat × Nat)) : Bool :=
  match x with
  | some (c, _) => decide (quadOf (regionOf (c / 64)) ≠ q)
  | none => true

/-- An entry of the prefix index outlasts VM off in a quadrant (R201). -/
def Pattern.entryLasts (p : Pattern) (q : Nat) (e : PfxEntry) : Bool := outsideQuad q (p.rsaAt (bucketRsa e.bucket))

/-- VM of a quadrant is off: its channels are OFF, their DRAM contents, the page tables, the prefix index and the dumps there lost; a
loopback test there ends ABORTED (R201, R231, R432, R463, R566). -/
def State.dramOff (s : State) (q : Nat) : State :=
  let s0 := match s.spool.swatch with
    | some (c, _) => if quadOf (regionOf (c / 64)) = q then s.splSwatchEnd 7 0 else s
    | none => s
  let s1 := { s0 with spool := { s0.spool with
    dram := s0.spool.dram.filter fun kv => decide (quadOf (regionOf (kv.1 / 2 ^ 31 / 64)) ≠ q)
    tbl := s0.spool.tbl.filter fun kv => outsideQuad q (s0.pat.tblAt kv.1)
    xc := s0.spool.xc.filter fun kv => decide (quadOf (regionOf (kv.1 / 256)) ≠ q) },
                       reed := { s0.reed with prefixIdx := s0.reed.prefixIdx.filter (s0.pat.entryLasts q) },
                       dmp := { s0.dmp with pen := s0.dmp.pen.filter fun kv => s0.pat.penSafe kv.1 q } }
  let s2 := s1.plls (48 + q) 0
  { s2 with bank := (quadFields q).foldl (fun b f =>
      (rangeFrom 0 64).foldl (fun b2 c => bankSet F.SPL_CH_STATE_STATE (f * 64 + c) 0 b2) b) s2.bank }

/-- VM of a quadrant is on: its channels train (R240, R503). -/
def State.dramOn (s : State) (q : Nat) : State :=
  let s1 := s.plls (48 + q) 2
  { s1 with bank := (quadFields q).foldl (fun b f =>
      (rangeFrom 0 64).foldl (fun b2 c =>
        bankSet F.SPL_CH_STATE_STATE (f * 64 + c) 1 b2) b) s1.bank }

/-- What follows when an instance leaves its setpoint. -/
def State.domLost (s : State) (d : Nat) : State :=
  if d < 16 then s.tilesOff d (s.domOn (16 + d) || decide (s.get F.VPA_DOM_STAT_STATE (16 + d) = 5))
  else if d < 32 then s.tilesOff (d - 16) false
  else if d < 48 then s.fabricOff (d - 32)
  else if d < 52 then s.dramOff (d - 48)
  else if d < 54 then (vxPorts (d - 52)).foldl (fun u p => u.portLeave p 1 5) (s.plls d 0)
  else s

/-- An instance switched off with a cause. -/
def State.domOff (s : State) (d cause : Nat) : State :=
  if s.get F.VPA_DOM_STAT_STATE d = 6 then s
  else (s.putDom d 0 cause).domLost d

/-- An instance reaches its setpoint: ON, or CAPPED where its phases allow less than depth 0 (R440). -/
def State.domUp (s : State) (d : Nat) : State :=
  let k := s.domOk d
  let a := allowedDepth d k
  (s.set F.VPA_DOM_STAT_ALLOWED a d).set F.VPA_DOM_STAT_STATE (if a = 0 then 3 else 4) d

/-- A running swatch test, whose routers or channels lose power, ends ABORTED (R182). -/
def State.weftTestOff (s : State) : State := if s.weft.swatch.isSome then s.wftSwatchEnd 7 0 none else s

/-- A ramp that a region action asked for, alone or before a load or a re-weave asked for it too. -/
def rampAct (why : Nat) : Bool := decide (why = 1 ∨ 4 ≤ why)

/-- A region action runs: its region waits or ramps (R451). -/
def State.actionRuns (s : State) : Bool := (s.pwr.wait ++ s.pwr.ramp.toList).any fun x => rampAct x.2

/-- Every switched domain off with a cause; ramps end, and a region action that waits for one gets RAMP_TIMEOUT: it will not complete
(R420, R421, R441, R485, R486). -/
def State.allOff (s : State) (cause : Nat) : State :=
  let s0 := if s.actionRuns then s.weftTestOff.set F.VPA_REGION_STAT_RESULT 5 else s.weftTestOff
  let s1 := (rangeFrom 0 54).foldl (fun u d => u.domOff d cause) s0
  { s1 with pwr := { s1.pwr with wait := [], ramp := none } }

/-! ### Ramps (R437, R438, R476) -/

/-- Who asks for a region's ramp: 1 a region action, 2 a load, 3 a re-weave; 4 and 5 are a load and a re-weave that found a region action
waiting for the same ramp. -/
def rampWhy (r why : Nat) (asked : List (Nat × Nat)) : Nat :=
  if why ≠ 1 ∧ (asked.any fun x => decide (x.1 = r) && rampAct x.2) then why + 2 else why

/-- A region asks for its ramp: VL and VA wait, unless their soft start already runs for another that asked (R437, R440). -/
def State.rampAsk (s : State) (r why : Nat) : State :=
  let put := fun (u : State) (d : Nat) =>
    if u.get F.VPA_DOM_STAT_STATE d = 0 ∨ u.get F.VPA_DOM_STAT_STATE d = 5 then u.set F.VPA_DOM_STAT_STATE 1 d else u
  let s1 := put (put s r) (16 + r)
  let w := rampWhy r why (s.pwr.wait ++ s.pwr.ramp.toList)
  let others := s1.pwr.wait.filter fun x => decide (x.1 ≠ r)
  if why ≠ 1 ∧ (s.pwr.ramp.any fun x => decide (x.1 = r)) then { s1 with pwr := { s1.pwr with wait := others, ramp := some (r, w) } }
  else { s1 with pwr := { s1.pwr with wait := insertBy Prod.fst (r, w) others } }

/-- Both VL and VA of a region are on. -/
def State.regionOn (s : State) (r : Nat) : Bool := s.domOn r && s.domOn (16 + r)

end Sys2Proof.Machine
end

