-- ==== Sys2Proof/Machine/TileEvents.lean ====
section
/-!
DEFINITION. The events of a tile and the writes of its control register (02_tile.md): arrivals, the slot wheel, loading, done, and the
actions of TIL_CTRL. Row reads of the weight store stand in Nvw.lean.
-/
namespace Sys2Proof.Machine

/-! ### Arrivals (R36, R44, R49, R56) -/

/-- The 64-bit selection words of a shuttle by lane (R36). -/
def selWords (payload : List Byte) : SMap Nat :=
  (rangeFrom 0 (min 32 (payload.length / 8))).foldl (fun m l => smSet 0 l (leNat (sliceB payload (8 * l) 8)) m) []

/-- Lanes whose selection word is faulty, alone or against the tables of the commands that wait (R36). -/
def faultyLanes (t : Tile) : List Nat :=
  let self := (selLanes t).filter fun l => selFaulty (smGet 0 l t.sel)
  sortAsc (dedupNat (self ++ (t.queue.filter fun c => decide (c.kind ≠ 0)).flatMap fun c => badIndexLanes c.line t))

/-- The selection shuttle taken in: its words stand by lane, lanes already poisoned stay so, faulty ones are poisoned (R36). -/
def tSelect (sh : Shuttle) (t : Tile) : Tile :=
  let t1 := { t with sel := selWords sh.payload, selHere := true }
  let t2 := ((selLanes t1).filter fun l => bitAt (smGet 0 l t1.sel) 62).foldl (fun u l => tPoisonLane l u) t1
  let t3 := tSelFault (faultyLanes t2) t2
  if hPoison sh.hdr then tPoison t3 else t3

/-- SELECTION_WORD_ARRIVAL (R36). -/
def State.selArrive (s : State) (a : Nat) : State :=
  let t := s.tile a
  match t.inbox with
  | [] => s
  | sh :: rest =>
    let t1 := tSelect sh { t with inbox := rest }
    (faultyLanes { t with sel := selWords sh.payload }).foldl (fun u l => u.raise 4 17 1 a l) (s.setTile a t1)

/-- SELECTION_WORD_ARRIVAL. -/
def execSelectionWordArrival (t : TileAddr) (s : State) : Res := onTile t s fun _ => s.selArrive t.toNat

/-- Every line of a write lies in the window and in the scratchpad (R49). -/
def inWin (base limit : Nat) (lines : List Nat) : Bool :=
  lines.all fun l => decide (base ≤ l) && decide (l ≤ limit) && decide (l < spadLines)

/-- A write outside its window is discarded (R49, R60). -/
def tWinFault (t : Tile) : Tile := tPoison (tSet F.TIL_HAZ_WINDOW 1 t)

/-- WEFT_IN_WRITE (R44, R49): the oldest shuttle written in slot 0, or discarded; a poisoned shuttle poisons its lane. -/
def State.weftIn (s : State) (a : Nat) : State :=
  let t := s.tile a
  match t.inbox with
  | [] => s
  | sh :: rest =>
    let t0 := { t with inbox := rest }
    let t1 := if hPoison sh.hdr then tPoisonLane (hLane sh.hdr) t0 else t0
    let ad := 64 * hLine sh.hdr
    if inWin (tCfg F.TIL_WIN_WEFT_BASE t) (tCfg F.TIL_WIN_WEFT_LIMIT t) (linesOf ad sh.payload.length) then
      s.setTile a (tStage 0 ad sh.payload t1)
    else (s.setTile a (tWinFault t1)).hazRecord a

/-- WEFT_IN_WRITE. -/
def execWeftInWrite (t : TileAddr) (s : State) : Res := onTile t s fun _ => s.weftIn t.toNat

/-- SPOOL_IN_WRITE (R44, R49, R56): the oldest response; read data written in slot 1; a fault completion poisons the pass. -/
def State.spoolIn (s : State) (a : Nat) : State :=
  let t := s.tile a
  match t.spIn with
  | [] => s
  | r :: rest =>
    let t0 := { t with spIn := rest }
    if r.fault then (s.setTile a (tPoison (tSet F.TIL_HAZ_SPOOL 1 t0))).hazRecord a
    else if r.write then s.setTile a t0
    else if inWin (tCfg F.TIL_WIN_SPOOL_BASE t) (tCfg F.TIL_WIN_SPOOL_LIMIT t) (linesOf (64 * r.line) r.data.length) then
      s.setTile a (tStage 1 (64 * r.line) r.data t0)
    else (s.setTile a (tWinFault t0)).hazRecord a

/-- SPOOL_IN_WRITE. -/
def execSpoolInWrite (t : TileAddr) (s : State) : Res := onTile t s fun _ => s.spoolIn t.toNat

/-- TURN_END (R46 to R50, R30, R54): the writes of the turn, the fold and edge unit, the refill; with the record of its hazards. -/
def State.turnEnd (s : State) (a : Nat) : State :=
  let t := s.tile a
  let s1 := s.setTile a (tTurnEnd (s.ctx a) t)
  if hazardsOf t = [] then s1 else s1.hazRecord a

/-- TURN_END. -/
def execTurnEnd (t : TileAddr) (s : State) : Res := onTile t s fun _ => s.turnEnd t.toNat

/-! ### Done (R51, R73) -/

/-- Nothing of the tile is under way: the array and the fold and edge unit are empty, every accepted write is visible, every shuttle has
left the local port (R51). -/
def tQuiet (t : Tile) : Bool :=
  decide (t.staged = []) && decide (t.pendWrite = []) && decide (t.pendAcc = []) && decide (t.pendSet = []) && decide (t.drain = none) &&
    decide (t.building = []) && decide (t.outbox = [])

/-- Nothing holds a tile's done report: its program has ended, or it is HALTED (R51, R59). -/
def tDoneReady (t : Tile) : Bool := (decide (t.st = 3) || decide (t.st = 4)) && t.doneExec && !t.reported && tQuiet t

/-- The done report with the counts of the pick (R66, R73). -/
def tReport (mac idle stall : Word) (t : Tile) : Tile :=
  let rs := bankPut (rkey R.TIL_PERF_MAC 0) mac (bankPut (rkey R.TIL_PERF_NVW_IDLE 0) idle
    (bankPut (rkey R.TIL_PERF_STALL 0) stall t.regs))
  tWait 8 { t with reported := true, regs := rs }

/-- What a tile has sent has not all landed in the tiles it goes to (R20). -/
def State.unlanded (s : State) (a : Nat) : Bool :=
  s.weft.carries a || s.tiles.any fun kv => kv.2.inbox.any fun sh => decide (hSrc sh.hdr = a)

/-- TILE_DONE: not before the tile's output has landed (R20); withheld by an injection of kind 6 (R571). -/
def State.tileDone (s : State) (a : Nat) (mac idle stall : Word) : State :=
  if tDoneReady (s.tile a) = true ∧ s.unlanded a = false ∧ s.injHas 6 a = false then s.setTile a (tReport mac idle stall (s.tile a)) else s

/-- TILE_DONE. -/
def execTileDone (t : TileAddr) (mac idle stall : BitVec 32) (s : State) : Res :=
  onTile t s fun _ => s.tileDone t.toNat mac idle stall

/-! ### Slot images (R315 to R318) -/

/-- Bytes of a slot image, of its role part (lines 0 to 1,487), and the places of its parts (R315). -/
def imageBytes : Nat := 98304
def roleBytes : Nat := 95232
def trailerAt : Nat := 94208
def roleCrcAt : Nat := trailerAt + 465
def deltaAt : Nat := roleBytes + 828
def routerCrcAt : Nat := roleBytes + 2878

/-- Byte address of pattern slot `n` in a column (R31). -/
def slotAt (n : Nat) : Nat := 128 * (61440 + 768 * n)

/-- The image in a pattern slot of a tile. -/
def tImage (n : Nat) (t : Tile) : List Byte := smGetBytes (slotAt n) imageBytes t.nvw

/-- CRC-64 of a part that holds its own CRC at `at'` (R316). -/
def partCrc (bs : List Byte) (at' : Nat) : Nat := crc64 (bs.take at' ++ bs.drop (at' + 8))

/-- The role CRC as stored, and as computed. -/
def roleCrc (img : List Byte) : Nat := leNat (sliceB img roleCrcAt 8)
def roleCrcOf (img : List Byte) : Nat := partCrc (img.take roleBytes) roleCrcAt

/-- The router CRC as stored, and as computed. The CRC stands behind the room of 256 deltas: log entry 30. -/
def routerCrc (img : List Byte) : Nat := leNat (sliceB img routerCrcAt 8)
def routerCrcOf (img : List Byte) : Nat := partCrc (img.drop roleBytes) (routerCrcAt - roleBytes)

/-- Ring position of the role (R315). -/
def imageRing (img : List Byte) : Nat := leNat (sliceB img (trailerAt + 464) 1)

/-- Both CRCs of an image match, and an idle role's is IDLE_CRC (R316, R318, R325). -/
def imageOk (idle : Nat) (img : List Byte) : Bool :=
  decide (roleCrc img = roleCrcOf img) && decide (routerCrc img = routerCrcOf img) &&
    (decide (imageRing img ≠ 255) || decide (roleCrc img = idle))

/-- A number of the trailer. -/
def trailerNum (img : List Byte) (off n : Nat) : Nat := leNat (sliceB img (trailerAt + off) n)

/-- What the trailer sets in a tile (R315): entry points, windows, counter bindings, exclusive map, ring position. A binding has the
layout of a window register: log entry 30. -/
def tTrailer (img : List Byte) (t : Tile) : Tile :=
  { t with
    entry := (rangeFrom 0 4).foldl (fun m k => smSet 0 k (trailerNum img (2 * k) 2) m) []
    bind := (rangeFrom 0 16).foldl (fun m k =>
      let w := trailerNum img (16 + 4 * k) 4
      smSet (1, 0) k (bitsOf w 0 12, bitsOf w 16 12) m) []
    excl := (rangeFrom 0 96).foldl (fun m k => smSet 0 k (BitVec.ofNat 32 (trailerNum img (80 + 4 * k) 4)) m) []
    ringPos := imageRing img
    regs := bankPut (rkey R.TIL_WIN_WEFT 0) (BitVec.ofNat 32 (trailerNum img 8 4))
      (bankPut (rkey R.TIL_WIN_SPOOL 0) (BitVec.ofNat 32 (trailerNum img 12 4)) t.regs) }

/-- Lines 0 to 1,535 of the scratchpad rewritten from an image (R52, R315). -/
def tStatic (img : List Byte) (t : Tile) : Tile := { t with scratch := smSetBytes 0 (sliceB img 0 imageBytes) t.scratch }

/-- The end of a tile load (R59): READY when the CRCs match, else HALTED. The sequencer stands at the entry point of the mode in force and
waits for the strobe (R54, R66); a tile HALTED here owes no report before its next strobe. -/
def tLoaded (mode idle : Nat) (t : Tile) : Tile :=
  let img := tImage t.slot t
  let t1 := tTrailer img (tStatic img t)
  tWait 1 { t1 with st := if imageOk idle img then 2 else 4, programming := false, pc := BitVec.ofNat 16 (smGet 0 mode t1.entry),
                    reported := !imageOk idle img }

/-- A tile enters LOADING from a slot (R59). -/
def tLoading (slot : Nat) (t : Tile) : Tile :=
  { t with st := 1, slot := slot, active := false, doneExec := false, reported := false, haltReq := false, strobeHeld := false,
           queue := [], staging := [], replay := [], drain := none, building := [] }

/-- The slot that loads copy: the one being loaded, else the active one (R59, R325). -/
def State.loadSlot (s : State) : Nat :=
  match s.ld.load with
  | some (n, _) => n
  | none => s.get F.WRP_STATUS_ACTIVE_SLOT

/-- TILE_LOAD_COMMAND (R59): a tile that is OFF, with VL on; a load that runs is then in its phase "tiles" (R342). -/
def State.tileLoad (s : State) (a : Nat) : State :=
  if (s.tile a).st = 0 ∧ s.vlOn (fieldOf a) = true then
    (if s.ld.load.isSome then s.set F.WRP_LOAD_STAT_PHASE 5 else s).setTile a (tLoading s.loadSlot (s.tile a))
  else s

/-- TILE_LOAD_COMMAND. -/
def execTileLoadCommand (t : TileAddr) (s : State) : Res := onTile t s fun _ => s.tileLoad t.toNat

/-- TILE_LOAD_COMPLETE (R59, R316). -/
def State.tileLoaded (s : State) (a : Nat) : State :=
  if (s.tile a).st = 1 then s.setTile a (tLoaded (s.get F.PCK_STATUS_MODE) s.pat.idleCrc (s.tile a)) else s

/-- TILE_LOAD_COMPLETE. -/
def execTileLoadComplete (t : TileAddr) (s : State) : Res := onTile t s fun _ => s.tileLoaded t.toNat

/-- RELOAD_COMPLETE (R52, R59): the static area is rewritten; RUN follows at the next strobe. -/
def State.reloadDone (s : State) (a : Nat) : State :=
  let t := s.tile a
  if t.st = 6 ∧ t.reloaded = false then s.setTile a { tStatic (tImage t.slot t) t with reloaded := true } else s

/-- RELOAD_COMPLETE. -/
def execReloadComplete (t : TileAddr) (s : State) : Res := onTile t s fun _ => s.reloadDone t.toNat

/-! ### TIL_CTRL (R59, R64) -/

/-- A tile whose clock runs takes register writes (R465). -/
def State.tilLive (s : State) (a : Nat) : Bool := s.vlOn (fieldOf a) && decide ((s.tile a).st ≠ 5)

/-- LOAD: in READY, HALTED and DARNED. -/
def State.tilLoad (s : State) (a : Nat) : State :=
  let t := s.tile a
  if s.vlOn (fieldOf a) = true ∧ (t.st = 2 ∨ t.st = 4 ∨ t.st = 5) then
    s.setTile a (tLoading (s.get F.WRP_STATUS_ACTIVE_SLOT) t) else s

/-- TIL_LOAD. -/
def execTilLoad (t : TileAddr) (s : State) : Res := onTile t s fun _ => s.tilLoad t.toNat

/-- CLR_COUNTS: every count field of the block (R64): the error, hazard and arithmetic counts, the arrival counters' COUNT (R72) and the
counts of the last pick (R73). Log entry 31. -/
def tClrCounts (t : Tile) : Tile :=
  let u := tSet F.TIL_NVW_ERR_UE_COUNT 0 (tSet F.TIL_NVW_ERR_CE_COUNT 0 (tSet F.TIL_SP_ERR_UE_COUNT 0 (tSet F.TIL_SP_ERR_CE_COUNT 0
    (tSet F.TIL_HAZ_COUNT_COUNT 0 (tSet F.TIL_ARITH_CLAMP_COUNT 0 (tSet F.TIL_ARITH_SAT_COUNT 0 t))))))
  { u with arr := [], regs := bankPut (rkey R.TIL_PERF_MAC 0) 0 (bankPut (rkey R.TIL_PERF_NVW_IDLE 0) 0
    (bankPut (rkey R.TIL_PERF_STALL 0) 0 u.regs)) }

/-- A change of a tile that its clock lets through. -/
def State.tilDo (s : State) (a : Nat) (f : Tile → Tile) : State := if s.tilLive a then s.setTile a (f (s.tile a)) else s

/-- TIL_CLR_COUNTS. -/
def execTilClrCounts (t : TileAddr) (s : State) : Res := onTile t s fun _ => s.tilDo t.toNat tClrCounts

/-- DARN: any state but OFF. -/
def tDarn (t : Tile) : Tile :=
  if t.st = 0 then t
  else { t with st := 5, active := false, doneExec := false, queue := [], staging := [], drain := none, building := [], inbox := [],
                strobeHeld := false }

/-- TIL_DARN. -/
def execTilDarn (t : TileAddr) (s : State) : Res := onTile t s fun _ => s.tilDo t.toNat tDarn

/-- HALT_REQ: in RUN at the next DONE, in READY at once, with no report owed before the next strobe. -/
def tHaltReq (t : Tile) : Tile := if t.st = 3 then { t with haltReq := true } else if t.st = 2 then { t with st := 4, reported := true } else t

/-- TIL_HALT_REQ. -/
def execTilHaltReq (t : TileAddr) (s : State) : Res := onTile t s fun _ => s.tilDo t.toNat tHaltReq

/-- ENABLE written. -/
def tEnable (v : Bool) (t : Tile) : Tile := tSet F.TIL_CTRL_ENABLE (b2n v) t

/-- TIL_ENABLE. -/
def execTilEnable (t : TileAddr) (v : Bool) (s : State) : Res :=
  onTile t s fun u => (s.tilDo t.toNat (tEnable v)).sntTile t.toNat 0x08 (bankReg (rkey R.TIL_CTRL 0) u.regs)

/-- Reading TIL_NVW_LOG empties the log (R67). -/
def tLogRead (t : Tile) : Tile := tSet F.TIL_NVW_LOG_BITS 0 (tSet F.TIL_NVW_LOG_ROW 0 t)

/-- TIL_NVW_LOG_READ. -/
def execTilNvwLogRead (t : TileAddr) (s : State) : Res := onTile t s fun _ => s.tilDo t.toNat tLogRead

end Sys2Proof.Machine
end

