-- ==== Sys2Proof/Machine/Container.lean ====
section
/-!
DEFINITION. What the weight store and the loader share: objects fetched piece by piece (R282, R324, R405), the header, directory and
sections of a container (R320 to R322), the darn log and map (R288, R289), and the segments of the sentinel (R532, R533, R536).
-/
namespace Sys2Proof.Machine

/-! ### Objects (R297, R324, R405) -/

/-- The object kind of R405 that an OBJ_RD names: a container read for the weight store (R292, R300) is kept apart as 6. -/
def objKind (kind : Nat) : Nat := if kind = 6 then 2 else kind

/-- Key of an object in the LWS: the darn map digest, with the SERIAL for a container. -/
def State.objKey (s : State) (kind : Nat) : Nat :=
  leNat (sliceB s.nvw.mapDigest 0 48) +
    (if kind = 2 then ((s.ld.install.map fun i => i.fetch.key).getD 0) * 2 ^ 384
      else if kind = 6 then ((s.nvw.fetch.map Fetch.key).getD 0) * 2 ^ 384 else 0)

/-- An OBJ_RD: requests alternate between the UP LWS ports; without one it waits (R303, R405). -/
def State.objAsk (s : State) (kind off len : Nat) : State :=
  let tag := s.host.nextTag
  let s1 := { s with host := { s.host with nextTag := (tag + 1) % 4096, objs := s.host.objs ++ [(tag, kind, off, len)] } }
  match (s.upPorts 2)[tag % (s.upPorts 2).length]? with
  | none => s1
  | some p => s1.emit [.objRd p tag (objKind kind) (s.objKey kind) off len]

/-- The requests that wait, and the log entries that the copy in the LWS lacks, go out when an LWS port comes UP (R289, R303). -/
def State.objAgain (s : State) : State :=
  match (s.upPorts 2).head? with
  | none => s
  | some p =>
    let logs := s.nvw.logOut.map fun b => Out.objWr p b
    let asks := s.host.objs.map fun o => Out.objRd p o.1 (objKind o.2.1) (s.objKey o.2.1) o.2.2.1 o.2.2.2
    { s with nvw := { s.nvw with logOut := [] } }.emit (logs ++ asks)

/-- The next piece of a fetch is asked for: at most 4,096 B. -/
def State.fetchAsk (s : State) (f : Fetch) : State :=
  if f.want = 0 then s
  else if f.src = 1 then s.objAsk f.kind f.off (min 4096 f.want)
  else s.hostRead 0 (f.key + f.off) (min 4096 f.want) (.install f.off)

/-- A piece has arrived. -/
def Fetch.take (f : Fetch) (data : List Byte) : Fetch :=
  { f with off := f.off + data.length, want := f.want - data.length, buf := f.buf ++ data }

/-- The fetch goes on to an item of `n` bytes. -/
def Fetch.next (f : Fetch) (n : Nat) : Fetch := { f with want := n, buf := [] }

/-- Requests of a kind are given up. -/
def HostIf.dropObjs (h : HostIf) (kind : Nat) : HostIf := { h with objs := h.objs.filter fun o => decide (o.2.1 ≠ kind) }

/-! ### The container (R320 to R322) -/

/-- A number of a record. -/
def recN (r : List Byte) (off n : Nat) : Nat := leNat (sliceB r off n)

def recGlobal (r : List Byte) : Nat := recN r 128 4
def recSerial (r : List Byte) : Nat := recN r 140 4
def recSpare (r : List Byte) : Nat := recN r 125 1
def recLogBase (r : List Byte) : Nat := recN r 126 2

/-- The directory: kind, offset, length. -/
def recDir (r : List Byte) : List (Nat × Nat × Nat) :=
  (rangeFrom 0 (recN r 136 2)).map fun i => (recN r (1024 + 16 * i) 4, recN r (1024 + 16 * i + 4) 8, recN r (1024 + 16 * i + 12) 4)

/-- The section of a kind. -/
def recSec (r : List Byte) (kind : Nat) : List Byte :=
  match (recDir r).find? fun e => decide (e.1 = kind) with
  | some e => sliceB r e.2.1 e.2.2
  | none => []

/-- MAGIC, VERSION, and every kind once (R320, R321). -/
def recVersionOk (r : List Byte) : Bool :=
  decide (recN r 0 4 = 0x50584B31) && decide (recN r 4 4 = 1) &&
    (rangeFrom 1 9).all fun k => decide (((recDir r).filter fun e => decide (e.1 = k)).length = 1)

/-- The XKP digest, over header, directory and global sections; the signature block of 8 KiB follows (R322). -/
def recDigest (r : List Byte) : List Byte := sha384 (r.take (recGlobal r - 8192))

/-- Both signatures verify under the enrolled key (R322, R327, R502). -/
def State.recSigned (s : State) (r : List Byte) : Bool :=
  let blk := sliceB r (recGlobal r - 8192) 8192
  decide (s.trust.patKey ≠ []) && Config.ecdsaOk s.trust.patKey (recDigest r) blk && Config.hssOk s.trust.patKey (recDigest r) blk

/-- The TIMING section (R364): a header of 8 B with the entry count, then entries of 4 B, class in [7:0] and latency in [31:16]. -/
def recTiming (b : List Byte) : List (Nat × Nat) :=
  (rangeFrom 0 (min (recN b 0 4) ((b.length - 8) / 4))).map fun i => (recN b (8 + 4 * i) 1, recN b (10 + 4 * i) 2)

/-- What is refused in a TIMING section (R364, R367): the first class listed twice; else, unless STEPPING is 0, the first class whose own
latency is above the declared one. -/
def timingBad (stepping : Nat) (ts : List (Nat × Nat)) : Option Nat :=
  match (rangeFrom 0 256).find? fun c => decide (1 < (ts.filter fun x => decide (x.1 = c)).length) with
  | some c => some c
  | none =>
    if stepping = 0 then none
    else (rangeFrom 1 9).find? fun c => ts.any fun x => decide (x.1 = c) && decide (x.2 < ownLat c)

/-- The pattern of a record with a variant in effect. -/
def recPattern (r : List Byte) (variant : Nat) : Pattern :=
  { digest := recDigest r, lwiDigest := sliceB r 56 48, darnDigest := sliceB r 8 48, chainId := recN r 104 16, chainIndex := recN r 120 1,
    chainLength := recN r 121 1, stepping := recN r 123 1, modes := recN r 124 1, spare := recSpare r, logBase := recLogBase r,
    serial := recSerial r, tileMap := recSec r 1, fieldDigests := (rangeFrom 0 60).map fun f => sliceB (recSec r 2) (48 * f) 48,
    idleCrc := recN (recSec r 3) 0 8,
    foldK := (Config.secFolds (recSec r 4)).foldl (fun m g => smSet 0 g.1 g.2.1 m) [],
    foldN := (Config.secFolds (recSec r 4)).foldl (fun m g => smSet 0 g.1 g.2.2 m) [],
    formats := Config.secFormats (recSec r 5), timing := (recTiming (recSec r 6)).foldl (fun m x => smSet 0 x.1 x.2 m) [],
    parts := Config.secParts (recSec r 7),
    variants := (Config.secVariants (recSec r 8)).map fun v => ⟨v.1, v.2.1, v.2.2.1, v.2.2.2.1, v.2.2.2.2⟩,
    spareRoutes := recSec r 9, variant := variant }

/-- The variant in effect (R330): 0, or the one whose dark region NVW_REWEAVE names. -/
def State.variantOf (s : State) (p : Pattern) : Nat :=
  if s.get F.NVW_REWEAVE_VALID = 0 then 0
  else idxOf (s.get F.NVW_REWEAVE_DARK) (p.variants.map Variant.dark |>.set 0 16)

/-- The record of a slot. -/
def State.record (s : State) (slot : Nat) : List Byte := smGet [] slot s.ld.store

/-- The state of a slot (R345). -/
def State.slotState (s : State) (slot : Nat) : Nat := s.get (F.WRP_SLOT_STATE.nth slot)

/-- TILE_MAP gives a tile an image (R321). -/
def Pattern.maps (p : Pattern) (a : Nat) : Bool := tileOk a && mapBit p.tileMap (tileIndex a)

/-- Tiles that a map names, in address order. -/
def mapTilesOf (m : List Byte) : List Nat :=
  ((rangeFrom 0 34560).flatMap fun i => (rangeFrom 0 8).filterMap fun b =>
    if (m.getD i 0).getLsbD b then some (tileOfIndex (8 * i + b)) else none)

/-! ### The darn log and the effective map (R288, R289) -/

/-- An entry's 32 bytes. -/
def DarnEntry.bytes (e : DarnEntry) : List Byte :=
  leBytes 4 e.fromT ++ leBytes 4 e.toT ++ leBytes 1 e.kind ++ leBytes 1 e.cause ++ leBytes 6 e.pick ++ leBytes 8 e.time ++ zeroBytes 8

/-- The log is full (R289). -/
def State.logFull (s : State) : Bool := decide (4096 ≤ s.nvw.log.length)

/-- An entry is appended while the log has room: to the boot store, to the copy in the LWS as soon as a port is UP, and to the active slot's
log count when that was whole (R289, R319, R405). -/
def State.logDarn (s : State) (fromT toT kind cause : Nat) : State :=
  if s.logFull then s
  else
    let e : DarnEntry := ⟨fromT, toT, kind, cause, s.pm.pick, s.timeUs⟩
    let n := s.nvw.log.length
    let slot := s.get F.WRP_STATUS_ACTIVE_SLOT
    let f := F.WRP_SLOT_LOG_COUNT.nth slot
    let s1 := if s.get f = n then s.set f (n + 1) else s
    let s2 := { s1 with nvw := { s1.nvw with log := s1.nvw.log ++ [e] } }
    match (s2.upPorts 2).head? with
    | some p => s2.emit [.objWr p e.bytes]
    | none => { s2 with nvw := { s2.nvw with logOut := s2.nvw.logOut ++ [e.bytes] } }

/-- A good tile of the wafer by the factory map (R282, R288). Log entry 32. -/
def State.goodTile (s : State) (a : Nat) : Bool := tileOk a && !(mapBit s.nvw.map (tileIndex a))

/-- Tiles that entries of the log mark defective: a darn's T and a reserve tile removed (R289). Log entry 49. -/
def badTiles (l : List DarnEntry) : List Nat := (l.filter fun e => decide (e.kind = 1) || decide (e.kind = 5)).map DarnEntry.fromT

/-- The effective map marks a tile defective (R289). -/
def State.effectiveBad (s : State) (a : Nat) : Bool := !(s.goodTile a) || decide (a ∈ s.nvw.bad) || decide (a ∈ badTiles s.nvw.log)

/-- Log entries that the images of an XKP reflect, counted from the start of the log as it stands. -/
def State.logBaseOf (s : State) (p : Pattern) : Nat := if p.digest = s.nvw.logXkp then 0 else p.logBase

/-- The XKP is built against the effective darn map: its images reflect every entry of the log (R289, R302). -/
def State.builtNow (s : State) (p : Pattern) : Bool := decide (s.nvw.log.length ≤ s.logBaseOf p)

/-! ### Segments of the sentinel (R532, R533) -/

/-- The four registers of a tile segment. -/
def tileSegRegs : List Nat := [R.TIL_CTRL, R.TIL_NVW_THRESH, R.TIL_WIN_WEFT, R.TIL_WIN_SPOOL]

/-- Bytes of a tile segment. -/
def tileSeg (t : Tile) : List Byte :=
  smGetBytes 0 98304 t.scratch ++ tileSegRegs.flatMap fun a => leBytes 4 ((bankReg (rkey a 0) t.regs).toNat &&& covMask a)

/-- Bytes of a router segment. -/
def routerSeg (w : Weft) (r : Nat) : List Byte :=
  ((rangeFrom 0 60).flatMap fun i => leBytes 4 (w.tableData r 0 i)) ++ ((rangeFrom 0 64).flatMap fun i => leBytes 4 (w.tableData r 1 i)) ++
    (rangeFrom 0 128).flatMap fun i => leBytes 4 (w.tableData r 2 i)

/-- The covered registers of a block in ascending offset. -/
def coveredRegs (k : Nat) : List Nat :=
  sortAsc (((regsOf k).filter fun r => decide (r.cov ≠ 0)).flatMap fun r => (rangeFrom 0 r.count).map fun i => r.base + r.stride * i)

/-- A channel as the 16-bit word of the SPL segment. -/
def chanWord (fc : Nat × Nat) : List Byte := leBytes 2 (fc.1 * 64 + fc.2)

/-- The covered tables of a block. -/
def State.blockTables (s : State) (k : Nat) : List Byte :=
  if k = 11 then (rangeFrom 0 1024).flatMap fun w => leBytes 4 (s.reed.sampWord w).toNat
  else if k = 12 then
    ((rangeFrom 0 128).flatMap fun b => (s.pat.homes b).flatMap chanWord) ++
      (match s.pat.inEffect with
        | some v => v.reserve.flatMap chanWord
        | none => [])
  else []

/-- A covered register's bytes, SPL_POOL_LOW's band by band (R235; log entry 44). -/
def State.covBytes (s : State) (a : Nat) : List Byte :=
  if a = R.SPL_POOL_LOW then (rangeFrom 0 128).flatMap fun b => leBytes 4 ((s.reg a b).toNat &&& covMask a)
  else leBytes 4 ((s.reg a).toNat &&& covMask a)

/-- Bytes of a segment. -/
def State.segBytes (s : State) (id : Nat) : List Byte :=
  match id / 0x100000 with
  | 0 => tileSeg (s.tile (id % 0x80000))
  | 1 => routerSeg s.weft (id % 0x80000)
  | _ => ((coveredRegs (id % 0x80000)).flatMap s.covBytes) ++ s.blockTables (id % 0x80000)

/-- CRC of a segment as it stands. -/
def State.segCrc (s : State) (id : Nat) : Nat := crc32c (s.segBytes id)

/-- The segment is included (R532): a tile in READY or RUN, a router whose VS is on, a block with covered fields. -/
def State.segOn (s : State) (id : Nat) : Bool :=
  match id / 0x100000 with
  | 0 => tileOk id && (decide ((s.tile id).st = 2) || decide ((s.tile id).st = 3))
  | 1 => tileOk (id % 0x80000) && s.vsOn (fieldOf (id % 0x80000))
  | 2 => decide (coveredRegs (id % 0x80000) ≠ [])
  | _ => false

/-- The device value over records of segments in ascending ID; the map holds each CRC plus 1 (R533). -/
def deviceValue (m : SMap Nat) : Nat := crc32c (m.flatMap fun kv => leBytes 4 kv.1 ++ leBytes 4 (kv.2 - 1))

/-- A segment's reference as it stands, none while it is not included. -/
def State.sntRef (s : State) (m : SMap Nat) (id : Nat) : SMap Nat := smSet 0 id (if s.segOn id then s.segCrc id + 1 else 0) m

/-- Segments that the heddle controller commits by itself (R536): those that it has changed. -/
def State.sntOwn (s : State) (ids : List Nat) : State :=
  let refs := ids.foldl s.sntRef s.snt.refs
  let s1 := { s with snt := { s.snt with refs := refs } }
  if s.get F.SNT_STATUS_REF_VALID = 1 then s1.set F.SNT_REF_REF (deviceValue refs) else s1

/-! ### Ends of a load, and of skeins with their pages (R301, R326, R339) -/

/-- A running load ends with a code of R344 and the tile or item concerned. -/
def State.loadEnd (s : State) (code tile item : Nat) : State :=
  match s.ld.load with
  | none => s
  | some (_, start) =>
    let s1 := { s with ld := { s.ld with load := none } }
    ((((s1.set F.WRP_STATUS_LOAD_BUSY 0).set F.WRP_LOAD_STAT_RESULT code).set F.WRP_LOAD_STAT_TIME
      (min 65535 ((s.timeUs - start) / 10))).set F.WRP_LOAD_STAT_PHASE 0).setReg R.WRP_LOAD_INFO
        (BitVec.ofNat 32 (b2n (decide (code ≠ 2)) * 2 ^ 31 + item % 4096 * 2 ^ 19 + tile % 2 ^ 19))

/-- Every skein in QUEUED, PREFILL, DECODE or PARKED ends with a reason, those in DRAINING by their own; no page is left (R301, R326). -/
def State.endAll (s : State) (reason : Nat) : State :=
  let s1 := (s.faultAll reason).set F.SKN_STATUS_SWAP_RUN 0
  { s1 with spool := { s1.spool with coming := [] }, reed := { s1.reed with
      prefixIdx := [], target := none
      skeins := s1.reed.skeins.map fun kv =>
        (kv.1, { kv.2 with ptRoot := 0, swapped := false, swapOut := false, restore := false, copies := [], pfxRun := false, pfxLook := false }) } }

/-- Every band pool, the page table area and the prefix index empty (R300, R326, R507); the DRAM keeps its bytes. -/
def State.spoolInit (s : State) : State :=
  let s1 := { s with spool := { s.spool with tbl := [], blocks := [], frames := [], owned := [], xc := [], slots := [], coming := [], wbuf := [] },
                     reed := { s.reed with prefixIdx := [] } }
  { s1 with bank := (rangeFrom 0 128).foldl (fun b k =>
      bankSet F.SPL_POOL_MIN_MIN k poolFrames (bankSet F.SPL_POOL_FREE_FREE k poolFrames b)) s1.bank }.poolMarks 0

/-! ### Detours (R292, R329) -/

/-- Column and row on the wafer's grid of tiles. -/
def gridOf (a : Nat) : Nat × Nat :=
  let xy := fieldXY (fieldOf a)
  (64 * xy.1 + colOf a, 72 * xy.2 + rowOf a)

/-- Hops between two routers. -/
def hopsTo (a b : Nat) : Nat :=
  let p := gridOf a
  let q := gridOf b
  (p.1 - q.1) + (q.1 - p.1) + ((p.2 - q.2) + (q.2 - p.2))

/-- The port toward a tile on the dimension-ordered path: along the row, then along the column. -/
def gridPort (a b : Nat) : Nat :=
  let p := gridOf a
  let q := gridOf b
  if p.1 < q.1 then 1 else if q.1 < p.1 then 3 else if p.2 < q.2 then 2 else if q.2 < p.2 then 0 else 4

/-- The router beyond a port. -/
def beyond (r port : Nat) : Option Nat :=
  match neigh r port with
  | .mesh n _ => some n
  | .seam n _ => some n
  | _ => none

/-- The path from a router to another: each router with the port by which it is left; `n` bounds its length. -/
def pathTo (dest : Nat) : Nat → Nat → Option (List (Nat × Nat))
  | 0, r => if r = dest then some [] else none
  | n + 1, r =>
    if r = dest then some []
    else match beyond r (gridPort r dest) with
      | none => none
      | some r' => (pathTo dest n r').map fun l => (r, gridPort r dest) :: l

/-- The word of a router's multicast table that holds a group, else the lowest free one. -/
def Weft.mcastIdx (w : Weft) (r g : Nat) : Option Nat :=
  match (rangeFrom 0 64).find? fun i => bitAt (w.mcastWord r i) 31 && decide (bitsOf (w.mcastWord r i) 0 12 = g) with
  | some i => some i
  | none => (rangeFrom 0 64).find? fun i => !(bitAt (w.mcastWord r i) 31)

/-- The same of the fold table, in entries of two words. -/
def Weft.foldIdx (w : Weft) (r g : Nat) : Option Nat :=
  match (rangeFrom 0 64).find? fun i => bitAt (w.foldWord r (2 * i)) 31 && decide (bitsOf (w.foldWord r (2 * i)) 0 12 = g) with
  | some i => some i
  | none => (rangeFrom 0 64).find? fun i => !(bitAt (w.foldWord r (2 * i)) 31)

/-- A group's multicast mask at a router gains the ports `add` and loses `drop`; none when the table is full. -/
def Weft.mcastTo (w : Weft) (r g add drop : Nat) : Option Weft :=
  (w.mcastIdx r g).map fun i =>
    let old := (w.mcastMask r g).getD 0
    w.putTable r 1 i (2 ^ 31 + (Nat.lor (Nat.land old (31 - drop)) add) * 2 ^ 24 + g)

/-- A group's fold entry at a router; none when the table is full. -/
def Weft.foldTo (w : Weft) (r g : Nat) (coll : Bool) (mask port n : Nat) : Option Weft :=
  (w.foldIdx r g).map fun i =>
    (w.putTable r 2 (2 * i) (2 ^ 31 + b2n coll * 2 ^ 30 + mask * 2 ^ 24 + port * 2 ^ 21 + g)).putTable r 2 (2 * i + 1) n

/-- Multicast groups whose copy goes to a router's LOCAL port. -/
def Weft.localGroups (w : Weft) (r : Nat) : List Nat :=
  dedupNat ((rangeFrom 0 64).filterMap fun i =>
    if bitAt (w.mcastWord r i) 31 && bitAt (w.mcastWord r i) 28 then some (bitsOf (w.mcastWord r i) 0 12) else none)

/-- Fold groups that take a router's LOCAL input or end there. -/
def Weft.localFolds (w : Weft) (r : Nat) : List Nat :=
  dedupNat ((rangeFrom 0 64).filterMap fun i =>
    let x := w.foldWord r (2 * i)
    if bitAt x 31 && (bitAt x 28 || bitAt x 30) then some (bitsOf x 0 12) else none)

/-- A multicast group turned along a path from T to D (R292): T's LOCAL copy goes on along the path and is ejected at D. -/
def Weft.mcastDetour (w : Weft) (path : List (Nat × Nat)) (t d g : Nat) : Option Weft :=
  let w1 := path.foldl (fun o rp => o.bind fun u => u.mcastTo rp.1 g (2 ^ rp.2) (if rp.1 = t then 16 else 0)) (some w)
  w1.bind fun u => u.mcastTo d g 16 0

/-- The routers of a path after the first, each with its ports toward the path's start and its end. -/
def afterFirst : List (Nat × Nat) → List (Nat × Nat × Nat)
  | (_, p) :: (r, q) :: l => (r, opposite p, q) :: afterFirst ((r, q) :: l)
  | _ => []

/-- The port by which the last step of a path enters its end. -/
def lastBack : List (Nat × Nat) → Nat
  | [] => 4
  | [(_, p)] => opposite p
  | _ :: l => lastBack l

/-- A fold entry at a router that has none for the group (R169). -/
def Weft.foldNew (w : Weft) (r g : Nat) (coll : Bool) (mask port n : Nat) : Option Weft :=
  if (w.foldEntry r g).isSome then none else w.foldTo r g coll mask port n

/-- A fold group turned along a path (R292): D's contribution enters T's router by the path's port in place of LOCAL; where T was the
collector, the combined shuttle goes on to D, which collects. -/
def Weft.foldDetour (w : Weft) (path : List (Nat × Nat)) (t d g : Nat) : Option Weft :=
  match path, w.foldEntry t g with
  | (_, p) :: _, some (coll, mask, outPort, n) =>
    let loc := b2n (bitAt mask 4) * 16
    let back := lastBack path
    if coll then
      let w1 := w.foldTo t g false (mask - loc) p n
      let w2 := (afterFirst path).foldl (fun o x => o.bind fun u => u.foldNew x.1 g false (2 ^ x.2.1) x.2.2 n) w1
      w2.bind fun u => u.foldNew d g true (2 ^ back + loc) 4 n
    else
      let w1 := w.foldTo t g false (Nat.lor (mask - loc) (2 ^ p)) outPort n
      let w2 := (afterFirst path).foldl (fun o x => o.bind fun u => u.foldNew x.1 g false (2 ^ x.2.2) x.2.1 n) w1
      w2.bind fun u => u.foldNew d g false 16 back n
  | _, _ => none

/-- The detour of T's role to D (R292 step 4): every multicast copy and fold contribution of T's LOCAL port. None where a table is full or
a fold group would meet itself (R169). -/
def Weft.detour (w : Weft) (t d : Nat) : Option Weft :=
  match pathTo d 64 t with
  | none => none
  | some path =>
    let w1 := (w.localGroups t).foldl (fun o g => o.bind fun u => u.mcastDetour path t d g) (some w)
    (w.localFolds t).foldl (fun o g => o.bind fun u => u.foldDetour path t d g) w1

/-! ### Checks of trees and routes at a router (R169, R327) -/

/-- The way beyond a port exists: a selvage channel, or the router of a tile that is not missing and whose field has VS on (R169, R172). -/
def State.wayOk (s : State) (r port : Nat) : Bool :=
  match neigh r port with
  | .mesh n _ => s.goodTile n && s.vsOn (fieldOf n)
  | .seam n _ => s.goodTile n && s.vsOn (fieldOf n)
  | .selvage _ _ => true
  | .none => false

/-- Ports of a router's multicast and fold entries toward neighbours, by group. -/
def Weft.treePorts (w : Weft) (r : Nat) : List (Nat × Nat) :=
  ((rangeFrom 0 64).flatMap fun i =>
    let x := w.mcastWord r i
    if bitAt x 31 then ((rangeFrom 0 4).filter fun p => bitAt x (24 + p)).map fun p => (bitsOf x 0 12, p) else []) ++
  ((rangeFrom 0 64).flatMap fun i =>
    let x := w.foldWord r (2 * i)
    if bitAt x 31 && !(bitAt x 30) && decide (bitsOf x 21 3 < 4) then [(bitsOf x 0 12, bitsOf x 21 3)] else [])

/-- A router's entries name a copy or a contribution of its own tile. -/
def Weft.usesLocal (w : Weft) (r : Nat) : Bool := decide (w.localGroups r ≠ []) || decide (w.localFolds r ≠ [])

/-- ROUTE_DEAD at a router (R169): an image on a bad, DARNED or unpowered tile; a tree or route to nowhere. -/
def State.deadAt (s : State) (r : Nat) : Bool :=
  !(s.goodTile r) || !(s.vlOn (fieldOf r)) || (s.weft.usesLocal r && decide ((s.tile r).st = 5)) ||
    (s.weft.treePorts r).any (fun gp => !(s.wayOk r gp.2)) ||
    (rangeFrom 0 60).any fun f => decide (s.weft.fieldEntry r f < 4) && !(s.wayOk r (s.weft.fieldEntry r f))

/-- Neighbours that send a multicast group to a router. -/
def Weft.senders (w : Weft) (r g : Nat) : List Nat :=
  (rangeFrom 0 4).filterMap fun p => match linkEnd r p with
    | some (n, q) => if bitAt ((w.mcastMask n g).getD 0) q then some n else none
    | none => none

/-- The neighbours that send a multicast group lead back to a router: `n` bounds the walk. -/
def Weft.mcastBack (w : Weft) (g start : Nat) : Nat → Nat → Bool
  | 0, _ => false
  | n + 1, r =>
    match w.senders r g with
    | r' :: _ => decide (r' = start) || w.mcastBack g start n r'
    | [] => false

/-- A fold tree's way from a router comes back to it: `n` bounds the walk. -/
def Weft.foldBack (w : Weft) (g start : Nat) : Nat → Nat → Bool
  | 0, _ => false
  | n + 1, r =>
    match w.foldEntry r g with
    | some (false, _, p, _) =>
      match beyond r p with
      | some r' => decide (r' = start) || w.foldBack g start n r'
      | none => false
    | _ => false

/-- TREE_REVISIT at a router (R169, R327): a multicast group that two neighbours send it or that comes back to it, or a fold group that comes
back to it. -/
def Weft.revisitAt (w : Weft) (r : Nat) : Option Nat :=
  ((rangeFrom 0 64).find? fun i => bitAt (w.mcastWord r i) 31 &&
    (decide (1 < (w.senders r (bitsOf (w.mcastWord r i) 0 12)).length) || w.mcastBack (bitsOf (w.mcastWord r i) 0 12) r 4096 r)).map
    (fun i => bitsOf (w.mcastWord r i) 0 12) |>.orElse fun _ =>
  ((rangeFrom 0 64).find? fun i => bitAt (w.foldWord r (2 * i)) 31 &&
    w.foldBack (bitsOf (w.foldWord r (2 * i)) 0 12) r 4096 r).map (fun i => bitsOf (w.foldWord r (2 * i)) 0 12)

/-- Routers whose tables a detour writes: those of the path and D's. -/
def detourRouters (t d : Nat) : List Nat := ((pathTo d 64 t).getD []).map Prod.fst ++ [d]

/-- A detour passes the checks of R169 at the routers whose tables it writes (R292 step 4, R329). -/
def State.detourOk (s : State) (t d : Nat) (w : Weft) : Bool :=
  (detourRouters t d).all fun r => (w.treePorts r).all (fun gp => s.wayOk r gp.2) && (w.revisitAt r).isNone

/-- The detour of T's role to D, checked. -/
def State.detourTo (s : State) (t d : Nat) : Option Weft :=
  (s.weft.detour t d).bind fun w => if s.detourOk t d w then some w else none

end Sys2Proof.Machine
end

