-- ==== Sys2Proof/Machine/Nvw.lean ====
section
/-!
DEFINITION. The weight store (08_weight_store.md): row reads and their errors, scrubbing, PROGRAM_ALL and VERIFY_ALL, darns, rotations,
and re-weaves up to the loader's part, with the dark regions of R561 and R197.
-/
namespace Sys2Proof.Machine

/-! ### Queue of darns and rotations (R287, R293, R294) -/

/-- A tile that bears a section and a role (R309). -/
def State.bearsRole (s : State) (a : Nat) : Bool :=
  let t := s.tile a
  tileOk a && decide (t.st ≠ 0) && decide (t.st ≠ 5) && decide (t.ringPos ≠ 255) && decide (t.secRows ≠ 0)

/-- A darn, rotation or re-weave is under way. -/
def State.darning (s : State) : Bool := s.nvw.run.isSome || s.nvw.rot.isSome

/-! ### NVW_OP (R282, R307 to R309) -/

/-- NVW_OP's fields as a write leaves them. -/
def State.opWrite (s : State) (op target : Nat) : State := (s.set F.NVW_OP_OP op).set F.NVW_OP_TARGET target

/-- The result of an operation, with the tile of the first failure (R308). -/
def State.opResult (s : State) (code tile : Nat) : State := (s.set F.NVW_OP_STAT_RESULT code).set F.NVW_OP_INFO_TILE tile

/-- An NVW_OP operation, darn, rotation or re-weave is running (R303, R309). -/
def State.opRuns (s : State) : Bool := decide (s.nvw.op ≠ 0) || s.darning || s.nvw.weave.isSome

/-- A load or an installation is running. -/
def State.loaderRuns (s : State) : Bool := s.ld.load.isSome || s.ld.install.isSome

/-- An operation starts. -/
def State.opStart (s : State) (op : Nat) : State :=
  (({ s with nvw := { s.nvw with op := op } }.set F.NVW_STATUS_OP_BUSY 1).set F.NVW_OP_STAT_DONE 0).opResult 1 0

/-- What the running operation fetches and holds back is given up. -/
def State.fetchDrop (s : State) : State :=
  { s with nvw := { s.nvw with op := 0, fetch := none, jobs := [], backlog := [] }, host := (s.host.dropObjs 1).dropObjs 6 }

/-- The running NVW_OP operation ends with a result (R309). -/
def State.opEnd (s : State) (code tile : Nat) : State :=
  (s.fetchDrop.set F.NVW_STATUS_OP_BUSY 0).opResult code tile

/-! ### PROGRAM_ALL (R278 to R282) -/

/-- Sections and chunks of an LWI header. -/
def lwiSections (h : List Byte) : Nat := recN h 78 4
def lwiChunks (h : List Byte) : Nat := recN h 84 4
def lwiPayload (h : List Byte) : Nat := recN h 88 8
def chunkBytes : Nat := 2 ^ 26

/-- Section table entries (R279). -/
def lwiSecs (n : Nat) (tb : List Byte) : List Section :=
  (rangeFrom 0 n).map fun i => ⟨recN tb (32 * i) 4 % 2 ^ 19, recN tb (32 * i + 4) 2, recN tb (32 * i + 8) 8, recN tb (32 * i + 16) 8⟩

/-- The LWI digest (R280). -/
def State.lwiDigest (s : State) : List Byte := sha384 (s.nvw.hdr ++ s.nvw.tables)

/-- Twelve digest words shown from their bytes (R313, R346). -/
def putDigest (f : Fld) (d : List Byte) (b : SMap Word) : SMap Word :=
  (rangeFrom 0 12).foldl (fun m n => bankSet (f.nth n) 0 (recN d (4 * n) 4) m) b

/-- The bytes that such words show. -/
def State.digestShown (s : State) (f : Fld) : List Byte := (rangeFrom 0 12).flatMap fun n => leBytes 4 (s.get (f.nth n))

/-- Every VL off at a request (R282, R325). -/
def State.allVlOff (s : State) : State := (rangeFrom 0 16).foldl (fun u d => u.domOff d 1) s

/-- PROGRAM_ALL (R282): refused, or the fetch of the LWI begins. -/
def State.programAll (s : State) (target : Nat) : State :=
  let s0 := s.opWrite 1 target
  let slot := target % 4
  if s.opRuns = true ∨ s.loaderRuns = true ∨ s.pickState ≠ 0 then s0.opResult 3 0
  else if s.slotState slot ≠ 2 then s0.opResult 15 0
  else
    let s1 := if s.get F.WRP_STATUS_LOADED = 1 then (s0.set F.WRP_STATUS_LOADED 0).allVlOff else s0
    let s2 := (s1.set F.NVW_STATUS_PROGRAMMED 0).opStart 1
    let f : Fetch := ⟨1, 1, 0, 0, 512, []⟩
    { s2 with nvw := { s2.nvw with slot := slot, fetch := some f, stage := 0, chunk := 0, retried := false, secs := [] } }.fetchAsk f

/-- PROGRAM_ALL. -/
def execProgramAll (target : BitVec 19) (s : State) : Res := .next (s.programAll target.toNat)

/-- The first failing check of header and section table (R282 steps 3 and 4): a code of R309 and the tile. -/
def State.lwiCheck (s : State) : Option (Nat × Nat) :=
  let h := s.nvw.hdr
  let r := s.record s.nvw.slot
  if sliceB h 8 48 ≠ s.nvw.mapDigest then some (4, 0)
  else if s.lwiDigest ≠ sliceB r 56 48 then some (5, 0)
  else if recN h 56 16 ≠ recN r 104 16 ∨ recN h 72 1 ≠ recN r 120 1 ∨ recN h 73 1 ≠ recN r 121 1 then some (6, 0)
  else
    (s.nvw.secs.find? fun x => !(s.goodTile x.tile) || decide (regionOf (fieldOf x.tile) = recSpare r) || decide (61440 < x.rows)).map
      fun x => (7, x.tile)

/-- Bytes of chunk `i`. -/
def State.chunkLen (s : State) (i : Nat) : Nat := min chunkBytes (lwiPayload s.nvw.hdr - chunkBytes * i)

/-- The fetch goes on to an item of `n` bytes. -/
def State.nvwNext (s : State) (f : Fetch) (stage n : Nat) : State :=
  let f1 := f.next n
  { s with nvw := { s.nvw with fetch := some f1, stage := stage } }.fetchAsk f1

/-- Every section has verified: PROGRAMMED and the digest (R282). -/
def State.programEnd (s : State) : State :=
  if s.nvw.op = 1 ∧ s.nvw.stage = 2 ∧ s.nvw.backlog = [] ∧ lwiChunks s.nvw.hdr ≤ s.nvw.chunk ∧ s.get F.NVW_OP_STAT_DONE = s.nvw.secs.length then
    ({ s with bank := putDigest F.NVW_LWI_DIGEST_DIGEST s.lwiDigest s.bank }.set F.NVW_STATUS_PROGRAMMED 1).opEnd 2 0
  else s

/-- Stage 1 is complete: the checks, then the payload. -/
def State.lwiTables (s : State) (f : Fetch) : State :=
  let s1 := { s with nvw := { s.nvw with tables := f.buf, secs := lwiSecs (lwiSections s.nvw.hdr) f.buf } }
  match s1.lwiCheck with
  | some (code, tile) => s1.opEnd code tile
  | none => (s1.nvwNext f 2 (s1.chunkLen 0)).programEnd

/-- The section is there already, on a tile whose rows all read correctable (R282 step 6). -/
def secDone (x : Section) (t : Tile) : Bool :=
  decide (t.secRows = x.rows) && decide (t.secCrc = x.crc) && !t.programming && decide (t.ueRows = [])

/-- A tile starts a section: its stored record no longer holds, and the rows above the section are zeros (R276). -/
def secBegin (t : Tile) : Tile :=
  { t with programming := true, secRows := 0, secCrc := 0, rowOvr := [], ueRows := [], nvw := smClear 0 (128 * 61440 - 1) t.nvw }

/-- The part of a section that lies in a chunk is written to its tile. -/
def secPut (x : Section) (c0 : Nat) (bs : List Byte) (t : Tile) : Tile :=
  let lo := max x.off c0
  let hi := min (x.off + 128 * x.rows) (c0 + bs.length)
  let t1 := if c0 ≤ x.off then secBegin t else t
  { t1 with nvw := smSetBytes (lo - x.off) ((bs.drop (lo - c0)).take (hi - lo)) t1.nvw }

/-- Tiles that program now (R281). -/
def State.programs (s : State) : Nat := (s.tiles.filter fun kv => kv.2.programming).length

/-- Another tile may start to program (R281): 0 in ACTIVE_MAX is treated as 1. -/
def State.mayProgram (s : State) : Bool := decide (s.programs < max 1 (s.cfg F.NVW_PROG_CFG_ACTIVE_MAX))

/-- Parts of sections that have come go to their tiles in table order, as long as the next tile programs already or may start (R281, R282);
a section that is there already is skipped and counted at its first byte. `n` bounds the parts. -/
def State.feed : Nat → State → State
  | 0, s => s
  | n + 1, s =>
    match s.nvw.backlog with
    | [] => s
    | (x, c0, bs) :: rest =>
      let t := s.tile x.tile
      let s1 := { s with nvw := { s.nvw with backlog := rest } }
      if secDone x t then State.feed n (if c0 ≤ x.off then s1.add F.NVW_OP_STAT_DONE 1 else s1)
      else if t.programming = true ∨ s.mayProgram = true then State.feed n (s1.setTile x.tile (secPut x c0 bs t))
      else s

/-- The sections of a chunk, streamed to their tiles (R282 steps 5 and 6). -/
def State.streamChunk (s : State) (c0 : Nat) (bs : List Byte) : State :=
  let here := s.nvw.secs.filter fun x => decide (x.off < c0 + bs.length) && decide (c0 < x.off + 128 * x.rows)
  { s with nvw := { s.nvw with backlog := here.map fun x => (x, c0, bs) } }.feed here.length

/-- Once every part of a chunk is with its tile, the next chunk is asked for, or the operation ends (R282). -/
def State.chunkNext (s : State) : State :=
  match s.nvw.fetch with
  | none => s
  | some f =>
    if s.nvw.backlog ≠ [] ∨ f.want ≠ 0 then s
    else if s.nvw.chunk < lwiChunks s.nvw.hdr then s.nvwNext f 2 (s.chunkLen s.nvw.chunk)
    else s.programEnd

/-- LWI_CHUNK_ARRIVAL (R282): hashed, fetched again once, streamed. -/
def State.chunkIn (s : State) : State :=
  match s.nvw.fetch with
  | none => s
  | some f =>
    if s.nvw.op ≠ 1 ∨ s.nvw.stage ≠ 2 ∨ f.want ≠ 0 ∨ s.nvw.backlog ≠ [] ∨ lwiChunks s.nvw.hdr ≤ s.nvw.chunk then s
    else
      let i := s.nvw.chunk
      let n := lwiSections s.nvw.hdr
      if sha384 f.buf = sliceB s.nvw.tables (32 * n + 48 * i) 48 then
        { s with nvw := { s.nvw with chunk := i + 1, retried := false } }.streamChunk (chunkBytes * i) f.buf |>.chunkNext
      else if s.nvw.retried then s.opEnd 8 0
      else
        { s with nvw := { s.nvw with retried := true } }.nvwNext { f with off := f.off - f.buf.length } 2 f.buf.length

/-- LWI_CHUNK_ARRIVAL. -/
def execLwiChunkArrival (s : State) : Res := .next s.chunkIn

/-- CRC of the first `rows` rows of a column (R279). -/
def columnCrc (rows : Nat) (t : Tile) : Nat := crc64 (smGetBytes 0 (128 * rows) t.nvw)

/-- A tile stores its section record, TILE, ROWS and CRC, and its program count (R281, R285). They stand in the last 64 KiB of the calibration
record, in a layout that the spec does not give: log entry 126. -/
def secEnd (name rows crc : Nat) (t : Tile) : Tile :=
  { t with programming := false, secTile := name, secRows := rows, secCrc := crc, programs := t.programs + 1 }

/-- The tile's record is stored, and NVW_PROG_MAX shows the highest count (R281, R312). -/
def State.secStore (s : State) (a name rows crc : Nat) : State :=
  let t := secEnd name rows crc (s.tile a)
  (s.setTile a t).set F.NVW_PROG_MAX_COUNT (max (s.get F.NVW_PROG_MAX_COUNT) (min 65535 t.programs))

/-- PROGRAM_ALL ends ABORTED; VERIFY_ALL completes within its command (R306). -/
def State.nvwAbort (s : State) : State := if s.nvw.op = 1 then s.opEnd 14 0 else s

/-- NVW_ABORT (R306): ends PROGRAM_ALL; VERIFY_ALL ends within its command. -/
def execNvwAbort (s : State) : Res := .next s.nvwAbort

/-- NVW_COUNTS cleared (R306). -/
def State.nvwClr (s : State) : State := { s with bank := bankClear [R.NVW_COUNTS] s.bank }

/-- NVW_CLR_COUNTS (R306). -/
def execNvwClrCounts (s : State) : Res := .next s.nvwClr

/-- The first tile whose section does not match its record or has a row that does not read (R284). -/
def State.badSection (s : State) : Option Nat :=
  (s.tiles.find? fun kv => decide (kv.2.secRows ≠ 0) &&
    (decide (columnCrc kv.2.secRows kv.2 ≠ kv.2.secCrc) || kv.2.ueRows.any fun r => decide (r.1 < kv.2.secRows))).map Prod.fst

/-- VERIFY_ALL (R284): changes no row; a mismatch clears PROGRAMMED. -/
def State.verifyAll (s : State) (target : Nat) (bad : Option Nat) : State :=
  let s0 := s.opWrite 2 target
  if s.opRuns = true ∨ s.loaderRuns = true ∨ s.pickState ≠ 0 then s0.opResult 3 0
  else match (match s.badSection with
      | some t => some t
      | none => bad) with
    | some t => ((s0.set F.NVW_STATUS_PROGRAMMED 0).set F.NVW_STATUS_VERIFY_FAIL 1).opResult 9 t
    | none =>
      (s0.set F.NVW_OP_STAT_DONE ((s.tiles.filter fun kv => decide (kv.2.secRows ≠ 0)).length)).opResult 2 0

/-- VERIFY_ALL. -/
def execVerifyAll (target : BitVec 19) (bad : Option (BitVec 19)) (s : State) : Res :=
  .next (s.verifyAll target.toNat (bad.map BitVec.toNat))

/-! ### The reserve (R290, R292, R312) -/

/-- The tile that a tile of the spare region stands for under the variant in effect, else itself (R299). -/
def Pattern.origin (p : Pattern) (a : Nat) : Nat :=
  match p.inEffect.bind fun v => v.mapping.find? fun x => decide (x.2 = a) with
  | some x => x.1
  | none => a

/-- The tile as the variant in effect maps it (R299). -/
def Pattern.mapped (p : Pattern) (a : Nat) : Nat :=
  match p.inEffect.bind fun v => v.mapping.find? fun x => decide (x.1 = a) with
  | some x => x.2
  | none => a

/-- The ring position of a darn tile: where it was returned, else where the pattern placed it, or the tile that it stands for (R299). -/
def State.darnPosOf (s : State) (a : Nat) : Nat :=
  match smGet 0 a s.nvw.returned with
  | p + 1 => p
  | 0 => match smGet 0 (s.pat.origin a) s.nvw.returned with
    | p + 1 => p
    | 0 => Config.darnPos s.pat.serial (s.pat.origin a)

/-- The active slot of a tile in use holds the idle program: its own place in the pattern, or that of the dark tile it stands for (R299). -/
def State.idleIn (s : State) (a : Nat) : Bool :=
  s.pat.maps (s.pat.origin a) && decide (s.pat.mapped (s.pat.origin a) = a) &&
    decide (imageRing (tImage (s.get F.WRP_STATUS_ACTIVE_SLOT) (s.tile a)) = 255)

/-- Darn tiles of a position: TOTAL and FREE (R312). -/
def State.darnTotal (s : State) (p : Nat) : Nat :=
  (s.tiles.filter fun kv => (s.idleIn kv.1 || decide (smGet 0 kv.1 s.nvw.roles ≠ 0)) && decide (kv.1 ∉ s.nvw.removed) &&
    decide (s.darnPosOf kv.1 = p)).length
def State.darnFree (s : State) (p : Nat) : Nat :=
  (s.tiles.filter fun kv => s.idleIn kv.1 && decide (kv.1 ∉ s.nvw.removed) && decide (s.darnPosOf kv.1 = p)).length

/-- The free darn tiles for a role: READY with the idle role, of T's position, not removed, not tried, within 24 hops (R292). -/
def State.darnTiles (s : State) (t : Nat) (tried : List Nat) : List Nat :=
  (s.tiles.filter fun kv => decide (kv.2.st = 2) && decide (kv.2.ringPos = 255) && s.idleIn kv.1 && decide (kv.1 ∉ s.nvw.removed) && !(s.effectiveBad kv.1) &&
    decide (kv.1 ∉ tried) && decide (s.darnPosOf kv.1 = (s.tile t).ringPos) && decide (hopsTo t kv.1 ≤ 24)).map Prod.fst

/-- The one with the fewest hops, ties to the lowest address. -/
def State.nearest (s : State) (t : Nat) (tried : List Nat) : Option Nat := (sortBy (fun d => hopsTo t d) (s.darnTiles t tried)).head?

/-! ### Darns (R292 to R296) -/

/-- T's section and role program copied into D (R292 step 2). -/
def darnCopy (slot : Nat) (src d : Tile) : Tile :=
  let m := smSetBytes 0 (smGetBytes 0 (128 * src.secRows) src.nvw) (secBegin d).nvw
  { secBegin d with nvw := smSetBytes (slotAt slot) (smGetBytes (slotAt slot) roleBytes src.nvw) m }

/-! ### Rows from the LWS (R292, R295, R300, R405) -/

/-- The tile whose role a tile bears: the one it has taken over, else its own (R292). -/
def State.roleOf (s : State) (a : Nat) : Nat :=
  match smGet 0 a s.nvw.roles with
  | 0 => a
  | k + 1 => k

/-- The tile whose container image holds the role program that a tile bears: for one that has returned to the reserve, a darn tile of the
pattern (R295, R318). -/
def State.imageOf (s : State) (a : Nat) : Nat :=
  if smGet 0 a s.nvw.returned ≠ 0 ∧ smGet 0 a s.nvw.roles = 0 then
    (((mapTilesOf s.pat.tileMap).find? fun b => decide (smGet 0 b s.nvw.returned = 0) && decide (Config.darnPos s.pat.serial b < 130)).getD a)
  else s.roleOf a

/-- Offset of a tile's image in the container (R322). -/
def State.imageOff (s : State) (a : Nat) : Nat :=
  recGlobal (s.record (s.get F.WRP_STATUS_ACTIVE_SLOT)) + imageBytes * idxOf a (mapTilesOf s.pat.tileMap)

/-- Offset of a section in the LWI (R278, R279). -/
def State.sectionOff (s : State) (x : Section) : Nat :=
  512 + 32 * lwiSections s.nvw.hdr + 48 * lwiChunks s.nvw.hdr + x.off

/-- A fetch for the weight store begins with its stage. -/
def State.fetchFrom (s : State) (stage kind key off n : Nat) : State :=
  let f : Fetch := ⟨1, kind, key, off, n, []⟩
  { s with nvw := { s.nvw with fetch := some f, stage := stage } }.fetchAsk f

/-- The first job's next item is asked for: the LWI's header where no section table is held (stages 3 and 4), the section (5), the role
program (6). A tile whose turn comes while no further tile may program waits (R281). -/
def State.jobStart (s : State) : State :=
  match s.nvw.jobs with
  | [] => { s with nvw := { s.nvw with fetch := none } }
  | (x, b) :: _ =>
    if s.nvw.secs = [] then s.fetchFrom 3 1 0 0 512
    else if (s.tile b).programming = false ∧ s.mayProgram = false then { s with nvw := { s.nvw with fetch := none } }
    else match s.nvw.secs.find? fun y => decide (y.tile = s.roleOf x) with
      | some y => s.fetchFrom 5 1 0 (s.sectionOff y) (128 * y.rows)
      | none => s.fetchFrom 6 6 s.pat.serial (s.imageOff (s.imageOf x)) roleBytes

/-- Jobs are given, and the first one starts. -/
def State.jobsPut (s : State) (l : List (Nat × Nat)) : State := { s with nvw := { s.nvw with jobs := l } }.jobStart

/-- A job that waits for a place goes on (R281). -/
def State.jobGo (s : State) : State := if s.nvw.jobs ≠ [] ∧ s.nvw.fetch = none then s.jobStart else s

/-- The first job has all it asks for. -/
def State.jobDone (s : State) : State := { s with nvw := { s.nvw with jobs := s.nvw.jobs.drop 1 } }.jobStart

/-! ### Requests for darns and rotations (R287, R293, R294) -/

/-- Urgent darns act on the ring at once: HALT (R294). -/
def State.urgentHalt (s : State) (group : Nat) : State := if group = 0 then s.halt else s

/-- A request of a tile that waits already: one that is more urgent stands where it arrives in its new group (R293); a host's request makes
of a rotation the darn that the host asks for, in its place (R294). -/
def mergeReq (r : DarnReq) (l : List DarnReq) : List DarnReq :=
  match l.find? fun q => decide (q.tile = r.tile) with
  | none => l
  | some q =>
    if r.group < q.group then (l.filter fun x => decide (x.tile ≠ r.tile)) ++ [{ r with host := q.host || r.host }]
    else if r.host then l.map fun x => if x.tile = r.tile then { r with group := q.group } else x
    else l

/-- A request enters the queue of 16 (R293). -/
def queueReq (r : DarnReq) (l : List DarnReq) : List DarnReq :=
  if l.any fun q => decide (q.tile = r.tile) then mergeReq r l else if l.length < 16 then l ++ [r] else l

/-- The running rotation of a tile becomes urgent (R303): rows that D does not hold whole yet come to it from the LWS. -/
def State.runUrgent (s : State) (d : DarnRun) : State :=
  let s1 := { s with nvw := { s.nvw with run := some { d with req := { d.req with group := 0 } } } }
  if d.switched = false ∧ s.nvw.jobs = [] ∧ (s.tile d.d).programming = true then (s1.setTile d.d (secBegin (s1.tile d.d))).jobsPut [(d.req.tile, d.d)]
  else s1

/-- A request for a darn or a rotation (R293): queued, merged, or dropped; an urgent one halts the pick master, and with AUTO_DARN = 0 only
that and a record (R294). A request of a region that is being re-woven is discarded (R303). Log entry 33. -/
def State.askDarn (s : State) (r : DarnReq) : State :=
  if s.nvw.weave = some (regionOf (fieldOf r.tile)) then s
  else if r.group = 0 ∧ s.get F.NVW_CTRL_AUTO_DARN = 0 then s.halt.raise 24 14 3 r.tile r.cause
  else
    let s1 := s.urgentHalt r.group
    match s1.nvw.run with
    | some d =>
      if d.req.tile = r.tile then (if r.group = 0 then s1.runUrgent d else s1)
      else { s1 with nvw := { s1.nvw with queue := queueReq r s1.nvw.queue } }
    | none => { s1 with nvw := { s1.nvw with queue := queueReq r s1.nvw.queue } }

/-- REFRESH_BITS and URGENT_BITS in force: 0 and 7 as 6 (R310). -/
def State.bitsCfg (s : State) (f : Fld) : Nat := if s.cfg f = 0 ∨ s.cfg f = 7 then 6 else s.cfg f

/-- What corrected bits of a row ask for (R287). -/
def State.worstRow (s : State) (a bits : Nat) : State :=
  if s.bearsRole a = false then s
  else if s.bitsCfg F.NVW_THRESH_URGENT_BITS ≤ bits then s.askDarn ⟨a, true, 2, 1, false⟩
  else if s.bitsCfg F.NVW_THRESH_REFRESH_BITS ≤ bits then s.askDarn ⟨a, true, 3, 2, false⟩
  else s

/-! ### Row reads (R38, R39, R67) -/

/-- A row is logged, or OVF set while the log is unread (R67). -/
def tLogRow (row bits : Nat) (t : Tile) : Tile :=
  if tGet F.TIL_NVW_LOG_BITS t ≠ 0 then tSet F.TIL_NVW_LOG_OVF 1 t
  else tSet F.TIL_NVW_LOG_BITS bits (tSet F.TIL_NVW_LOG_ROW row t)

/-- CE_BITS as it acts: 0 logs none, 7 is treated as 6 (R67). -/
def ceBits (t : Tile) : Nat :=
  let b := tCfg F.TIL_NVW_THRESH_CE_BITS t
  if b = 0 then 8 else if b = 7 then 6 else b

/-- A corrected row (R38). -/
def tCorrected (row bits : Nat) (t : Tile) : Tile :=
  let t1 := tAdd F.TIL_NVW_ERR_CE_COUNT 1 t
  if ceBits t ≤ bits then tSet F.TIL_NVW_ERR_CE_THRESH_HIT 1 (tLogRow row bits t1) else t1

/-- A row that service delivers next with other bytes than the column's: into the staging buffer when it holds the row, with the mark of an
uncorrectable row, else to the next pass (R34, R38, R39). -/
def tRowPut (row : Nat) (bs : List Byte) (bad : Bool) (t : Tile) : Tile :=
  if t.staging.any fun x => decide (x.row = row) then
    { t with staging := t.staging.map fun x => if x.row = row then ⟨row, bs, bad⟩ else x }
  else { t with rowOvr := smSet [] row bs t.rowOvr }

/-- An uncorrectable row (R39): counted and logged; in service zeros are delivered and every output of the pass is poisoned, at once or, for
a row that the staging buffer holds for a pass to come, when that pass takes it. -/
def tUncorrectable (row : Nat) (service : Bool) (t : Tile) : Tile :=
  let t1 := tSet F.TIL_NVW_ERR_UE 1 (tAdd F.TIL_NVW_ERR_UE_COUNT 1 (tLogRow row 7 t))
  let t2 := { t1 with ueRows := smSet false row true t1.ueRows }
  if service then
    (if t.staging.any fun x => decide (x.row = row) then tRowPut row (zeroBytes 128) true t2
     else tPoison (tRowPut row (zeroBytes 128) true t2))
  else t2

/-- A row read as the column holds it; in service that is what the next pass receives. -/
def tRowClean (row : Nat) (service : Bool) (t : Tile) : Tile :=
  let t1 := { t with ueRows := smSet false row false t.ueRows }
  if service then
    { t1 with
      rowOvr := smSet [] row [] t1.rowOvr
      staging := t1.staging.map fun x => if x.row = row then ⟨row, smGetBytes (128 * row) 128 t1.nvw, false⟩ else x }
  else t1

/-- What a row with 8 or more bits in error delivers: bytes that the spec leaves open (R38). -/
def State.wrongRow (s : State) : List Byte := (rangeFrom 0 128).map fun i => Config.freeByte s.free i

/-- Key of a row. -/
def rowKey (a row : Nat) : Nat := a * 65536 + row

/-- An uncorrectable row of a tile (R39, R287): twice in a row in service makes an urgent darn; in a scrub SCRUB_UE and a rotation, or a
reserve tile removed (R303). -/
def State.rowUe (s : State) (a row : Nat) (service inj : Bool) : State :=
  let s1 := s.setTile a (tUncorrectable row service (s.tile a))
  if service then
    let s2 := s1.raise 1 17 2 a ((bankReg (rkey R.TIL_NVW_LOG 0) (s1.tile a).regs).toNat) inj
    let again := smGet false (rowKey a row) s.nvw.lastUe
    let s3 := { s2 with nvw := { s2.nvw with lastUe := smSet false (rowKey a row) (!again) s2.nvw.lastUe } }
    if again = true ∧ s3.bearsRole a = true then s3.askDarn ⟨a, false, 1, 0, false⟩ else s3
  else
    let s2 := s1.set F.NVW_STATUS_SCRUB_UE 1
    if s2.bearsRole a then s2.askDarn ⟨a, true, 1, 1, false⟩
    else if (s2.tile a).ringPos = 255 ∧ (s2.tile a).st = 2 then
      ({ s2 with nvw := { s2.nvw with removed := s2.nvw.removed ++ [a] } }.logDarn a a 5 1).raise 24 14 3 a 1
    else s2

/-- The row has been read without being found uncorrectable: two such reads in a row are broken off (R287). -/
def State.rowSeen (s : State) (a row : Nat) (service : Bool) : State :=
  if service then { s with nvw := { s.nvw with lastUe := smSet false (rowKey a row) false s.nvw.lastUe } } else s

/-- A row of 1 to 6 bits in error. -/
def State.rowCe (s : State) (a row bits : Nat) (service : Bool) : State :=
  ((s.setTile a (tCorrected row bits (tRowClean row service (s.tile a)))).rowSeen a row service).worstRow a bits

/-- A row read with `errs` bits in error (R38): above 7 one of three courses, not defined which: found uncorrectable; corrected to wrong
values, which counts, logs and asks for a rotation like any row of 1 to 6 corrected bits, how many being open; or passed unchanged as a
row without errors. Wrong bytes reach a pass only from a service read. -/
def State.rowRead (s : State) (a row errs : Nat) (service inj : Bool) : State :=
  if errs = 0 then (s.setTile a (tRowClean row service (s.tile a))).rowSeen a row service
  else if errs ≤ 6 then s.rowCe a row errs service
  else if errs = 7 then s.rowUe a row service inj
  else
    let put := fun (t : Tile) => if service then tRowPut row s.wrongRow false t else t
    let s0 := s.useFree 2
    match Config.freeChoice s.free % 3 with
    | 0 => s0.rowUe a row service inj
    | 1 =>
      let s1 := s0.rowCe a row (1 + Config.freeChoice (s.free + 1) % 6) service
      s1.setTile a (put (s1.tile a))
    | _ =>
      let s1 := s0.setTile a (tRowClean row service (s0.tile a))
      (s1.setTile a (put (s1.tile a))).rowSeen a row service

/-- NVW_ROW_READ: the port of a tile whose clock runs reads a row; an injection of kind 1 gives its bits to the first row read (R571). -/
def State.nvwRowRead (s : State) (a row errs : Nat) : State :=
  if (s.tile a).st = 0 ∨ 65535 < row then s
  else if s.injHas 1 a then (s.injUse 1 a).rowRead a row (s.injN 1 a) true true
  else s.rowRead a row errs true false

/-- NVW_ROW_READ. -/
def execNvwRowRead (t : TileAddr) (row errs : Nat) (s : State) : Res := onTile t s fun _ => s.nvwRowRead t.toNat row errs

/-- NVW_SCRUB (R286): a tile that is programming, LOADING or OFF is skipped. -/
def State.scrub (s : State) (a row errs : Nat) (sweepH : Option Nat) : State :=
  let s1 := match sweepH with
    | some h => s.set F.NVW_SCRUB_STAT_SWEEP_H h
    | none => s
  if s.get F.NVW_CTRL_SCRUB_EN = 0 then s
  else if (s.tile a).st = 0 ∨ (s.tile a).st = 1 ∨ (s.tile a).programming = true then s1
  else s1.rowRead a row errs false false

/-- NVW_SCRUB. -/
def execNvwScrub (t : TileAddr) (row : BitVec 16) (errs : Nat) (sweepH : Option (BitVec 16)) (s : State) : Res :=
  onTile t s fun _ => s.scrub t.toNat row.toNat errs (sweepH.map BitVec.toNat)

/-! ### Items of the jobs -/

/-- A section's rows from the LWS are written into a tile. -/
def secWhole (bs : List Byte) (t : Tile) : Tile := { secBegin t with nvw := smSetBytes 0 bs (secBegin t).nvw }

/-- An item of the first job has come: rows, the role program, and in a re-weave the router part of the dark tile's own image (7), which
stays with its place (R292, R299, R300, R318). A rotation's own rows are all that it asks for (R295). -/
def State.jobItem (s : State) (x b : Nat) (stage : Nat) (bs : List Byte) : State :=
  let slot := s.get F.WRP_STATUS_ACTIVE_SLOT
  match stage with
  | 5 =>
    let s1 := s.setTile b (secWhole bs (s.tile b))
    if x = b then s1.jobDone else s1.fetchFrom 6 6 s.pat.serial (s.imageOff (s.imageOf x)) roleBytes
  | 6 =>
    let t := s.tile b
    let s1 := s.setTile b { t with programming := true, nvw := smSetBytes (slotAt slot) bs t.nvw }
    if s.nvw.weave.isSome then s1.fetchFrom 7 6 s.pat.serial (s.imageOff x + roleBytes) (imageBytes - roleBytes) else s1.jobDone
  | _ =>
    let t := s.tile b
    (s.setTile b { t with nvw := smSetBytes (slotAt slot + roleBytes) bs t.nvw }).jobDone

/-- Data for the jobs has come (R405). -/
def State.jobData (s : State) (f : Fetch) : State :=
  match s.nvw.stage, s.nvw.jobs with
  | 3, _ => { s with nvw := { s.nvw with hdr := f.buf } }.fetchFrom 4 1 0 512 (32 * lwiSections f.buf + 48 * lwiChunks f.buf)
  | 4, _ => { s with nvw := { s.nvw with tables := f.buf, secs := lwiSecs (lwiSections s.nvw.hdr) f.buf } }.jobStart
  | n, (x, b) :: _ => s.jobItem x b n f.buf
  | _, [] => s

/-- Data of the LWI, or of the container for a job, has arrived (R282 step 2, R405). -/
def State.nvwData (s : State) (data : List Byte) : State :=
  match s.nvw.fetch with
  | none => s
  | some f0 =>
    let f := f0.take data
    let s1 := { s with nvw := { s.nvw with fetch := some f } }
    if f.want ≠ 0 then s1.fetchAsk f
    else if 3 ≤ s.nvw.stage then s1.jobData f
    else match s.nvw.stage with
      | 0 =>
        let s2 := { s1 with nvw := { s1.nvw with hdr := f.buf } }
        s2.nvwNext f 1 (32 * lwiSections f.buf + 48 * lwiChunks f.buf)
      | 1 => s1.lwiTables f
      | _ => s1

/-- The idle program written back into lines 0 to 1,487 of a tile's slot. -/
def idleBack (slot : Nat) (idle : List Byte) (t : Tile) : Tile :=
  { t with nvw := smSetBytes (slotAt slot) (sliceB idle 0 roleBytes) t.nvw }

/-- Jobs are given up. -/
def State.jobDrop (s : State) : State :=
  { s with nvw := { s.nvw with jobs := [], fetch := none }, host := (s.host.dropObjs 1).dropObjs 6 }

/-- D returns to the reserve: the idle program again, loaded (R303). -/
def State.darnBack (s : State) (d : DarnRun) : State :=
  let slot := s.get F.WRP_STATUS_ACTIVE_SLOT
  let t := idleBack slot d.idle { s.tile d.d with programming := false }
  let s1 := s.jobDrop
  if (s.tile d.d).st = 0 then s1.setTile d.d t else s1.setTile d.d (tLoading slot t)

/-- The running darn is over. -/
def State.darnOver (s : State) (code : Nat) : State :=
  match s.nvw.run with
  | none => s
  | some d =>
    let s1 := { s with nvw := { s.nvw with run := none } }
    if s.nvw.op = 3 ∧ d.req.host = true then s1.opEnd code (if code = 2 then 0 else d.req.tile)
    else s1.opResult code (if code = 2 then 0 else d.req.tile)

/-- A reserve tile is removed, with an entry of KIND 5 (R292, R303). -/
def State.removeTile (s : State) (d cause : Nat) : State :=
  ((({ s with nvw := { s.nvw with removed := s.nvw.removed ++ [d] } }.set F.NVW_STATUS_VERIFY_FAIL 1).logDarn d d 5 cause).raise 24 14 3 d cause)

/-- A darn takes its rows from the LWS: an urgent one, and one whose T has a row that does not read correctable (R292, R294). -/
def State.fromLws (s : State) (r : DarnReq) : Bool := decide (r.group = 0) || decide ((s.tile r.tile).ueRows ≠ [])

/-- A darn tile D is taken for a request (R292 steps 1 and 2): T's rows go to it from T itself, or from the LWS. -/
def State.darnTake (s : State) (r : DarnReq) (tried : List Nat) (d : Nat) : State :=
  let slot := s.get F.WRP_STATUS_ACTIVE_SLOT
  let idle := smGetBytes (slotAt slot) roleBytes (s.tile d).nvw
  let put := fun (u : State) => { u with nvw := { u.nvw with run := some ⟨r, d, tried ++ [d], false, idle⟩ } }
  if s.fromLws r then (put (s.setTile d (secBegin (s.tile d)))).jobsPut [(r.tile, d)]
  else put (s.setTile d (darnCopy slot (s.tile r.tile) (s.tile d)))

/-! ### Re-weave (R300 to R303) -/

/-- The spare region is free for a re-weave. -/
def State.spareFree (s : State) : Bool := decide (s.get F.NVW_STATUS_NO_COVER = 0) && decide (s.get F.NVW_REWEAVE_VALID = 0)

/-- The variant for a dark region. -/
def Pattern.variantFor (p : Pattern) (r : Nat) : Option Variant := (p.variants.drop 1).find? fun v => decide (v.dark = r)

/-- A running BIST ends ABORTED (R303, R573). -/
def State.bistAbort (s : State) : State :=
  match s.dmp.bist with
  | none => s
  | some _ => ({ s with dmp := { s.dmp with bist := none } }.set F.TST_BIST_STAT_RESULT 9).set F.TST_STATUS_BIST_BUSY 0

/-- The sections and static areas of the mapped tiles stream from the LWS (R300 step 4). -/
def State.weaveStream (s : State) (r : Nat) : State :=
  match s.pat.variantFor r with
  | none => s
  | some v => s.jobsPut v.mapping

/-- No spare region is left for what the pattern loses (R296, R302): the pick master stays in HALT until a new XKP is loaded. -/
def State.noSpareHold (s : State) (code : Nat) : State :=
  if code = 12 then { s with nvw := { s.nvw with hold := true, cover := s.pat.digest } } else s

/-- A re-weave ends with a code; the pick master stays in HALT (R300, R303). -/
def State.weaveFail (s : State) (code tile : Nat) : State :=
  match s.nvw.weave with
  | none => s
  | some _ => ({ s with nvw := { s.nvw with weave := none } }).opEnd code tile |>.noSpareHold code

/-- The spare region's ramp (R300 step 3), or the next step at once where it is on already (R303). -/
def State.weaveRamp (s : State) (r : Nat) : State :=
  if s.regionOn s.pat.spare then s.weaveStream r else s.rampAsk s.pat.spare 3

/-- The darn that runs ends: ABORTED in the dark region, else it waits again (R303); the queue loses the region's requests. -/
def State.weaveDarns (s : State) (r : Nat) : State :=
  let keep := fun (q : DarnReq) => decide (regionOf (fieldOf q.tile) ≠ r)
  let s1 := match s.nvw.run with
    | none => s
    | some d =>
      let back := if regionOf (fieldOf d.d) = r then s else s.darnBack d
      let u := if s.nvw.op = 3 then back.opEnd 14 d.req.tile else back
      { u with nvw := { u.nvw with run := none, queue := (if keep d.req then [d.req] else []) ++ u.nvw.queue } }
  let s2 := s1.jobDrop
  { s2 with nvw := { s2.nvw with queue := s2.nvw.queue.filter keep, rot := none } }

/-- VL, VA and VS of a region off at a request. -/
def State.domsOff (s : State) (r : Nat) : State := ((s.domOff r 1).domOff (16 + r) 1).domOff (32 + r) 1

/-- A region is dark: its domains off, and the re-weave of a loaded pattern begins, or NO_SPARE (R300, R302). -/
def State.weaveBegin (s : State) (r op : Nat) : State :=
  let s0 := s.domsOff r
  if s.get F.WRP_STATUS_LOADED = 0 then s0
  else if s.nvw.weave.isSome then s0
  else if s.spareFree = false then (s0.halt.opResult 12 0).noSpareHold 12
  else
    let s1 := ((s0.halt).weaveDarns r).bistAbort
    let s2 := (s1.endAll 8).spoolInit
    let s3 := { s2 with nvw := { s2.nvw with weave := some r } }.opStart op
    s3.weaveRamp r

/-- A router outside the spare region that the pattern configures sends, for a field outside it, over a port into it. -/
def State.sendsThroughSpare (s : State) (n q : Nat) : Bool :=
  s.pat.maps n && decide (regionOf (fieldOf n) ≠ s.pat.spare) &&
    (rangeFrom 0 60).any fun g => decide (regionOf g ≠ s.pat.spare) && decide (s.weft.fieldEntry n g = q)

/-- The active pattern routes traffic through the spare region (R302). -/
def State.routesSpare (s : State) : Bool :=
  (fieldsOf s.pat.spare).any fun f => (rangeFrom 0 4608).any fun i => (rangeFrom 0 4).any fun p =>
    match neigh (mkTile f (i / 72) (i % 72)) p with
    | .mesh n q => s.sendsThroughSpare n q
    | .seam n q => s.sendsThroughSpare n q
    | _ => false

/-- The unused spare region has lost a domain or a channel (R197, R302, R432): no cover; without its VS, NO_SPARE where the pattern routes
through it. -/
def State.spareLost (s : State) : State :=
  let s1 := { s.set F.NVW_STATUS_NO_COVER 1 with nvw := { s.nvw with cover := s.pat.digest } }
  if s1.domOn (32 + s1.pat.spare) = false ∧ s1.routesSpare = true then (s1.halt.opResult 12 0).noSpareHold 12 else s1

/-- A region is dark: a load that uses it ends (R339); a loaded pattern that uses it is re-woven (R300, R561); the unused spare region leaves
no cover (R302). -/
def State.darkRegion (s : State) (r : Nat) : State :=
  if s.ld.load.isSome = true ∧ s.pat.uses r = true then (s.domsOff r).loadEnd 25 0 0
  else if s.patUses r then s.weaveBegin r 0
  else if r = s.pat.spare ∧ s.pat.variant = 0 ∧ s.get F.WRP_STATUS_LOADED = 1 then s.spareLost
  else s

/-- REWEAVE (R300, R309): a host's request for the spare region is BAD_TARGET, while anything runs BUSY, with no spare NO_SPARE. -/
def State.reweave (s : State) (target : Nat) (host : Bool) : State :=
  let r := target % 16
  if host = false then s.darkRegion r
  else
    let s0 := s.opWrite 4 target
    if s.opRuns = true ∨ s.loaderRuns = true then s0.opResult 3 0
    else if r = s.pat.spare ∨ s.patUses r = false then s0.opResult 15 0
    else if s.spareFree = false then s0.opResult 12 0
    else s0.weaveBegin r 4

/-- REWEAVE. -/
def execReweave (target : BitVec 19) (host : Bool) (s : State) : Res := .next (s.reweave target.toNat host)

/-! ### The course of a darn -/

/-- No eligible D (R296): NO_DARN_TILE and RESERVE_OUT; an urgent darn then re-weaves while the spare is unused, else the pick master waits in
HALT for a new XKP. -/
def State.noDarnTile (s : State) (r : DarnReq) : State :=
  let s1 := (s.set F.NVW_STATUS_RESERVE_OUT 1).darnOver 11
  if r.group ≠ 0 then s1
  else if s1.spareFree then s1.weaveBegin (regionOf (fieldOf r.tile)) 0
  else s1.halt.noSpareHold 12

/-- The next D of a request: up to 3 in all (R292 step 3). -/
def State.darnNext (s : State) (r : DarnReq) (tried : List Nat) : State :=
  if 3 ≤ tried.length then s.darnOver 9
  else match s.nearest r.tile tried with
    | none => s.noDarnTile r
    | some d => s.darnTake r tried d

/-- The request that is served next (R293): urgent, then urgent rotations, then the others; with AUTO_DARN = 0 the host's only (R294). -/
def State.darnPick (s : State) : Option DarnReq :=
  let ok := s.nvw.queue.filter fun q => decide (s.get F.NVW_CTRL_AUTO_DARN = 1) || q.host
  (sortBy DarnReq.group ok).head?

/-- DARN_START (R293, R297): one darn at a time, which on a device of a chain halts it, urgent or not (log entry 127); none while a load, an installation or another operation runs. -/
def State.darnStart (s : State) : State :=
  if s.darning = true ∨ s.nvw.weave.isSome = true ∨ s.loaderRuns = true ∨ s.nvw.op = 1 ∨ s.get F.WRP_STATUS_LOADED = 0 then s
  else match s.darnPick with
    | none => s
    | some r =>
      let s1 := { s with nvw := { s.nvw with queue := s.nvw.queue.erase r, run := some ⟨r, 0, [], false, []⟩ } }
      let s2 := ((s1.set F.NVW_OP_STAT_DONE 0).opResult 1 0).urgentHalt (if s.chainLen ≤ 1 then r.group else 0)
      if s.bearsRole r.tile = false then s2.darnOver 15
      else if s.logFull then s2.darnOver 11
      else s2.darnNext r []

/-- DARN_START. -/
def execDarnStart (s : State) : Res := .next s.darnStart

/-- DARN (R292, R307, R309): a host's request. -/
def State.hostDarn (s : State) (target : Nat) : State :=
  let s0 := s.opWrite 3 target
  if s.opRuns = true ∨ (16 ≤ s.nvw.queue.length ∧ s.nvw.queue.any (fun q => decide (q.tile = target)) = false) then s0.opResult 3 0
  else if s.bearsRole target = false then s0.opResult 15 target
  else (s0.opStart 3).askDarn ⟨target, false, 5, 2, true⟩

/-- DARN. -/
def execDarn (target : BitVec 19) (s : State) : Res := .next (s.hostDarn target.toNat)

/-- D's rows are written (R292 step 3): a matching CRC starts its tile load; a D that fails is removed and the next is tried. -/
def State.darnWritten (s : State) (d : DarnRun) (ok : Bool) : State :=
  let t := s.tile d.req.tile
  let crc := columnCrc t.secRows (s.tile d.d)
  let s1 := s.secStore d.d t.secTile t.secRows crc
  if ok = true ∧ crc = t.secCrc then
    s1.setTile d.d (tSet F.TIL_CTRL_ENABLE 0 (tLoading (s.get F.WRP_STATUS_ACTIVE_SLOT) (s1.tile d.d)))
  else (s1.removeTile d.d 4).darnNext d.req d.tried

/-- A spare tile's rows are written (R300 step 4). -/
def State.weaveWritten (s : State) (r a : Nat) (ok : Bool) : State :=
  match (s.pat.variantFor r).bind fun v => v.mapping.find? fun x => decide (x.2 = a) with
  | none => s
  | some (src, _) =>
    let t := s.tile src
    let crc := columnCrc t.secRows (s.tile a)
    let s1 := s.secStore a t.secTile t.secRows crc
    if ok = true ∧ (t.secRows = 0 ∨ crc = t.secCrc) then
      (s1.setTile a (tLoading (s.get F.WRP_STATUS_ACTIVE_SLOT) (s1.tile a))).add F.NVW_OP_STAT_DONE 1
    else (s1.set F.NVW_STATUS_VERIFY_FAIL 1).weaveFail 9 a

/-- A section of PROGRAM_ALL is written (R281, R282). -/
def State.sectionWritten (s : State) (x : Section) (ok : Bool) : State :=
  let crc := columnCrc x.rows (s.tile x.tile)
  let s1 := s.secStore x.tile x.tile x.rows crc
  if ok = true ∧ crc = x.crc then ((s1.add F.NVW_OP_STAT_DONE 1).feed s.nvw.backlog.length).chunkNext
  else (s1.set F.NVW_STATUS_VERIFY_FAIL 1).opEnd 9 x.tile

/-- SECTION_PROGRAM_COMPLETE (R281): for PROGRAM_ALL, a darn, or a re-weave. -/
def State.sectionDone (s : State) (a : Nat) (ok : Bool) : State :=
  if (s.tile a).programming = false ∨ s.nvw.jobs.any (fun x => decide (x.2 = a)) = true then s
  else if s.nvw.op = 1 then
    match s.nvw.secs.find? fun x => decide (x.tile = a) with
    | some x => s.sectionWritten x ok
    | none => s
  else match s.nvw.weave, s.nvw.run with
    | some r, _ => (s.weaveWritten r a ok).jobGo
    | none, some d => if d.d = a ∧ d.switched = false then s.darnWritten d ok else s
    | none, none => s

/-- SECTION_PROGRAM_COMPLETE. -/
def execSectionProgramComplete (t : TileAddr) (ok : Bool) (s : State) : Res := onTile t s fun _ => s.sectionDone t.toNat ok

/-- DARN_SWITCH (R292 steps 4 to 6): the detour in force, T DARNED, D enabled with its first pick poisoned. A D whose load failed, or for
which no detour can be written, gives way to the next. -/
def State.darnSwitch (s : State) : State :=
  match s.nvw.run with
  | none => s
  | some d =>
    let t := s.tile d.d
    if d.switched = true ∨ t.programming = true ∨ s.nvw.jobs ≠ [] then s
    else if t.st = 4 then (s.removeTile d.d 4).darnNext d.req d.tried
    else if t.st = 2 ∧ t.ringPos ≠ 255 then
      match s.detourTo d.req.tile d.d with
      | none => (s.darnBack d).darnNext d.req d.tried
      | some w =>
        let was := match smGet 0 d.req.tile s.nvw.roles with
          | 0 => d.req.tile
          | k + 1 => k
        let s1 := (s.setTile d.req.tile (tDarn (s.tile d.req.tile))).setTile d.d { tSet F.TIL_CTRL_ENABLE 1 t with poisonNext := true }
        { s1 with weft := w, nvw := { s1.nvw with
            run := some { d with switched := true }
            roles := smSet 0 d.d (was + 1) (smSet 0 d.req.tile 0 s1.nvw.roles) } }
    else s

/-- DARN_SWITCH. -/
def execDarnSwitch (s : State) : Res := .next s.darnSwitch

/-- T, now DARNED, is reprogrammed in place (R295 step 1): from its own corrected rows, or from the LWS when one of them does not read. -/
def State.rotBegin (s : State) (a pos : Nat) (idle : List Byte) : State :=
  let t := s.tile a
  let s1 := { s.setTile a { t with programming := true } with nvw := { s.nvw with run := none, rot := some (a, pos, idle) } }
  if t.ueRows = [] then s1 else s1.jobsPut [(a, a)]

/-- DARN_COMPLETE (R292 step 7, R294, R295): sentinel, log, beacon, counts; an urgent darn sets RUN 0 and then 1; a rotation goes on. -/
def State.darnDone (s : State) : State :=
  match s.nvw.run with
  | none => s
  | some d =>
    if d.switched = false then s
    else
      let r := d.req
      let s1 := s.sntOwn ([segTile r.tile, segTile d.d] ++ (detourRouters r.tile d.d).map segRouter)
      let s2 := ((s1.logDarn r.tile d.d (if r.rotation then 2 else 1) r.cause).beacon (if r.rotation then 5 else 4)
        (Config.recordData (if r.rotation then 5 else 4) [r.tile, d.d, r.cause])).raise 24 14 3 r.tile r.cause
      let s3 := if r.group = 0 then s2.pckRunClear.pckRun else s2
      if r.rotation then
        s3.rotBegin r.tile (s.tile d.d).ringPos d.idle
      else (s3.add F.NVW_COUNTS_DARNS 1).darnOver 2

/-- DARN_COMPLETE. -/
def execDarnComplete (s : State) : Res := .next s.darnDone

/-- ROTATION_RETURN (R295, R536): once its rows are written, T's CRC is taken again; clean, T joins the reserve with the idle program, its
segment committed as the tile load will leave it; else it is removed. -/
def State.rotReturn (s : State) (ok : Bool) : State :=
  match s.nvw.rot with
  | none => s
  | some (a, p, idle) =>
    if s.nvw.jobs ≠ [] then s
    else
      let slot := s.get F.WRP_STATUS_ACTIVE_SLOT
      let t := s.tile a
      let crc := columnCrc t.secRows t
      let s1 := ({ s with nvw := { s.nvw with rot := none } }).secStore a t.secTile t.secRows crc
      if ok = true ∧ crc = t.secCrc then
        let t1 := tSet F.TIL_CTRL_ENABLE 0 (idleBack slot idle { s1.tile a with rowOvr := [], ueRows := [] })
        let s2 := s1.setTile a (if t.st = 0 then t1 else tLoading slot t1)
        let s3 := { s2 with
          nvw := { s2.nvw with returned := smSet 0 a (p + 1) s2.nvw.returned }
          snt := { s2.snt with refs := smSet 0 (segTile a) (crc32c (tileSeg (tLoaded (s2.get F.PCK_STATUS_MODE) s.pat.idleCrc (s2.tile a))) + 1) s2.snt.refs } }
        ((s3.logDarn a a 3 0).add F.NVW_COUNTS_ROTATIONS 1).opResult 2 0
      else (s1.removeTile a 4).opResult 9 a

/-- ROTATION_RETURN. -/
def execRotationReturn (ok : Bool) (s : State) : Res := .next (s.rotReturn ok)

/-- The LWS is lost to what uses it (R303, R405): PROGRAM_ALL, a re-weave, a darn before its switch, a rotation. -/
def State.lwsGone (s : State) : State :=
  if s.nvw.op = 1 then (s.set F.NVW_STATUS_LWS_LOST 1).opEnd 10 0
  else if s.nvw.weave.isSome then (s.set F.NVW_STATUS_LWS_LOST 1).weaveFail 10 0
  else if s.nvw.jobs = [] then s
  else match s.nvw.run, s.nvw.rot with
    | some d, _ => ((s.set F.NVW_STATUS_LWS_LOST 1).darnBack d).darnOver 10
    | none, some (a, _, _) =>
      let s1 := (s.set F.NVW_STATUS_LWS_LOST 1).jobDrop
      ({ s1.setTile a { s1.tile a with programming := false } with nvw := { s1.nvw with rot := none } }).opResult 10 a
    | none, none => s

/-- LWS_LOST. -/
def execLwsLost (s : State) : Res := .next s.lwsGone

/-! ### Dark regions (R197, R561) -/

/-- The region that a failed link makes dark. -/
def linkRegion (k : Nat) : Nat :=
  match portSeam (k / 8) (k % 8) with
  | some (sm, _) => regionOf (seamFields sm).1
  | none => regionOf (fieldOf (k / 8))

/-- The region that a done-limit halt makes dark: of a FAILED link, else of a field that has lost its clock (R561). -/
def State.darkAfterHalt (s : State) : Option Nat :=
  match s.weft.links.find? fun kv => decide (kv.2 = 4) with
  | some kv => some (linkRegion kv.1)
  | none => s.clk.stopped.head?.map regionOf

/-- DONE_LIMIT_EXPIRED (R120, R561): HALT, and a re-weave where a link or a field clock has failed. -/
def State.doneLimitDark (s : State) : State :=
  if s.pm.running = true ∧ s.pm.allDone = false then
    match s.darkAfterHalt with
    | some r => (s.doneLimit.domsOff r).darkRegion r
    | none => s.doneLimit
  else s

/-- DONE_LIMIT_EXPIRED. -/
def execDoneLimitExpired (s : State) : Res := .next s.doneLimitDark

/-- SPOOL_CHANNEL_FAIL (R197): the channel is FAILED; the field's region is re-woven where the pattern uses it. -/
def State.channelFail (s : State) (f ch : Nat) : State :=
  let c := f * 64 + ch
  if s.chState c = 0 then s
  else
    let s1 := ((s.set F.SPL_CH_STATE_STATE 3 c).set F.SPL_STATUS_CH_FAIL 1).raise 5 12 2 f (s.reg R.SPL_FAULT_CAP0).toNat
    s1.darkRegion (regionOf f)

/-- SPOOL_CHANNEL_FAIL. -/
def execSpoolChannelFail (f : Fin 60) (ch : Fin 64) (s : State) : Res := .next (s.channelFail f.val ch.val)

end Sys2Proof.Machine
end

