-- ==== Sys2Proof/Machine/Warp.lean ====
section
/-!
DEFINITION. The loader and the warp's messages (09_pattern_and_warp.md): installing a container, loading a slot with its checks, the end of
a re-weave, and warp messages. The tile access window stands in Registers.lean.
-/
namespace Sys2Proof.Machine

/-! ### Installing (R324) -/

/-- The active slot: the one last loaded, once one has been. -/
def State.activeSlot (s : State) : Option Nat :=
  if s.get F.WRP_STATUS_LOADED = 1 ∨ s.ld.lastDigest ≠ [] then some (s.get F.WRP_STATUS_ACTIVE_SLOT) else none

/-- An installation ends with a code of R344. -/
def State.installEnd (s : State) (code : Nat) : State :=
  let h := s.host.dropObjs 2
  (({ s with ld := { s.ld with install := none }, host := { h with reads := h.reads.filter fun r => match r.why with
      | .install _ => false
      | _ => true } }).set F.WRP_STATUS_INSTALL_BUSY 0).set F.WRP_INSTALL_STAT_RESULT code

/-- The fetch of an installation goes on. -/
def State.installPut (s : State) (i : Install) : State := { s with ld := { s.ld with install := some i } }.fetchAsk i.fetch

/-- WRP_INSTALL.GO (R324 step 1): BUSY, or the header is asked for. -/
def State.install (s : State) (slot : Nat) (lws : Bool) : State :=
  let s0 := (s.set F.WRP_INSTALL_SLOT slot).set F.WRP_INSTALL_SOURCE (b2n lws)
  if (s.pickState ≠ 0 ∧ s.pickState ≠ 4) ∨ s.loaderRuns = true ∨ s.opRuns = true ∨ s.activeSlot = some slot then
    s0.set F.WRP_INSTALL_STAT_RESULT 3
  else
    let lo := s.get F.WRP_INSTALL_SRC_LO_ADDR_LO
    let key := if lws then lo else lo / 4096 * 4096 + s.get F.WRP_INSTALL_SRC_HI_ADDR_HI * 2 ^ 32
    (((s0.set F.WRP_STATUS_INSTALL_BUSY 1).set F.WRP_INSTALL_STAT_RESULT 1).set F.WRP_INSTALL_STAT_TILES 0).installPut
      ⟨slot, ⟨b2n lws, 2, key, 0, 1024, []⟩, 0, [], []⟩

/-- INSTALL. -/
def execInstall (slot : BitVec 2) (source : Bool) (s : State) : Res := .next (s.install slot.toNat source)

/-- The checks of step 2: a code of R344. -/
def State.installCheck (s : State) (r : List Byte) : Option Nat :=
  if recVersionOk r = false then some 5
  else if sliceB r 8 48 ≠ s.nvw.mapDigest then some 7
  else if s.recSigned r = false then some 6
  else none

/-- The global record is whole: checked, the slot WRITING, the record stored, the images asked for (R324 steps 2 to 4). -/
def State.installRecord (s : State) (i : Install) (r : List Byte) : State :=
  match s.installCheck r with
  | some c => s.installEnd c
  | none =>
    let s1 := ({ s with ld := { s.ld with store := smSet [] i.slot r s.ld.store } }).set (F.WRP_SLOT_STATE.nth i.slot) 1
    let ts := mapTilesOf (recSec r 1)
    s1.installPut { i with fetch := i.fetch.next (if ts = [] then 0 else imageBytes), stage := 2, record := r, tiles := ts }

/-- The CRCs that an image stores. -/
def imageCrcs (img : List Byte) : Nat × Nat := (roleCrc img, routerCrc img)

/-- Both CRCs of an image are right (R316). -/
def imageWhole (img : List Byte) : Bool := decide (roleCrc img = roleCrcOf img) && decide (routerCrc img = routerCrcOf img)

/-- An image is programmed into its tile's slot, unless one with the right CRCs stands there (R324 step 4). -/
def imagePut (slot : Nat) (img : List Byte) (t : Tile) : Tile :=
  let old := tImage slot t
  if imageWhole old = true ∧ imageCrcs old = imageCrcs img then t
  else { t with nvw := smSetBytes (slotAt slot) img t.nvw, programs := t.programs + 1 }

/-- The image of the next tile has arrived. -/
def State.installImage (s : State) (i : Install) : State :=
  match i.tiles with
  | [] => s
  | a :: rest =>
    let t := imagePut i.slot i.fetch.buf (s.tile a)
    let s1 := (s.setTile a t).add F.WRP_INSTALL_STAT_TILES (b2n (imageWhole (tImage i.slot t)))
    let s2 := s1.set F.NVW_PROG_MAX_COUNT (max (s.get F.NVW_PROG_MAX_COUNT) (min 65535 t.programs))
    s2.installPut { i with tiles := rest, fetch := i.fetch.next (if rest = [] then 0 else imageBytes) }

/-- Data of an installation has arrived. -/
def State.installData (s : State) (data : List Byte) : State :=
  match s.ld.install with
  | none => s
  | some i0 =>
    let i := { i0 with fetch := i0.fetch.take data }
    let s1 := { s with ld := { s.ld with install := some i } }
    if i.fetch.want ≠ 0 then s1.fetchAsk i.fetch
    else match i.stage with
      | 0 =>
        let n := recGlobal i.fetch.buf
        if n < 9216 ∨ 2 ^ 23 < n then s1.installEnd 5
        else s1.installPut { i with stage := 1, record := i.fetch.buf, fetch := i.fetch.next (n - 1024) }
      | 1 => s1.installRecord i (i.record ++ i.fetch.buf)
      | _ => s1.installImage i

/-- INSTALL_COMPLETE (R324 steps 5 and 6). -/
def State.installDone (s : State) (bad : Option Nat) : State :=
  match s.ld.install with
  | none => s
  | some i =>
    if i.stage ≠ 2 ∨ i.tiles ≠ [] then s
    else if bad.isSome = true ∨ (mapTilesOf (recSec i.record 1)).all (fun a => imageWhole (tImage i.slot (s.tile a))) = false then
      s.installEnd 16
    else
      let s1 := { s with nvw := { s.nvw with stale := s.nvw.stale.filter fun k => decide (k ≠ i.slot) } }
      (((s1.set (F.WRP_SLOT_STATE.nth i.slot) 2).set (F.WRP_SLOT_LOG_COUNT.nth i.slot) (s.logBaseOf (recPattern i.record 0))).set
        (F.WRP_SLOT_SER_SERIAL.nth i.slot) (recSerial i.record)).installEnd 2

/-- INSTALL_COMPLETE. -/
def execInstallComplete (bad : Option (BitVec 19)) (s : State) : Res := .next (s.installDone (bad.map BitVec.toNat))

/-- LINK_LOST (R324, R405): the slot stays as it stands. -/
def State.linkLost (s : State) : State := if s.ld.install.isSome then s.installEnd 26 else s

/-- LINK_LOST. -/
def execLinkLost (s : State) : Res := .next s.linkLost

/-- WRP_ABORT (R339): a running load or installation ends ABORTED. -/
def State.wrpAbort (s : State) : State :=
  let s1 := s.loadEnd 25 0 0
  if s1.ld.install.isSome then s1.installEnd 25 else s1

/-- WRP_ABORT. -/
def execWrpAbort (s : State) : Res := .next s.wrpAbort

/-- WRP_CLR_COUNTS (R341): WRP_BRIDGE_COUNT and every RESENDS. -/
def State.wrpClr (s : State) : State :=
  let b := bankClear [R.WRP_BRIDGE_COUNT] s.bank
  { s with bank := (rangeFrom 0 60).foldl (fun m f => bankSet F.WRP_EP_STAT_RESENDS f 0 m) b }

/-- WRP_CLR_COUNTS. -/
def execWrpClrCounts (s : State) : Res := .next s.wrpClr

/-! ### The darn log applied to roles (R328, R329) -/

/-- The tile that holds the role of an original tile: none where the tile came into the log as a taker, so that its own role was
idle (R328). -/
def holderOf (log : List DarnEntry) (a : Nat) : Option Nat :=
  let moves := log.filter fun e => decide (e.kind = 1) || decide (e.kind = 2)
  match moves.find? fun e => decide (e.fromT = a) || decide (e.toT = a) with
  | none => some a
  | some e => if e.fromT = a then some (moves.foldl (fun h x => if x.fromT = h then x.toT else h) a) else none

/-- An entry that cannot be re-applied to a slot (R329): a darn whose D does not hold T's role CRC there; a re-weave of another slot. -/
def State.staleEntry (s : State) (slot : Nat) (e : DarnEntry) : Bool :=
  (decide (e.kind = 1) && decide (roleCrc (tImage slot (s.tile e.toT)) ≠ roleCrc (tImage slot (s.tile e.fromT)))) ||
    (decide (e.kind = 4) && decide (s.activeSlot ≠ some slot))

/-! ### The checks of step 1 (R327) -/

/-- Smallest `c` with `n ≤ 2 ^ c` (R88). -/
def clog2 (n : Nat) : Nat := if n ≤ 1 then 0 else Nat.log2 (n - 1) + 1

/-- A fold group whose sum may overflow (R88, R327), K = 0 included. -/
def Pattern.badFold (p : Pattern) : Option Nat :=
  (sortAsc (dedupNat (p.foldK.map Prod.fst ++ p.foldN.map Prod.fst))).find? fun g => decide (16 < smGet 0 g p.foldK + clog2 (smGet 0 g p.foldN))

/-- The heddle controller's checks in the order of R327: a code and the item concerned. -/
def State.recordCheck (s : State) (slot : Nat) (r : List Byte) (p : Pattern) : Option (Nat × Nat) :=
  if recVersionOk r = false then some (5, 0)
  else if s.recSigned r = false then some (6, 0)
  else if p.darnDigest ≠ s.nvw.mapDigest then some (7, 0)
  else if slot ∈ s.nvw.stale then some (8, 0)
  else if (s.nvw.log.drop (s.get (F.WRP_SLOT_LOG_COUNT.nth slot))).any (s.staleEntry slot) then some (8, 0)
  else if s.get F.NVW_STATUS_PROGRAMMED = 0 ∨ p.lwiDigest ≠ s.digestShown F.NVW_LWI_DIGEST_DIGEST then some (9, 0)
  else if p.chainId ≠ recN s.nvw.hdr 56 16 ∨ p.chainIndex ≠ recN s.nvw.hdr 72 1 ∨ p.chainLength ≠ recN s.nvw.hdr 73 1 then some (10, 0)
  else match timingBad p.stepping (recTiming (recSec r 6)) with
  | some c => some (11, c)
  | none =>
    if recN r 122 1 ≠ 1 then some (12, 0)
    else if bitAt p.modes 0 = false then some (13, 0)
    else if p.formats.all wfmtOk = false then some (14, 0)
    else p.badFold.map fun g => (15, g)

/-! ### LOAD (R325, R326, R330) -/

/-- The sentinel at a load (R537): nothing is compared until the next COMMIT. -/
def State.sntDrop (s : State) : State :=
  { (((s.set F.SNT_STATUS_REF_VALID 0).set F.SNT_STATUS_CAPTURING 0).set F.SNT_STATUS_MISMATCH 0) with
    snt := { s.snt with refs := [], capture := [], fresh := [], restarts := 0 } }

/-- Regions that the pattern, in its variant in effect, uses. -/
def Pattern.regions (p : Pattern) : List Nat := (rangeFrom 0 16).filter p.uses

/-- The effects of another XKP (R326). -/
def State.newXkp (s : State) (d : List Byte) : State :=
  if d = s.ld.lastDigest then s
  else
    let s1 := (s.endAll 9).spoolInit
    { s1 with ld := { s1.ld with lastDigest := d } }

/-- The spare region keeps VL and VA off unless the variant in effect uses it (R14, R325). -/
def State.spareOff (s : State) : State :=
  if s.pat.spare < 16 ∧ s.pat.uses s.pat.spare = false then (s.domOff s.pat.spare 1).domOff (16 + s.pat.spare) 1 else s

/-- A new XKP, built against the effective darn map, brings back the cover of its spare region, and an empty log where the log was full (R289,
R302): the map that the entries made stays, and a slot whose images lack some of them is STALE_DARN from then on. Log entry 49. -/
def State.newCover (s : State) (p : Pattern) : State :=
  if s.builtNow p = false ∨ p.digest = s.nvw.cover then s
  else
    let s1 := if s.get F.NVW_STATUS_NO_COVER = 1 ∨ s.nvw.hold = true ∨ s.get F.NVW_REWEAVE_VALID = 1 then
        { (((s.set F.NVW_STATUS_NO_COVER 0).set F.NVW_STATUS_REWOVEN 0).set F.NVW_REWEAVE_VALID 0) with
          nvw := { s.nvw with hold := false, cover := [] } }
      else s
    if s.logFull then
      { s1 with
        bank := (rangeFrom 0 4).foldl (fun b k => bankSet (F.WRP_SLOT_LOG_COUNT.nth k) 0 0 b) s1.bank
        nvw := { s1.nvw with
          log := [], logXkp := p.digest, bad := dedupNat (s1.nvw.bad ++ badTiles s1.nvw.log)
          stale := (rangeFrom 0 4).filter fun k => decide (s.get (F.WRP_SLOT_LOG_COUNT.nth k) < s.nvw.log.length) } }
    else s1

/-- Step 2 (R325): VL off where tiles are not OFF, the spare region off, then ramps of every region used; a region whose VS is off is ROUTE_DEAD, one whose VL or VA is
TRIPPED is POWER (R330, R344). -/
def State.loadPower (s : State) : State :=
  let busy := (rangeFrom 0 16).filter fun r => s.tiles.any fun kv => decide (regionOf (fieldOf kv.1) = r) && decide (kv.2.st ≠ 0)
  let s1 := busy.foldl (fun u r => u.domOff r 1) (s.set F.WRP_LOAD_STAT_PHASE 4).spareOff
  let use := s1.pat.regions
  match use.find? fun r => !(s1.domOn (32 + r)) with
  | some r => s1.loadEnd 18 0 ((fieldsOf r).headD 0)
  | none =>
    if use.any fun r => decide (s1.get F.VPA_DOM_STAT_STATE r = 6) || decide (s1.get F.VPA_DOM_STAT_STATE (16 + r) = 6) then s1.loadEnd 24 0 0
    else
      use.foldl (fun u r => if u.regionOn r then u else u.rampAsk r 2) s1

/-- WRP_LOAD.GO (R325): refused, or steps 1 and 2 are taken. -/
def State.load (s : State) (slot : Nat) : State :=
  let s0 := s.set F.WRP_LOAD_SLOT slot
  if s.pickState ≠ 0 ∨ s.opRuns = true ∨ s.loaderRuns = true then s0.set F.WRP_LOAD_STAT_RESULT 3
  else if s.slotState slot ≠ 2 then s0.set F.WRP_LOAD_STAT_RESULT 4
  else
    let s1 := ((((s0.set F.WRP_STATUS_LOADED 0).set F.WRP_STATUS_LOAD_BUSY 1).set F.WRP_LOAD_STAT_RESULT 1).set F.WRP_LOAD_STAT_PHASE 3).setReg
      R.WRP_LOAD_INFO 0
    let s2 := { s1 with ld := { s1.ld with load := some (slot, s1.timeUs) } }.sntDrop
    let r := s.record slot
    let p0 := recPattern r 0
    match s2.recordCheck slot r p0 with
    | some (code, item) => s2.loadEnd code 0 item
    | none =>
      let s3 := s2.newCover p0
      let p := { p0 with variant := s3.variantOf p0 }
      ({ s3.newXkp p.digest with pat := p }.set F.NVW_REWEAVE_SPARE p.spare).loadPower

/-- LOAD. -/
def execLoad (slot : BitVec 2) (s : State) : Res := .next (s.load slot.toNat)

/-! ### Router tables (R315, R317, R323, R325) -/

/-- The variant deltas of an image (R315, R317). -/
def imageDeltas (img : List Byte) : List (Nat × Nat) :=
  (rangeFrom 0 (recN img deltaAt 2)).map fun i => (recN img (deltaAt + 2 + 8 * i) 4, recN img (deltaAt + 6 + 8 * i) 4)

/-- A router's tables written from the router part of an image, with the deltas of a variant applied. -/
def Weft.fromImage (w : Weft) (r variant : Nat) (img : List Byte) : Weft :=
  let w1 := (rangeFrom 0 60).foldl (fun u i => u.putTable r 0 i (recN img (roleBytes + i) 1)) w
  let w2 := (rangeFrom 0 64).foldl (fun u i => u.putTable r 1 i (recN img (roleBytes + 60 + 4 * i) 4)) w1
  let w3 := (rangeFrom 0 128).foldl (fun u i => u.putTable r 2 i (recN img (roleBytes + 316 + 4 * i) 4)) w2
  (imageDeltas img).foldl (fun u d =>
    if variant ≠ 0 ∧ bitsOf d.1 0 4 = variant ∧ bitsOf d.1 4 2 ≠ 3 then u.putTable r (bitsOf d.1 4 2) (bitsOf d.1 6 7) d.2 else u) w3

/-- A router of the spare region without an image: its field table from SPARE_ROUTES, no tree (R321, R323). -/
def Weft.fromSpare (w : Weft) (r : Nat) (tab : List Byte) : Weft :=
  let w1 := { w with mcast := smClear (r * 64) (r * 64 + 63) w.mcast, fold := smClear (r * 128) (r * 128 + 127) w.fold }
  (rangeFrom 0 60).foldl (fun u i => u.putTable r 0 i (recN tab i 1)) w1

/-- Tiles of a region in address order. -/
def regionTiles (r : Nat) : List Nat :=
  (fieldsOf r).flatMap fun f => (rangeFrom 0 4608).map fun i => mkTile f (i / 72) (i % 72)

/-- Tiles that take a slot image under the variant in effect: those of TILE_MAP but for the dark region's, and the mapped spare tiles. -/
def Pattern.imageTiles (p : Pattern) : List Nat :=
  let base := (mapTilesOf p.tileMap).filter fun a => p.uses (regionOf (fieldOf a)) && decide (regionOf (fieldOf a) ≠ p.spare)
  if p.variant = 0 then base
  else sortAsc (base ++ (match p.inEffect with
    | some v => v.mapping.map Prod.snd
    | none => []))

/-- Every router's tables written (R325 step 4). -/
def State.writeTables (s : State) (slot : Nat) : State :=
  let imgs := s.pat.imageTiles
  let bare := ((regionTiles s.pat.spare).zip (rangeFrom 0 (regionTiles s.pat.spare).length)).filter fun x => decide (x.1 ∉ imgs)
  let w1 := bare.foldl (fun u x => u.fromSpare x.1 (sliceB s.pat.spareRoutes (64 * x.2) 64)) s.weft
  { s with weft := imgs.foldl (fun u a => u.fromImage a s.pat.variant (tImage slot (s.tile a))) w1 }

/-! ### The checks of step 4 (R327, R328) -/

/-- The digest of a field (R328). -/
def State.fieldDigest (s : State) (slot f : Nat) : List Byte :=
  let ts := (mapTilesOf s.pat.tileMap).filter fun a => decide (fieldOf a = f)
  let roles := ts.filterMap fun a =>
    match holderOf s.nvw.log a with
    | none => none
    | some h => if imageRing (tImage slot (s.tile h)) = 255 then none else some (roleCrc (tImage slot (s.tile h)))
  sha384 ((ts.flatMap fun a => leBytes 8 (routerCrc (tImage slot (s.tile a)))) ++ roles.flatMap (leBytes 8))

/-- The first field whose digest differs. -/
def State.badDigest (s : State) (slot : Nat) : Option Nat :=
  (rangeFrom 0 60).find? fun f => s.pat.uses (regionOf f) && decide (regionOf f ≠ s.pat.spare) &&
    decide (s.fieldDigest slot f ≠ s.pat.fieldDigests.getD f [])

/-- ROUTE_SPARE at a router (R323): a tree toward the spare region under variant 0, toward the dark region under another. -/
def State.spareAt (s : State) (r : Nat) : Bool :=
  let bad := if s.pat.variant = 0 then some s.pat.spare else s.pat.dark
  (s.weft.treePorts r).any fun gp => (match beyond r gp.2 with
    | some n => decide (bad = some (regionOf (fieldOf n)))
    | none => false)

/-- Ports by which a shuttle goes on inside its destination field: straight on, or turning from a row into a column; one that has entered
the field by a column may turn into a row (R165). -/
def inFieldPorts (port : Nat) (entered : Bool) : List Nat :=
  if port % 2 = 1 then [port, 0, 2] else if entered then [port, 1, 3] else [port]

/-- Links that a shuttle for field `f` may take after a link. -/
def Weft.linkFor (w : Weft) (l : Nat × Nat) (n f : Nat) : List (Nat × Nat) :=
  if fieldOf n = f then
    if fieldOf l.1 = f ∨ w.fieldEntry l.1 f = l.2 then
      ((inFieldPorts l.2 (decide (fieldOf l.1 ≠ f))).filter fun p => (beyond n p).map fieldOf = some f).map fun p => (n, p)
    else []
  else if w.fieldEntry l.1 f = l.2 ∧ fieldOf l.1 ≠ f ∧ w.fieldEntry n f < 4 then [(n, w.fieldEntry n f)]
  else []

/-- Links that a shuttle may take after a link, for some destination field (R165, R169): a link as router and port. -/
def Weft.linkNext (w : Weft) (l : Nat × Nat) : List (Nat × Nat) :=
  match beyond l.1 l.2 with
  | none => []
  | some n => (rangeFrom 0 60).flatMap (w.linkFor l n)

/-- Links from which the way goes on for ever: a link without a successor among the rest is dropped, over and over. -/
def Weft.cyclic (w : Weft) : Nat → List (Nat × Nat) → List (Nat × Nat)
  | 0, ls => ls
  | n + 1, ls =>
    let ls' := ls.filter fun l => (w.linkNext l).any fun x => decide (x ∈ ls)
    if ls'.length = ls.length then ls else w.cyclic n ls'

/-- Ring positions of a field's tiles (R102). -/
def State.fieldRings (s : State) (f : Nat) : List Nat :=
  dedupNat ((s.tiles.filter fun kv => decide (fieldOf kv.1 = f) && decide (kv.2.ringPos ≠ 255)).map fun kv => kv.2.ringPos)

/-- A strobe delay matches the measured round trip (R335). -/
def delayOk (delay rtt : Nat) : Bool := decide (20 ≤ delay + (rtt + 1) / 2) && decide (delay + (rtt + 1) / 2 ≤ 28)

/-- Every check of tiles and routers, in the order of R327: code, tile, item. -/
def State.routeCheck (s : State) (slot : Nat) (rtt : List Nat) : Option (Nat × Nat × Nat) :=
  let ts := s.pat.imageTiles
  let links := ts.flatMap fun r => (rangeFrom 0 4).filterMap fun p => if (beyond r p).isSome then some (r, p) else none
  let delays := (s.pat.inEffect.map Variant.delays).getD []
  match ts.find? fun a => decide ((s.tile a).st = 4) with
  | some a => some (16, a, 0)
  | none => match s.badDigest slot with
    | some f => some (17, 0, f)
    | none => match ts.find? s.deadAt with
      | some a => some (18, a, fieldOf a)
      | none => match ts.find? s.spareAt with
        | some a => some (19, a, 0)
        | none => match ts.find? fun a => (s.weft.revisitAt a).isSome with
          | some a => some (20, a, (s.weft.revisitAt a).getD 0)
          | none =>
            if s.weft.cyclic links.length links ≠ [] then some (21, 0, 0)
            else match ts.find? fun a => decide (256 < recN (tImage slot (s.tile a)) deltaAt 2) with
              | some a => some (22, a, fieldOf a)
              | none => match (rangeFrom 0 60).find? fun f => decide (8 < (s.fieldRings f).length) with
                | some f => some (22, 0, f)
                | none => ((rangeFrom 0 60).find? fun f => s.vsOn f && !(delayOk (delays.getD f 0) (rtt.getD f 0))).map fun f => (23, 0, f)

/-! ### Re-application and the finish (R325, R329) -/

/-- Tiles that the log leaves DARNED: a darn's or rotation's T that no later entry returns (R295, R329). -/
def stillDarned (l : List DarnEntry) : List Nat :=
  l.foldl (fun ts e => if e.kind = 1 ∨ e.kind = 2 then ts ++ [e.fromT] else if e.kind = 3 then ts.filter (fun t => decide (t ≠ e.fromT)) else ts) []

/-- One entry of the log re-applied (R329), with the tiles that stay DARNED; none where its detour cannot be written. -/
def State.reapply (s : State) (out : List Nat) (e : DarnEntry) : Option State :=
  let t := s.pat.mapped e.fromT
  let d := s.pat.mapped e.toT
  if e.kind = 1 ∨ e.kind = 2 then
    (s.detourTo t d).map fun w =>
      { (if e.fromT ∈ out then s.setTile t (tDarn (s.tile t)) else s) with weft := w, nvw := { s.nvw with
        roles := smSet 0 d ((match smGet 0 t s.nvw.roles with
          | 0 => t
          | k + 1 => k) + 1) (smSet 0 t 0 s.nvw.roles) } }
  else if e.kind = 5 then
    some { s with nvw := { s.nvw with removed := if t ∈ s.nvw.removed then s.nvw.removed else s.nvw.removed ++ [t] } }
  else some s

/-- The log re-applied from the entries that the images were built with (R329). Log entry 35. -/
def State.reapplyAll (s : State) : Option State :=
  let es := s.nvw.log.drop (s.logBaseOf s.pat)
  es.foldl (fun o e => o.bind fun u => u.reapply (stillDarned es) e) (some { s with nvw := { s.nvw with roles := [], removed := [] } })

/-- ENABLE on every image tile that bears a role other than idle (R325 step 6). -/
def State.enableRoles (s : State) : State :=
  s.onTiles fun _ t => if t.st = 2 ∧ t.ringPos ≠ 255 then tSet F.TIL_CTRL_ENABLE 1 t else t

/-- The round trips that were measured, shown before they are checked (R335). -/
def State.showRtt (s : State) (rtt : List Nat) : State :=
  { s with bank := (rangeFrom 0 60).foldl (fun b f => bankSet (F.PCK_STROBE_CAL_RTT.nth f) 0 (rtt.getD f 0) b) s.bank }

/-- The strobe delays of the variant (R325 step 6, R335). -/
def State.loadDelays (s : State) : State :=
  let delays := (s.pat.inEffect.map Variant.delays).getD []
  { s with bank := (rangeFrom 0 60).foldl (fun b f => bankSet (F.PCK_STROBE_CAL_DELAY.nth f) 0 (delays.getD f 0) b) s.bank }

/-- The place in the chain, and the partitions (R154, R274, R325 step 6). -/
def State.loadRegs (s : State) : State :=
  let n := s.pat.chainLength
  let b1 := bankSet F.PCK_CHAIN_ROLE 0 (if n ≤ 1 then 0 else if s.pat.chainIndex = 0 then 1 else 2)
    (bankSet F.PCK_CHAIN_INDEX 0 s.pat.chainIndex (bankSet F.PCK_CHAIN_LENGTH 0 n s.bank))
  let b2 := (rangeFrom 0 8).foldl (fun b n =>
    let e := s.pat.parts.getD n (false, 0)
    bankSet (F.SKN_PART_STAT_ADAPTER.nth n) 0 e.2 (bankSet (F.SKN_PART_STAT_ENABLED.nth n) 0 (b2n e.1)
      (bankSet (F.SKN_PART_STAT_PRESENT.nth n) 0 (b2n e.1) b))) b1
  { s with bank := b2 }

/-- Every image tile has left LOADING and every region used is on. -/
def State.loadReady (s : State) : Bool :=
  s.pat.regions.all s.regionOn && s.pat.imageTiles.all fun a => decide ((s.tile a).st ≠ 0) && decide ((s.tile a).st ≠ 1)

/-- LOAD_COMPLETE (R325 steps 4 to 6): the tables are written, everything is checked, the log re-applied, and the pattern is loaded. -/
def State.loadDone (s : State) (rtt : List Nat) : State :=
  match s.ld.load with
  | none => s
  | some (slot, _) =>
    if s.loadReady = false then s
    else
      let s1 := (s.writeTables slot).showRtt rtt
      match s1.routeCheck slot rtt with
      | some (code, tile, item) => s1.loadEnd code tile item
      | none => match s1.reapplyAll with
        | none => s1.loadEnd 22 0 0
        | some s2 =>
          let s3 := s2.enableRoles.loadDelays.loadRegs.set (F.WRP_SLOT_LOG_COUNT.nth slot) s2.nvw.log.length
          let s4 := { s3 with bank := putDigest F.WRP_XKP_DIGEST_DIGEST s.pat.digest s3.bank }
          (((s4.set F.WRP_STATUS_ACTIVE_SLOT slot).set F.WRP_STATUS_LOADED 1).roleMap).loadEnd 2 0 0

/-- Regions with a FAILED spool channel. -/
def State.failedRegions (s : State) : List Nat :=
  dedupNat ((s.bank.filter fun kv => decide (kv.1 % 2 ^ 26 = R.SPL_CH_STATE) && decide (kv.2.toNat % 8 = 3)).map fun kv =>
    regionOf (kv.1 / 2 ^ 26 / 64))

/-- A pattern that a load has brought into effect meets the channels that failed before it (R197, log entry 128). -/
def State.loadMeets (s : State) : State :=
  if s.get F.WRP_STATUS_LOADED = 1 then s.failedRegions.foldl State.darkRegion s else s

/-- LOAD_COMPLETE. -/
def execLoadComplete (rtt : List (BitVec 8)) (s : State) : Res :=
  .next (if s.ld.load.isSome = true ∧ s.loadReady = true then (s.loadDone (rtt.map BitVec.toNat)).loadMeets
    else s.loadDone (rtt.map BitVec.toNat))

/-! ### The end of a re-weave (R300 steps 5 and 6) -/

/-- Dumps whose segment's home channels the variant changes are lost (R566). -/
def State.penKeep (s : State) (old : Pattern) : State :=
  { s with dmp := { s.dmp with pen := s.dmp.pen.filter fun kv => decide (s.pat.homes kv.1 = old.homes kv.1) } }

/-- Every spare tile of the mapping has been loaded. -/
def State.weaveLoaded (s : State) (v : Variant) : Bool :=
  s.regionOn s.pat.spare && v.mapping.all fun x => decide ((s.tile x.2).st ≠ 0) && decide ((s.tile x.2).st ≠ 1)

/-- REWEAVE_COMPLETE: the variant's tables, checks, channel lists, delays; REWOVEN and NO_COVER; a log entry and a record; IDLE. A check that
fails has no code of R309 and is reported as VERIFY (log entry 36). A region that went dark meanwhile leaves NO_SPARE (R302). -/
def State.weaveDone (s : State) : State :=
  match s.nvw.weave with
  | none => s
  | some r => match s.pat.variantFor r with
    | none => s.weaveFail 12 0
    | some v =>
      if s.weaveLoaded v = false then s
      else
        let slot := s.get F.WRP_STATUS_ACTIVE_SLOT
        let s1 := ({ s with pat := { s.pat with variant := idxOf r (s.pat.variants.map Variant.dark |>.set 0 16) } }).sntDrop.writeTables slot
        let rtt := (rangeFrom 0 60).map fun f => s.get (F.PCK_STROBE_CAL_RTT.nth f)
        match s1.routeCheck slot rtt, s1.reapplyAll with
        | none, some s2 =>
          let s3 := s2.enableRoles.loadDelays.penKeep s.pat
          let s4 := (((s3.set F.NVW_STATUS_REWOVEN 1).set F.NVW_STATUS_NO_COVER 1).set F.NVW_REWEAVE_VALID 1).set F.NVW_REWEAVE_DARK r
          let s5 := ({ s4 with nvw := { s4.nvw with weave := none, cover := s.pat.digest } }.logDarn 0 r 4 6).beacon 6 (Config.recordData 6 [r, s.pat.spare])
          if s5.pat.regions.all s5.regionOn then s5.pckRunClear.opEnd 2 0 else s5.opEnd 12 0
        | some (_, tile, _), _ => s1.weaveFail 9 tile
        | none, none => s1.weaveFail 9 0

/-- REWEAVE_COMPLETE. -/
def execReweaveComplete (s : State) : Res := .next s.weaveDone

/-! ### Warp messages (R333) -/

/-- WARP_MESSAGE (R333): a good message ends the count of its failures; a bad one is resent, up to 3 times; after the third failure LINK_ERR.
What a good message carries acts by the rows of the commands that it carries. -/
def State.warpMsg (s : State) (f : Nat) (msg : List Byte) : State :=
  if s.vsOn f = false then s
  else if goodCopy msg then { s with ld := { s.ld with resends := smSet 0 f 0 s.ld.resends } }
  else if 3 ≤ smGet 0 f s.ld.resends then { s.set F.WRP_STATUS_LINK_ERR 1 with ld := { s.ld with resends := smSet 0 f 0 s.ld.resends } }
  else { s.add F.WRP_EP_STAT_RESENDS 1 f with ld := { s.ld with resends := smSet 0 f (smGet 0 f s.ld.resends + 1) s.ld.resends } }

/-- WARP_MESSAGE. -/
def execWarpMessage (f : Fin 60) (msg : List (BitVec 8)) (s : State) : Res := .next (s.warpMsg f.val msg)

end Sys2Proof.Machine
end

