-- ==== Sys2Proof/Machine/Views.lean ====
section
/-!
DEFINITION. What a register reads as, without the side effects of R526: the instance that a selector shows, and the registers whose value is
computed from the rest of the state (the notes of each register table).
-/
namespace Sys2Proof.Machine

/-! ### Selectors -/

/-- The instance that a register shows: the one its selector names. -/
def State.instOf (s : State) (a : Nat) : Nat :=
  if a = R.VPA_DOM_STAT ∨ a = R.VPA_DOM_VOLT ∨ a = R.VPA_DOM_PATH then s.get F.VPA_DOM_SEL_DOM
  else if a = R.VPA_PHASE_STAT then s.get F.VPA_PHASE_SEL_DOM * 16 + s.get F.VPA_PHASE_SEL_PHASE
  else if a = R.VPA_DROOP_WARN ∨ a = R.VPA_DROOP_RESET ∨ a = R.VPA_DROOP_STRETCH then s.get F.VPA_DROOP_SEL_FIELD
  else if a = R.CLK_PLL_STAT then s.get F.CLK_PLL_SEL_PLL
  else if a = R.CLK_XCLASS_STAT then s.get F.CLK_XCLASS_SEL_CLASS
  else if a = R.CLK_SEAM_FILL then s.get F.CLK_SEAM_SEL_SEAM * 128 + s.get F.CLK_SEAM_SEL_CHANNEL
  else if a = R.THM_SENS_STAT then s.get F.THM_SENS_SEL_FIELD * 32 + s.get F.THM_SENS_SEL_SENSOR
  else if a = R.HLS_PORT_STAT ∨ a = R.HLS_PORT_RTT ∨ a = R.HLS_PORT_FEC_CE ∨ a = R.HLS_PORT_FEC_UE ∨ a = R.HLS_PORT_CRC ∨
    a = R.HLS_PORT_RETRY then s.get F.HLS_PORT_SEL_PORT
  else if a = R.WRP_EP_STAT then s.get F.WRP_EP_SEL_FIELD
  else if a = R.PCK_ARITH_CLAMP ∨ a = R.PCK_ARITH_SAT ∨ a = R.PCK_ARITH_FIRST then s.get F.PCK_ARITH_SEL_POS
  else if a = R.SPL_POOL_FREE ∨ a = R.SPL_POOL_LOW ∨ a = R.SPL_POOL_MIN then s.get F.SPL_POOL_SEL_BAND
  else if a = R.SPL_XC_HIT ∨ a = R.SPL_XC_MISS then s.get F.SPL_XC_SEL_FIELD
  else if a = R.SPL_CH_STATE then s.get F.SPL_CH_SEL_FIELD * 64 + s.get F.SPL_CH_SEL_CHANNEL
  else if a = R.WFT_RTR_BLOCK ∨ a = R.WFT_RTR_RETRY then s.get F.WFT_RTR_SEL_ADDR
  else 0

/-! ### Computed values -/

/-- A word with fields put over a stored one. -/
def overlay (w : Word) (fs : List (Fld × Nat)) : Word := fs.foldl (fun u f => fldPut f.1 f.2 u) w

/-- The domain of a PLL is on (R458). -/
def State.pllPowered (s : State) (n : Nat) : Bool :=
  if n < 60 then s.vsOn n
  else if n = 61 then s.domOn 52
  else if n = 62 ∨ n = 63 then s.domOn 53
  else if 68 ≤ n ∧ n < 128 then s.vmOn (n - 68)
  else if 128 ≤ n ∧ n < 144 then s.vxOn (n - 128)
  else true

/-- CLK_STATUS.ALL_LOCKED (R470). -/
def State.allLocked (s : State) : Bool :=
  (rangeFrom 0 145).all fun n => !(s.pllPowered n) || decide (s.get F.CLK_PLL_STAT_STATE n = 2)

/-- Stated latency of a crossing class in units of 10 ps (R460, R472). -/
def classLat (c : Nat) : Nat :=
  if c = 4 ∨ c = 5 then 606 else if c = 6 then 538 else if c = 7 then 402 else if c = 8 then Config.latControl else 0

/-- Skeins in a state, FREE those of the 4,096 that are in no other (R271). -/
def State.skeinCount (s : State) (st : Nat) : Nat :=
  if st = 0 then 4096 - (s.reed.skeins.filter fun kv => decide (kv.2.state ≠ 0)).length
  else (s.reed.skeins.filter fun kv => decide (kv.2.state = st)).length

/-- Free lane-slots in the current mode, none without a pattern (R271). -/
def State.freeLanes (s : State) : Nat :=
  if s.get F.WRP_STATUS_LOADED = 0 then 0 else s.laneSlots s.mode - s.ownedLanes

/-- Bits of `n` places that satisfy a test. -/
def bitSet (n : Nat) (p : Nat → Bool) : Nat := sumNat ((rangeFrom 0 n).map fun i => if p i then 2 ^ i else 0)

/-- Some instance is in a state. -/
def State.anyDom (s : State) (st : Nat) : Bool := (rangeFrom 0 55).any fun d => decide (s.get F.VPA_DOM_STAT_STATE d = st)

/-- Flow and inlet bounds in force, in 0.1 L/min and 0.1 °C (R492). -/
def State.flowWarn (s : State) : Nat := 10 * max 48 (s.get F.THM_FLOW_CFG_WARN)
def State.inletMax (s : State) : Nat := 10 * min 35 (s.get F.THM_FLOW_CFG_INLET_MAX)

/-- COOL_OK (R476): the last tray reading is valid and within bounds. -/
def State.coolOk (s : State) : Bool :=
  s.thm.valid && decide (s.flowWarn ≤ s.get F.THM_FLOW_FLOW) && decide (sgn 16 (s.get F.THM_TRAY_INLET) ≤ (s.inletMax : Int))

/-- State of a phase: SHED, ON with its instance, else OFF (R448). -/
def State.phaseState (s : State) (d k : Nat) : Nat :=
  if domPhases d ≤ k then 0
  else if s.get F.VPA_PHASE_STAT_STATE (d * 16 + k) = 2 then 2
  else if 2 ≤ s.get F.VPA_DOM_STAT_STATE d ∧ s.get F.VPA_DOM_STAT_STATE d ≤ 5 then 1 else 0

/-- Signatures that the identity key has left (R510). -/
def State.lmsLeft (s : State) : Nat := 2 ^ 40 - s.trust.lmsNext

/-- A position has fewer free darn tiles than NVW_THRESH.RES_LOW allows (R296). -/
def State.reserveLow (s : State) : Bool :=
  decide (s.get F.WRP_STATUS_LOADED = 1) && (rangeFrom 0 130).any fun p => decide (s.darnFree p ≤ s.cfg F.NVW_THRESH_RES_LOW)

/-- The dump in a segment of the pen: whether it was cut, and its bytes. -/
def State.penAt (s : State) (k : Nat) : Option (Bool × List Byte) := smGet none k s.dmp.pen

/-- A word of the selected router's tables; nothing where ADDR names no tile. -/
def State.tableWord (s : State) : Nat :=
  let r := s.get F.WFT_RTR_SEL_ADDR
  if tileOk r then s.weft.tableData r (s.get F.WFT_TBL_ADDR_TABLE) (s.get F.WFT_TBL_ADDR_ENTRY) else 0

/-- States of a router's four links (R175, R189). -/
def State.linkWord (s : State) (r : Nat) : Nat :=
  if tileOk r then sumNat ((rangeFrom 0 4).map fun p => s.linkState r p * 8 ^ p) else 0

/-- The 64-bit word of the entry that SKN_ENT_SEL latched (R273). -/
def State.entWord (s : State) : Nat := s.reed.entry.getD (s.get F.SKN_ENT_SEL_WORD) 0

/-- Words of SKN_: counts of skeins and lane-slots, the entry, the sampler table, commits (R270 to R275). -/
def State.sknWord (s : State) (a : Nat) (w : Word) : Word :=
  if R.SKN_NUM ≤ a ∧ a < R.SKN_NUM + 16 then
    let n := (a - R.SKN_NUM) / 4
    BitVec.ofNat 32 (s.skeinCount (2 * n) + s.skeinCount (2 * n + 1) * 2 ^ 16)
  else if a = R.SKN_LANES then BitVec.ofNat 32 (s.ownedLanes + s.freeLanes * 2 ^ 16)
  else if a = R.SKN_STATUS then overlay w [(F.SKN_STATUS_ADMIT_STOPPED, b2n s.admitStopped), (F.SKN_STATUS_CRIT, b2n s.critNow)]
  else if R.SKN_PART_STAT ≤ a ∧ a < R.SKN_PART_STAT + 64 ∧ (a - R.SKN_PART_STAT) % 8 = 0 then
    BitVec.ofNat 32 (w.toNat / 2 ^ 13 * 2 ^ 13 + min 8191 (s.partOwned ((a - R.SKN_PART_STAT) / 8)))
  else if a = R.SKN_ENT_LO then BitVec.ofNat 32 s.entWord
  else if a = R.SKN_ENT_HI then BitVec.ofNat 32 (s.entWord / 2 ^ 32)
  else if a = R.SKN_SAMP_DATA then s.reed.sampWord (4 * s.get F.SKN_SAMP_ADDR_ENTRY + s.get F.SKN_SAMP_ADDR_WORD)
  else if a = R.SKN_COMMITS_LO then BitVec.ofNat 32 s.reed.commits
  else if a = R.SKN_COMMITS_HI then BitVec.ofNat 32 (s.reed.commits / 2 ^ 32)
  else w

/-- Words of NVW_ (R305, R311 to R314). -/
def State.nvwWord (s : State) (a : Nat) (w : Word) : Word :=
  if a = R.NVW_STATUS then overlay w [(F.NVW_STATUS_REFRESH_PEND, b2n (s.nvw.queue.any DarnReq.rotation)),
    (F.NVW_STATUS_DARN_BUSY, b2n s.darning), (F.NVW_STATUS_RESERVE_LOW, b2n s.reserveLow), (F.NVW_STATUS_LOG_FULL, b2n s.logFull)]
  else if a = R.NVW_SCRUB_STAT then overlay w [(F.NVW_SCRUB_STAT_QUEUED, (s.nvw.queue.filter DarnReq.rotation).length)]
  else if a = R.NVW_POS_STAT then
    BitVec.ofNat 32 (min 255 (s.darnFree (s.get F.NVW_POS_SEL_POS)) + min 255 (s.darnTotal (s.get F.NVW_POS_SEL_POS)) * 2 ^ 8)
  else if a = R.NVW_LOG_COUNT then BitVec.ofNat 32 s.nvw.log.length
  else if a = R.NVW_REWEAVE then overlay w [(F.NVW_REWEAVE_SPARE, s.pat.spare)]
  else w

/-- Words of the other blocks. -/
def State.viewWord (s : State) (a : Nat) (w : Word) : Word :=
  if a = R.HC_TIME_LO then BitVec.ofNat 32 s.timeUs
  else if a = R.HC_TIME_HI then BitVec.ofNat 32 (s.timeUs / 2 ^ 32)
  else if a = R.ATT_STATUS then overlay w [(F.ATT_STATUS_LMS_LOW, b2n (decide (s.lmsLeft < 2 ^ 24))),
    (F.ATT_STATUS_LMS_OUT, b2n (decide (s.lmsLeft ≤ 1))), (F.ATT_STATUS_KEY_SET, b2n (decide (s.trust.patKey ≠ [])))]
  else if a = R.SNT_STATUS then overlay w [(F.SNT_STATUS_ENABLED, s.get F.SNT_CTRL_EN)]
  else if a = R.ATT_LMS_LO then BitVec.ofNat 32 s.lmsLeft
  else if a = R.ATT_LMS_HI then BitVec.ofNat 32 (s.lmsLeft / 2 ^ 32)
  else if a = R.CLK_STATUS then overlay w [(F.CLK_STATUS_ALL_LOCKED, b2n s.allLocked)]
  else if a = R.CLK_XCLASS_STAT then overlay w [(F.CLK_XCLASS_STAT_LAT, classLat (s.get F.CLK_XCLASS_SEL_CLASS))]
  else if a = R.VPA_STATUS then overlay w [(F.VPA_STATUS_RAMP_WAIT, b2n (s.anyDom 1)), (F.VPA_STATUS_CAPPED, b2n (s.anyDom 4))]
  else if a = R.THM_STATUS then overlay w [(F.THM_STATUS_COOL_OK, b2n s.coolOk), (F.THM_STATUS_CEILING, b2n (decide (s.pm.ceilThermal ≠ 0)))]
  else if a = R.THM_FLOW then overlay w [(F.THM_FLOW_AGE, min 65535 ((s.timeUs - s.thm.last) / 1000))]
  else if a = R.VPA_PHASE_STAT then
    overlay w [(F.VPA_PHASE_STAT_STATE, s.phaseState (s.get F.VPA_PHASE_SEL_DOM) (s.get F.VPA_PHASE_SEL_PHASE))]
  else if a = R.VPA_REGION_STAT then overlay w [(F.VPA_REGION_STAT_VL_ON, bitSet 16 s.domOn)]
  else if a = R.PCK_PICK_LO then BitVec.ofNat 32 s.pm.pick
  else if a = R.PCK_PICK_HI then BitVec.ofNat 32 (s.pm.pick / 2 ^ 32)
  else if a = R.PCK_CTRL then overlay w [(F.PCK_CTRL_RUN, b2n (decide (s.pickState ≠ 0)))]
  else if a = R.WFT_RTR_LINK then BitVec.ofNat 32 (s.linkWord (s.get F.WFT_RTR_SEL_ADDR))
  else if a = R.WFT_TBL_DATA then BitVec.ofNat 32 s.tableWord
  else if a = R.DMP_PEN_STAT then
    match s.penAt (s.get F.DMP_PEN_SEL_SEG) with
    | none => overlay w [(F.DMP_PEN_STAT_VALID, 0), (F.DMP_PEN_STAT_TRUNCATED, 0), (F.DMP_PEN_STAT_SIZE, 0)]
    | some d => overlay w [(F.DMP_PEN_STAT_VALID, 1), (F.DMP_PEN_STAT_TRUNCATED, b2n d.1), (F.DMP_PEN_STAT_SIZE, (d.2.length + 4095) / 4096)]
  else if a / 0x10000 = 11 then s.sknWord a w
  else if a / 0x10000 = 14 then s.nvwWord a w
  else w

/-- Bits that read as 0: those of WO fields and those that no row shows (R5). -/
def readMask (a : Nat) (r : RegRow) : Nat := Nat.land (Nat.lor (Nat.lor r.rw r.w1c) (Nat.lor r.ro r.resl)) (res0Mask a)

/-- The RES-L bits of a register as the factory set them (R5). -/
def reslBits (a : Nat) (r : RegRow) : Nat := Nat.land (Config.resL a) r.resl

/-- The word at an address of a block window, none where no register lies; a latched upper word reads as latched (R522, R526). -/
def State.regWord (s : State) (a : Nat) : Option Word :=
  (regRow? a).map fun r =>
    match smGet none a s.latch with
    | some v => v
    | none =>
      let w := s.viewWord a (s.reg a (s.instOf a))
      BitVec.ofNat 32 (Nat.lor (Nat.land w.toNat (readMask a r) - Nat.land (Nat.land w.toNat (readMask a r)) r.resl) (reslBits a r))

/-- The first 64 KiB of a tile's calibration record, which TIL_CAL shows from when VL comes on; no command writes it (R31, R74, R281). -/
def tCalRecord (t : Tile) : List Byte := smGetBytes (128 * 64512) 65536 t.nvw

/-- TIL_CAL_0 and TIL_CAL_1 (R74). Log entry 26. -/
def tCal0 (t : Tile) : Word := BitVec.ofNat 32 (Config.calWord (tCalRecord t))
def tCal1 (t : Tile) : Word := BitVec.ofNat 32 (crc32c (tCalRecord t))

/-- A word of TIL_ of a tile, none where no register lies (R61 to R75). TIL_EXCL_DATA reads 0 for WORD 96 to 127, which name no word of the map
(R75): log entry 114, DESIGN CHOICE. -/
def State.tilWord (s : State) (t off : Nat) : Option Word :=
  let a := 0x110000 + off
  (regRow? a).map fun r =>
    let u := s.tile t
    let w := bankReg (rkey a 0) u.regs
    let v :=
      if a = R.TIL_ID then BitVec.ofNat 32 t
      else if a = R.TIL_STATE then BitVec.ofNat 32 (u.st + u.slot * 16)
      else if a = R.TIL_SEQ then overlay w [(F.TIL_SEQ_PC, u.pc.toNat)]
      else if R.TIL_ARR ≤ a ∧ a < R.TIL_ARR + 64 then BitVec.ofNat 32 (smGet 0 ((a - R.TIL_ARR) / 4) u.arr % 2 ^ 16)
      else if a = R.TIL_CAL_0 then tCal0 u
      else if a = R.TIL_CAL_1 then tCal1 u
      else if a = R.TIL_EXCL_DATA then smGet 0 (tGet F.TIL_EXCL_ADDR_WORD u) u.excl
      else w
    BitVec.ofNat 32 (Nat.lor (Nat.land v.toNat (readMask a r) - Nat.land (Nat.land v.toNat (readMask a r)) r.resl) (reslBits a r))

end Sys2Proof.Machine
end

