-- ==== Sys2Proof/Machine/Reset.lean ====
section
/-!
DEFINITION. The resets of the device (R506, R507, R513): what each scope keeps, and what follows at once on the pins and in BOOT_STATUS.
-/
namespace Sys2Proof.Machine

/-! ### What a reset keeps of the registers -/

/-- Registers of an array. -/
def arrayRegs (base n : Nat) : List Nat := (rangeFrom 0 n).map fun i => base + 4 * i

/-- Registers held in locked NV or in the NVW as a whole (R498, R312, R313, R319, R338). -/
def nvRegs : List Nat :=
  [R.WRP_BOOT, R.NVW_PROG_MAX] ++ arrayRegs R.WRP_SLOT 4 ++ arrayRegs R.WRP_SLOT_SER 4 ++ arrayRegs R.NVW_LWI_DIGEST 12 ++ arrayRegs R.BOOT_ID 4

/-- Fields held in locked NV (R498, R499, R511). -/
def nvFields : List (Fld × Nat) :=
  [(F.NVW_STATUS_PROGRAMMED, 0), (F.BOOT_SVN_FW_SVN, 0), (F.BOOT_SVN_KEY_EPOCH, 0), (F.ATT_STATUS_REKEYS, 0), (F.HC_INFO_GRADE, 0)] ++
    (rangeFrom 0 55).map fun d => (F.VPA_DOM_PATH_R_CAL, d)

/-- Registers of the power array: which phases are shed, which instances are TRIPPED (R440, R506). -/
def powerRegs : List Nat := [R.VPA_DOM_STAT, R.VPA_PHASE_STAT, R.VPA_SHED_COUNT]

/-- Registers of parts that a warm reset leaves on: PLLs, spool channels, and the next segment of the dump pen (R506, R566). -/
def warmRegs : List Nat := [R.CLK_PLL_STAT, R.SPL_CH_STATE, R.DMP_PEN_STAT]

/-- A bank reset but for some registers and fields. -/
def bankKeep (regs : List Nat) (fs : List (Fld × Nat)) (b : SMap Word) : SMap Word :=
  fs.foldl (fun n f => bankSet f.1 f.2 (bankGet f.1 f.2 b) n) (b.filter fun kv => decide (kv.1 % 2 ^ 26 ∈ regs))

/-- The spool channels stay as they are over a warm reset, their counts and readings do not (R240, R506). -/
def chanKept (kv : Nat × Word) : Option (Nat × Word) :=
  if kv.1 % 2 ^ 26 = R.SPL_CH_STATE then (if kv.2.toNat % 8 = 0 then none else some (kv.1, kv.2 &&& 7#32)) else some kv

/-! ### The units -/

/-- The controllers after a reset: banks, keys, certificates and counters stay; the rest of the reserved block of signatures is given up
(R498, R510). -/
def Trust.afterReset (t : Trust) (now : Nat) : Trust :=
  { Trust.empty with banks := t.banks, cur := t.cur, fwEcdsa := t.fwEcdsa, fwHss := t.fwHss, patKey := t.patKey, certs := t.certs,
                     lmsNext := t.lmsEnd, lmsEnd := t.lmsEnd, trees := t.trees, keys := t.keys, vkTime := now }

/-- The weight store after a reset: rows, log and factory map stay (R506). -/
def Nvw.afterReset (n : Nvw) : Nvw :=
  { Nvw.empty with log := n.log, mapHdr := n.mapHdr, map := n.map, mapDigest := n.mapDigest, removed := n.removed, returned := n.returned,
                   roles := n.roles, logOut := n.logOut, bad := n.bad, logXkp := n.logXkp, stale := n.stale }

/-- The host interface after a reset; numbering of flits goes on (log entry 37). -/
def State.hostAfter (s : State) (keep : Bool) : HostIf :=
  { HostIf.empty with
    rxSeq := s.host.rxSeq
    links := (rangeFrom 0 16).foldl (fun m p => smSet SendLink.empty p { SendLink.empty with taken := s.out.length, sent := s.flitsSent p } m) []
    queue := if keep then s.host.queue else []
    evQueue := if keep then s.host.evQueue else [] }

/-- The state that every reset leaves, with a bank and what is kept of the spool and the dump pen (R506). -/
def State.cleared (s : State) (bank : SMap Word) (spool : Spool) (pen : SMap (Option (Bool × List Byte))) (keep : Bool) : State :=
  { s with
    bank := bank, held := [], latch := []
    tiles := mapTiles (fun _ t => tOff false t) s.tiles
    flt := State.reset.flt, inj := [], pat := Pattern.empty
    pm := { PickMaster.empty with ceilPower := s.pm.ceilPower }
    weft := Weft.empty, reed := Reed.empty, bcn := State.reset.bcn, host := s.hostAfter keep, spool := spool
    nvw := s.nvw.afterReset, ld := { Loader.empty with store := s.ld.store }
    pwr := { Power.empty with vinBand := s.pwr.vinBand, vinRun := s.pwr.vinRun, stbyBand := s.pwr.stbyBand, stbyRun := s.pwr.stbyRun }
    clk := { Clock.empty with lost := s.clk.lost }
    thm := { Thermal.empty with acted := s.thm.acted, last := s.timeUs }
    snt := Sentinel.empty, trust := s.trust.afterReset s.timeUs
    dmp := { State.reset.dmp with pen := pen } }

/-! ### Resets -/

/-- A line on the management serial port for a stage (R592). -/
def State.mgmt (s : State) (code : Nat) : State := s.emit [.mgmt (Config.mgmtLine (s.get F.BOOT_STATUS_STAGE) code)]

/-- Both controllers stop, and stage 1 begins unless RESET_N holds it (R503, R506, R592). -/
def State.bootBegin (s : State) (last : Nat) : State :=
  let s1 := (s.set F.BOOT_STATUS_LAST_RESET last).set F.BOOT_STATUS_WDOG_RESET (b2n (decide (last = 4)))
  let s2 := { s1 with pins := { s1.pins with hcStat := false } }.emit [.pin 14 false]
  if s2.pins.resetLow then s2 else (s2.set F.BOOT_STATUS_STAGE 1).mgmt 0

/-- Tests that a reset ends: a channel under a swatch test goes back to its state. -/
def State.splTestOff (s : State) : State := if s.spool.swatch.isSome then s.splSwatchEnd 7 0 else s

/-- A warm reset (R506, R507): VL and VA go off; VK, VS, VM and VX stay. -/
def State.warmReset (s : State) (last : Nat) : State :=
  let s1 := (rangeFrom 0 32).foldl (fun u d => u.domOff d 1) s.splTestOff
  let bank := bankKeep (nvRegs ++ powerRegs ++ warmRegs) (nvFields ++ [(F.CLK_STATUS_REF_SUB, 0)]) (s1.bank.filterMap chanKept)
  ((s1.cleared bank { s1.spool with xc := [] } s1.dmp.pen false).set F.PCK_CEILING_DEPTH s1.pm.ceilPower).bootBegin last

/-- Switched domains that are not off go off. -/
def State.restOff (s : State) : State :=
  (rangeFrom 0 54).foldl (fun u d => if u.get F.VPA_DOM_STAT_STATE d = 0 then u else u.domOff d 1) s

/-- PWRGOOD low (R592). -/
def State.powerBad (s : State) : State := { s with pins := { s.pins with pwrgood := false } }.emit [.pin 11 false]

/-- A cold reset (R506): every switched domain off, VK stays; TRIPPED and shed phases stay until the phase test (R440, R507). -/
def State.coldReset (s : State) (last : Nat) : State :=
  let s1 := s.restOff
  let bank := bankKeep (nvRegs ++ powerRegs) nvFields s1.bank
  let s2 := s1.cleared bank Spool.empty [] (decide (last = 7))
  ({ s2 with thm := { Thermal.empty with last := s2.timeUs } }.powerBad).bootBegin last

/-- A power reset (R506): only locked NV, the NVW and the boot store stay; VK is off, and heddle time has ended (R530). -/
def State.powerReset (s : State) : State :=
  let s1 := s.restOff
  let s2 := s1.cleared (bankKeep nvRegs nvFields s1.bank) Spool.empty [] false
  let s3 := { s2 with
    timeUs := 0, thm := Thermal.empty, clk := Clock.empty, pwr := Power.empty, pm := PickMaster.empty,
    trust := { s2.trust with vkTime := 0 }, pins := { s2.pins with hcStat := false } }
  s3.powerBad.emit [.pin 14 false]

/-- A warm reset is asked for: it waits for the DUMP record of a dump that is being written (R513). -/
def State.warmAsk (s : State) (last : Nat) : State :=
  if s.dmp.run.isSome then { s with trust := { s.trust with resetWait := some (1, last) } } else s.warmReset last

end Sys2Proof.Machine
end

