-- ==== Sys2Proof/Machine/Beacon.lean ====
section
/-!
DEFINITION. Fault records and the beacon (R396, R397, R442, R488, R556, R558): the fault log, the bytes of records, and the three writes of
a beacon.
-/
namespace Sys2Proof.Machine

/-! ### The fault log (R556, R558) -/

/-- A heddle controller runs as primary (R494). -/
def State.hcRuns (s : State) : Bool :=
  if s.get F.BOOT_STATUS_PRIMARY = 0 then decide (s.get F.BOOT_STATUS_HCA_OK = 1) else decide (s.get F.BOOT_STATUS_HCB_OK = 1)

/-- The primary numbers the oldest record on TELEM and logs it; the log keeps 1,024. -/
def State.logFault (s : State) : State :=
  match s.flt.telem with
  | [] => s
  | m :: ms =>
    let n := s.get F.DMP_FSEQ_FSEQ + 1
    let log := s.flt.log ++ [(n, m)]
    { s.set F.DMP_FSEQ_FSEQ n with flt := { s.flt with telem := ms, log := log.drop (log.length - 1024) } }

/-- Every record on TELEM is logged, at most `n`. -/
def State.logAll (s : State) : Nat → State
  | 0 => s
  | n + 1 => s.logFault.logAll n

/-- The 32 bytes of a record. -/
def faultBytes (system : Nat) (r : Nat × FaultMsg) : List Byte :=
  leBytes 4 r.1 ++ leBytes 6 r.2.pick ++ leBytes 6 r.2.time ++ leBytes 1 r.2.code ++ leBytes 1 r.2.block ++ leBytes 1 (r.2.scope % 16) ++
    leBytes 1 (b2n r.2.injected + 2 * b2n r.2.suppressed) ++ leBytes 3 (r.2.unit % 2 ^ 19) ++ [0] ++ leBytes 2 (system % 2 ^ 14) ++
    leBytes 6 r.2.detail

/-- The latest `n` records, oldest first, filled up with zeros. -/
def State.faultLog (s : State) (n : Nat) : List Byte :=
  sliceB ((s.flt.log.drop (s.flt.log.length - n)).flatMap (faultBytes (s.get F.DMP_SYSTEM_INDEX))) 0 (32 * n)

/-! ### The beacon (R396, R397) -/

/-- The 32 bytes of a beacon record. -/
def beaconRec (r : Nat × Nat × Nat × List Byte) : List Byte :=
  leBytes 4 r.1 ++ leBytes 1 r.2.1 ++ zeroBytes 3 ++ leBytes 6 r.2.2.1 ++ zeroBytes 2 ++ sliceB r.2.2.2 0 16

/-- STATE of the beacon. -/
def State.beaconState (s : State) : Nat :=
  s.pickState % 16 + s.mode % 4 * 2 ^ 4 + s.level % 8 * 2 ^ 6 + s.get F.PCK_STATUS_FLOOR * 2 ^ 9 + s.get F.WRP_STATUS_LOADED * 2 ^ 10 +
    s.get F.BOOT_STATUS_PRIMARY * 2 ^ 11 + s.get F.NVW_STATUS_REWOVEN * 2 ^ 12 + s.get F.HLS_STATUS_NO_HOST * 2 ^ 13

/-- The shallowest depth that every instance at its setpoint allows (R442). -/
def State.allowedAll (s : State) : Nat :=
  maxNat ((rangeFrom 0 32).map fun d => if s.domOn d then s.get F.VPA_DOM_STAT_ALLOWED d else 0)

/-- The state of an instance. -/
def State.domState (s : State) (d : Nat) : Nat := s.get F.VPA_DOM_STAT_STATE d

/-- The power fields, bytes [95:64] (R442). -/
def State.powerBytes (s : State) : List Byte :=
  leBytes 2 (s.get F.VPA_INPUT_VIN) ++ leBytes 2 (s.get F.VPA_INPUT_IIN) ++ leBytes 2 (s.get F.VPA_POWER_PIN) ++
    leBytes 2 (s.get F.VPA_CAP_CAP_W) ++ leBytes 2 (s.get F.VPA_SHED_COUNT_SHED) ++
    leBytes 2 (bitSet 16 fun r => decide (s.domState r = 4) || decide (s.domState (16 + r) = 4)) ++
    leBytes 2 (bitSet 16 fun r => decide (s.domState r = 6) || decide (s.domState (16 + r) = 6) || decide (s.domState (32 + r) = 6)) ++
    leBytes 1 s.allowedAll ++
    leBytes 1 (s.get F.VPA_STATUS_INPUT_LIMIT + 2 * s.get F.VPA_STATUS_VIN_LOW + 4 * s.get F.VPA_STATUS_VIN_HIGH + 8 * b2n s.vmTripped) ++
    zeroBytes 16

/-- A reading in 0.1 °C of sensor `n` of field `f`. -/
def State.temp (s : State) (f n : Nat) : Int := sgn 16 (s.get F.THM_SENS_STAT_TEMP (f * 32 + n))

/-- Sensors of a group: junction (die and NVW) or DRAM (R479, R480). -/
def groupSensors (dram : Bool) : List Nat := if dram then rangeFrom 16 8 else rangeFrom 0 16 ++ [24, 25]

/-- The larger of two readings with their places, the first where they are equal. -/
def hotter (a b : Int × Nat) : Int × Nat := if a.1 < b.1 then b else a

/-- The hottest reading of a group with its field. -/
def State.hottest (s : State) (dram : Bool) : Int × Nat :=
  ((rangeFrom 0 60).flatMap fun f => (groupSensors dram).map fun n => (s.temp f n, f)).foldl hotter (s.temp 0 (if dram then 16 else 0), 0)

/-- The thermal fields, bytes [127:96] (R488). -/
def State.thermalBytes (s : State) : List Byte :=
  leBytes 2 (s.get F.THM_TRAY_INLET) ++ leBytes 2 (s.get F.THM_TRAY_OUTLET) ++ leBytes 2 (s.get F.THM_FLOW_FLOW) ++
    leBytes 2 (tow 16 (s.hottest false).1) ++ leBytes 1 (s.hottest false).2 ++ leBytes 2 (tow 16 (s.hottest true).1) ++
    leBytes 1 (s.hottest true).2 ++ leBytes 2 (s.get F.THM_PRED_PRED) ++
    leBytes 1 (s.get F.THM_STATUS_FLOW_WARN + 2 * s.get F.THM_STATUS_INLET_HIGH + 4 * s.get F.THM_STATUS_TRAY_LOST +
      8 * b2n (decide (s.pm.ceilThermal ≠ 0)) + 16 * s.get F.THM_STATUS_PARKING + 32 * s.get F.THM_STATUS_STOPPED) ++ zeroBytes 17

/-- The lowest number of free frames with its band. -/
def State.lowBand (s : State) : Nat × Nat :=
  (rangeFrom 0 128).foldl (fun m b => if s.spool.free b < m.1 then (s.spool.free b, b) else m) (s.spool.free 0, 0)

/-- Two 4-bit codes in a byte. -/
def State.cmapByte (s : State) (i : Nat) : Byte :=
  BitVec.ofNat 8 (smGet 0 (2 * i) s.weft.cmapCodes % 16 + smGet 0 (2 * i + 1) s.weft.cmapCodes % 16 * 16)

/-- The beacon with a sequence number. -/
def State.beaconBytes (s : State) (seq : Nat) : List Byte :=
  leBytes 8 seq ++ leBytes 6 s.pm.pick ++ zeroBytes 2 ++ leBytes 8 s.timeUs ++ leBytes 4 s.beaconState ++
    leBytes 4 (s.reg R.PCK_LAG_CY).toNat ++ (rangeFrom 0 8).flatMap (fun st => leBytes 2 (s.skeinCount st)) ++
    leBytes 2 s.ownedLanes ++ leBytes 2 s.freeLanes ++ leBytes 4 s.reed.ivCommits ++ leBytes 4 s.reed.ivVoids ++ zeroBytes 4 ++
    s.powerBytes ++ s.thermalBytes ++
    leBytes 4 (s.lowBand.1 % 2 ^ 20 + s.lowBand.2 * 2 ^ 20) ++ leBytes 4 (s.reed.skeins.filter fun kv => kv.2.swapped).length ++
    leBytes 4 (s.get F.WFT_CMAP_SEQ_SEQ) ++ (rangeFrom 0 30).map s.cmapByte ++ zeroBytes 22 ++
    (rangeFrom 0 5).flatMap (fun i => leBytes 4 (s.reg (R.PCK_ARITH_MAP + 4 * i)).toNat) ++ zeroBytes 300 ++
    s.faultLog 32 ++ sliceB (s.bcn.recs.flatMap beaconRec) 0 2048 ++ zeroBytes 504 ++ leBytes 8 seq

/-- A beacon that cannot be sent is counted. -/
def State.beaconMiss (s : State) : State := (s.set F.HLS_STATUS_BEACON_MISS 1).add F.HLS_BEACON_MISSES_MISSES 1

/-- A beacon is written, its first bytes first and its last bytes last. -/
def State.beaconWrite (s : State) (p : Nat) : State :=
  let seq := s.bcn.bseq + 1
  let bs := s.beaconBytes seq
  let base := s.get F.HLS_BEACON_LO_ADDR_LO * 4096 + s.get F.HLS_BEACON_HI_ADDR_HI * 2 ^ 32
  let s1 := (s.set F.HLS_BEACON_SEQ_SEQ seq).emit
    [.memWr p 1 base (bs.take 8), .memWr p 1 (base + 8) ((bs.drop 8).take 4080), .memWr p 1 (base + 4088) (bs.drop 4088)]
  { s1 with bcn := { s1.bcn with bseq := seq }, reed := { s1.reed with ivCommits := 0, ivVoids := 0 } }

/-- A beacon now, while BEACON_EN = 1; `late`: it cannot be sent within its interval. -/
def State.beaconSend (s : State) (late : Bool) : State :=
  if s.get F.HLS_CTRL_BEACON_EN = 0 then s
  else match s.hostPort (s.get F.HLS_BEACON_LO_PORT) with
    | none => s.beaconMiss
    | some p => if late then s.beaconMiss else s.beaconWrite p

/-- BEACON (R396); with no primary it is skipped (R497). -/
def execBeacon (late : Bool) (s : State) : Res := .next (s.beaconSend (late || !s.hcRuns))

end Sys2Proof.Machine
end

