-- ==== Sys2Proof/Machine/Dump.lean ====
section
/-!
DEFINITION. The fatal halt and the dump (R400, R409, R562 to R567): the bytes of a dump, where it goes, how it ends, and the dump pen.
-/
namespace Sys2Proof.Machine

/-! ### The bytes of a dump (R564, R565) -/

/-- The clock of a tile is stopped: VL off, or DARNED (R465). -/
def State.tileStopped (s : State) (a : Nat) : Bool := !(s.vlOn (fieldOf a)) || decide ((s.tile a).st = 5)

/-- Neither a tile's clock nor that of its field runs (R465, R564). -/
def State.clockStopped (s : State) (a : Nat) : Bool :=
  s.tileStopped a || !(s.vsOn (fieldOf a)) || decide (fieldOf a ∈ s.clk.stopped)

/-- The words of a tile's registers from offset 0x0000 to 0x00FC. -/
def State.dumpTile (s : State) (a : Nat) : List Byte :=
  if s.clockStopped a then List.replicate 256 0xFF
  else (rangeFrom 0 64).flatMap fun i => leBytes 4 ((s.tilWord a (4 * i)).getD 0).toNat

/-- The record of a router. -/
def State.dumpRouter (s : State) (a : Nat) : List Byte :=
  leBytes 4 (s.linkWord a) ++ leBytes 4 (s.reg R.WFT_RTR_BLOCK a).toNat ++ leBytes 4 (s.reg R.WFT_RTR_RETRY a).toNat ++
    leBytes 4 (b2n (s.clockStopped a)) ++ zeroBytes 16

/-- Every physical tile in address order. -/
def tileCount : Nat := 276480

/-- The sections after the header, in order. -/
def State.dumpSections (s : State) : List (List Byte) :=
  [ s.faultLog 1024,
    (rangeFrom 0 17).flatMap fun k => (rangeFrom 0 1024).flatMap fun i => leBytes 4 ((s.regWord (k * 0x10000 + 4 * i)).getD 0).toNat,
    (rangeFrom 0 4096).flatMap fun id => (s.entryWords id).flatMap (leBytes 8),
    sliceB (s.nvw.log.flatMap DarnEntry.bytes) 0 131072,
    (rangeFrom 0 tileCount).flatMap fun n => s.dumpTile (tileOfIndex n),
    (rangeFrom 0 tileCount).flatMap fun n => s.dumpRouter (tileOfIndex n),
    (rangeFrom 0 64).flatMap fun n =>
      if s.get (F.DMP_SP_VALID.nth n) = 1 then smGetBytes 0 196608 (s.tile (s.get (F.DMP_SP_TILE.nth n))).scratch else [] ]

/-- Offsets and lengths of the sections. -/
def sectionTable (at' : Nat) : List (List Byte) → List Byte
  | [] => []
  | x :: xs => leBytes 8 at' ++ leBytes 8 x.length ++ sectionTable (at' + x.length) xs

/-- The image digest of the primary. -/
def State.primaryDigest (s : State) : List Byte := smGet [] (s.get F.BOOT_STATUS_PRIMARY) s.trust.digests

/-- The 128-bit device ID. -/
def State.deviceId (s : State) : List Byte := (rangeFrom 0 4).flatMap fun n => leBytes 4 (s.get (F.BOOT_ID_ID.nth n))

/-- The header, before what follows it. -/
def State.dumpHeader (s : State) (r : DumpRun) (cut pen : Bool) (secs : List (List Byte)) (body : List Byte) : List Byte :=
  sliceB (leBytes 4 0x504D5544 ++ leBytes 2 1 ++ leBytes 2 (b2n cut + 2 * b2n pen + 4 * b2n s.testMode) ++ leBytes 1 r.reason ++ zeroBytes 3 ++
    leBytes 4 r.fseq ++ leBytes 6 r.pick ++ leBytes 8 r.time ++ s.deviceId ++ leBytes 2 (s.get F.DMP_SYSTEM_INDEX) ++
    sliceB s.pat.digest 0 48 ++ sliceB s.primaryDigest 0 48 ++ zeroBytes 112 ++ sectionTable 4096 secs ++ sliceB (sha384 body) 0 48) 0 4096

/-- A dump of at most `n` bytes, header and all. -/
def State.dumpBytes (s : State) (r : DumpRun) (cut pen : Bool) (n : Nat) : List Byte :=
  let secs := s.dumpSections
  let body := secs.flatten.take (n - 4096)
  (s.dumpHeader r cut pen secs body ++ body).take n

/-- A dump of this length and no cut is whole. -/
def State.dumpLen (s : State) : Nat := 4096 + sumNat (s.dumpSections.map List.length)

/-! ### Where a dump goes (R400, R566) -/

/-- The host dump buffer: address and bytes (R415). -/
def State.dumpBase (s : State) : Nat := s.get F.HLS_DUMP_LO_ADDR_LO * 4096 + s.get F.HLS_DUMP_HI_ADDR_HI * 2 ^ 32
def State.dumpRoom (s : State) : Nat := 4096 * s.get F.HLS_DUMP_SIZE_SIZE

/-- Bytes go into the host dump buffer on a port, with a FLUSH after them. -/
def State.dumpOut (s : State) (p : Nat) (bs : List Byte) : State :=
  let s1 := s.emit (memWrs p 2 s.dumpBase bs)
  let r : HostRead := ⟨s1.host.nextTag, p, s1.dumpBase, 0, 1, true, .dumpFlush⟩
  let h := { s1.host with reads := s1.host.reads ++ [r], nextTag := (s1.host.nextTag + 1) % 4096 }
  { s1 with host := h, out := s1.out ++ [.flush p 2 s1.host.nextTag s1.dumpBase] }

/-- The FLUSH of a dump or a fetch no longer matters. -/
def State.dropDumpFlush (s : State) : State :=
  { s with host := { s.host with reads := s.host.reads.filter fun r => decide (r.why ≠ .dumpFlush) } }

/-- VM is on in the quadrants of a segment's home channels (R201). -/
def State.penPower (s : State) (seg : Nat) : Bool := (s.pat.homes seg).all fun fc => s.vmOn fc.1

/-- A dump goes into the next segment of the pen, if VM is on there (R566; log entry 38). -/
def State.penPut (s : State) (cut : Bool) (bs : List Byte) : State :=
  let k := s.get F.DMP_PEN_STAT_NEXT
  if s.penPower k then
    let s1 := if (s.penAt k).isSome then s.set F.DMP_STATUS_PEN_WRAP 1 else s
    { s1.set F.DMP_PEN_STAT_NEXT ((k + 1) % 128) with dmp := { s1.dmp with pen := smSet none k (some (cut, bs)) s1.dmp.pen } }
  else s

/-! ### The end of a dump (R562, R513) -/

/-- The DUMP record, a beacon, the warm reset, and then a reset that waited (R562, R513). -/
def State.dumpDone (s : State) (pen : Bool) (n : Nat) : State :=
  let s1 := ((s.beacon 12 (leBytes 1 (b2n pen) ++ leBytes 8 n)).beaconSend false).set F.DMP_STATUS_DUMP_BUSY 0
  let s2 := { s1 with dmp := { s1.dmp with run := none } }.warmReset 6
  match s.trust.resetWait with
  | some w => s2.warmReset w.2
  | none => s2

/-- A dump is written: to the host buffer, where it ends with the FLUSH, or to the pen (R400). `cut`: bytes that a pen dump reaches within its
second, where it does not end in time (R562). -/
def State.dumpStart (s : State) (r : DumpRun) (cut : Option Nat) : State :=
  match s.hostPorts.find? fun p => decide (r.port ≤ p) with
  | some p =>
    if s.dumpRoom = 0 then
      let bs := s.dumpBytes r cut.isSome true (cut.getD s.dumpLen)
      (s.penPut cut.isSome bs).dumpDone true bs.length
    else { s with dmp := { s.dmp with run := some { r with port := p } } }.dumpOut p (s.dumpBytes r false false (min s.dumpRoom s.dumpLen))
  | none =>
    let bs := s.dumpBytes r cut.isSome true (cut.getD s.dumpLen)
    (s.penPut cut.isSome bs).dumpDone true bs.length

/-- The FLUSH of a dump or a fetch has completed. -/
def State.dumpFlushed (s : State) : State :=
  match s.dmp.run with
  | some _ => s.dumpDone false (min s.dumpRoom s.dumpLen)
  | none => match s.dmp.fetch with
    | some code => { (s.set F.DMP_STATUS_RESULT code).set F.DMP_STATUS_FETCH_BUSY 0 with dmp := { s.dmp with fetch := none } }
    | none => s

/-- The port of a dump has failed: the dump starts again on the next UP HOST port, else the lowest, or in the pen (R409). -/
def State.dumpRestart (s : State) (p : Nat) : State :=
  match s.dmp.run with
  | none => s
  | some r =>
    if r.port ≠ p then s
    else if s.hostPorts.any fun q => decide (p < q) then s.dropDumpFlush.dumpStart { r with port := p + 1 } none
    else s.dropDumpFlush.dumpStart { r with port := 0 } none

/-- A dump to the host that is not complete 1 s after the halt: cut after `n` bytes, with TRUNCATED in its header (R562). -/
def State.dumpCut (s : State) (n : Nat) : State :=
  match s.dmp.run with
  | none => s
  | some r =>
    let m := max 4096 (min n (min s.dumpRoom s.dumpLen))
    let bs := s.dumpBytes r true false m
    (s.dropDumpFlush.emit [.memWr r.port 2 s.dumpBase (bs.take 4096)]).dumpDone false m

/-! ### The fatal halt (R562, R563) -/

/-- A fatal halt for a reason: HALT, the FATAL record, a beacon, and the dump. -/
def State.fatalHalt (s : State) (reason : Nat) (cut : Option Nat) : State :=
  if s.hcRuns = false ∨ s.dmp.run.isSome = true then s
  else
    let s1 := (s.halt.raise 25 15 5 0 reason).logAll (s.halt.flt.telem.length + 1)
    let s2 := { s1 with dmp := { s1.dmp with fetch := none } }.dropDumpFlush.beaconSend false
    (s2.set F.DMP_STATUS_DUMP_BUSY 1).dumpStart ⟨reason, s2.get F.DMP_FSEQ_FSEQ, s.pm.pick, s.timeUs, 0⟩ cut

/-- FATAL_HALT: reason 1 FW_INTERNAL, 2 NV_WRITE, 3 ENDPOINT. -/
def execFatalHalt (reason : Fin 3) (cut : Option Nat) (s : State) : Res := .next (s.fatalHalt (reason.val + 1) cut)

/-- DMP_FATAL: DMP_CTRL.FATAL, in test mode only (R563, R576). -/
def execDmpFatal (cut : Option Nat) (s : State) : Res := .next (if s.testMode then s.fatalHalt 4 cut else s)

/-- DUMP_TIMEOUT: the second has passed; `n` bytes have been written. -/
def execDumpTimeout (n : Nat) (s : State) : Res := .next (s.dumpCut n)

/-! ### The pen (R567, R577) -/

/-- A byte of a line that could not be corrected is copied as zero. -/
def zeroLines (bad : List Nat) (bs : List Byte) : List Byte :=
  (bs.zip (rangeFrom 0 bs.length)).map fun x => if x.2 / 64 ∈ bad then 0 else x.1

/-- A fetch of the selected segment; `bad` are its uncorrectable lines of 64 B. -/
def State.penFetch (s : State) (bad : List Nat) : State :=
  let k := s.get F.DMP_PEN_SEL_SEG
  if s.dmp.run.isSome ∨ s.dmp.fetch.isSome then s.set F.DMP_STATUS_RESULT 3
  else match s.penAt k with
    | none => s.set F.DMP_STATUS_RESULT 4
    | some d => match s.hostPort 0 with
      | none => s.set F.DMP_STATUS_RESULT 5
      | some p =>
        if s.dumpRoom = 0 then s.set F.DMP_STATUS_RESULT 5
        else if s.penPower k = false then s.set F.DMP_STATUS_RESULT 6
        else
          let bs := d.2.take s.dumpRoom
          let code := if bad.any fun l => decide (64 * l < bs.length) then 7 else 2
          let s1 := (s.set F.DMP_STATUS_RESULT 1).set F.DMP_STATUS_FETCH_BUSY 1
          { s1 with dmp := { s1.dmp with fetch := some code } }.dumpOut p (zeroLines bad bs)

/-- FETCH. -/
def execFetch (bad : List (BitVec 23)) (s : State) : Res := .next (s.penFetch (bad.map BitVec.toNat))

/-- ERASE of the selected segment. -/
def State.penErase (s : State) : State :=
  let k := s.get F.DMP_PEN_SEL_SEG
  if s.dmp.run.isSome ∨ s.dmp.fetch.isSome then s.set F.DMP_STATUS_RESULT 3
  else match s.penAt k with
    | none => s.set F.DMP_STATUS_RESULT 4
    | some _ => { s.set F.DMP_STATUS_RESULT 2 with dmp := { s.dmp with pen := smSet none k none s.dmp.pen } }

/-- ERASE. -/
def execErase (s : State) : Res := .next s.penErase

end Sys2Proof.Machine
end

