-- ==== Sys2Proof/Machine/Helsia.lean ====
section
/-!
DEFINITION. The Helsia ports and the host interface (11_helsia_link.md): flits and their retry, training, completions of reads, submission
rings, polls, lost and disabled ports, and swatch tests. A transaction that a flit delivers acts through the row of its type (log entry 40).
-/
namespace Sys2Proof.Machine

/-! ### Flits (R378, R380, R381) -/

/-- A port carries flits: UP or DRAINING. -/
def State.portLive (s : State) (p : Nat) : Bool := decide (s.portState p = 3) || decide (s.portState p = 4)

/-- An ACK covers every flit up to `a`, modulo 4,096 (R378); the room in the retry buffer is used. -/
def State.ackTo (s : State) (p a : Nat) : State :=
  let l := s.link p
  let d := (a + 1 + 4096 - l.oldest % 4096) % 4096
  if d ≠ 0 ∧ d ≤ l.keptFlits then
    let s1 := s.setLink p ({ l with kept := dropFlits d l.kept }.send 1024)
    { s1 with host := { s1.host with resent := smSet (0, 0) p (0, 0) s1.host.resent } }
  else s

/-- Credits that the partner returns (R378, R379): waiting flits go on. -/
def State.creditIn (s : State) (p h : Nat) : State :=
  let l := s.link p
  let back := fun (m : SMap Nat) (c : Nat) => smSet 0 c (smGet 0 c m - bitsOf h (33 + 8 * c) 8) m
  s.setLink p ({ l with used := back (back (back l.used 0) 1) 2 }.send 1024)

/-- Every flit from the oldest without an ACK is sent again (R380). -/
def State.replay (s : State) (p : Nat) : State :=
  let n := s.acked p
  let k := s.flitsSent p - n
  if k = 0 then s
  else
    let old := smGet (0, 0) p s.host.resent
    let t := if old.1 = n then old.2 + 1 else 1
    { s.add F.HLS_PORT_RETRY_REPLAYS 1 p with
      host := { s.host with resent := smSet (0, 0) p (n, t) s.host.resent }
      out := s.out ++ [.resend p (n % 4096) k] }

/-- A NAK is sent once per gap (R380). -/
def State.sendNak (s : State) (p : Nat) : State :=
  if smGet false p s.host.nakOut then s
  else { s with host := { s.host with nakOut := smSet false p true s.host.nakOut },
                out := s.out ++ [.ack p ((smGet 0 p s.host.rxSeq + 4095) % 4096) true 0 0 0] }

/-- The port's role carries a transaction type toward the device (R384). -/
def txnOk (role type : Nat) : Bool :=
  decide (type = 13) || (decide (role = 1) && (decide (type = 3) || decide (type = 4) || decide (type = 5))) ||
    (decide (role = 2) && decide (type = 12)) || (decide (role = 3) && (decide (type = 8) || decide (type = 9)))

/-- Flits of a class in a port's receive buffer (R379). -/
def State.rxHeld (s : State) (p tc : Nat) : Nat := smGet 0 (4 * p + tc) s.host.rxBuf

/-- Credits that a flit in order returns, by class (R379): with the last flit of a transaction, its flits leave the buffer. -/
def State.creditsBack (s : State) (p h tc : Nat) : Nat :=
  if bitsOf h 4 2 = tc ∧ tc < 3 ∧ bitAt h 7 = true then s.rxHeld p tc + 1 else 0

/-- A DATA flit in order is accepted into the buffer of its class; one that has come before is discarded; one ahead is a gap (R380), and one that
finds its buffer full is discarded too (log entry 129). -/
def State.dataFlit (s : State) (p h : Nat) (bs : List Byte) : State :=
  let want := smGet 0 p s.host.rxSeq
  let seq := bitsOf h 8 12
  let tc := bitsOf h 4 2
  if seq = want then
    if tc < 3 ∧ clsCredits tc ≤ s.rxHeld p tc then s.sendNak p
    else
      let held := if tc = 3 ∨ bitAt h 7 = true then 0 else s.rxHeld p tc + 1
      let s0 := s.creditIn p h
      let s1 := { s0 with
        host := { s0.host with
          rxSeq := smSet 0 p ((want + 1) % 4096) s0.host.rxSeq, nakOut := smSet false p false s0.host.nakOut
          rxBuf := smSet 0 (4 * p + tc) held s0.host.rxBuf }
        out := s0.out ++ [.ack p seq false (s.creditsBack p h 0) (s.creditsBack p h 1) (s.creditsBack p h 2)] }
      if bitAt h 6 = true ∧ (tc = 3 ∨ txnOk (s.portRole p) (leNat (sliceB bs 8 1) % 16) = false) then s1.badTxn p else s1
  else if (want + 4096 - seq) % 4096 ≤ 1024 then s
  else s.sendNak p

/-- A flit of 256 bytes with what the FEC found (R377, R378, R380), or that finds the elastic buffer full (R464). -/
def State.flitRx (s : State) (p : Nat) (slip ue : Bool) (ce : Nat) (bs : List Byte) : State :=
  if s.portLive p = false then s
  else if slip then (s.crossOver 7).sendNak p
  else
    let s1 := s.add F.HLS_PORT_FEC_CE_CE ce p
    if ue then (s1.add F.HLS_PORT_FEC_UE_UE 1 p).sendNak p
    else if bs.length ≠ 256 ∨ leNat (bs.drop 252) ≠ crc32 (bs.take 252) then (s1.add F.HLS_PORT_CRC_CRC 1 p).sendNak p
    else
      let h := leNat (bs.take 8)
      if h % 16 = 0 then (s1.ackTo p (bitsOf h 20 12)).creditIn p h
      else if h % 16 = 1 then (s1.ackTo p (bitsOf h 20 12)).dataFlit p h bs
      else s1

/-- FLIT: `slip` the elastic buffer overran, `ue` an uncorrectable codeword overlaps it, `ce` codewords were corrected. -/
def execFlit (port : Fin 16) (slip ue : Bool) (ce : BitVec 16) (bytes : List (BitVec 8)) (s : State) : Res :=
  .next (s.flitRx port.val slip ue ce.toNat bytes)

/-- HELSIA_NAK: the sender resends from `ack` + 1. -/
def execHelsiaNak (port : Fin 16) (ack : BitVec 12) (s : State) : Res :=
  .next (if s.portLive port.val then (s.ackTo port.val ack.toNat).replay port.val else s)

/-- HELSIA_ACK_TIMEOUT: no ACK progress for 10 µs. -/
def execHelsiaAckTimeout (port : Fin 16) (s : State) : Res := .next (if s.portLive port.val then s.replay port.val else s)

/-! ### Training (R381, R382) -/

/-- A port begins to retrain: what a HOST port has sent without an ACK goes on other HOST ports, where there are any (R381, R406). -/
def State.portRetrain (s : State) (p : Nat) : State :=
  let host := decide (s.portRole p = 1)
  let s1 := (((s.hlsSwatchDrop p).set F.HLS_STATUS_RETRAIN 1).add F.HLS_PORT_RETRY_RETRAINS 1 p).portTrain p
  if host = true ∧ s1.hostPorts ≠ [] then s1.reissue p else s1

/-- HELSIA_RETRAIN (R381): after 8 resends of one flit. -/
def State.helsiaRetrain (s : State) (p : Nat) : State :=
  let r := smGet (0, 0) p s.host.resent
  if s.portLive p = true ∧ 8 ≤ r.2 ∧ r.1 = s.acked p then
    let wasDrain := decide (s.portState p = 4)
    let s1 := { s with host := { s.host with resent := smSet (0, 0) p (0, 0) s.host.resent } }.portRetrain p
    if wasDrain then { s1 with host := { s1.host with disableNext := smSet false p true s1.host.disableNext } } else s1
  else s

/-- HELSIA_RETRAIN. -/
def execHelsiaRetrain (port : Fin 16) (s : State) : Res := .next (s.helsiaRetrain port.val)

/-- Training ends UP: the retry buffer goes on, and a DISABLE that waited drains (R381, R409). -/
def State.trainUp (s : State) (p : Nat) : State :=
  let n := s.acked p
  let k := s.flitsSent p - n
  let s1 := ((s.portTo p 3).set F.HLS_PORT_STAT_LANE_LOCK 0xFF p).emit (if k = 0 then [] else [.resend p (n % 4096) k])
  if smGet false p s1.host.disableNext then
    { s1 with host := { s1.host with disableNext := smSet false p false s1.host.disableNext } }.portTo p 4
  else
    let s2 := s1.actionEnd p 2
    if s2.portRole p = 2 then s2.objAgain else s2

/-- Training has failed; the third time in a row the port is FAILED (R381). -/
def State.trainFail (s : State) (p : Nat) : State :=
  let n := smGet 0 p s.host.trainFails + 1
  if n < 3 then { s with host := { s.host with trainFails := smSet 0 p n s.host.trainFails } }
  else
    let s1 := { s with host := { s.host with trainFails := smSet 0 p 0 s.host.trainFails,
                                             disableNext := smSet false p false s.host.disableNext } }
    ((((s1.portTo p 6).set F.HLS_STATUS_PORT_FAIL 1).actionEnd p 7).portRecord p).raise 23 8 6 p 0

/-- Training of a port ends: 0 a link with a round trip of `rtt` ns, 1 failed, 2 no partner (R382). A port in NONE or DOWN whose VX is on trains
as soon as a partner appears (log entry 39). -/
def State.trained (s : State) (p result rtt : Nat) : State :=
  if s.vxOn p = false ∨ 2 < s.portState p then s
  else if result = 2 then
    let s1 := s.actionEnd p 2
    if smGet false p s1.host.disableNext then
      { s1 with host := { s1.host with disableNext := smSet false p false s1.host.disableNext } }.portDisabled p
    else s1.portTo p 0
  else
    let s1 := s.set F.HLS_PORT_RTT_RTT_NS rtt p
    if result = 0 ∧ rtt ≤ 2000 then
      { s1 with host := { s1.host with trainFails := smSet 0 p 0 s1.host.trainFails } }.trainUp p
    else s1.trainFail p

/-- HELSIA_TRAINING_COMPLETE. -/
def execHelsiaTrainingComplete (port : Fin 16) (result : Fin 3) (rtt : BitVec 16) (s : State) : Res :=
  .next (s.trained port.val result.val rtt.toNat)

/-! ### Submission rings (R391 to R393) -/

/-- Entries that the device may fetch from a ring at once. -/
def State.sqWant (s : State) (n : Nat) : Nat :=
  let k := s.sqLog2 n
  let head := s.get (F.HLS_SQ_STAT_HEAD.nth n)
  min ((s.get (F.HLS_SQ_TAIL_TAIL.nth n) + 2 ^ 16 - head) % 2 ^ 16) (min 64 (2 ^ k - head % 2 ^ k))

/-- A ring is fetched: CMD_EN, EN, a valid LOG2, no error. -/
def State.sqOpen (s : State) (n : Nat) : Bool :=
  decide (s.get F.HLS_CTRL_CMD_EN = 1) && decide (s.get (F.HLS_SQ_LO_EN.nth n) = 1) && decide (4 ≤ s.sqLog2 n) && decide (s.sqLog2 n ≤ 12) &&
    decide (s.get (F.HLS_SQ_STAT_ERR.nth n) = 0)

/-- A read of a ring's entries is in flight. -/
def State.sqReading (s : State) (n : Nat) : Bool :=
  s.host.reads.any fun r => match r.why with
    | .sq k _ => decide (k = n)
    | _ => false

/-- Address of a ring. -/
def State.sqBase (s : State) (n : Nat) : Nat :=
  s.get (F.HLS_SQ_LO_ADDR_LO.nth n) * 4096 + s.get (F.HLS_SQ_HI_ADDR_HI.nth n) * 2 ^ 32

/-- The next entries of a ring are asked for. -/
def State.sqFetch (s : State) (n : Nat) : State :=
  if s.sqOpen n = true ∧ s.sqReading n = false ∧ s.sqWant n ≠ 0 then
    let head := s.get (F.HLS_SQ_STAT_HEAD.nth n)
    s.hostRead (s.get (F.HLS_SQ_LO_PORT.nth n)) (s.sqBase n + 64 * (head % 2 ^ s.sqLog2 n)) (64 * s.sqWant n) (.sq n head)
  else s

/-- Every ring. -/
def State.sqFetchAll (s : State) : State := (rangeFrom 0 16).foldl State.sqFetch s

/-- A number in an entry. -/
def entN (e : List Byte) (at' n : Nat) : Nat := leNat (sliceB e at' n)

/-- The command in an entry of a ring is passed to the reed (R248, R392); an unknown opcode completes with BAD_OPCODE (R394). -/
def State.sqCommand (s : State) (n : Nat) (e : List Byte) : State :=
  let op := entN e 0 1
  let tag := entN e 2 2
  let id := entN e 4 2
  let f := entN e 8 1
  match op with
  | 0x10 => answerCmd n op tag id (s.admitSeq id
      { part := f % 8, prio := f / 8 % 8, sampler := entN e 9 1, pfxUse := bitAt f 6, pfxPub := bitAt f 7, hold := bitAt (entN e 10 1) 0,
        deadline := entN e 12 6, limit := entN e 18 5, seed := entN e 24 8, ringBase := entN e 32 8, promptBase := entN e 40 8,
        ringLog2 := entN e 10 1 / 2 % 32, promptLen := entN e 48 5 })
  | 0x11 => answerCmd n op tag id (s.cancel id)
  | 0x12 => answerCmd n op tag id (s.park id)
  | 0x13 => answerCmd n op tag id (s.resume id)
  | 0x14 => s.releaseCmd n tag id
  | 0x15 => answerCmd n op tag id (s.setCmd id (f / 8 % 8) (entN e 12 6))
  | 0x18 => answerPart n op tag (s.partEnable (f % 8))
  | 0x19 => answerPart n op tag (s.partDisable (f % 8))
  | _ => s.complete n op 0 tag (id % 4096) 1

/-- Entries of a ring that have been fetched and not yet passed on. -/
def State.waiting (s : State) (n : Nat) : List (List Byte) := smGet [] n s.host.fetched

/-- The next ring in turn that has a command and a free completion slot (R393). -/
def State.nextCmd (s : State) : Option Nat :=
  ((rangeFrom s.host.nextRing 16).map fun n => n % 16).find? fun n =>
    decide (s.waiting n ≠ []) && decide (s.get (F.HLS_SQ_STAT_ERR.nth n) = 0) && s.compRoom n

/-- Commands are taken round robin, at most `k`. -/
def State.cmdPump (s : State) : Nat → State
  | 0 => s
  | k + 1 =>
    match s.nextCmd with
    | none => s
    | some n =>
      match s.waiting n with
      | [] => s
      | e :: es =>
        let h := { s.host with fetched := smSet [] n es s.host.fetched, nextRing := (n + 1) % 16 }
        ({ s with host := h }.sqCommand n e).cmdPump k

/-- Everything fetched that may pass does. -/
def State.cmdsPass (s : State) : State := s.cmdPump (sumNat (s.host.fetched.map fun kv => kv.2.length))

/-- Entries of 64 bytes. -/
def entries64 (bs : List Byte) : List (List Byte) := (rangeFrom 0 (bs.length / 64)).map fun i => sliceB bs (64 * i) 64

/-- Entries of a ring arrive: HEAD advances, and the ring goes on. -/
def State.sqArrive (s : State) (n head : Nat) (bs : List Byte) : State :=
  if s.get (F.HLS_SQ_STAT_HEAD.nth n) ≠ head ∨ s.sqOpen n = false then s
  else
    let es := entries64 bs
    let s1 := s.set (F.HLS_SQ_STAT_HEAD.nth n) ((head + es.length) % 2 ^ 16)
    ({ s1 with host := { s1.host with fetched := smSet [] n (s1.waiting n ++ es) s1.host.fetched } }.cmdsPass).sqFetch n

/-- A doorbell (R393). -/
def State.doorbell (s : State) (n v : Nat) : State :=
  let s1 := s.set (F.HLS_SQ_TAIL_TAIL.nth n) v
  let ahead := (v % 2 ^ 16 + 2 ^ 16 - s1.get (F.HLS_SQ_STAT_HEAD.nth n)) % 2 ^ 16
  if s1.get (F.HLS_SQ_LO_EN.nth n) = 1 ∧ 4 ≤ s1.sqLog2 n ∧ s1.sqLog2 n ≤ 12 ∧ 2 ^ s1.sqLog2 n < ahead ∧
      s1.get (F.HLS_SQ_STAT_ERR.nth n) = 0 then s1.set (F.HLS_SQ_STAT_ERR.nth n) 1
  else s1.sqFetch n

/-- SQ_DOORBELL: HLS_SQ_TAIL of a ring written. -/
def execSqDoorbell (ring : Fin 16) (v : BitVec 32) (s : State) : Res := .next (s.doorbell ring.val v.toNat)

/-- A ring's EN goes from 0 to 1: head and tail restart at 0, and with them its completions (R393, R419). -/
def State.sqEnable (s : State) (n : Nat) : State :=
  let s1 := ((s.set (F.HLS_SQ_STAT_HEAD.nth n) 0).set (F.HLS_SQ_STAT_ERR.nth n) 0).set (F.HLS_SQ_TAIL_TAIL.nth n) 0
  { s1 with host := { s1.host with
      compWr := smSet 0 n 0 s1.host.compWr, compRd := smSet 0 n 0 s1.host.compRd, fetched := smSet [] n [] s1.host.fetched
      reads := s1.host.reads.filter fun r => match r.why with
        | .sq k _ => decide (k ≠ n)
        | .compRd k => decide (k ≠ n)
        | _ => true } }

/-- COMPLETION_COUNT_POLL (R393): the read counts of rings that wait for a completion slot are fetched. -/
def State.compPoll (s : State) : State :=
  (rangeFrom 0 16).foldl (fun u n =>
    if u.waiting n ≠ [] ∧ u.compRoom n = false ∧ u.reading (.compRd n) = false then
      u.hostRead (u.get (F.HLS_SQ_LO_PORT.nth n)) (u.ctlAddr (clsComp n) 0) 4 (.compRd n)
    else u) s

/-- COMPLETION_COUNT_POLL. -/
def execCompletionCountPoll (s : State) : Res := .next s.compPoll

/-- EVENT_RING_POLL (R395): while events wait for room in the ring its read count is fetched. -/
def State.evPoll (s : State) : State :=
  if s.host.evQueue ≠ [] ∧ s.evOpen = true then
    if s.evRoom then s.evPump 256
    else if s.reading .evRd then s else s.hostRead 0 (s.ctlAddr clsEvent 0) 4 .evRd
  else s

/-- EVENT_RING_POLL. -/
def execEventRingPoll (s : State) : Res := .next s.evPoll

/-! ### Completions from outside (R384, R401, R405) -/

/-- 32-bit words of a prompt unit. -/
def words4 (bs : List Byte) : List Nat := (rangeFrom 0 (bs.length / 4)).map fun i => leNat (sliceB bs (4 * i) 4)

/-- The FLUSH of an attestation report has completed (R508). -/
def State.reportDone (s : State) : State :=
  if s.trust.report then { s.set F.ATT_STATUS_RESULT 2 with trust := { s.trust with report := false } } else s

/-- What a completed read was for. -/
def State.readDone (s : State) (r : HostRead) (data : List Byte) : State :=
  let bs := sliceB data 0 r.len
  match r.why with
  | .prompt id u => s.promptUnit id u (words4 bs)
  | .ringRd id => s.ringCount id (leNat bs)
  | .restore id key part => (s.restorePart id key part bs).issueReads
  | .sq n head => s.sqArrive n head bs
  | .compRd n => { s with host := { s.host with compRd := smSet 0 n (leNat bs) s.host.compRd } }.cmdsPass
  | .evRd => { s with host := { s.host with evRd := leNat bs } }.evPump 256
  | .install _ => s.installData bs
  | .flush cls => s.clsFlushed cls
  | .swapFlush _ => s
  | .dumpFlush => s.dumpFlushed
  | .report => s.reportDone

/-- A read that has ended. -/
def State.dropRead (s : State) (tag : Nat) : State :=
  { s with host := { s.host with reads := s.host.reads.filter fun r => !(decide (r.tag = tag) && r.issued) } }

/-- The read in flight with a tag. -/
def State.readOf (s : State) (tag : Nat) : Option HostRead := s.host.reads.find? fun r => decide (r.tag = tag) && r.issued

/-- MEM_CPL on a port. -/
def State.memCpl (s : State) (p tag : Nat) (data : List Byte) : State :=
  if s.portLive p = false then s
  else if s.portRole p ≠ 1 then s.badTxn p
  else match s.readOf tag with
    | none => s
    | some r => (s.dropRead tag).readDone r data

/-- MEM_CPL. -/
def execMemCpl (port : Fin 16) (tag : BitVec 12) (data : List (BitVec 8)) (s : State) : Res := .next (s.memCpl port.val tag.toNat data)

/-- OBJ_CPL on a port: STATUS 0 OK, 1 NO_OBJECT, 2 RANGE, 3 BUSY (R405). -/
def State.objCpl (s : State) (p tag status : Nat) (data : List Byte) : State :=
  if s.portLive p = false then s
  else if s.portRole p ≠ 2 then s.badTxn p
  else match s.host.objs.find? fun o => decide (o.1 = tag) with
    | none => s
    | some o =>
      let s1 := { s with host := { s.host with objs := s.host.objs.filter fun x => decide (x.1 ≠ tag) } }
      if status = 0 then (if o.2.1 = 2 then s1.installData data else s1.nvwData data)
      else if status = 3 then s1.objAsk o.2.1 o.2.2.1 o.2.2.2
      else if o.2.1 = 2 then s1.linkLost else s1.lwsGone

/-- OBJ_CPL. -/
def execObjCpl (port : Fin 16) (tag : BitVec 12) (status : Fin 4) (data : List (BitVec 8)) (s : State) : Res :=
  .next (s.objCpl port.val tag.toNat status.val data)

/-- ECHO (R384): returned unchanged. -/
def execEcho (port : Fin 16) (data : List (BitVec 8)) (s : State) : Res :=
  .next (if s.portState port.val = 3 then s.emit [.echo port.val data] else s)

/-- What happens when a read has timed out twice (R401). -/
def State.readLost (s : State) (r : HostRead) : State :=
  let s1 := s.dropRead r.tag
  match r.why with
  | .prompt id u => s1.setSk id { s1.sk id with unitsAsked := (s1.sk id).unitsAsked.filter fun x => decide (x ≠ u) }
  | .sq n _ => s1.set (F.HLS_SQ_STAT_ERR.nth n) 2
  | .compRd n => s1.set (F.HLS_SQ_STAT_ERR.nth n) 2
  | .restore id key _ =>
    ({ s1 with host := { s1.host with reads := s1.host.reads.filter fun x => match x.why with
        | .restore i _ _ => decide (i ≠ id)
        | _ => true } }.swapFault 11 id
      ((((s.spool.leaves (s.sk id).ptRoot).find? fun (l : Nat × Nat × Nat) => decide (l.2.1 = key)).map Prod.fst).getD 0)).issueReads
  | _ => s1

/-- A read goes out once more on a port, or waits for it. -/
def State.readOn (s : State) (r : HostRead) (p : Nat) : State :=
  if s.readRoom p r.why then
    { s with host := { s.host with reads := s.host.reads ++ [{ r with port := p, tries := r.tries + 1 }] }, out := s.out ++ [r.out p] }
  else { s with host := { s.host with reads := s.host.reads ++ [{ r with port := p, issued := false }] } }

/-- A read goes out once more: on another UP HOST port, else on the same one; with none UP, or a port that takes no more, it waits
(R399, R401, R402). -/
def State.readAgain (s : State) (r : HostRead) : State :=
  let s1 := s.dropRead r.tag
  match s.hostPorts.find? fun p => decide (p ≠ r.port) with
  | some p => s1.readOn r p
  | none =>
    if r.port ∈ s.hostPorts then s1.readOn r r.port
    else { s1 with host := { s1.host with reads := s1.host.reads ++ [{ r with issued := false }] } }

/-- A read without a completion in time (R401). -/
def State.readTimeout (s : State) (tag : Nat) : State :=
  match s.readOf tag with
  | none => s
  | some r =>
    let s1 := s.set F.HLS_STATUS_RD_TIMEOUT 1
    if r.tries < 2 ∨ r.len = 0 then s1.readAgain r else s1.readLost r

/-- MEM_RD_TIMEOUT. -/
def execMemRdTimeout (tag : BitVec 12) (s : State) : Res := .next (s.readTimeout tag.toNat)

/-! ### Losing and disabling ports (R406 to R409) -/

/-- A HOST port leaves UP without a request: writes are issued again, a dump on it starts again (R406, R409). -/
def State.hostLost (s : State) (p : Nat) : State :=
  if s.portRole p = 1 ∧ s.portLive p = true then (s.portLeave p 1 2).dumpRestart p else s

/-- HOST_PORT_LOST. -/
def execHostPortLost (port : Fin 16) (s : State) : Res := .next (s.hostLost port.val)

/-- A port loses its partner (R382): DOWN; a test at a depth that needs the partner ends ABORTED (R411). -/
def State.partnerLost (s : State) (p : Nat) : State :=
  if s.portState p = 2 ∨ s.portLive p = true then (s.portLeave p 1 2).dumpRestart p
  else if s.portState p = 7 ∧ 2 ≤ s.get F.HLS_SWATCH_CTRL_DEPTH then s.hlsSwatchDrop p
  else s

/-- PARTNER_LOST. -/
def execPartnerLost (port : Fin 16) (s : State) : Res := .next (s.partnerLost port.val)

/-- A swatch test runs on a port. -/
def State.swatchOn (s : State) (p : Nat) : Bool := decide ((s.host.swatch.map Prod.fst) = some p)

/-- The last UP member of a bond, while the pick master is not in IDLE (R408). -/
def State.lastOfBond (s : State) (p : Nat) : Bool :=
  decide (s.portRole p = 3) && decide (s.pickState ≠ 0) &&
    ((s.upPorts 3).filter fun q => decide (s.get F.HLS_PORT_STAT_HOP q = s.get F.HLS_PORT_STAT_HOP p)) == [p]

/-- ACTION is written with GO. -/
def State.portAction (s : State) (a : Nat) : State := s.set F.HLS_PORT_CTRL_ACTION a

/-- DISABLE of the selected port (R407, R408, R409). -/
def State.portDisable (s0 : State) : State :=
  let s := s0.portAction 1
  let p := s.get F.HLS_PORT_SEL_PORT
  if s.swatchOn p then s.portResult p 6
  else if s.portState p = 3 then
    if s.hostPorts = [p] then s.portResult p 3
    else if s.lastOfBond p then s.portResult p 4
    else (s.portResult p 1).portTo p 4
  else if s.portState p = 2 then
    { s.portResult p 1 with host := { s.host with disableNext := smSet false p true s.host.disableNext } }
  else if s.portState p = 4 then s
  else if s.portState p = 5 then s.portResult p 2
  else s.portDisabled p

/-- PORT_DISABLE. -/
def execPortDisable (s : State) : Res := .next (s.portDisable.sntCheck R.HLS_PORT_CTRL 0 (s.reg R.HLS_PORT_CTRL))

/-- Work in flight on a port: reads, and a dump (R407). -/
def State.portBusy (s : State) (p : Nat) : Bool :=
  s.host.reads.any (fun r => r.issued && decide (r.port = p)) || decide ((s.dmp.run.map DumpRun.port) = some p)

/-- PORT_DRAIN_COMPLETE (R407): a port whose work has ended enters DISABLED. -/
def State.drainDone (s : State) (p : Nat) : State :=
  if s.portState p = 4 ∧ s.portBusy p = false then s.portDisabled p else s

/-- PORT_DRAIN_COMPLETE. -/
def execPortDrainComplete (port : Fin 16) (s : State) : Res := .next (s.drainDone port.val)

/-- ENABLE of the selected port (R408). -/
def State.portEnable (s0 : State) : State :=
  let s := s0.portAction 2
  let p := s.get F.HLS_PORT_SEL_PORT
  if s.vxOn p = false then s.portResult p 5
  else if s.swatchOn p = true ∨ (s.portState p ≠ 5 ∧ s.portState p ≠ 6) then s.portResult p 6
  else (s.portResult p 1).portTrain p

/-- PORT_ENABLE. -/
def execPortEnable (s : State) : Res := .next (s.portEnable.sntCheck R.HLS_PORT_CTRL 0 (s.reg R.HLS_PORT_CTRL))

/-- RETRAIN of the selected port (R408). -/
def State.portRetrainCmd (s0 : State) : State :=
  let s := s0.portAction 3
  let p := s.get F.HLS_PORT_SEL_PORT
  if s.vxOn p = false then s.portResult p 5
  else if s.swatchOn p = true ∨ s.portState p ≠ 3 then s.portResult p 6
  else (s.portResult p 1).portRetrain p

/-- PORT_RETRAIN. -/
def execPortRetrain (s : State) : Res := .next (s.portRetrainCmd.sntCheck R.HLS_PORT_CTRL 0 (s.reg R.HLS_PORT_CTRL))

/-! ### Swatch tests (R410, R411) -/

/-- The state of a port allows a depth. -/
def State.depthOk (s : State) (p depth : Nat) : Bool :=
  if depth = 4 then decide (s.portState p = 3)
  else if depth = 2 ∨ depth = 3 then decide (s.portState p = 5) || (decide (s.portRole p = 0) && decide (s.portState p ≠ 4))
  else decide (depth < 2) && decide (s.portState p ≠ 3) && decide (s.portState p ≠ 4)

/-- A test starts at a depth on a port: BUSY, NO_POWER, or RUNNING with the port in SWATCH; ECHO leaves the port UP. -/
def State.hlsSwatch (s0 : State) (depth p units : Nat) : State :=
  let s := ((s0.set F.HLS_SWATCH_CTRL_DEPTH depth).set F.HLS_SWATCH_CTRL_PORT p).set F.HLS_SWATCH_CTRL_UNITS units
  if s.host.swatch.isSome then s.set F.HLS_SWATCH_STAT_RESULT 4
  else if s.vxOn p = false then s.set F.HLS_SWATCH_STAT_RESULT 5
  else if s.depthOk p depth = false then s.set F.HLS_SWATCH_STAT_RESULT 4
  else
    let s1 := (s.set F.HLS_SWATCH_STAT_RESULT 1).set F.HLS_SWATCH_STAT_ERRORS 0
    let s2 := { s1 with host := { s1.host with swatch := some (p, s.portState p) } }
    if depth = 4 then s2 else s2.portTo p 7

/-- HLS_SWATCH_START. -/
def execHlsSwatchStart (depth : BitVec 3) (port : Fin 16) (units : BitVec 16) (s : State) : Res :=
  .next ((s.hlsSwatch depth.toNat port.val units.toNat).sntCheck R.HLS_SWATCH_CTRL 0 (s.reg R.HLS_SWATCH_CTRL))

/-- HLS_SWATCH_COMPLETE: bits, flits or transactions in error, or no partner in loopback. -/
def execHlsSwatchComplete (errs : Nat) (noPartner : Bool) (s : State) : Res :=
  .next (if noPartner = true ∧ (s.get F.HLS_SWATCH_CTRL_DEPTH = 2 ∨ s.get F.HLS_SWATCH_CTRL_DEPTH = 3) then s.hlsSwatchEnd 6 0
    else s.hlsSwatchEnd (if errs = 0 then 2 else 3) errs)

/-- Counts of the block and of every port. -/
def hlsCountRegs : List Nat := [R.HLS_BEACON_MISSES, R.HLS_PORT_FEC_CE, R.HLS_PORT_FEC_UE, R.HLS_PORT_CRC, R.HLS_PORT_RETRY]

/-- Counts of the block and of every port cleared (R413). -/
def State.hlsClr (s : State) : State := { s with bank := bankClear hlsCountRegs s.bank }

/-- HLS_CLR_COUNTS (R413). -/
def execHlsClrCounts (s : State) : Res := .next s.hlsClr

end Sys2Proof.Machine
end

