-- ==== Sys2Proof/Machine/Power.lean ====
section
/-!
DEFINITION. Power delivery (12_power_delivery.md): the samples of the two inputs, input current and the cap, shed phases, trips and what
follows them, path checks, droop, ramps, and the switching of regions.
-/
namespace Sys2Proof.Machine

/-! ### The two inputs (R420, R421) -/

/-- Band of a voltage in units of 10 mV: 0 normal, 1 below 44 V, 2 below 40 V, 3 above 56 V, 4 above 60 V. -/
def vinBand (v : Nat) : Nat := if v < 4000 then 2 else if v < 4400 then 1 else if v ≤ 5600 then 0 else if v ≤ 6000 then 3 else 4

/-- A POWER record of an input (R443). -/
def State.inputRec (s : State) (event : Nat) : State := s.powerRec 255 event 0

/-- Samples of 1 µs after which a band acts: 100 below 40 V, 10 above 60 V. -/
def bandOut (band run : Nat) : Bool := (decide (band = 2) && decide (run = 100)) || (decide (band = 4) && decide (run = 10))

/-- Every switched domain off with cause INPUT, and a cold reset, once domains may be on (R420, R506). -/
def State.inputOff (s : State) : State := if s.get F.BOOT_STATUS_STAGE < 5 then s else (s.allOff 5).coldReset 5

/-- What the band of the main input does after so many samples in it. -/
def State.vinAct (s : State) (band run : Nat) : State :=
  if band = 1 then
    let s1 := if run = 1000 then (s.set F.VPA_STATUS_VIN_LOW 1).inputRec 6 else s
    if run % 1000 = 0 then s1.requestStep 1 else s1
  else if band = 3 ∧ run = 1000 then (s.set F.VPA_STATUS_VIN_HIGH 1).inputRec 7
  else if bandOut band run then s.inputOff
  else s

/-- A sample of the main input. -/
def State.vinSample (s : State) (v : Nat) : State :=
  let band := vinBand v
  let run := if band = s.pwr.vinBand then s.pwr.vinRun + 1 else 1
  ({ s.set F.VPA_INPUT_VIN v with pwr := { s.pwr with vinBand := band, vinRun := run } }).vinAct band run

/-- VIN_SAMPLE (R420). -/
def execVinSample (vin : BitVec 16) (s : State) : Res := .next (s.vinSample vin.toNat)

/-- VK off: after every switched domain, a power reset (R421, R506); a TRIPPED VK is OFF again once standby power has gone (R432). -/
def State.standbyOff (s : State) : State :=
  if s.get F.VPA_DOM_STAT_STATE 54 = 6 then (s.set F.VPA_DOM_STAT_STATE 0 54).set F.VPA_DOM_STAT_CAUSE 5 54
  else if s.domOn 54 = false then s
  else ((s.allOff 5).powerReset).set F.VPA_DOM_STAT_CAUSE 5 54

/-- What the band of the standby input does after so many samples in it: while VK is up a status and a record per second. -/
def State.stbyAct (s : State) (band run : Nat) : State :=
  if bandOut band run then s.standbyOff
  else if s.domOn 54 = false then s
  else if band = 1 then
    let s1 := if run = 1000 then s.set F.VPA_STATUS_STBY_LOW 1 else s
    if run % 1000000 = 1000 then s1.inputRec 11 else s1
  else if band = 3 then
    let s1 := if run = 1000 then s.set F.VPA_STATUS_STBY_HIGH 1 else s
    if run % 1000000 = 1000 then s1.inputRec 12 else s1
  else s

/-- A sample of the standby input. -/
def State.stbySample (s : State) (v : Nat) : State :=
  let band := vinBand v
  let run := if band = s.pwr.stbyBand then s.pwr.stbyRun + 1 else 1
  ({ s with pwr := { s.pwr with stbyBand := band, stbyRun := run } }).stbyAct band run

/-- STANDBY_SAMPLE (R421). -/
def execStandbySample (vin : BitVec 16) (s : State) : Res := .next (s.stbySample vin.toNat)

/-! ### Input current and the cap (R422, R423) -/

/-- The input limit at the voltage last sampled, in 0.1 A: 1,000 A or 46 kW. -/
def State.inputLimit (s : State) : Nat :=
  let v := s.get F.VPA_INPUT_VIN
  if v = 0 then 10000 else min 10000 (46000000 / v)

/-- A sample of input current: a step after 100 µs above 95 %, then one per ms; at the limit the limiter, with a record per ms. -/
def State.iinSample (s : State) (i : Nat) : State :=
  let lim := s.inputLimit
  let run := if 95 * lim < 100 * i then s.pwr.iinRun + 1 else 0
  let at' := if lim ≤ i then s.pwr.limRun + 1 else 0
  let s1 := { (s.set F.VPA_INPUT_IIN i).set F.VPA_STATUS_INPUT_LIMIT (b2n (decide (lim ≤ i))) with
              pwr := { s.pwr with iinRun := run, limRun := at' } }
  let s2 := if 100 ≤ run ∧ (run - 100) % 1000 = 0 then s1.requestStep 1 else s1
  if 0 < at' ∧ (at' - 1) % 1000 = 0 then s2.inputRec 8 else s2

/-- INPUT_CURRENT_SAMPLE (R422). -/
def execInputCurrentSample (iin : BitVec 16) (s : State) : Res := .next (s.iinSample iin.toNat)

/-- A 1 ms average of input power in 10 W: above the cap a status and a step request, at the floor a record (R423). -/
def State.powerAverage (s : State) (p : Nat) : State :=
  let s1 := (s.set F.VPA_POWER_PIN p).set F.VPA_POWER_PMAX (max (s.get F.VPA_POWER_PMAX) p)
  if min 4600 (s.get F.VPA_CAP_CAP_W) < p then
    let s2 := (s1.set F.VPA_STATUS_CAP_EXCEEDED 1).requestStep 1
    if s2.get F.PCK_STATUS_FLOOR = 1 then s2.inputRec 10 else s2
  else s1

/-- CAP_EXCEEDED. -/
def execCapExceeded (avg : BitVec 16) (s : State) : Res := .next (s.powerAverage avg.toNat)

/-! ### Ramps that end (R437, R441) -/

/-- What asked for a ramp that will not complete: the region action gets `code`, a load or a re-weave POWER (R303, R331). -/
def State.rampFail (s : State) (why code : Nat) : State :=
  let s1 := if rampAct why then s.set F.VPA_REGION_STAT_RESULT code else s
  if why = 1 then s1 else if why % 2 = 0 then s1.loadEnd 24 0 0 else s1.weaveFail 13 0

/-- WAIT and RAMP of an instance end OFF; a VA that was in RETENTION then holds its contents no longer (R440). -/
def State.rampDown (s : State) (d : Nat) : State :=
  if s.get F.VPA_DOM_STAT_STATE d = 1 ∨ s.get F.VPA_DOM_STAT_STATE d = 2 then (s.set F.VPA_DOM_STAT_STATE 0 d).domLost d else s

/-- Who asked for the ramp of a region that waits or ramps. -/
def State.rampOf (s : State) (r : Nat) : Option Nat :=
  ((s.pwr.wait ++ s.pwr.ramp.toList).find? fun x => decide (x.1 = r)).map Prod.snd

/-- The ramp of a region ends without completing. -/
def State.rampEnd (s : State) (r code : Nat) : State :=
  match s.rampOf r with
  | none => s
  | some why =>
    let s1 := (s.rampDown r).rampDown (16 + r)
    ({ s1 with pwr := { s1.pwr with
      wait := s1.pwr.wait.filter fun x => decide (x.1 ≠ r)
      ramp := s1.pwr.ramp.filter fun x => decide (x.1 ≠ r) } }).rampFail why code

/-! ### Trips (R431, R432) -/

/-- The region of a VL, VA or VS instance. -/
def domRegion (d : Nat) : Nat := d % 16

/-- Capture of a trip while none is held (R453). -/
def State.tripCapture (s : State) (d cause phase cur : Nat) : State :=
  if (s.reg R.VPA_FAULT_CAP0).toNat = 0 then
    (s.setReg R.VPA_FAULT_CAP0 (BitVec.ofNat 32 (cause * 2 ^ 28 + phase % 16 * 2 ^ 16 + d))).setReg R.VPA_FAULT_CAP1
      (BitVec.ofNat 32 (s.pm.pick % 2 ^ 16 * 2 ^ 16 + cur % 2 ^ 16))
  else s

/-- What follows a trip (R432). -/
def State.tripOutcome (s : State) (d : Nat) : State :=
  if d < 48 then ((s.domLost d).rampEnd (domRegion d) 6).darkRegion (domRegion d)
  else if d < 52 then (s.halt).domLost d
  else if d < 54 then s.domLost d
  else ((s.allOff 0).powerReset).set F.VPA_DOM_STAT_STATE 6 54

/-- An instance trips: every phase open, status, capture, record, fault record, and what follows. -/
def State.trip (s : State) (d cause phase cur : Nat) : State :=
  let s1 := ((((s.set F.VPA_DOM_STAT_CURRENT cur d).putDom d 6 cause).set F.VPA_STATUS_TRIPPED 1).tripCapture d cause phase cur).powerRec d 3 phase
  (s1.raise 14 6 (if 48 ≤ d ∧ d ≠ 52 ∧ d ≠ 53 then 5 else 4) d (s1.reg R.VPA_FAULT_CAP0).toNat).tripOutcome d

/-- UNDERVOLT is defined for the switched domains only (R431). -/
def State.tripOk (s : State) (d cause : Nat) : Bool :=
  decide (s.get F.VPA_DOM_STAT_STATE d ≠ 0) && decide (s.get F.VPA_DOM_STAT_STATE d ≠ 6) &&
    (decide (cause ≠ 3) || decide (allowedDepth d (s.domOk d) = 7)) && (decide (cause ≠ 4) || decide (d < 54))

/-- TRIPPED (R431): `cause` 0 SHORT, 1 PHASES, 2 UNDERVOLT. -/
def execTripped (dom : Fin 55) (cause : Fin 3) (phase : Fin 16) (cur : BitVec 16) (s : State) : Res :=
  .next (if s.tripOk dom.val (cause.val + 2) then s.trip dom.val (cause.val + 2) phase.val cur.toNat else s)

/-! ### Shed phases and capping (R426, R429, R430) -/

/-- An instance that carries a load is CAPPED at a depth: ceiling, and a step while the device stands higher (R430). -/
def State.capAt (s : State) (d a phase : Nat) : State :=
  let s1 := (((s.set F.VPA_DOM_STAT_ALLOWED a d).set F.VPA_DOM_STAT_STATE 4 d).powerRec d 2 phase)
  let s2 := { s1 with pm := { s1.pm with ceilPower := max s1.pm.ceilPower a } }.showCeiling
  if s2.depth < a then s2.requestStep 1 else s2

/-- What `k` usable phases of an instance mean for it: a trip, a cap, or nothing. -/
def State.assess (s : State) (d k phase cur : Nat) : State :=
  let st := s.get F.VPA_DOM_STAT_STATE d
  let a := allowedDepth d k
  if st = 0 ∨ st = 6 then s
  else if a = 7 then s.trip d 3 phase cur
  else if d < 32 ∧ ((st = 3 ∧ 0 < a) ∨ (st = 4 ∧ s.get F.VPA_DOM_STAT_ALLOWED d < a)) then s.capAt d a phase
  else s

/-- A phase is shed: switch open, counted, recorded; then its instance is assessed (R426). -/
def State.shed (s : State) (d phase cause temp cur : Nat) : State :=
  let i := d * 16 + phase
  if domPhases d ≤ phase ∨ s.get F.VPA_PHASE_STAT_STATE i = 2 then s
  else
    let s1 := (((s.set F.VPA_PHASE_STAT_STATE 2 i).set F.VPA_PHASE_STAT_SHED_CAUSE cause i).set F.VPA_PHASE_STAT_TEMP temp i).set
      F.VPA_PHASE_STAT_CURRENT 0 i
    let s2 := ((s1.add F.VPA_SHED_COUNT_SHED 1).set F.VPA_DOM_STAT_OK (s1.domOk d - 1) d).set F.VPA_STATUS_SHED 1
    (s2.powerRec d 1 phase).assess d (s2.domOk d) phase cur

/-- PHASE_SHED (R426): `cause` 0 regulation, 1 temperature, 2 share. -/
def execPhaseShed (dom : Fin 55) (phase : Fin 16) (cause : Fin 3) (temp : BitVec 8) (cur : BitVec 16) (s : State) : Res :=
  .next (s.shed dom.val phase.val (cause.val + 1) temp.toNat cur.toNat)

/-! ### Path checks (R433) -/

/-- VL setpoint in force, mV (R425, R452). -/
def State.vlSetpoint (s : State) : Nat := s.vlAt s.depth

/-- Setpoint of an instance, mV (R424, R425). -/
def State.setpoint (s : State) (d : Nat) : Nat :=
  if d < 16 then s.vlSetpoint
  else if d < 32 then (if s.get F.VPA_DOM_STAT_STATE d = 5 then 550 else 800)
  else if d < 48 then 750
  else if d < 52 then 1100
  else if d < 54 then 900
  else 850

/-- The path resistance in 0.1 µΩ of a drop in mV at a current in A. -/
def pathR (out sense cur : Nat) : Nat := min 65535 ((out - sense) * 10000 / cur)

/-- The measured path is above its bound. -/
def State.pathHigh (s : State) (d : Nat) : Bool :=
  decide (s.get F.VPA_DOM_PATH_R_CAL d * (100 + max 1 (s.get F.VPA_PATH_CFG_TOL)) + 500 < s.get F.VPA_DOM_PATH_R_MEAS d * 100)

/-- The 100th sample in a row above the bound: status, record with cause PATH, and fault record. -/
def State.pathFault (s : State) (d : Nat) : State :=
  let s1 := (s.set F.VPA_STATUS_PATH 1).beacon 9 (leBytes 1 d ++ [4, 0] ++ leBytes 1 (s.domOk d) ++
    leBytes 1 (s.get F.VPA_DOM_STAT_ALLOWED d) ++ [7] ++ leBytes 2 (s.get F.VPA_DOM_STAT_CURRENT d))
  s1.raise 15 6 0 d (s1.reg R.VPA_DOM_PATH d).toNat

/-- The 80 mV of compliance no longer cover the drop: so many phases count as lost. -/
def State.pathLoss (s : State) (d out sense : Nat) : Nat :=
  let cal := s.get F.VPA_DOM_PATH_R_CAL d
  if s.setpoint d + 80 ≤ out ∧ sense < s.setpoint d ∧ cal ≠ 0 then (s.get F.VPA_DOM_PATH_R_MEAS d - cal) * 8 / cal else 0

/-- A path check of an instance that is at its setpoint. -/
def State.pathCheck (s : State) (d out sense cur : Nat) : State :=
  if s.domOn d = false then s
  else
    let s1 := ((s.set F.VPA_DOM_VOLT_OUT_MV out d).set F.VPA_DOM_VOLT_SENSE_MV sense d).set F.VPA_DOM_STAT_CURRENT cur d
    if cur = 0 ∨ s.get F.VPA_CTRL_PATH_EN = 0 then s1
    else
      let s2 := s1.set F.VPA_DOM_PATH_R_MEAS (pathR out sense cur) d
      let run := if s2.pathHigh d then smGet 0 d s2.pwr.pathRun + 1 else 0
      let s3 := { s2 with pwr := { s2.pwr with pathRun := smSet 0 d run s2.pwr.pathRun } }
      let s4 := if run = 100 then s3.pathFault d else s3
      let n := s4.pathLoss d out sense
      if n = 0 then s4 else s4.assess d (s4.domOk d - n) 0 cur

/-- PATH_CHECK (R433). -/
def execPathCheck (dom : Fin 55) (out sense cur : BitVec 16) (s : State) : Res :=
  .next (s.pathCheck dom.val out.toNat sense.toNat cur.toNat)

/-! ### Droop (R434 to R436, R463) -/

/-- VL and VA of a field's region are on. -/
def State.fieldPowered (s : State) (f : Nat) : Bool := s.regionOn (regionOf f)

/-- A field is stretched. -/
def State.droopWarn (s : State) (f : Nat) : State :=
  if s.fieldPowered f then
    let s1 := (s.add F.VPA_DROOP_WARN_EVENTS 1 f).set F.VPA_STATUS_DROOP_WARN 1
    { s1 with pwr := { s1.pwr with stretch := if f ∈ s1.pwr.stretch then s1.pwr.stretch else s1.pwr.stretch ++ [f] } }
  else s

/-- DROOP_WARNING (R434). -/
def execDroopWarning (f : Fin 60) (s : State) : Res := .next (s.droopWarn f.val)

/-- A stretch ends after so many field cycles. -/
def State.droopEnd (s : State) (f cycles : Nat) : State :=
  if f ∈ s.pwr.stretch then
    let s1 := s.add F.VPA_DROOP_STRETCH_CYCLES cycles f
    { s1 with pwr := { s1.pwr with stretch := s1.pwr.stretch.filter fun x => decide (x ≠ f) } }
  else s

/-- DROOP_STRETCH_END (R434). -/
def execDroopStretchEnd (f : Fin 60) (cycles : Nat) (s : State) : Res := .next (s.droopEnd f.val cycles)

/-- A tile of a region that is reset: what waited at its local port is gone; from RUN it enters RELOAD with this pass and the next
poisoned. -/
def tDroop (t : Tile) : Tile :=
  let t1 := { t with inbox := [] }
  if t.st = 3 then { t1 with st := 6, active := false, reloaded := false, strobeHeld := false, poison := true, poisonNext := true } else t1

/-- Shuttles at the local ports of a region's tiles. -/
def State.inboxCount (s : State) (r : Nat) : Nat :=
  sumNat (s.tiles.map fun kv => if regionOf (fieldOf kv.1) = r then kv.2.inbox.length else 0)

/-- The region of a field is reset. -/
def State.droopReset (s : State) (f : Nat) : State :=
  let r := regionOf f
  if s.fieldPowered f = false then s
  else
    let s1 := (s.add F.WFT_DROP_COUNT_DROPS (s.inboxCount r)).onTiles fun a t => if regionOf (fieldOf a) = r then tDroop t else t
    (((s1.add F.VPA_DROOP_RESET_RESETS 1 f).set F.VPA_STATUS_DROOP_RESET 1).powerRec r 5 f).raise 16 6 4 f r

/-- DROOP_RESET (R436). -/
def execDroopReset (f : Fin 60) (s : State) : Res := .next (s.droopReset f.val)

/-! ### Ramps (R437, R440, R476) -/

/-- Regions that share an edge with a region. -/
def regionEdges (r : Nat) : List Nat :=
  (rangeFrom 0 16).filter fun q =>
    (decide (q / 4 = r / 4) && (decide (q % 4 + 1 = r % 4) || decide (q % 4 = r % 4 + 1))) ||
      (decide (q % 4 = r % 4) && (decide (q / 4 + 1 = r / 4) || decide (q / 4 = r / 4 + 1)))

/-- VL current of a region is below 90 % of its phases in service × 200 A. -/
def State.vlRoom (s : State) (r : Nat) : Bool :=
  !(s.domOn r) || decide (s.get F.VPA_DOM_STAT_CURRENT r * 10 < s.domOk r * 1800)

/-- The conditions of R437 and R476 for a ramp of a region. -/
def State.rampOk (s : State) (r : Nat) : Bool :=
  decide (s.pwr.ramp = none) && s.coolOk && decide (s.get F.VPA_INPUT_IIN < 8500) &&
    (regionEdges r).all s.vlRoom

/-- The waiting region of the lowest number begins its soft start. -/
def State.rampStart (s : State) : State :=
  match s.pwr.wait with
  | [] => s
  | (r, why) :: ws =>
    if s.rampOk r then
      let up := fun (u : State) (d : Nat) => if u.get F.VPA_DOM_STAT_STATE d = 1 then u.set F.VPA_DOM_STAT_STATE 2 d else u
      let s1 := up (up s r) (16 + r)
      { s1 with pwr := { s1.pwr with wait := ws, ramp := some (r, why) } }
    else s

/-- RAMP_START. -/
def execRampStart (s : State) : Res := .next s.rampStart

/-- An instance in RAMP is at its setpoint; where that leaves it CAPPED, its ceiling holds. -/
def State.rampUp (s : State) (d : Nat) : State :=
  if s.get F.VPA_DOM_STAT_STATE d = 2 then
    let s1 := s.domUp d
    if s1.get F.VPA_DOM_STAT_STATE d = 4 then s1.capAt d (s1.get F.VPA_DOM_STAT_ALLOWED d) 0 else s1
  else s

/-- A soft start completes: both instances on, and what asked for the ramp goes on; `t10` is the time it took in 10 µs. -/
def State.rampDone (s : State) (t10 : Nat) : State :=
  match s.pwr.ramp with
  | none => s
  | some (r, why) =>
    let s1 := { s with pwr := { s.pwr with ramp := none } }
    let s2 := (s1.rampUp r).rampUp (16 + r)
    let s3 := if rampAct why then (s2.set F.VPA_REGION_STAT_RESULT 2).set F.VPA_REGION_STAT_TIME t10 else s2
    if why = 3 ∨ why = 5 then match s3.nvw.weave with
      | some d => s3.weaveStream d
      | none => s3
    else s3

/-- RAMP_COMPLETE (R440). -/
def execRampComplete (t10 : BitVec 12) (s : State) : Res := .next (s.rampDone t10.toNat)

/-- 10 ms since the request without a complete ramp: OFF, record, and for a region action its result and time (R437, R450). -/
def State.rampLate (s : State) (r : Nat) : State :=
  match s.rampOf r with
  | none => s
  | some why =>
    let s1 := (s.powerRec r 9 0).rampEnd r 5
    if rampAct why then s1.set F.VPA_REGION_STAT_TIME 1000 else s1

/-- RAMP_TIMEOUT (R437). -/
def execRampTimeout (r : Fin 16) (s : State) : Res := .next (s.rampLate r.val)

/-! ### Switching regions (R438, R450, R451) -/

/-- ACTION and REGION as written. -/
def State.regionWrite (s : State) (act r : Nat) : State := (s.set F.VPA_REGION_CTRL_ACTION act).set F.VPA_REGION_CTRL_REGION r

/-- The result of a region action. -/
def State.regionResult (s : State) (code : Nat) : State := s.set F.VPA_REGION_STAT_RESULT code

/-- A domain of the region is TRIPPED. -/
def State.regionTripped (s : State) (r : Nat) : Bool :=
  [r, 16 + r, 32 + r].any fun d => decide (s.get F.VPA_DOM_STAT_STATE d = 6)

/-- Another region action, a load or a re-weave is running. -/
def State.regionBusy (s : State) : Bool :=
  s.actionRuns || s.ld.load.isSome || s.nvw.weave.isSome

/-- OFF: VL and VA go off. -/
def State.regionOff (s0 : State) (r : Nat) : State :=
  let s := s0.regionWrite 1 r
  if s.regionBusy then s.regionResult 3
  else if s.patUses r then s.regionResult 4
  else if s.regionTripped r then s.regionResult 6
  else (((s.domOff r 1).domOff (16 + r) 1).regionResult 2).set F.VPA_REGION_STAT_TIME 0

/-- REGION_OFF. -/
def execRegionOff (region : BitVec 4) (s : State) : Res := .next (s.regionOff region.toNat)

/-- ON: a ramp is asked for. -/
def State.regionUp (s0 : State) (r : Nat) : State :=
  let s := s0.regionWrite 2 r
  if s.regionBusy then s.regionResult 3
  else if s.regionTripped r then s.regionResult 6
  else if s.regionOn r then (s.regionResult 2).set F.VPA_REGION_STAT_TIME 0
  else (s.regionResult 1).rampAsk r 1

/-- REGION_ON. -/
def execRegionOn (region : BitVec 4) (s : State) : Res := .next (s.regionUp region.toNat)

/-- RETAIN: VL goes off and VA holds 0.55 V where it is on. -/
def State.regionRetain (s0 : State) (r : Nat) : State :=
  let s := s0.regionWrite 3 r
  if s.regionBusy then s.regionResult 3
  else if s.patUses r then s.regionResult 4
  else if s.regionTripped r then s.regionResult 6
  else
    let s1 := s.domOff r 1
    let s2 := if s1.domOn (16 + r) then s1.set F.VPA_DOM_STAT_STATE 5 (16 + r) else s1
    (s2.regionResult 2).set F.VPA_REGION_STAT_TIME 0

/-- REGION_RETAIN. -/
def execRegionRetain (region : BitVec 4) (s : State) : Res := .next (s.regionRetain region.toNat)

/-- GO with a reserved ACTION (R451). -/
def State.regionBad (s : State) (act r : Nat) : State := (s.regionWrite act r).regionResult 7

/-! ### Counts (R445) -/

/-- Registers that CLR_COUNTS clears. -/
def vpaCountRegs : List Nat := [R.VPA_DROOP_WARN, R.VPA_DROOP_RESET, R.VPA_DROOP_STRETCH, R.VPA_FAULT_CAP0, R.VPA_FAULT_CAP1]

/-- VPA_CLR_COUNTS. -/
def State.vpaClr (s : State) : State := ({ s with bank := bankClear vpaCountRegs s.bank }).set F.VPA_POWER_PMAX 0

/-- VPA_CLR_COUNTS. -/
def execVpaClrCounts (s : State) : Res := .next s.vpaClr

end Sys2Proof.Machine
end

