-- ==== Sys2Proof/Machine/Clocks.lean ====
section
/-!
DEFINITION. Clocks and crossings (13_clocks_and_crossings.md): the reference and its loss, spreading, PLLs that lose lock, overruns of
crossings, and the counts of the block.
-/
namespace Sys2Proof.Machine

/-! ### The reference (R457) -/

/-- The reference counts as lost: no edge for 1 µs, or more than ±500 ppm off the oscillator. -/
def refBad (edge : Bool) (ppm : Int) : Bool := !edge || decide (ppm < -500) || decide (500 < ppm)

/-- While the input counts as lost, both copies run on the oscillator; the switch is recorded once. -/
def State.refSwitch (s : State) : State :=
  if s.clk.lost = true ∧ s.get F.CLK_STATUS_REF_SUB = 0 then
    let s1 := ((s.set F.CLK_STATUS_REF_LOS 1).set F.CLK_STATUS_REF_SUB 1).add F.CLK_REF_STAT_LOS_COUNT 1
    s1.raise 17 5 0 0 (s1.reg R.CLK_REF_STAT).toNat
  else s

/-- A count of the reference against the oscillator. -/
def State.refCount (s : State) (edge : Bool) (ppm : Nat) : State :=
  { s.set F.CLK_REF_STAT_PPM ppm with clk := { s.clk with lost := refBad edge (sgn 16 ppm) } }.refSwitch

/-- REF_LOSS: the clock unit counts edges of the reference; `edge`: one has come within 1 µs, `ppm`: the offset over 1 ms. -/
def execRefLoss (edge : Bool) (ppm : BitVec 16) (s : State) : Res := .next (s.refCount edge ppm.toNat)

/-- Back to the reference input: in IDLE, and while it does not count as lost (R457, R468). -/
def State.refRestore (s : State) : State :=
  if s.pickState = 0 ∧ s.clk.lost = false then s.set F.CLK_STATUS_REF_SUB 0 else s

/-- REF_RESTORE. -/
def execRefRestore (s : State) : Res := .next s.refRestore

/-! ### Spreading (R456) -/

/-- CLK_CTRL.SSC_OFF written: 1 is taken in test mode and IDLE only; either value acts at the next crest. -/
def State.sscOff (s : State) (off : Bool) : State :=
  if off then
    if s.testMode = true ∧ s.pickState = 0 then
      { s.set F.CLK_CTRL_SSC_OFF 1 with clk := { s.clk with ssc := if s.get F.CLK_STATUS_SSC_ON = 1 then some false else none } }
    else s.set F.CLK_STATUS_SSC_REFUSED 1
  else { s.set F.CLK_CTRL_SSC_OFF 0 with clk := { s.clk with ssc := if s.get F.CLK_STATUS_SSC_ON = 0 then some true else none } }

/-- SSC_OFF. -/
def execSscOff (off : Bool) (s : State) : Res := .next ((s.sscOff off).sntCheck R.CLK_CTRL 0 (s.reg R.CLK_CTRL))

/-- SSC_CREST: the frequency is nominal, and spreading stops or resumes. -/
def State.sscCrest (s : State) : State :=
  match s.clk.ssc with
  | some v => { s.set F.CLK_STATUS_SSC_ON (b2n v) with clk := { s.clk with ssc := none } }
  | none => s

/-- SSC_CREST. -/
def execSscCrest (s : State) : Res := .next s.sscCrest

/-- Test mode ends: spreading resumes at once (R456, R468). -/
def State.sscResume (s : State) : State :=
  { (s.set F.CLK_STATUS_SSC_ON 1).set F.CLK_CTRL_SSC_OFF 0 with clk := { s.clk with ssc := none } }

/-- Test mode ends (R570): spreading is back, and the sentinel is enabled. -/
def State.testEnd (s : State) : State :=
  if s.testMode then (((s.set F.TST_STATUS_TEST_MODE 0).set F.TST_CTRL_TEST_MODE 0).sscResume).set F.SNT_CTRL_EN 1 else s

/-! ### Counts and fill records (R470) -/

/-- Fill records of every seam channel restart at the fill that stands. -/
def fillClear (b : SMap Word) : SMap Word :=
  (b.map fun (kv : Nat × Word) => if kv.1 % 2 ^ 26 = R.CLK_SEAM_FILL then
      (kv.1, BitVec.ofNat 32 (bitsOf kv.2.toNat 4 4 * 273)) else kv).filter fun (kv : Nat × Word) => decide (kv.2 ≠ regReset kv.1)

/-- CLK_CTRL.CLR_COUNTS. -/
def State.clkClr (s : State) : State :=
  let b1 := (rangeFrom 0 145).foldl (fun b n => bankSet F.CLK_PLL_STAT_UNLOCKS n 0 b) s.bank
  let b2 := (rangeFrom 0 9).foldl (fun b c => bankSet F.CLK_XCLASS_STAT_OVERRUNS c 0 b) b1
  { s with bank := bankSet F.CLK_REF_STAT_LOS_COUNT 0 0 (fillClear b2) }

/-- CLK_CLR_COUNTS. -/
def execClkClrCounts (s : State) : Res := .next s.clkClr

/-! ### PLLs (R459) -/

/-- The field that a PLL belongs to, 0 for the others. -/
def pllField (n : Nat) : Nat := if n < 60 then n else if 68 ≤ n ∧ n < 128 then n - 68 else 0

/-- A FIELD_FAIL record of a PLL (R559). Log entry 41. -/
def State.pllRecord (s : State) (n : Nat) : State := s.raise 18 5 4 (pllField n) n

/-- A PLL that was locked loses lock: three attempts begin. -/
def State.pllUnlock (s : State) (n : Nat) (runs : List Nat) : State :=
  if s.get F.CLK_PLL_STAT_STATE n ≠ 2 then s
  else
    let s1 := ((s.set F.CLK_PLL_STAT_STATE 1 n).add F.CLK_PLL_STAT_UNLOCKS 1 n).set F.CLK_STATUS_UNLOCK 1
    let s2 := { s1 with clk := { s1.clk with tries := smSet 0 n 0 s1.clk.tries } }
    runs.foldl State.crossOver (s2.pllRecord n)

/-- PLL_UNLOCK: `runs` are the crossing classes that overrun meanwhile, less 1 (R462). -/
def execPllUnlock (pll : Fin 145) (runs : List (Fin 8)) (s : State) : Res :=
  .next (s.pllUnlock pll.val (runs.map fun c => c.val + 1))

/-- The third attempt has failed: a field's clock stops. -/
def State.pllFail (s : State) (n : Nat) : State :=
  let s1 := s.set F.CLK_PLL_STAT_STATE 3 n
  if n < 60 then
    (({ s1 with clk := { s1.clk with stopped := if n ∈ s1.clk.stopped then s1.clk.stopped else s1.clk.stopped ++ [n] } }).set
      F.CLK_STATUS_FIELD_FAIL 1).pllRecord n
  else s1

/-- An attempt ends: locked after a time in 10 ns, or failed. -/
def State.pllRelock (s : State) (n : Nat) (ok : Bool) (t : Nat) : State :=
  if s.get F.CLK_PLL_STAT_STATE n ≠ 1 then s
  else if ok then (s.set F.CLK_PLL_STAT_STATE 2 n).set F.CLK_PLL_STAT_LOCK_TIME t n
  else
    let k := smGet 0 n s.clk.tries + 1
    let s1 := { s with clk := { s.clk with tries := smSet 0 n k s.clk.tries } }
    if 3 ≤ k then s1.pllFail n else s1

/-- PLL_RELOCK. -/
def execPllRelock (pll : Fin 145) (ok : Bool) (time : BitVec 16) (s : State) : Res := .next (s.pllRelock pll.val ok time.toNat)

end Sys2Proof.Machine
end

