-- ==== Sys2Proof/Machine/Thermal.lean ====
section
/-!
DEFINITION. Cooling (14_cooling.md): tray readings, sensors, the forecaster, coolant stops and thermal trips.
-/
namespace Sys2Proof.Machine

/-! ### Records (R489) -/

/-- A THERMAL or COOLANT record: event, temperature or flow, field and sensor, the depth, a skein. -/
def State.thmRec (s : State) (type ev val field sensor skein : Nat) : State :=
  s.beacon type (leBytes 1 ev ++ leBytes 2 (val % 2 ^ 16) ++ leBytes 1 field ++ leBytes 1 sensor ++ leBytes 1 s.depth ++ leBytes 2 skein)

/-- A COOLANT record. -/
def State.coolRec (s : State) (ev val : Nat) : State := s.thmRec 8 ev val 255 255 0

/-! ### Coolant stops and thermal trips (R485 to R487, R513) -/

/-- NVW work ends ABORTED: an operation, a re-weave, and the darn or rotation that runs. -/
def State.nvwStop (s : State) : State :=
  let s1 := if s.nvw.op = 1 then s.opEnd 14 0 else s
  let s2 := s1.weaveFail 14 0
  let s3 := match s2.nvw.run with
    | none => s2
    | some d => (if d.switched then s2 else s2.darnBack d).darnOver 14
  { s3 with nvw := { s3.nvw with rot := none } }

/-- What a coolant stop and a trip end at once: load, installation, NVW work, tests, test mode. -/
def State.stopWork (s : State) : State := (((s.wrpAbort).nvwStop).bistAbort.abortTests).testEnd

/-- During the boot sequence the stage is COOLANT until the stop is cleared (R513). -/
def State.holdBoot (s : State) : State :=
  if 1 ≤ s.get F.BOOT_STATUS_STAGE ∧ s.get F.BOOT_STATUS_STAGE < 11 then s.set F.BOOT_STATUS_STAGE 7 else s

/-- Every skein that is not ending enters DRAINING with reason COOLANT (R485 step 2). -/
def State.drainAll (s : State) : State := (s.skeinsIn fun st => decide (1 ≤ st) && decide (st ≤ 4)).foldl (fun u id => u.drainSk id 7) s

/-- A coolant stop begins: latched, beacon, drain as a stop at MIN, skeins draining (R485 steps 1 and 2); a second one changes nothing. -/
def State.coolantStop (s : State) (flow status : Nat) : State :=
  if s.get F.THM_STATUS_STOPPED = 1 then s
  else
    let s1 := ((s.set F.THM_STATUS_STOPPED 1).coolRec 5 flow).raise 22 7 5 0 (flow % 2 ^ 16 + status % 2 ^ 8 * 2 ^ 16)
    let s2 := ((s1.beaconSend (!s1.hcRuns)).beginDrain true true none false).stopWork
    { s2.drainAll.holdBoot with thm := { s2.drainAll.holdBoot.thm with stopping := true } }

/-- The pick master is stopped where it stands: IDLE, and the passes in flight are gone. -/
def State.stopPick (s : State) : State :=
  if s.pickState = 1 ∨ s.pickState = 2 ∨ s.pickState = 3 then s.haltPick.set F.PCK_STATUS_STATE 0 else s

/-- Every switched domain off with cause COOLANT; no pattern stays loaded. -/
def State.coolantOff (s : State) : State :=
  let s1 := (s.allOff 6).set F.WRP_STATUS_LOADED 0
  { s1 with thm := { s1.thm with stopping := false } }

/-- The end of a stop's drain, or 2 ms: a FLUSH on each UP HOST port, whose address the spec leaves open, then the
domains (R485 steps 3 and 4). -/
def State.coolantEnd (s : State) (late : Bool) : State :=
  if s.thm.stopping = false ∨ (late = false ∧ (s.pickState = 1 ∨ s.pickState = 2 ∨ s.pickState = 3)) then s
  else
    let s1 := s.stopPick.settle
    ((s1.emit (s1.hostPorts.map fun p => .flush p 1 s1.host.nextTag (Config.freeWord s1.free).toNat)).useFree 1).coolantOff

/-- COOLANT_STOP_DRAIN_END: `late` is the limit of 2 ms. -/
def execCoolantStopDrainEnd (late : Bool) (s : State) : Res := .next (s.coolantEnd late)

/-- A trip of sensor `n` of field `f` (R486). -/
def State.thermalTrip (s : State) (f n : Nat) : State :=
  if smGet 0 (f * 32 + n) s.thm.trip < 2 then s
  else
    let v := s.get F.THM_SENS_STAT_TEMP (f * 32 + n)
    let s0 := { s with thm := { s.thm with trip := [] } }
    let s1 := ((s0.halt).stopWork.coolantOff).faultAll 7
    let s2 := ((s1.set F.THM_STATUS_TRIP 1).set F.THM_STATUS_STOPPED 1).add F.THM_COUNTS_TRIPS 1
    let s3 := (((s2.set F.THM_PRED_DRAM (b2n (decide (16 ≤ n ∧ n < 24)))).set F.THM_PRED_FIELD f).set F.THM_PRED_STEP 0).set F.THM_PRED_PRED v
    ((s3.thmRec 7 4 v f n 0).raise 21 7 5 f (n % 2 ^ 8 + v % 2 ^ 16 * 2 ^ 8)).holdBoot

/-- THERMAL_TRIP: the comparator of a sensor whose readings have held the trip value for 100 µs. -/
def execThermalTrip (f : Fin 60) (sensor : Fin 26) (s : State) : Res := .next (s.thermalTrip f.val sensor.val)

/-- THM_CTRL.CLEAR_STOP: while COOL_OK = 1, a cold reset brings service back (R485, R506). -/
def State.clearStop (s : State) : State :=
  if s.get F.THM_STATUS_STOPPED = 1 ∧ s.coolOk = true then (s.set F.THM_STATUS_STOPPED 0).coldReset 7 else s

/-- CLEAR_STOP. -/
def execClearStop (s : State) : Res := .next s.clearStop

/-- Every sensor MAX 0. -/
def sensMaxClear (b : SMap Word) : SMap Word :=
  (rangeFrom 0 60).foldl (fun m f => (rangeFrom 0 26).foldl (fun m2 n => bankSet F.THM_SENS_STAT_MAX (f * 32 + n) 0 m2) m) b

/-- THM_CTRL.CLR_COUNTS. -/
def State.thmClr (s : State) : State := { s with bank := sensMaxClear (bankClear [R.THM_COUNTS] s.bank) }

/-- THM_CLR_COUNTS. -/
def execThmClrCounts (s : State) : Res := .next s.thmClr

/-! ### Tray readings (R477, R478, R484) -/

/-- A warning that rises after 1 s out of bounds and clears after 1 s within: the flag, times plus 1 since it is out and in. -/
def warnStep (now : Nat) (bad : Bool) (flag since back : Nat) : Nat × Nat × Nat :=
  if bad then
    let t := if since = 0 then now + 1 else since
    (if 1000000 ≤ now + 1 - t then 1 else flag, t, 0)
  else
    let t := if back = 0 then now + 1 else back
    (if 1000000 ≤ now + 1 - t then 0 else flag, 0, t)

/-- FLOW_WARN and INLET_HIGH judged on a reading. -/
def State.coolWarn (s : State) (flow : Nat) (inlet : Int) : State :=
  let w := warnStep s.timeUs (decide (flow < s.flowWarn)) (s.get F.THM_STATUS_FLOW_WARN) s.thm.flowBad s.thm.flowGood
  let h := warnStep s.timeUs (decide ((s.inletMax : Int) < inlet)) (s.get F.THM_STATUS_INLET_HIGH) s.thm.inletBad s.thm.inletGood
  let s1 := if w.1 = 1 ∧ s.get F.THM_STATUS_FLOW_WARN = 0 then s.coolRec 1 flow else s
  let s2 := if h.1 = 1 ∧ s.get F.THM_STATUS_INLET_HIGH = 0 then s1.coolRec 2 (tow 16 inlet) else s1
  { (s2.set F.THM_STATUS_FLOW_WARN w.1).set F.THM_STATUS_INLET_HIGH h.1 with
    thm := { s2.thm with flowBad := w.2.1, flowGood := w.2.2, inletBad := h.2.1, inletGood := h.2.2 } }

/-- A reading that asks for a coolant stop: too little flow, a drop against the highest of the last 200 ms, or a leak. -/
def State.coolBad (s : State) (flow status : Nat) : Bool :=
  let pct := if s.get F.THM_FLOW_CFG_DROP_PCT = 0 then 50 else s.get F.THM_FLOW_CFG_DROP_PCT
  decide (flow < 10 * max 12 (s.get F.THM_FLOW_CFG_STOP)) || bitAt status 1 ||
    decide (flow * 100 < (100 - pct) * maxNat (s.thm.flows.map Prod.snd))

/-- A valid reading. -/
def State.trayIn (s : State) (inlet outlet flow status : Nat) : State :=
  let s1 := ((s.set F.THM_TRAY_INLET inlet).set F.THM_TRAY_OUTLET outlet).set F.THM_FLOW_FLOW flow
  let s2 := { s1 with thm := { s1.thm with
    last := s.timeUs, valid := true
    flows := (s.thm.flows.filter fun (x : Nat × Nat) => decide (s.timeUs < x.1 + 200000)) ++ [(s.timeUs, flow)] } }
  let s3 := if s2.get F.THM_STATUS_TRAY_LOST = 1 then (s2.set F.THM_STATUS_TRAY_LOST 0).coolRec 4 flow else s2
  let s4 := s3.coolWarn flow (sgn 16 inlet)
  if s4.coolBad flow status then s4.coolantStop flow status else s4

/-- A reply of the tray controller; the controller reads while one runs. -/
def State.trayRead (s : State) (bs : List Byte) : State :=
  if s.hcRuns = false then s
  else if bs.length = 8 ∧ crc8 (bs.take 7) = leNat (bs.drop 7) then
    s.trayIn (leNat (sliceB bs 0 2)) (leNat (sliceB bs 2 2)) (leNat (sliceB bs 4 2)) (leNat (sliceB bs 6 1))
  else
    let s1 := { s with thm := { s.thm with valid := false } }
    if bs = [] then s1 else s1.add F.THM_COUNTS_TRAY_CRC 1

/-- TRAY_READ: the reply's bytes, none where none came. -/
def execTrayRead (bytes : List (BitVec 8)) (s : State) : Res := .next (s.trayRead bytes)

/-- The ceiling of the forecaster is at a depth or deeper. -/
def State.holdThermal (s : State) (d : Nat) : State := { s with pm := { s.pm with ceilThermal := max s.pm.ceilThermal d } }.showCeiling

/-- No valid reading for 50 ms (R478). -/
def State.trayLost (s : State) : State :=
  if s.timeUs < s.thm.last + 50000 ∨ s.get F.THM_STATUS_TRAY_LOST = 1 then s
  else
    let s1 := (s.set F.THM_STATUS_TRAY_LOST 1).coolRec 3 (s.get F.THM_FLOW_FLOW)
    if s1.get F.THM_CTRL_FORECAST_EN = 1 then s1.holdThermal 2 else s1

/-- TRAY_LOST. -/
def execTrayLost (s : State) : Res := .next s.trayLost

/-! ### Sensors (R479, R480) -/

/-- A temperature in units of 0.1 °C: exact, or one of its two neighbours (log entry 42). -/
def roundT (x : Rat) : Int := if x.floor = x.ceil then x.floor else if Config.roundUp x then x.ceil else x.floor

/-- The tile under die sensor `n` (R479). -/
def sensTile (f n : Nat) : Nat := mkTile f (8 + 16 * (n % 4)) (9 + 18 * (n / 4))

/-- A reading in units of 0.1 °C of a sensor's count of 0.25 K, die sensors corrected by their tile. -/
def State.sensRead (s : State) (f n q : Nat) : Int :=
  let off := if n < 16 then sgn 8 (fldOf F.TIL_CAL_0_SENSE_OFFSET (tCal0 (s.tile (sensTile f n)))) else 0
  roundT (((5 * (sgn 16 q + off) : Int) : Rat) / 2)

/-- DRAM sensors (R479). -/
def isDram (n : Nat) : Bool := decide (16 ≤ n) && decide (n < 24)

/-- Trip value of a sensor's group in 0.1 °C (R492). -/
def State.tripOf (s : State) (n : Nat) : Nat :=
  if isDram n then 10 * min 90 (s.get F.THM_LIMITS_TRIP_D) else 10 * min 100 (s.get F.THM_LIMITS_TRIP_J)

/-- A sample of one sensor: last and highest reading, and how long it has held its trip value. -/
def State.sensIn (s : State) (f n q : Nat) : State :=
  let k := f * 32 + n
  let v := s.sensRead f n q
  let top := if sgn 16 (s.get F.THM_SENS_STAT_MAX k) < v then tow 16 v else s.get F.THM_SENS_STAT_MAX k
  let s1 := (s.set F.THM_SENS_STAT_TEMP (tow 16 v) k).set F.THM_SENS_STAT_MAX top k
  { s1 with thm := { s1.thm with trip := smSet 0 k (if (s.tripOf n : Int) ≤ v then smGet 0 k s.thm.trip + 1 else 0) s1.thm.trip } }

/-- SENSOR_SAMPLE: the sensors of a field in order, as signed counts of 0.25 K. -/
def execSensorSample (f : Fin 60) (q : List (BitVec 16)) (s : State) : Res :=
  .next (((q.take 26).zip (rangeFrom 0 26)).foldl (fun u x => u.sensIn f.val x.2 x.1.toNat) s)

/-! ### The felt forecaster (R481 to R483) -/

/-- P[f], W (R481). -/
def State.fieldPower (s : State) (f : Nat) : Rat :=
  let r := regionOf f
  ((s.setpoint r * s.get F.VPA_DOM_STAT_CURRENT r + s.setpoint (16 + r) * s.get F.VPA_DOM_STAT_CURRENT (16 + r) : Nat) : Rat) /
    (1000 * (fieldsOf r).length : Nat)

/-- The hottest reading of a group of a field with its sensor. -/
def State.hotOf (s : State) (f : Nat) (dram : Bool) : Int × Nat :=
  ((groupSensors dram).map fun n => (s.temp f n, n)).foldl hotter (s.temp f (if dram then 16 else 0), if dram then 16 else 0)

/-- Inlet and flow that the forecaster uses, °C and L/min (R478). -/
def State.coolIn (s : State) : Rat × Rat :=
  if s.get F.THM_STATUS_TRAY_LOST = 1 then ((s.inletMax : Rat) / 10, (s.flowWarn : Rat) / 10)
  else ((sgn 16 (s.get F.THM_TRAY_INLET) : Rat) / 10, (s.get F.THM_FLOW_FLOW : Rat) / 10)

/-- The prediction for a field and group at step `k`, °C (R481). -/
def State.predict (s : State) (f : Nat) (dram : Bool) (k : Nat) : Rat :=
  let c := s.coolIn
  let g := b2n dram
  if c.2 = 0 then Config.thmNoFlow f g k
  else
    let rise := ((s.get F.VPA_POWER_PIN : Rat) / 100) / (4 * c.2 / 60)
    let tss := c.1 + Config.thmA f * rise + (Config.thmTh0 f g + Config.thmTh1 f g * (60 / c.2)) * s.fieldPower f
    let t : Rat := ((s.hotOf f dram).1 : Rat) / 10
    t + (tss - t) * Config.thmGain f g k

/-- A prediction with its place. -/
structure Pred where
  val : Rat
  field : Nat
  dram : Bool
  step : Nat
  deriving DecidableEq, Repr

/-- Every prediction: fields whose VL is on, both groups, steps 1 to 8. -/
def State.preds (s : State) : List Pred :=
  (rangeFrom 0 60).flatMap fun f => if s.vlOn f then
    [false, true].flatMap fun g => (rangeFrom 1 8).map fun k => ⟨s.predict f g k, f, g, k⟩ else []

/-- The highest, the first where they are equal. -/
def topPred : List Pred → Option Pred
  | [] => none
  | p :: ps => match topPred ps with
    | none => some p
    | some q => if p.val < q.val then some q else some p

/-- Action threshold of a group, °C (R492). -/
def State.actOf (s : State) (dram : Bool) : Nat :=
  let v := s.get (if dram then F.THM_LIMITS_ACT_D else F.THM_LIMITS_ACT_J)
  if dram then (if 70 ≤ v ∧ v ≤ 84 then v else 82) else (if 80 ≤ v ∧ v ≤ 94 then v else 92)

/-- THM_PRED shows the highest prediction. -/
def State.showPred (s : State) (p : Pred) : State :=
  (((s.set F.THM_PRED_DRAM (b2n p.dram)).set F.THM_PRED_FIELD p.field).set F.THM_PRED_STEP p.step).set F.THM_PRED_PRED (tow 16 (roundT (10 * p.val)))

/-- The first action after a cold start: regions that the pattern does not use and whose VL is on go OFF (R482). -/
def State.firstAct (s : State) (v sensor : Nat) : State :=
  if s.thm.acted then s
  else
    let rs := (rangeFrom 0 16).filter fun r => s.domOn r && !(s.patUses r)
    rs.foldl (fun u r => ((u.domOff r 1).domOff (16 + r) 1).thmRec 7 5 v r sensor 0)
      { s with thm := { s.thm with acted := true } }

/-- A step request of the forecaster, counted (R482). -/
def State.thmStep (s : State) : State := (s.requestStep 2).add F.THM_COUNTS_STEPS 1

/-- At the floor: the ceiling stands there, and one skein parks (R482). -/
def State.thmPark (s : State) (v field sensor : Nat) : State :=
  let s0 := { s with pm := { s.pm with causes := s.pm.causes ||| causeBit 2 } }.add F.THM_COUNTS_STEPS 1
  let s1 := (s0.holdThermal s.depth).set F.THM_STATUS_PARKING 1
  match s1.preemptOrder with
  | [] => s1
  | id :: _ => (s1.pendPark id).thmRec 7 2 v field sensor id

/-- What a prediction at its threshold brings. -/
def State.thmAct (s : State) (p : Pred) : State :=
  let v := tow 16 (roundT (10 * p.val))
  let n := (s.hotOf p.field p.dram).2
  let s1 := s.firstAct v n
  let s2 := { s1 with thm := { s1.thm with calm := 0 } }
  if stepDown s2.pat.modes s2.mode s2.level = none then s2.thmPark v p.field n
  else s2.thmStep.thmRec 7 1 v p.field n 0

/-- No prediction at its threshold: parking stops, and after 1 s of predictions 5 K below the ceiling is released (R482, R483). -/
def State.thmCalm (s : State) (ps : List Pred) : State :=
  let s1 := s.set F.THM_STATUS_PARKING 0
  let calm := ps.all fun p => decide (p.val + 5 ≤ s.actOf p.dram)
  if calm = false ∨ s.get F.THM_STATUS_TRAY_LOST = 1 then { s1 with thm := { s1.thm with calm := 0 } }
  else
    let t := if s.thm.calm = 0 then s.timeUs + 1 else s.thm.calm
    let s2 := { s1 with thm := { s1.thm with calm := t } }
    if s2.pm.ceilThermal ≠ 0 ∧ t + 1000000 ≤ s.timeUs + 1 then (s2.dropCeiling 2).thmRec 7 3 0 255 255 0 else s2

/-- The forecaster's millisecond. -/
def State.forecast (s : State) : State :=
  let ps := s.preds
  let s1 := match topPred ps with
    | some p => s.showPred p
    | none => s
  if s.get F.THM_CTRL_FORECAST_EN = 0 then s1
  else
    match topPred (ps.filter fun p => decide ((s.actOf p.dram : Rat) ≤ p.val)) with
    | some p => s1.thmAct p
    | none =>
      let s2 := s1.thmCalm ps
      if s2.get F.THM_STATUS_TRAY_LOST = 1 then (if s2.depth < 2 then (s2.holdThermal 2).thmStep else s2.holdThermal 2) else s2

/-- FORECAST. -/
def execForecast (s : State) : Res := .next s.forecast

end Sys2Proof.Machine
end

