-- ==== Sys2Proof/Machine/Boot.lean ====
section
/-!
DEFINITION. The heddle controllers and start-up (15_boot_and_trust.md, R494 to R507, R512, R513, and the pins of R591 and R592): firmware
checks, the stages of the power-on sequence, resets and their causes, takeover, and firmware update.
-/
namespace Sys2Proof.Machine

/-! ### Firmware images (R500 to R502) -/

/-- Body length of an image. -/
def fwLen (img : List Byte) : Nat := recN img 8 4

/-- The image digest: header bytes [255:0] and body. -/
def fwDigest (img : List Byte) : List Byte := sha384 (img.take 256 ++ (img.drop 8192).take (fwLen img))

/-- Security version and handoff version. -/
def fwSvn (img : List Byte) : Nat := recN img 6 1
def fwHandoff (img : List Byte) : Nat := recN img 7 1

/-- Header and body are of the format and fit a bank. -/
def fwFormat (img : List Byte) : Bool :=
  decide (recN img 0 4 = 0x57464348) && decide (recN img 4 2 = 1) && decide (8192 + fwLen img ≤ 2 ^ 22)

/-- The first check of an image that fails, as a code of R516, 0 with none; a body that differs from its digest counts with the signatures
that cover it (log entry 43). -/
def State.fwCheck (s : State) (img : List Byte) : Nat :=
  if fwFormat img = false then 1
  else if sha384 (sliceB img 60 97) ≠ s.trust.fwEcdsa ∨ sha384 (sliceB img 157 60) ≠ s.trust.fwHss then 2
  else if sha384 ((img.drop 8192).take (fwLen img)) ≠ sliceB img 12 48 then 3
  else if Config.ecdsaOk (sliceB img 60 97) (fwDigest img) (sliceB img 256 96) = false ∨
    Config.hssOk (sliceB img 157 60) (fwDigest img) (sliceB img 352 3604) = false then 3
  else if fwSvn img < s.get F.BOOT_SVN_FW_SVN then 4 else 0

/-- The image in bank `b` of controller `c`. -/
def State.bankImg (s : State) (c b : Nat) : List Byte := smGet [] (c * 2 + b) s.trust.banks

/-- What the ROM of a controller finds in a bank; `bad` are banks that cannot be read. -/
def State.bankCode (s : State) (bad : List Nat) (c b : Nat) : Nat := if c * 2 + b ∈ bad then 1 else s.fwCheck (s.bankImg c b)

/-! ### Controllers -/

/-- The bit that says that a controller runs, and the field of its SVN. -/
def hcOk (c : Nat) : Fld := if c = 0 then F.BOOT_STATUS_HCA_OK else F.BOOT_STATUS_HCB_OK
def hcSvn (c : Nat) : Fld := if c = 0 then F.BOOT_SVN_RUN_A else F.BOOT_SVN_RUN_B

/-- A controller runs. -/
def State.hcUp (s : State) (c : Nat) : Bool := decide (s.get (hcOk c) = 1)

/-- The primary, and the other. -/
def State.primary (s : State) : Nat := s.get F.BOOT_STATUS_PRIMARY
def State.standby (s : State) : Nat := 1 - s.primary

/-- The first failure code of the boot stays (R503). -/
def State.bootCode (s : State) (code : Nat) : State := if s.get F.BOOT_STATUS_CODE = 0 then s.set F.BOOT_STATUS_CODE code else s

/-- SVN_PEND: a running SVN is above FW_SVN. -/
def State.svnPend (s : State) : State :=
  s.set F.BOOT_STATUS_SVN_PEND (b2n ([0, 1].any fun c => s.hcUp c && decide (s.get F.BOOT_SVN_FW_SVN < s.get (hcSvn c))))

/-- The pin HC_STAT follows whether a primary runs (R592). -/
def State.showHc (s : State) : State :=
  if s.hcRuns = s.pins.hcStat then s else { s with pins := { s.pins with hcStat := s.hcRuns } }.emit [.pin 14 s.hcRuns]

/-- A controller becomes primary (R494, R495): its field links carry the warp's messages. -/
def State.setPrimary (s : State) (c : Nat) : State :=
  let s1 := (s.set F.BOOT_STATUS_PRIMARY c).set F.WRP_STATUS_PRIMARY c
  { s1 with bank := (rangeFrom 0 60).foldl (fun b f => bankSet F.WRP_EP_STAT_UPSTREAM f c b) s1.bank }

/-- A controller runs the image of a bank. -/
def State.hcRun (s : State) (c b : Nat) : State :=
  let img := s.bankImg c b
  let s1 := ((s.set (hcOk c) 1).set (hcSvn c) (fwSvn img))
  { s1 with trust := { s1.trust with
      cur := smSet 0 c b s1.trust.cur, digests := smSet [] c (fwDigest img) s1.trust.digests,
      handoff := smSet 0 c (fwHandoff img) s1.trust.handoff } }

/-- A controller stops. -/
def State.hcStop (s : State) (c : Nat) : State :=
  let s1 := (s.set (hcOk c) 0).set (hcSvn c) 0
  { s1 with trust := { s1.trust with digests := smSet [] c [] s1.trust.digests, handoff := smSet 0 c 0 s1.trust.handoff } }

/-- A controller's ROM tries its current bank, then the other (R504); the failure code of the current bank. -/
def State.romBoot (s : State) (bad : List Nat) (c : Nat) : State × Nat :=
  let b := smGet 0 c s.trust.cur
  let k := s.bankCode bad c b
  if k = 0 then (s.hcRun c b, 0)
  else if s.bankCode bad c (1 - b) = 0 then ((s.hcRun c (1 - b)).set F.BOOT_STATUS_FALLBACK 1, k)
  else (s.hcStop c, k)

/-- A controller stops with a fatal code; the other becomes primary where it runs (R494, R503). -/
def State.hcFatal (s : State) (code c : Nat) : State :=
  let s1 := (s.hcStop c).bootCode code
  (if c = s1.primary ∧ s1.hcUp (1 - c) = true then s1.setPrimary (1 - c) else s1).svnPend.showHc

/-- With no controller left the line NO_HC goes out (R504, R592). -/
def State.noHcLine (s : State) : State := s.emit [.mgmt (Config.mgmtLine (s.get F.BOOT_STATUS_STAGE) 11)]

/-! ### Stages (R503 to R505) -/

/-- The reset that led here was a warm one (R506). -/
def State.warmBoot (s : State) : Bool := decide (s.get F.BOOT_STATUS_LAST_RESET ∈ [3, 4, 6])

/-- Stage 1: both ROMs. -/
def State.stageRom (s : State) (bad : List Nat) : State :=
  let a := s.romBoot bad 0
  let b := a.1.romBoot bad 1
  let s1 := if a.2 ≠ 0 then b.1.bootCode a.2 else b.1
  let s2 := if b.2 ≠ 0 then s1.bootCode b.2 else s1
  let s3 := ((if s2.hcUp 0 = false ∧ s2.hcUp 1 = true then s2.setPrimary 1 else s2.setPrimary 0).svnPend).showHc
  { s3 with trust := { s3.trust with beat := s3.timeUs } }

/-- PWRGOOD goes high (R592). -/
def State.powerGood (s : State) : State :=
  if s.pins.pwrgood then s else { s with pins := { s.pins with pwrgood := true } }.emit [.pin 11 true]

/-- Stage 3: PLLs on VK, the reference, PWRGOOD. -/
def State.stageClock (s : State) : State := ((s.plls 54 2).refSwitch).powerGood

/-- One instance is tested (R426, R440): its phases that fail are shed, TRIPPED at the trip count, else OFF. -/
def State.testDom (s : State) (bad : List Nat) (d : Nat) : State :=
  let s1 := (rangeFrom 0 (domPhases d)).foldl (fun u p =>
    let i := d * 16 + p
    (u.set F.VPA_PHASE_STAT_STATE (if i ∈ bad then 2 else 0) i).set F.VPA_PHASE_STAT_SHED_CAUSE (if i ∈ bad then 4 else 0) i) s
  let k := ((rangeFrom 0 (domPhases d)).filter fun p => decide (d * 16 + p ∉ bad)).length
  let s2 := (s1.set F.VPA_DOM_STAT_OK k d).set F.VPA_DOM_STAT_ALLOWED (allowedDepth d k) d
  if d = 54 then s2
  else if allowedDepth d k = 7 then ((s2.putDom d 6 3).set F.VPA_STATUS_TRIPPED 1).bootCode 7
  else s2.set F.VPA_DOM_STAT_STATE 0 d

/-- The depth that the VL and VA instances in service allow. -/
def State.testedDepth (s : State) : Nat :=
  maxNat ((rangeFrom 0 32).map fun d => if s.get F.VPA_DOM_STAT_ALLOWED d = 7 then 0 else s.get F.VPA_DOM_STAT_ALLOWED d)

/-- Stage 5: every phase is tested; the ceiling of capped instances is released where all are at full count (R430). -/
def State.stagePhases (s : State) (bad : List Nat) : State :=
  if s.warmBoot then s
  else
    let s1 := (rangeFrom 0 55).foldl (fun u d => u.testDom bad d) s
    let s2 := s1.set F.VPA_SHED_COUNT_SHED (sumNat ((rangeFrom 0 55).map fun d => domPhases d - s1.domOk d))
    let full := (rangeFrom 0 32).all fun d => decide (s2.domOk d = domPhases d)
    { s2 with pm := { s2.pm with ceilPower := if full then 0 else max s2.pm.ceilPower s2.testedDepth } }.showCeiling

/-- An instance that is not TRIPPED comes on. -/
def State.domRaise (s : State) (d : Nat) : State :=
  if s.domOn d = true ∨ s.get F.VPA_DOM_STAT_STATE d = 6 then s else s.domUp d

/-- Stage 6 begins: VX ramps, and its ports train. -/
def State.stageVx (s : State) : State :=
  [52, 53].foldl (fun u d =>
    let v := if u.domOn d then u else if u.get F.VPA_DOM_STAT_STATE d = 6 then u else (u.domUp d).plls d 2
    if v.domOn d then (vxPorts (d - 52)).foldl State.portTrain v else v) s

/-- Stage 8 begins: VS of every region ramps. -/
def State.stageVs (s : State) : State := (rangeFrom 32 16).foldl State.domRaise s

/-- Stage 8 ends: PLLs lock and endpoints are up, but for fields whose PLL has failed. -/
def State.stageFields (s : State) (bad : List Nat) : State :=
  let ok := (rangeFrom 0 16).filter fun r => s.domOn (32 + r)
  let s1 := if s.warmBoot then
      { s with bank := (rangeFrom 0 60).foldl (fun b f => if s.vsOn f then bankSet F.WRP_EP_STAT_STATE f 1 b else b) s.bank }
    else ok.foldl State.fabricOn s
  (bad.filter fun f => decide (f < 60) && s1.vsOn f).foldl (fun u f => (u.pllFail f).bootCode 9) s1

/-- Stage 9 begins: VM of every quadrant ramps and its channels train. -/
def State.stageVm (s : State) : State :=
  (rangeFrom 0 4).foldl (fun u q =>
    if u.domOn (48 + q) = true ∨ u.get F.VPA_DOM_STAT_STATE (48 + q) = 6 then u else (u.domUp (48 + q)).dramOn q) s

/-- A word of SPL_CH_STATE for a channel that has trained: UP in place of TRAINING (R240). -/
def chanTrained (kv : Nat × Word) : Nat × Word :=
  if kv.1 % 2 ^ 26 = R.SPL_CH_STATE ∧ kv.2.toNat % 8 = 1 then (kv.1, kv.2 + 1#32) else kv

/-- Stage 9 ends: the channels that trained are UP; those that fail to train are FAILED as R197 gives. -/
def State.stageChans (s : State) (bad : List Nat) : State :=
  let s1 := (bad.filter fun c => decide (c < 3840) && decide (s.chState c = 1)).foldl (fun u c => u.channelFail (c / 64) (c % 64)) s
  { s1 with bank := s1.bank.map chanTrained }

/-- Stage 10 begins: AUTO_LOAD. -/
def State.stageLoad (s : State) : State := if s.get F.WRP_BOOT_AUTO_LOAD = 1 then s.load (s.get F.WRP_BOOT_BOOT_SLOT) else s

/-- READY (R505, R518). -/
def State.ready (s : State) : State := s.set F.BOOT_TIME_TIME (min 65535 ((s.timeUs - s.trust.vkTime) / 100))

/-- The next stage begins, with its line on the management port (R592). -/
def State.stageNext (s : State) (n : Nat) : State := (s.set F.BOOT_STATUS_STAGE n).mgmt (s.get F.BOOT_STATUS_CODE)

/-- The end of the stage in progress, where its work is done: `l` are what failed in it, `late` its bound has passed. -/
def State.bootStage (s : State) (l : List Nat) (late : Bool) : State :=
  match s.get F.BOOT_STATUS_STAGE with
  | 1 =>
    if s.hcRuns = false ∧ s.get F.BOOT_STATUS_CODE ≠ 0 then s
    else
      let s1 := s.stageRom l
      if s1.hcRuns then s1.stageNext 2 else s1.noHcLine
  | 2 =>
    if s.hcRuns = false then s
    else
      let s1 := (l.filter fun c => decide (c < 2) && s.hcUp c).foldl (fun u c => u.hcFatal 5 c) s
      if s1.hcRuns then s1.stageNext 3 else s1.noHcLine
  | 3 =>
    if s.hcRuns = false then s
    else
      let s1 := (l.filter fun c => decide (c < 2) && s.hcUp c).foldl (fun u c => u.hcFatal 6 c) s
      if s1.hcRuns then s1.stageClock.stageNext 4 else s1.noHcLine
  | 4 => if vinBand (s.get F.VPA_INPUT_VIN) = 0 then s.stageNext 5 else s
  | 5 => (s.stagePhases l).stageVx.stageNext 6
  | 6 => if late = false ∧ ((rangeFrom 0 16).any fun p => decide (s.portState p = 2)) = true then s else s.stageNext 7
  | 7 => if s.coolOk = true ∧ s.get F.THM_STATUS_STOPPED = 0 then s.stageVs.stageNext 8 else if late then s.bootCode 8 else s
  | 8 => ((s.stageFields l).stageVm).stageNext 9
  | 9 => (s.stageChans l).stageLoad.stageNext 10
  | 10 =>
    if s.ld.load.isSome then s
    else
      let s1 := if s.get F.WRP_BOOT_AUTO_LOAD = 1 ∧ s.get F.WRP_STATUS_LOADED = 0 then s.bootCode 10 else s
      s1.ready.stageNext 11
  | _ => s

/-- BOOT_STAGE (R503). `fails` by stage: 1 banks that cannot be read (`controller × 2 + bank`); 2 and 3 controllers; 5 phases (`instance × 16 +
phase`); 8 fields; 9 channels (`field × 64 + channel`). -/
def execBootStage (fails : List (BitVec 12)) (late : Bool) (s : State) : Res := .next (s.bootStage (fails.map BitVec.toNat) late)

/-- VK rises (R503): not while it is TRIPPED (R432). -/
def State.powerOn (s : State) : State :=
  if s.domOn 54 = true ∨ s.get F.VPA_DOM_STAT_STATE 54 = 6 then s
  else
    let s1 := ((s.set F.VPA_DOM_STAT_OK 4 54).set F.VPA_DOM_STAT_STATE 3 54)
    { s1 with trust := { s1.trust with vkTime := s1.timeUs } }.bootBegin 0

/-- POWER_ON. -/
def execPowerOn (s : State) : Res := .next s.powerOn

/-- NO_HC (R504): the line of a device whose controllers have both failed, once per second. -/
def execNoHc (s : State) : Res :=
  .next (if 1 ≤ s.get F.BOOT_STATUS_STAGE ∧ s.get F.BOOT_STATUS_CODE ≠ 0 ∧ s.hcUp 0 = false ∧ s.hcUp 1 = false then s.noHcLine else s)

/-! ### Resets (R496, R506, R592) -/

/-- Limit of silence of the watchdog, µs. -/
def wdogLimit : Nat := 100000

/-- WDOG (R496): no strobe of a running controller for 100 ms. -/
def execWdog (s : State) : Res :=
  .next (if s.hcRuns = true ∧ s.trust.beat + wdogLimit ≤ s.timeUs then s.warmAsk 4 else s)

/-- WARM_RESET: BOOT_CTRL.RESET with SCOPE WARM. -/
def execWarmReset (s : State) : Res := .next ((s.set F.BOOT_CTRL_SCOPE 1).warmAsk 3)

/-- COLD_RESET: BOOT_CTRL.RESET with SCOPE COLD. -/
def execColdReset (s : State) : Res := .next ((s.set F.BOOT_CTRL_SCOPE 2).coldReset 2)

/-- The pin RESET_N at a level for a time; a pulse shorter than 50 ns has no effect (R596). -/
def State.resetPin (s : State) (high : Bool) (ns : Nat) : State :=
  if ns < 50 ∨ high = !s.pins.resetLow then s
  else
    let s1 := { s with pins := { s.pins with resetLow := !high } }
    if s.domOn 54 = false then s1
    else if high then (s1.set F.BOOT_STATUS_STAGE 1).mgmt 0
    else s1.coldReset 1

/-- RESET_N (R592). -/
def execResetN (high : Bool) (ns : Nat) (s : State) : Res := .next (s.resetPin high ns)

/-- POWER_RESET: standby power is lost. -/
def execPowerReset (s : State) : Res := .next s.standbyOff

/-! ### Mirror and takeover (R495, R497) -/

/-- STATE_MIRROR (R495): the primary's state and heartbeat; a standby that misses its own is restarted once, and then given up. -/
def State.stateMirror (s : State) (alive : Bool) : State :=
  if s.hcRuns = false then s
  else
    let c := s.standby
    let s1 := { s with trust := { s.trust with beat := s.timeUs } }
    if s1.hcUp c = false then s1
    else if alive then { s1 with trust := { s1.trust with mirror := some (s.nvw.queue, s.bcn.bseq, s.bcn.rseq) } }
    else if s1.trust.retried = false then { s1 with trust := { s1.trust with retried := true } }
    else (s1.hcStop c).svnPend.raise 20 1 0 c 0

/-- STATE_MIRROR: `alive`: the standby strobes its heartbeats. -/
def execStateMirror (alive : Bool) (s : State) : Res := .next (s.stateMirror alive)

/-- The takeover limit, µs. -/
def State.beatLimit (s : State) : Nat := 1000 * (let m := s.get F.BOOT_WDOG_MS
  if m = 0 then 1 else min 40 m)

/-- A stalled access ends with status BRIDGE (R337, R390): a read is answered with all ones, a write sets REG_ERR. -/
def State.stallEnd (s : State) (x : Stall) : State :=
  if x.write then s.set F.HLS_STATUS_REG_ERR 1 else s.emit [.regCpl x.port x.tag 1 (leBytes 4 0xFFFFFFFF)]

/-- An image write to the standby that takes over ends ABORTED (R513). -/
def State.fwAbort (s : State) : State := if s.get F.BOOT_FW_STAT_RESULT = 1 then s.set F.BOOT_FW_STAT_RESULT 10 else s

/-- What a takeover does to operations in progress (R497). -/
def State.takeWork (s : State) : State :=
  let s1 := s.wrpAbort
  let s2 := if s1.nvw.op = 1 then s1.opEnd 14 0 else s1
  let q := match s.trust.mirror with
    | some m => m.1
    | none => s2.nvw.queue
  let s3 := match s2.nvw.run with
    | some d =>
      if d.switched then { s2 with nvw := { s2.nvw with queue := q } }
      else
        let u := s2.darnBack d
        { u with nvw := { u.nvw with run := none, queue := d.req :: q } }
    | none => { s2 with nvw := { s2.nvw with queue := q } }
  let s4 := match s3.nvw.weave with
    | some r => s3.weaveRamp r
    | none => s3
  let s5 := if s4.trust.report = true ∨ s4.get F.ATT_STATUS_REKEY_BUSY = 1 then
      { (s4.set F.ATT_STATUS_RESULT 10).set F.ATT_STATUS_REKEY_BUSY 0 with trust := { s4.trust with report := false } }
    else s4
  let s6 := s5.host.stalls.foldl State.stallEnd { s5 with host := { s5.host with stalls := [] } }
  match s6.trust.mirror with
  | some m => { s6 with bcn := { s6.bcn with bseq := m.2.1, rseq := m.2.2 } }
  | none => s6

/-- No heartbeat for the limit, with a standby that runs: it takes over. -/
def State.takeover (s : State) : State :=
  let c := s.standby
  if s.hcRuns = false ∨ s.hcUp c = false ∨ s.timeUs < s.trust.beat + s.beatLimit then s
  else
    let old := s.primary
    let s1 := ((s.hcStop old).setPrimary c).svnPend
    let s2 := ((s1.fwAbort.takeWork).set F.BOOT_STATUS_TAKEOVER 1).raise 19 1 5 c 0
    { s2 with trust := { s2.trust with beat := s2.timeUs, mirror := none, heldReset := some old } }

/-- TAKEOVER. -/
def execTakeover (s : State) : Res := .next s.takeover

/-! ### Firmware update (R512) -/

/-- The result in BOOT_FW_STAT. -/
def State.fwResult (s : State) (code : Nat) : State := s.set F.BOOT_FW_STAT_RESULT code

/-- Codes of BOOT_FW_STAT for the failures of R516: FORMAT, SIGNATURE, SVN. -/
def fwStatOf (code : Nat) : Nat := if code = 1 then 5 else if code = 4 then 7 else 6

/-- The standby's other bank. -/
def State.otherBank (s : State) (c : Nat) : Nat := 1 - smGet 0 c s.trust.cur

/-- An image is written to the standby's other bank and checked; `lost` the link fails meanwhile, `bad` the bank does not read back. -/
def State.fwWrite (s : State) (target : Nat) (img : List Byte) (lost bad : Bool) : State :=
  let s1 := (s.set F.BOOT_FW_CTRL_TARGET target).set F.BOOT_FW_STAT_BYTES 0
  if s.hcRuns = false then s
  else if target ≠ s.standby then s1.fwResult 4
  else if lost = true ∨ s.hostPorts = [] then s1.fwResult 8
  else if fwFormat img = false then s1.fwResult 5
  else
    let n := 8192 + fwLen img
    let s2 := { (s1.set F.BOOT_FW_STAT_BYTES n).set F.BOOT_STATUS_UPDATE_PEND 0 with trust := { s1.trust with
      banks := smSet [] (target * 2 + s.otherBank target) (img.take n) s1.trust.banks } }
    if bad then s2.fwResult 9
    else match s2.fwCheck (img.take n) with
      | 0 => (s2.set F.BOOT_STATUS_UPDATE_PEND 1).fwResult 2
      | k => s2.fwResult (fwStatOf k)

/-- FW_IMAGE_WRITE: the image as host memory holds it. -/
def execFwImageWrite (target : Bool) (image : List (BitVec 8)) (lost bad : Bool) (s : State) : Res :=
  .next (s.fwWrite (b2n target) image lost bad)

/-- The standby reboots, from its new bank where one waits; `bad` are banks that cannot be read. An old primary that a takeover holds in reset
is no standby to restart (R495, log entry 130). -/
def State.restart (s : State) (bad : List Nat) : State :=
  let c := s.standby
  if s.hcRuns = false then s
  else if s.trust.heldReset = some c then s.fwResult 4
  else
    let s1 := if s.get F.BOOT_STATUS_UPDATE_PEND = 1 then
        { s with trust := { s.trust with cur := smSet 0 c (s.otherBank c) s.trust.cur } } else s
    let r := (s1.set F.BOOT_STATUS_UPDATE_PEND 0).romBoot bad c
    let s2 := if r.2 = 0 then r.1.fwResult 2 else r.1.fwResult (fwStatOf r.2)
    (if s2.hcUp c then s2 else s2.raise 20 1 0 c 0).svnPend

/-- RESTART_STBY. -/
def execRestartStby (bad : List (Fin 4)) (s : State) : Res := .next (s.restart (bad.map fun b => b.val))

/-- Work that a swap of roles would interrupt. -/
def State.hcBusy (s : State) : Bool := s.loaderRuns || s.opRuns || s.trust.report || decide (s.get F.ATT_STATUS_REKEY_BUSY = 1)

/-- The standby becomes primary. -/
def State.swapRoles (s : State) : State :=
  if s.hcRuns = false then s
  else if s.hcUp s.standby = false then s.fwResult 4
  else if smGet 0 0 s.trust.handoff ≠ smGet 0 1 s.trust.handoff then s.fwResult 11
  else if s.hcBusy then s.fwResult 3
  else (s.setPrimary s.standby).fwResult 2

/-- SWAP_ROLES. -/
def execSwapRoles (s : State) : Res := .next s.swapRoles

/-- FW_SVN rises to the SVN that both controllers run; a lower one is refused by the NV lock (R499). -/
def State.commitSvn (s : State) : State :=
  if s.hcUp 0 = true ∧ s.hcUp 1 = true ∧ s.get F.BOOT_SVN_RUN_A = s.get F.BOOT_SVN_RUN_B then
    ((s.set F.BOOT_SVN_FW_SVN (max (s.get F.BOOT_SVN_FW_SVN) (s.get F.BOOT_SVN_RUN_A))).fwResult 2).svnPend
  else s.fwResult 12

/-- COMMIT_SVN. -/
def execCommitSvn (s : State) : Res := .next s.commitSvn

end Sys2Proof.Machine
end

