-- ==== Sys2Proof/Machine/Trust.lean ====
section
/-!
DEFINITION. Attestation and keys (15_boot_and_trust.md, R508 to R511, R520, R521): reports, enrolment of the pattern signing key, the budget of
signatures, rekeys and their certificates.
-/
namespace Sys2Proof.Machine

/-! ### Results and addresses (R520, R521) -/

/-- The result in ATT_STATUS. -/
def State.attResult (s : State) (code : Nat) : State := s.set F.ATT_STATUS_RESULT code

/-- The host address in ATT_ADDR. -/
def State.attAddr (s : State) : Nat := s.get F.ATT_ADDR_LO_ADDR_LO * 2 ^ 13 + s.get F.ATT_ADDR_HI_ADDR_HI * 2 ^ 32

/-- A report's FLUSH is out, or a rekey runs. -/
def State.attBusy (s : State) : Bool := s.trust.report || decide (s.get F.ATT_STATUS_REKEY_BUSY = 1)

/-! ### The budget of signatures (R510) -/

/-- The index before the last: the last one is kept for the rekey certificate. -/
def lmsTop : Nat := 2 ^ 40 - 1

/-- The index that the next signature uses is taken; a block of 4,096 is reserved when the current one is used up. -/
def State.lmsTake (s : State) : State :=
  let t := s.trust
  { s with trust := { t with
      lmsNext := t.lmsNext + 1,
      lmsEnd := if t.lmsNext < t.lmsEnd then t.lmsEnd else max (t.lmsNext + 1) (min lmsTop (t.lmsNext + 4096)) } }

/-- The bottom tree that holds the next index has been built. -/
def State.lmsBuilt (s : State) : Bool := decide (s.trust.lmsNext < s.trust.trees * 2 ^ 20)

/-- The signature of the current HSS key with the next index. -/
def State.hssSigned (s : State) (msg : List Byte) : List Byte := Config.hssSign (s.trust.keys * 2 ^ 40 + s.trust.lmsNext) msg

/-- LMS_TREE_BUILD_COMPLETE (R510): built in the background from the moment the current tree has 2^19 signatures left. -/
def State.lmsBuild (s : State) : State :=
  if s.hcRuns = true ∧ s.trust.trees * 2 ^ 20 ≤ s.trust.lmsNext + 2 ^ 19 ∧ s.trust.trees < 2 ^ 20 then
    { s with trust := { s.trust with trees := s.trust.trees + 1 } }
  else s

/-- LMS_TREE_BUILD_COMPLETE. -/
def execLmsTreeBuildComplete (s : State) : Res := .next s.lmsBuild

/-! ### Reports (R508) -/

/-- Reports of the current second of heddle time, and the bound of ATT_RATE. -/
def State.reportsNow (s : State) : Nat := if s.trust.second = s.timeUs / 1000000 then s.trust.inSecond else 0
def State.reportRate (s : State) : Nat := max 1 (min 100 (s.get F.ATT_RATE_PER_S))

/-- FLAGS of a report. -/
def State.reportFlags (s : State) : Nat :=
  s.get F.WRP_STATUS_LOADED + 2 * s.get F.NVW_STATUS_REWOVEN + 4 * s.primary + 8 * b2n (decide (s.lmsLeft < 2 ^ 24)) + 16 * b2n s.testMode

/-- An image digest, zeros where no image runs. -/
def State.hcDigest (s : State) (c : Nat) : List Byte := sliceB (smGet [] c s.trust.digests) 0 48

/-- Bytes [1,023:0] of a report. -/
def State.reportBody (s : State) : List Byte :=
  sliceB (leBytes 4 0x54415858 ++ leBytes 2 1 ++ leBytes 2 s.reportFlags ++
    ((rangeFrom 0 8).flatMap fun n => leBytes 4 (s.get (F.ATT_NONCE_NONCE.nth n))) ++ s.deviceId ++ s.hcDigest 0 ++ s.hcDigest 1 ++
    leBytes 1 (s.get F.BOOT_SVN_FW_SVN) ++ leBytes 1 (s.get F.BOOT_SVN_RUN_A) ++ leBytes 1 (s.get F.BOOT_SVN_RUN_B) ++
    leBytes 1 (s.get F.BOOT_SVN_KEY_EPOCH) ++
    (if s.get F.WRP_STATUS_LOADED = 1 then s.digestShown F.WRP_XKP_DIGEST_DIGEST else zeroBytes 48) ++
    (if s.get F.NVW_STATUS_PROGRAMMED = 1 then s.digestShown F.NVW_LWI_DIGEST_DIGEST else zeroBytes 48) ++
    sliceB s.nvw.mapDigest 0 48 ++ sha384 (s.nvw.log.flatMap DarnEntry.bytes) ++ leBytes 2 s.nvw.log.length ++
    leBytes 1 (s.get F.WRP_STATUS_ACTIVE_SLOT) ++
    leBytes 1 (if s.get F.NVW_REWEAVE_VALID = 1 then s.get F.NVW_REWEAVE_DARK else 0xFF) ++ leBytes 6 s.pm.pick ++
    leBytes 8 s.trust.lmsNext ++ leBytes 1 (s.get F.ATT_STATUS_REKEYS)) 0 1024

/-- The 8 KiB of a report. -/
def State.reportBytes (s : State) : List Byte :=
  let b := s.reportBody
  sliceB (b ++ sliceB (Config.ecdsaSign (sha384 b)) 0 96 ++ sliceB (s.hssSigned b) 0 3604 ++ sliceB (Config.hssKey s.trust.keys) 0 60) 0 8192

/-- The report is written and its FLUSH follows; the port is `p`. -/
def State.reportWrite (s : State) (p : Nat) : State :=
  let r := s.reportBytes
  let s1 := s.emit [.memWr p 2 s.attAddr (r.take 4096), .memWr p 2 (s.attAddr + 4096) (r.drop 4096)]
  let s2 := { s1 with trust := { s1.trust with report := true, second := s1.timeUs / 1000000, inSecond := s1.reportsNow + 1 } }
  ((s2.lmsTake.add F.ATT_COUNT_REPORTS 1).attResult 1).hostRead p s.attAddr 0 .report

/-- ATT_CTRL.GO. -/
def State.report (s : State) : State :=
  if s.hcRuns = false then s
  else if s.attBusy = true ∨ s.reportRate ≤ s.reportsNow then s.attResult 3
  else if s.lmsLeft ≤ 1 then s.attResult 4
  else if s.lmsBuilt = false then s.attResult 3
  else match s.hostPorts.head? with
    | none => s.attResult 5
    | some p => s.reportWrite p

/-- REPORT (R508). -/
def execReport (s : State) : Res := .next s.report

/-! ### The pattern signing key (R509) -/

/-- A key record: an uncompressed P-384 point and an HSS key, 157 bytes. -/
def keyRecordOk (rec : List Byte) : Bool := decide (157 ≤ rec.length) && decide (rec.head? = some 4)

/-- The new record, its epoch and its signatures, as a change of key must carry them. -/
def State.enrollChecked (s : State) (rec : List Byte) : Nat :=
  let msg := sha384 (rec.take 158)
  if rec.length < 3858 then 8
  else if 15 ≤ s.get F.BOOT_SVN_KEY_EPOCH ∨ recN rec 157 1 ≠ s.get F.BOOT_SVN_KEY_EPOCH + 1 then 7
  else if Config.ecdsaOk (s.trust.patKey.take 97) msg (sliceB rec 158 96) = false ∨
    Config.hssOk (s.trust.patKey.drop 97) msg (sliceB rec 254 3604) = false then 6
  else 2

/-- The record is the pattern key now. -/
def State.patKeySet (s : State) (rec : List Byte) : State := { s with trust := { s.trust with patKey := rec.take 157 } }

/-- ATT_CTRL.ENROLL. -/
def State.enroll (s : State) (rec : List Byte) : State :=
  if s.hcRuns = false then s
  else if s.pickState ≠ 0 then s.attResult 3
  else if s.hostPorts = [] then s.attResult 5
  else if keyRecordOk rec = false then s.attResult 8
  else if s.trust.patKey = [] then (s.patKeySet rec).attResult 2
  else
    let k := s.enrollChecked rec
    if k = 2 then ((s.patKeySet rec).add F.BOOT_SVN_KEY_EPOCH 1).attResult 2 else s.attResult k

/-- ENROLL (R509): the bytes that host memory holds at ATT_ADDR. -/
def execEnroll (record : List (BitVec 8)) (s : State) : Res := .next (s.enroll record)

/-! ### Rekeys (R511) -/

/-- ATT_CTRL.REKEY. -/
def State.rekey (s : State) : State :=
  if s.hcRuns = false then s
  else if s.attBusy then s.attResult 3
  else if 2 ^ 24 ≤ s.lmsLeft then s.attResult 11
  else if s.get F.ATT_STATUS_REKEYS = 15 then s.attResult 9
  else if s.hostPorts = [] then s.attResult 5
  else (s.set F.ATT_STATUS_REKEY_BUSY 1).attResult 1

/-- REKEY. -/
def execRekey (s : State) : Res := .next s.rekey

/-- The certificate of the next key, 4,096 bytes. -/
def State.certBytes (s : State) : List Byte :=
  let b := sliceB (sliceB (Config.hssKey (s.trust.keys + 1)) 0 60 ++ s.deviceId ++ leBytes 1 (s.get F.ATT_STATUS_REKEYS + 1)) 0 128
  sliceB (b ++ sliceB (Config.ecdsaSign (sha384 b)) 0 96 ++ sliceB (s.hssSigned b) 0 3604) 0 4096

/-- A certificate goes to the host, while a HOST port is UP. -/
def State.certWrite (s : State) (c : List Byte) : State :=
  match s.hostPorts.head? with
  | none => s
  | some p => s.emit [.memWr p 2 s.attAddr c]

/-- REKEY_COMPLETE: the certificate is written and kept, and the new key begins at its first index. -/
def State.rekeyDone (s : State) : State :=
  if s.hcRuns = false ∨ s.get F.ATT_STATUS_REKEY_BUSY = 0 then s
  else
    let c := s.certBytes
    let s1 := s.certWrite c
    let s2 := { s1 with trust := { s1.trust with
      certs := s1.trust.certs ++ [c], keys := s1.trust.keys + 1, lmsNext := 0, lmsEnd := 0, trees := 1 } }
    ((s2.add F.ATT_STATUS_REKEYS 1).set F.ATT_STATUS_REKEY_BUSY 0).attResult 2

/-- REKEY_COMPLETE. -/
def execRekeyComplete (s : State) : Res := .next s.rekeyDone

/-- ATT_CTRL.CERT. -/
def State.cert (s : State) : State :=
  let i := s.get F.ATT_CERT_SEL_INDEX
  if s.hcRuns = false then s
  else if i = 0 ∨ s.get F.ATT_STATUS_REKEYS < i then s.attResult 8
  else if s.hostPorts = [] then s.attResult 5
  else (s.certWrite (s.trust.certs.getD (i - 1) [])).attResult 2

/-- CERT. -/
def execCert (s : State) : Res := .next s.cert

end Sys2Proof.Machine
end

