-- ==== Sys2Proof/Machine/Sentinel.lean ====
section
/-!
DEFINITION. The sentinel's sweeps and captures and the HC_ block (16_register_interface.md, R529 to R545): the 1 ms boundary, the end of a
segment's sweep, the committed reference, and the registers of both blocks.
-/
namespace Sys2Proof.Machine

/-! ### Sweeps (R532 to R534) -/

/-- The tiles of a field, in address order. -/
def fieldTiles (f : Nat) : List Nat := (rangeFrom 0 64).flatMap fun c => (rangeFrom 0 72).map fun r => f * 8192 + c * 128 + r

/-- Every segment that is included, in ascending ID (R532). -/
def State.segments (s : State) : List Nat :=
  ((s.tiles.map Prod.fst).filter s.segOn) ++
    (((rangeFrom 0 60).filter s.vsOn).flatMap fun f => (fieldTiles f).map segRouter) ++
    ((rangeFrom 0 17).map segBlock).filter s.segOn

/-- The sweep of one segment begins: one still running is late (R534). -/
def State.sweepSeg (s : State) (id : Nat) : State :=
  if id ∈ s.snt.sweep then
    let s1 := (s.set F.SNT_STATUS_LATE 1).add F.SNT_RESTARTS_LATE 1
    { s1 with snt := { s1.snt with again := if id ∈ s1.snt.again then s1.snt.again else s1.snt.again ++ [id] } }
  else
    { s with snt := { s.snt with
        sweep := s.snt.sweep ++ [id]
        fresh := if id ∈ s.snt.capture ∧ id ∉ s.snt.fresh then s.snt.fresh ++ [id] else s.snt.fresh } }

/-- The 1 ms boundary: every included segment starts its sweep (R534); a capture waits only for segments that are included. -/
def State.sweepStart (s : State) : State :=
  if s.get F.SNT_CTRL_EN = 0 ∨ s.hcRuns = false then s
  else
    let ids := s.segments
    let s1 := { s with snt := { s.snt with round := ids, differs := false, capture := s.snt.capture.filter s.segOn } }
    ids.foldl State.sweepSeg s1

/-- A word of a static line of an included tile that the sweep's read, in the sequencer slot, finds with bits in error (R52, R53). -/
def State.sweepRead (s : State) (a adr e : Nat) : State :=
  if s.segOn (segTile a) = true ∧ adr / 64 < staticLines then
    let l := coursesOf s.free [(adr, e)]
    s.metRecords a adr l ((s.useFree 1).setTile a (tSrams l (tNote 6 [adr / 64] false (tMeet l (s.tile a)))))
  else s

/-- SENTINEL_SWEEP: `errs` are static lines that the sweep reads with bits in error; nothing is read while no sweep starts. -/
def execSentinelSweep (errs : List (TileAddr × BitVec 18 × Nat)) (s : State) : Res :=
  .next (if s.get F.SNT_CTRL_EN = 0 ∨ s.hcRuns = false then s
    else errs.foldl (fun u x => u.sweepRead x.1.toNat x.2.1.toNat x.2.2) s.sweepStart)

/-- Every segment has captured: the new reference is in force (R535, R539). -/
def State.commitDone (s : State) : State :=
  if s.get F.SNT_STATUS_CAPTURING = 0 ∨ s.snt.capture ≠ [] then s
  else
    let refs := s.snt.refs.filter fun kv => s.segOn kv.1
    let s1 := { s with snt := { s.snt with refs := refs, fresh := [], restarts := 0 } }
    (((s1.set F.SNT_REF_REF (deviceValue refs)).set F.SNT_STATUS_REF_VALID 1).set F.SNT_STATUS_CAPTURING 0).set F.SNT_STATUS_MISMATCH 0

/-- Every segment of the round has ended: the device value, and the end of a mismatch when all of them match (R533, R539, R543). -/
def State.roundDone (s : State) : State :=
  if s.snt.sweep ≠ [] then s
  else
    let vals := s.snt.vals.filter fun kv => decide (kv.1 ∈ s.snt.round)
    let s1 := { s with snt := { s.snt with vals := vals } }
    let s2 := ((s1.set F.SNT_VALUE_VALUE (deviceValue vals)).add F.SNT_SWEEPS_SWEEPS 1).set F.SNT_SEGMENTS_COUNT vals.length
    if s.get F.SNT_STATUS_REF_VALID = 1 ∧ s.snt.differs = false then s2.set F.SNT_STATUS_MISMATCH 0 else s2

/-- A segment is compared with its reference, where one is in force (R538). -/
def State.segCompare (s : State) (id crc : Nat) : State :=
  if s.get F.SNT_STATUS_REF_VALID = 1 ∧ smGet 0 id s.snt.refs ≠ 0 ∧ smGet 0 id s.snt.refs ≠ crc + 1 then
    ({ s with snt := { s.snt with differs := true } }).sntReport id crc false
  else s

/-- A segment's sweep ends with a CRC: it captures or compares. -/
def State.segEnd (s : State) (id crc : Nat) : State :=
  let s1 := { s with snt := { s.snt with vals := smSet 0 id (crc + 1) s.snt.vals } }
  if id ∈ s.snt.fresh then
    { s1 with snt := { s1.snt with
        refs := smSet 0 id (crc + 1) s1.snt.refs
        capture := s1.snt.capture.filter fun j => decide (j ≠ id)
        fresh := s1.snt.fresh.filter fun j => decide (j ≠ id) } }
  else s1.segCompare id crc

/-- A segment leaves the sweep; a late one begins its next sweep at once (R534). -/
def State.segNext (s : State) (id : Nat) : State :=
  let s1 := { s with snt := { s.snt with sweep := s.snt.sweep.filter fun j => decide (j ≠ id) } }
  if id ∈ s1.snt.again then
    ({ s1 with snt := { s1.snt with again := s1.snt.again.filter fun j => decide (j ≠ id) } }).sweepSeg id
  else s1

/-- The end of a segment's sweep: a tile in RELOAD has not ended (R534); a segment no longer included has no value (R540). -/
def State.sweepEnd (s : State) (id : Nat) : State :=
  if id ∉ s.snt.sweep then s
  else if id < 0x80000 ∧ (s.tile id).st = 6 then s
  else
    let s1 := if s.segOn id then s.segEnd id (s.segCrc id)
      else { s with snt := { s.snt with vals := smSet 0 id 0 s.snt.vals, capture := s.snt.capture.filter fun j => decide (j ≠ id) } }
    ((s1.segNext id).commitDone).roundDone

/-- SEGMENT_SWEEP_END of the segment with an ID. -/
def execSegmentSweepEnd (id : BitVec 24) (s : State) : Res := .next (s.sweepEnd id.toNat)

/-! ### SNT_CTRL and SNT_SEG_SEL (R535, R540, R542, R545) -/

/-- COMMIT: a capture begins, or begins again. -/
def State.sntCommit (s : State) : State :=
  { s.set F.SNT_STATUS_CAPTURING 1 with snt := { s.snt with capture := s.segments, fresh := [], restarts := 0 } }

/-- COMMIT_REFERENCE. -/
def execCommitReference (s : State) : Res := .next s.sntCommit

/-- EN: 0 is accepted in test mode only. -/
def State.sntEn (s : State) (v : Bool) : State := if v = true ∨ s.testMode = true then s.set F.SNT_CTRL_EN (b2n v) else s

/-- SNT_EN. -/
def execSntEn (v : Bool) (s : State) : Res := .next (s.sntEn v)

/-- The captures are emptied (R544). -/
def State.sntUncap (s : State) : State := (s.setReg R.SNT_CAP0 0).setReg R.SNT_CAP1 0

/-- CLR_COUNTS: sweeps, mismatches, restarts and the captures. -/
def State.sntClr (s : State) : State :=
  (((s.set F.SNT_SWEEPS_SWEEPS 0).set F.SNT_MISMATCHES_COUNT 0).setReg R.SNT_RESTARTS 0).sntUncap

/-- SNT_CLR_COUNTS. -/
def execSntClrCounts (s : State) : Res := .next s.sntClr

/-- SNT_SEG_SEL written: both words of the segment are fetched. -/
def State.segSel (s : State) (v : Word) : State :=
  let s1 := s.set F.SNT_SEG_SEL_SEGMENT v.toNat
  let id := s1.get F.SNT_SEG_SEL_SEGMENT
  (s1.set F.SNT_SEG_VAL_CRC (smGet 0 id s.snt.vals - 1)).set F.SNT_SEG_REF_REF (smGet 0 id s.snt.refs - 1)

/-- SNT_SEG_SEL_WRITE. -/
def execSntSegSelWrite (v : BitVec 32) (s : State) : Res := .next (s.segSel v)

/-! ### HC_ (R526, R529 to R531) -/

/-- The last dropped or unmapped access is captured (R531). -/
def State.accCap (s : State) (addr : Nat) (write : Bool) : State :=
  ((s.set F.HC_ACC_CAP_VALID 1).set F.HC_ACC_CAP_WRITE (b2n write)).set F.HC_ACC_CAP_ADDR addr

/-- An access at which no register lies is counted (R522), and a write that covers no whole words (R525). -/
def State.unmapped (s : State) (addr : Nat) (write : Bool) : State := (s.add F.HC_ACC_UNMAPPED 1).accCap addr write
def State.dropped (s : State) (addr : Nat) : State := (s.add F.HC_ACC_PARTIAL 1).accCap addr true

/-- CLR_COUNTS: HC_ACC and HC_ACC_CAP. -/
def State.hcClr (s : State) : State := (s.setReg R.HC_ACC 0).setReg R.HC_ACC_CAP 0

/-- HC_CLR_COUNTS. -/
def execHcClrCounts (s : State) : Res := .next s.hcClr

/-- A read of HC_TIME_LO latches HC_TIME_HI. -/
def State.latchTime (s : State) : State :=
  { s with latch := smSet none R.HC_TIME_HI (some (BitVec.ofNat 32 (s.timeUs / 2 ^ 32))) s.latch }

/-- HC_TIME_LO_READ. -/
def execHcTimeLoRead (s : State) : Res := .next s.latchTime

end Sys2Proof.Machine
end

