-- ==== Sys2Proof/Machine/Cvu.lean ====
section
/-!
DEFINITION. The check-value units (16_register_interface.md, R546 to R554): 64 channels, each feeding the procedure of R547.
-/
namespace Sys2Proof.Machine

/-- A channel of the heddle firmware (R546). -/
def cvuFirm (c : Nat) : Bool := decide (12 ≤ c % 16)

/-- The width in force: below 8 as 8, above 64 as 64 (R549). -/
def State.cvuWidth (s : State) (c : Nat) : Nat := max 8 (min 64 (s.get (F.CVU_CFG_WIDTH.nth c)))

/-- POLY, INIT and the raw state of a channel. -/
def State.cvuPoly (s : State) (c : Nat) : Nat := s.get (F.CVU_POLY_LO_POLY_LO.nth c) + s.get (F.CVU_POLY_HI_POLY_HI.nth c) * 2 ^ 32
def State.cvuInit (s : State) (c : Nat) : Nat := s.get (F.CVU_INIT_LO_INIT_LO.nth c) + s.get (F.CVU_INIT_HI_INIT_HI.nth c) * 2 ^ 32
def State.cvuState (s : State) (c : Nat) : Nat := s.get (F.CVU_STATE_LO_STATE_LO.nth c) + s.get (F.CVU_STATE_HI_STATE_HI.nth c) * 2 ^ 32

/-- A channel's state and the result that it gives (R547). -/
def State.cvuPut (s : State) (c st : Nat) : State :=
  let r := crcResult (s.cvuWidth c) (decide (s.get (F.CVU_CFG_REFOUT.nth c) = 1)) (decide (s.get (F.CVU_CFG_INVERT.nth c) = 1)) st
  (((s.set (F.CVU_STATE_LO_STATE_LO.nth c) st).set (F.CVU_STATE_HI_STATE_HI.nth c) (st / 2 ^ 32)).set (F.CVU_RESULT_LO_RESULT_LO.nth c) r).set
    (F.CVU_RESULT_HI_RESULT_HI.nth c) (r / 2 ^ 32)

/-- START: the state is INIT under the mask, and no byte has been fed. -/
def State.cvuStart (s : State) (c : Nat) : State :=
  (s.cvuPut c (s.cvuInit c % 2 ^ s.cvuWidth c)).set (F.CVU_COUNT_BYTES.nth c) 0

/-- Bytes are fed in order (R547, R548). -/
def State.cvuFeed (s : State) (c : Nat) (bs : List Byte) : State :=
  (s.cvuPut c (crcFeed (s.cvuWidth c) (s.cvuPoly c) (decide (s.get (F.CVU_CFG_REFIN.nth c) = 1)) (s.cvuState c) bs)).add
    (F.CVU_COUNT_BYTES.nth c) bs.length

/-- A host write to a channel of the firmware is ignored and counted (R546). -/
def State.cvuHost (s : State) (c addr : Nat) (f : State) : State := if cvuFirm c then s.unmapped addr true else f

/-- The configuration fields of CVU_CFG written. -/
def State.cvuCfg (s : State) (c : Nat) (v : Word) : State :=
  let s1 := (((s.set (F.CVU_CFG_INVERT.nth c) (bitsOf v.toNat 10 1)).set (F.CVU_CFG_REFOUT.nth c) (bitsOf v.toNat 9 1)).set
    (F.CVU_CFG_REFIN.nth c) (bitsOf v.toNat 8 1)).set (F.CVU_CFG_WIDTH.nth c) (bitsOf v.toNat 0 7)
  if bitAt v.toNat 31 then s1.cvuStart c else s1

/-- CVU_CFG_WRITE (R549). -/
def execCvuCfgWrite (c : Fin 64) (v : BitVec 32) (s : State) : Res :=
  .next (s.cvuHost c.val (R.CVU_CFG + 64 * c.val) (s.cvuCfg c.val v))

/-- CVU_DATA8: byte [7:0] (R548). -/
def execCvuData8 (c : Fin 64) (v : BitVec 32) (s : State) : Res :=
  .next (s.cvuHost c.val (R.CVU_DATA8 + 64 * c.val) (s.cvuFeed c.val (leBytes 1 v.toNat)))

/-- CVU_DATA16: bytes [7:0] and [15:8]. -/
def execCvuData16 (c : Fin 64) (v : BitVec 32) (s : State) : Res :=
  .next (s.cvuHost c.val (R.CVU_DATA16 + 64 * c.val) (s.cvuFeed c.val (leBytes 2 v.toNat)))

/-- CVU_DATA32: four bytes, [7:0] first. -/
def execCvuData32 (c : Fin 64) (v : BitVec 32) (s : State) : Res :=
  .next (s.cvuHost c.val (R.CVU_DATA32 + 64 * c.val) (s.cvuFeed c.val (leBytes 4 v.toNat)))

/-- A read of CVU_RESULT_LO latches CVU_RESULT_HI (R526). -/
def State.latchResult (s : State) (c : Nat) : State :=
  { s with latch := smSet none (R.CVU_RESULT_HI + 64 * c) (some (s.reg (R.CVU_RESULT_HI + 64 * c))) s.latch }

/-- CVU_RESULT_LO_READ. -/
def execCvuResultLoRead (c : Fin 64) (s : State) : Res := .next (s.latchResult c.val)

end Sys2Proof.Machine
end

