-- ==== Sys2Proof/Machine/Test.lean ====
section
/-!
DEFINITION. Fault records at the primary, and test mode (17_faults_and_dumps.md, R556, R570 to R573, R576, R581 to R585, and MGMT_RX of R592):
injections, captures and the self-test of a region.
-/
namespace Sys2Proof.Machine

/-! ### Records (R556, R576) -/

/-- FAULT_RECORD: the primary numbers the oldest record on TELEM and logs it. -/
def execFaultRecord (s : State) : Res := .next (if s.hcRuns then s.logFault else s)

/-- CLR_COUNTS of DMP_CTRL: DMP_SUPPRESSED. -/
def State.dmpClr (s : State) : State := s.setReg R.DMP_SUPPRESSED 0

/-- DMP_CLR_COUNTS. -/
def execDmpClrCounts (s : State) : Res := .next s.dmpClr

/-! ### Test mode (R570) -/

/-- TEST_MODE written: entered in IDLE only, else BUSY; left at once. -/
def State.testWrite (s : State) (v : Bool) : State :=
  if v then
    if s.pickState = 0 then ((s.set F.TST_CTRL_TEST_MODE 1).set F.TST_STATUS_TEST_MODE 1).set F.TST_STATUS_RESULT 2
    else s.set F.TST_STATUS_RESULT 4
  else s.testEnd.set F.TST_STATUS_RESULT 2

/-- TEST_MODE. -/
def execTestMode (v : Bool) (s : State) : Res := .next (s.testWrite v)

/-- MGMT_RX: read in test mode, ignored outside it (R592). -/
def execMgmtRx (bytes : List (BitVec 8)) (s : State) : Res :=
  .next (if s.testMode then { s with pins := { s.pins with mgmtIn := s.pins.mgmtIn ++ bytes } } else s)

/-! ### Injections (R571, R583) -/

/-- Field of a target, none where the target is missing or the kind reserved. -/
def injField (kind target : Nat) : Option Nat :=
  if kind = 4 then
    let sm := target / 4096 % 128
    if sm < 120 ∧ target % 128 < seamChannels sm then some (seamFields sm).1 else none
  else if kind = 5 then (if target / 64 % 64 < 60 then some (target / 64 % 64) else none)
  else if kind = 1 ∨ kind = 2 ∨ kind = 3 ∨ kind = 6 then (if tileOk target then some (fieldOf target) else none)
  else none

/-- The supply of a target: VM for a spool channel, else VS. -/
def State.injPower (s : State) (kind f : Nat) : Bool := if kind = 5 then s.vmOn f else s.vsOn f

/-- The result in TST_INJ_STAT. -/
def State.injResult (s : State) (code : Nat) : State := s.set F.TST_INJ_STAT_RESULT code

/-- TST_INJ.GO: the injection waits for its strobe. -/
def State.injArm (s0 : State) (kind n target : Nat) : State :=
  let s := ((s0.set F.TST_INJ_KIND kind).set F.TST_INJ_N n).set F.TST_INJ_TARGET target
  if s.testMode = false then s.injResult 6
  else match injField kind target with
    | none => s.injResult 7
    | some f =>
      if s.flt.armed.isSome then s.injResult 4
      else if s.injPower kind f = false then s.injResult 5
      else
        let j : Inj := ⟨kind, if kind = 5 then target % 4096 else if kind = 4 then target / 4096 * 4096 + target % 128 else target, max 1 n⟩
        { (s.injResult 1).set F.TST_STATUS_INJ_PEND 1 with flt := { s.flt with armed := some (j, s.get F.TST_INJ_PICK_PICK_LO) } }

/-- INJECTION_ARM: KIND, N and TARGET written with GO. -/
def execInjectionArm (kind n : BitVec 3) (target : BitVec 19) (s : State) : Res := .next (s.injArm kind.toNat n.toNat target.toNat)

/-! ### Captures (R572, R584) -/

/-- TST_CAP_CTRL.GO: the step of a skein at TST_CAP_POS is captured when it commits. -/
def State.capArm (s0 : State) (skein : Nat) : State :=
  let s := s0.set F.TST_CAP_CTRL_SKEIN skein
  if s.reed.capture.isSome then s.set F.TST_CAP_STAT_RESULT 4
  else if s.hostPorts = [] then s.set F.TST_CAP_STAT_RESULT 8
  else
    let s1 := ((s.set F.TST_CAP_STAT_RESULT 1).set F.TST_CAP_STAT_POSITIONS 0).set F.TST_STATUS_CAP_ARMED 1
    { s1 with reed := { s1.reed with capture := some (skein, s.get F.TST_CAP_POS_POS) } }

/-- CAPTURE_ARM: SKEIN written with GO. -/
def execCaptureArm (skein : BitVec 12) (s : State) : Res := .next (s.capArm skein.toNat)

/-! ### The self-test of a region (R573, R585) -/

/-- Every tile of a region is OFF. -/
def State.regionIdle (s : State) (r : Nat) : Bool :=
  s.tiles.all fun kv => decide (regionOf (fieldOf kv.1) ≠ r) || decide (kv.2.st = 0)

/-- The result in TST_BIST_STAT. -/
def State.bistResult (s : State) (code : Nat) : State := s.set F.TST_BIST_STAT_RESULT code

/-- TST_BIST.GO. -/
def State.bistStart (s0 : State) (r : Nat) : State :=
  let s := s0.set F.TST_BIST_REGION r
  if s.dmp.bist.isSome then s.bistResult 4
  else if s.domOn r = false ∨ s.domOn (16 + r) = false then s.bistResult 5
  else if s.regionIdle r = false ∨ s.patUses r = true then s.bistResult 7
  else
    let s1 := (((s.bistResult 1).set F.TST_BIST_STAT_FIRST_FAIL 0).setReg R.TST_BIST_COUNT 0).set F.TST_STATUS_BIST_BUSY 1
    { s1 with dmp := { s1.dmp with bist := some r } }

/-- BIST of a region. -/
def execBist (region : BitVec 4) (s : State) : Res := .next (s.bistStart region.toNat)

/-- The march test leaves a scratchpad as one that nothing has written; the tile stays OFF and no row changes. -/
def tMarched (t : Tile) : Tile := { t with scratch := [] }

/-- The spare region of a loaded pattern in variant 0 is switched OFF again when its test ends (R14). -/
def State.bistOff (s : State) (r : Nat) : State :=
  if s.get F.WRP_STATUS_LOADED = 1 ∧ r = s.pat.spare ∧ s.pat.variant = 0 then (s.domOff r 1).domOff (16 + r) 1 else s

/-- The self-test ends; `fails` are the tiles of the region that failed, in the order tested. -/
def State.bistEnd (s : State) (fails : List Nat) : State :=
  match s.dmp.bist with
  | none => s
  | some r =>
    let bad := fails.filter fun a => tileOk a && decide (regionOf (fieldOf a) = r)
    let s1 := s.onTiles fun a t => if regionOf (fieldOf a) = r then tMarched t else t
    let s2 := { s1 with dmp := { s1.dmp with bist := none } }
    ((((((s2.bistOff r).bistResult (if bad = [] then 2 else 3)).set F.TST_BIST_STAT_FIRST_FAIL (bad.headD 0)).set F.TST_BIST_COUNT_FAILED bad.length).set
      F.TST_BIST_COUNT_TESTED (4608 * (fieldsOf r).length))).set F.TST_STATUS_BIST_BUSY 0

/-- BIST_COMPLETE. -/
def execBistComplete (fails : List TileAddr) (s : State) : Res := .next (s.bistEnd (fails.map BitVec.toNat))

end Sys2Proof.Machine
end

