-- ==== Sys2Proof/Machine/Access.lean ====
section
/-!
DEFINITION. Register access (16_register_interface.md, R522 to R528; R336, R337, R390): words written and read in the block windows, the
tile access window and the bit-alias windows, the action of each write, and stalled accesses.
-/
namespace Sys2Proof.Machine

/-! ### Actions of a write, by block

A write stores its fields first; then its actions run, from the lowest bit up (log entry 45). `v` is the word written, `old` the word
before. -/

/-- An action when a bit of the word is 1. -/
def State.onBit (s : State) (v : Word) (n : Nat) (f : State → State) : State := if bitAt v.toNat n then f s else s

/-- The action of a level that the word sets: `lvl` is false for an alias write of another bit, which leaves it alone (R528). -/
def State.onLevel (s : State) (lvl : Bool) (f : State → State) : State := if lvl then f s else s

/-- A field of the word written. -/
def cut (v : Word) (f : Fld) : Nat := fldOf f v

/-- BOOT_CTRL.RESET by SCOPE (R515). -/
def State.bootReset (s : State) : State :=
  if s.get F.BOOT_CTRL_SCOPE = 1 then s.warmAsk 3 else if s.get F.BOOT_CTRL_SCOPE = 2 then s.coldReset 2 else s

/-- BOOT_FW_CTRL.GO: the image write begins; FW_IMAGE_WRITE ends it with the image that host memory holds (R512). -/
def State.fwBegin (s : State) : State :=
  if s.hcRuns = false then s else s.fwResult (if s.get F.BOOT_FW_CTRL_TARGET = s.standby then 1 else 4)

/-- ATT_CTRL.ENROLL: the record is fetched; ENROLL ends it with the bytes that host memory holds (R509). -/
def State.enrollBegin (s : State) : State :=
  if s.hcRuns = false then s
  else s.attResult (if s.pickState ≠ 0 then 3 else if s.hostPorts = [] then 5 else 1)

/-- Blocks 0 to 3: HC_, BOOT_, ATT_, SNT_. -/
def State.actHc (s : State) (a : Nat) (v : Word) (lvl : Bool) : State :=
  if a = R.HC_CTRL then s.onBit v 0 State.hcClr
  else if a = R.BOOT_CTRL then
    (((s.onBit v 2 fun u => u.restart []).onBit v 3 State.commitSvn).onBit v 4 State.swapRoles).onBit v 5 State.bootReset
  else if a = R.BOOT_FW_CTRL then s.onBit v 31 State.fwBegin
  else if a = R.ATT_CTRL then (((s.onBit v 0 State.report).onBit v 1 State.enrollBegin).onBit v 2 State.rekey).onBit v 3 State.cert
  else if a = R.SNT_CTRL then ((s.onLevel lvl fun u => u.sntEn (bitAt v.toNat 0)).onBit v 1 State.sntCommit).onBit v 2 State.sntClr
  else if a = R.SNT_STATUS then s.onBit v 4 State.sntUncap
  else if a = R.SNT_SEG_SEL then s.segSel v
  else s

/-- Block 4: CVU_. -/
def State.actCvu (s : State) (a : Nat) (v : Word) : State :=
  let c := (a - R.CVU_CFG) / 64
  if a < R.CVU_CFG then s
  else if a = R.CVU_CFG + 64 * c then s.cvuCfg c v
  else if a = R.CVU_DATA8 + 64 * c then s.cvuFeed c (leBytes 1 v.toNat)
  else if a = R.CVU_DATA16 + 64 * c then s.cvuFeed c (leBytes 2 v.toNat)
  else if a = R.CVU_DATA32 + 64 * c then s.cvuFeed c (leBytes 4 v.toNat)
  else s

/-- VPA_REGION_CTRL.GO (R438, R450). -/
def State.regionGo (s : State) (act r : Nat) : State :=
  match act with
  | 1 => s.regionOff r
  | 2 => s.regionUp r
  | 3 => s.regionRetain r
  | _ => s.regionBad act r

/-- Blocks 5 to 7: CLK_, VPA_, THM_. -/
def State.actVpa (s : State) (a : Nat) (v : Word) (lvl : Bool) : State :=
  if a = R.CLK_CTRL then ((s.onLevel lvl fun u => u.sscOff (bitAt v.toNat 0)).onBit v 1 State.refRestore).onBit v 2 State.clkClr
  else if a = R.VPA_CTRL then s.onBit v 2 State.vpaClr
  else if a = R.VPA_STATUS then s.onBit v 5 fun u => (u.setReg R.VPA_FAULT_CAP0 0).setReg R.VPA_FAULT_CAP1 0
  else if a = R.VPA_REGION_CTRL then
    s.onBit v 31 fun u => u.regionGo (cut v F.VPA_REGION_CTRL_ACTION) (cut v F.VPA_REGION_CTRL_REGION)
  else if a = R.THM_CTRL then (s.onBit v 1 State.clearStop).onBit v 2 State.thmClr
  else s

/-- HLS_PORT_CTRL.GO (R407, R408, R416); a reserved ACTION has no effect. -/
def State.portGo (s : State) (act : Nat) : State :=
  match act with
  | 1 => s.portDisable
  | 2 => s.portEnable
  | 3 => s.portRetrainCmd
  | _ => s

/-- Block 8: HLS_. -/
def State.actHls (s : State) (a : Nat) (v old : Word) : State :=
  if a = R.HLS_CTRL then
    (if cut v F.HLS_CTRL_CMD_EN = 1 ∧ cut old F.HLS_CTRL_CMD_EN = 0 then s.sqFetchAll else s).onBit v 2 State.hlsClr
  else if a = R.HLS_EVQ_LO ∨ a = R.HLS_EVQ_HI then s.evPump 256
  else if a = R.HLS_PORT_CTRL then s.onBit v 31 fun u => u.portGo (cut v F.HLS_PORT_CTRL_ACTION)
  else if a = R.HLS_SWATCH_CTRL then
    s.onBit v 31 fun u => u.hlsSwatch (cut v F.HLS_SWATCH_CTRL_DEPTH) (cut v F.HLS_SWATCH_CTRL_PORT) (cut v F.HLS_SWATCH_CTRL_UNITS)
  else if R.HLS_SQ_LO ≤ a ∧ a < R.HLS_SQ_LO + 256 then
    let n := (a - R.HLS_SQ_LO) / 16
    if a = R.HLS_SQ_LO + 16 * n ∧ cut v F.HLS_SQ_LO_EN = 1 ∧ cut old F.HLS_SQ_LO_EN = 0 then (s.sqEnable n).sqFetch n
    else if a = R.HLS_SQ_TAIL + 16 * n then s.doorbell n v.toNat
    else s
  else s

/-- Block 9: WRP_. -/
def State.actWrp (s : State) (a : Nat) (v : Word) : State :=
  if a = R.WRP_CTRL then (s.onBit v 0 State.wrpAbort).onBit v 1 State.wrpClr
  else if a = R.WRP_STATUS then s.onBit v 13 fun u => (u.setReg R.WRP_TWIN_CAP0 0).setReg R.WRP_TWIN_CAP1 0
  else if a = R.WRP_LOAD then s.onBit v 31 fun u => u.load (cut v F.WRP_LOAD_SLOT)
  else if a = R.WRP_INSTALL then
    s.onBit v 31 fun u => u.install (cut v F.WRP_INSTALL_SLOT) (decide (cut v F.WRP_INSTALL_SOURCE = 1))
  else s

/-- Block 10: PCK_. -/
def State.actPck (s : State) (a : Nat) (v : Word) (lvl : Bool) : State :=
  if a = R.PCK_CTRL then
    (((s.onLevel lvl fun u => if bitAt v.toNat 0 then u.pckRun else u.pckRunClear).onBit v 1 State.halt).onBit v 2 State.clrStats).onBit v 3 State.resumeAdmit
  else if a = R.PCK_MODE_CTRL then
    s.onBit v 31 fun u => u.modeRequest (cut v F.PCK_MODE_CTRL_MODE) (cut v F.PCK_MODE_CTRL_LEVEL)
  else if a = R.PCK_ARITH_CTRL then (s.onBit v 0 fun u => u.clrPos (u.get F.PCK_ARITH_SEL_POS)).onBit v 1 State.clrAll
  else s

/-- Blocks 11 and 12: SKN_, SPL_. -/
def State.actSkn (s : State) (a : Nat) (v : Word) : State :=
  if a = R.SKN_CTRL then (s.onBit v 2 State.sknClr).onBit v 3 State.stopService
  else if a = R.SKN_ENT_SEL then s.entSel v
  else if a = R.SKN_SAMP_DATA then s.sampWrite v
  else if a = R.SPL_CTRL then (s.onBit v 1 State.splClr).onBit v 2 State.xcFlush
  else if a = R.SPL_STATUS then
    s.onBit v 3 fun u => ((u.setReg R.SPL_FAULT_CAP0 0).setReg R.SPL_FAULT_CAP1 0).setReg R.SPL_FAULT_CAP2 0
  else if a = R.SPL_POOL_LOW then (if s.poolsExist then s.poolMarks (s.get F.SPL_POOL_SEL_BAND) else s)
  else if a = R.SPL_SWATCH_CTRL then
    s.onBit v 31 fun u => u.splSwatch (cut v F.SPL_SWATCH_CTRL_FIELD) (cut v F.SPL_SWATCH_CTRL_CHANNEL) (cut v F.SPL_SWATCH_CTRL_DEPTH)
  else s

/-- NVW_OP.GO (R307): a reserved OP has no effect. -/
def State.opGo (s : State) (op target : Nat) : State :=
  match op with
  | 1 => s.programAll target
  | 2 => s.verifyAll target none
  | 3 => s.hostDarn target
  | 4 => s.reweave target true
  | _ => s

/-- Blocks 13 to 16: WFT_, NVW_, DMP_, TST_. -/
def State.actWft (s : State) (a : Nat) (v : Word) (lvl : Bool) : State :=
  if a = R.WFT_CTRL then s.onBit v 2 State.wftClr
  else if a = R.WFT_STATUS then
    (if Nat.land (s.reg R.WFT_STATUS).toNat 0xBFF = 0 then (s.setReg R.WFT_ERR_CAP0 0).setReg R.WFT_ERR_CAP1 0 else s)
  else if a = R.WFT_SWATCH_CTRL then
    s.onBit v 31 fun u => u.wftSwatch (cut v F.WFT_SWATCH_CTRL_DEPTH) (cut v F.WFT_SWATCH_CTRL_SEAM) (cut v F.WFT_SWATCH_CTRL_CHANNEL)
      (cut v F.WFT_SWATCH_CTRL_FLITS_K)
  else if a = R.NVW_CTRL then (s.onBit v 2 State.nvwAbort).onBit v 3 State.nvwClr
  else if a = R.NVW_OP then s.onBit v 31 fun u => u.opGo (cut v F.NVW_OP_OP) (cut v F.NVW_OP_TARGET)
  else if a = R.DMP_CTRL then
    (((s.onBit v 0 State.dmpClr).onBit v 1 fun u => u.penFetch []).onBit v 2 State.penErase).onBit v 3 fun u =>
      if u.testMode then u.fatalHalt 4 none else u
  else if a = R.TST_CTRL then s.onLevel lvl fun u => u.testWrite (bitAt v.toNat 0)
  else if a = R.TST_INJ then s.onBit v 31 fun u => u.injArm (cut v F.TST_INJ_KIND) (cut v F.TST_INJ_N) (cut v F.TST_INJ_TARGET)
  else if a = R.TST_CAP_CTRL then s.onBit v 31 fun u => u.capArm (cut v F.TST_CAP_CTRL_SKEIN)
  else if a = R.TST_BIST then s.onBit v 31 fun u => u.bistStart (cut v F.TST_BIST_REGION)
  else s

/-- The actions of a write. -/
def State.regAct (s : State) (a : Nat) (v old : Word) (lvl : Bool) : State :=
  match a / 0x10000 with
  | 0 | 1 | 2 | 3 => s.actHc a v lvl
  | 4 => s.actCvu a v
  | 5 | 6 | 7 => s.actVpa a v lvl
  | 8 => s.actHls a v old
  | 9 => s.actWrp a v
  | 10 => s.actPck a v lvl
  | 11 | 12 => s.actSkn a v
  | _ => s.actWft a v lvl

/-! ### A word written in a block window (R5, R6, R522, R525, R527, R538) -/

/-- Bits that a write stores itself: not the RW bits whose meaning ties them to a state of the device, which their action writes. -/
def storeMask (a rw : Nat) : Nat :=
  if a = R.PCK_CTRL ∨ a = R.CLK_CTRL ∨ a = R.SNT_CTRL ∨ a = R.TST_CTRL then rw - Nat.land rw 1
  else if a = R.SKN_SAMP_DATA then 0 else rw

/-- Bits of the word written that are ignored: ADMIT_EN = 1 while a mismatch stands (R539). -/
def State.writeIgnores (s : State) (a : Nat) (v : Word) : Word :=
  if a = R.SKN_CTRL ∧ s.get F.SNT_STATUS_MISMATCH = 1 then
    BitVec.and v (BitVec.ofNat 32 0xFFFFFFFE) else v

/-- A word under a write: RW bits take the value written, W1C bits clear where it is 1. A 1 in a RES-0 bit, which "must be" 0 (R5), changes
nothing: the spec gives such a write no effect: log entry 113, DESIGN CHOICE. -/
def written (r : RegRow) (mask : Nat) (old v : Word) : Word :=
  let m := BitVec.ofNat 32 mask
  BitVec.and (BitVec.or (BitVec.and old (BitVec.not m)) (BitVec.and v m)) (BitVec.not (BitVec.and v (BitVec.ofNat 32 r.w1c)))

/-- The fields of a write stored in instance `i`. -/
def State.regStore (s : State) (a i : Nat) (r : RegRow) (v : Word) : State :=
  (if r.strobe then s.hold a else s).setReg a (written r (storeMask a r.rw) (s.reg a i) (s.writeIgnores a v)) i

/-- A write to a register: stored, acted on, and watched by the sentinel. -/
def State.regApply (s : State) (a : Nat) (r : RegRow) (v : Word) (lvl : Bool) : State :=
  let i := s.instOf a
  let old := s.reg a i
  ((s.regStore a i r v).regAct a v old lvl).sntCheck a i old

/-- RES-L bits are written back as read (R6). -/
def reslKept (a : Nat) (r : RegRow) (v : Word) : Bool := decide (Nat.land v.toNat r.resl = reslBits a r)

/-- A channel of the heddle firmware lies at this address (R546). -/
def cvuFirmAt (a : Nat) : Bool := decide (R.CVU_CFG ≤ a) && decide (a < R.CVU_CFG + 4096) && cvuFirm ((a - R.CVU_CFG) / 64)

/-- A word written at an address of the block windows; `lvl` is false for the alias of a bit other than bit 0. -/
def State.blockWrite (s : State) (a : Nat) (v : Word) (lvl : Bool := true) : Res :=
  match (if a < 0x110000 then regRow? a else none) with
  | none => .next (s.unmapped a true)
  | some r =>
    if cvuFirmAt a then .next (s.unmapped a true)
    else if reslKept a r v = false then .fault .reslWrite
    else .next (s.regApply a r v lvl)

/-! ### The tile access window (R61, R336, R337, R465) -/

/-- The clock of a tile has stopped: VL off, DARNED, or its field's clock (R465). -/
def State.tileDead (s : State) (t : Nat) : Bool := s.clockStopped t

/-- The fields of a write stored in a tile's register; those that wait for a strobe keep the word in force. -/
def tRegStore (a : Nat) (r : RegRow) (v : Word) (t : Tile) : Tile :=
  let t1 := if r.strobe then { t with held := smSet none a (some (tCfgWord a t)) t.held } else t
  { t1 with regs := bankPut (rkey a 0) (written r r.rw (bankReg (rkey a 0) t.regs) v) t1.regs }

/-- The actions of TIL_CTRL, from the lowest bit up (R64). -/
def State.tilAct (s : State) (t : Nat) (v : Word) : State :=
  (((s.onBit v 1 fun u => u.tilDo t tHaltReq).onBit v 2 fun u => u.tilDo t tDarn).onBit v 3 fun u => u.tilDo t tClrCounts).onBit v 4 fun u =>
    u.tilLoad t

/-- A word written to the register at an offset of a tile; TIL_HAZ_CAP is empty once EXCL is cleared (R69). -/
def State.tilApply (s : State) (t off : Nat) (r : RegRow) (v : Word) : State :=
  let a := 0x110000 + off
  let old := bankReg (rkey a 0) (s.tile t).regs
  let u := tRegStore a r v (s.tile t)
  let s1 := s.setTile t (if a = R.TIL_HAZ ∧ cut v F.TIL_HAZ_EXCL = 1 then { u with regs := bankPut (rkey R.TIL_HAZ_CAP 0) 0 u.regs } else u)
  (if a = R.TIL_CTRL then s1.tilAct t v else s1).sntTile t off old

/-- The register and bit that an alias offset names, 128 bytes for a register and four for a bit (R528). -/
def aliasReg (x : Nat) : Nat := x / 0x80 * 4
def aliasBit (x : Nat) : Nat := x % 0x80 / 4

/-- The word that an alias write of `d` to bit `n` amounts to, none where it is ignored: the other RW fields as they stand, the RES-L bits as
read (R528). -/
def aliasWord (a n : Nat) (d : Bool) (r : RegRow) (w : Word) : Option Word :=
  let base := Nat.lor (Nat.land w.toNat r.rw) (reslBits a r)
  if bitAt r.rw n then some (BitVec.ofNat 32 (if d then Nat.lor base (2 ^ n) else base - Nat.land base (2 ^ n)))
  else if d = true ∧ (bitAt r.w1c n = true ∨ bitAt r.wo n = true) then some (BitVec.ofNat 32 (Nat.lor base (2 ^ n)))
  else none

/-- The register at a window offset, and the word that a write of `v` there amounts to. -/
inductive TilTarget where
  | none
  | ignored
  | write (off : Nat) (r : RegRow) (v : Word)
  deriving DecidableEq, Repr

/-- What a write at an offset of the window does to a tile. -/
def State.tilTarget (s : State) (t off : Nat) (v : Word) : TilTarget :=
  if off < 0x100 then
    match regRow? (0x110000 + off) with
    | some r => .write off r v
    | none => .none
  else if 0x2000 ≤ off ∧ off < 0x4000 then
    let o := aliasReg (off - 0x2000)
    match (if o < 0x100 then regRow? (0x110000 + o) else none) with
    | none => .none
    | some r =>
      match aliasWord (0x110000 + o) (aliasBit (off - 0x2000)) (bitAt v.toNat 0) r ((s.tilWord t o).getD 0) with
      | some w => .write o r w
      | none => .ignored
  else .none

/-- A write of TIL_CTRL.LOAD, whole or by its alias, reaches a DARNED tile (R59, R64; log entry 46). -/
def State.darnedLoad (s : State) (t off : Nat) (v : Word) : Bool :=
  s.vlOn (fieldOf t) && decide ((s.tile t).st = 5) &&
    match s.tilTarget t off v with
    | .write o _ w => decide (o = 0x08) && bitAt w.toNat 4
    | _ => false

/-- The tiles that a write reaches: one, the running ones of its field, or the running image tiles (R336). -/
def State.twinTiles (s : State) : List Nat :=
  let a := s.get F.WRP_TWIN_SEL_ADDR
  match s.get F.WRP_TWIN_SEL_BCAST with
  | 1 => if tileOk a then (fieldTiles (fieldOf a)).filter fun t => !(s.tileDead t) else []
  | 2 => ((rangeFrom 0 60).flatMap fieldTiles).filter fun t => s.pat.maps t && !(s.tileDead t)
  | _ => if tileOk a then [a] else []

/-- A write applied to one tile. -/
def State.twinOne (off : Nat) (v : Word) (s : State) (t : Nat) : State :=
  match s.tilTarget t off v with
  | .write o r w => s.tilApply t o r w
  | _ => s

/-- An access stalls at the warp bridge (R337). -/
def State.stall (s : State) (x : Stall) : State := { s with host := { s.host with stalls := s.host.stalls ++ [x] } }

/-- The one tile that a write reaches has a stopped clock. -/
def State.twinStalls (s : State) (off : Nat) (v : Word) : Bool :=
  let a := s.get F.WRP_TWIN_SEL_ADDR
  decide (s.get F.WRP_TWIN_SEL_BCAST ≠ 1) && decide (s.get F.WRP_TWIN_SEL_BCAST ≠ 2) && tileOk a && s.tileDead a && !(s.darnedLoad a off v)

/-- The RES-L bits of a word written to a tile's register are as read. -/
def tilKept : TilTarget → Bool
  | .write o r w => reslKept (0x110000 + o) r w
  | _ => true

/-- A word written through the tile access window. -/
def State.twinWrite (s : State) (port off : Nat) (v : Word) : Res :=
  let a := s.get F.WRP_TWIN_SEL_ADDR
  let addr := 0x94000 + off
  if tileOk a = false ∧ s.get F.WRP_TWIN_SEL_BCAST ≠ 2 then .next (s.unmapped addr true)
  else match s.tilTarget a off v with
    | .none => .next (s.unmapped addr true)
    | x =>
      if tilKept x = false then .fault .reslWrite
      else if s.twinStalls off v then .next (s.stall ⟨port, 0, true, a, off⟩)
      else .next (s.twinTiles.foldl (State.twinOne off v) s)

/-- Registers of the selected router (R189, R190). -/
def isRouterReg (a : Nat) : Bool := decide (a = R.WFT_RTR_LINK) || decide (a = R.WFT_RTR_BLOCK) || decide (a = R.WFT_RTR_RETRY) ||
  decide (a = R.WFT_TBL_DATA)

/-- An access to the selected router stalls: VS off, or its field's clock has stopped (R337, R465). -/
def State.routerStalls (s : State) (a : Nat) : Bool :=
  let r := s.get F.WFT_RTR_SEL_ADDR
  isRouterReg a && tileOk r && (!(s.vsOn (fieldOf r)) || decide (fieldOf r ∈ s.clk.stopped))

/-! ### A word at any address (R522 to R524, R528) -/

/-- Where an address of the device register space lies: the tile window by offset, a block window, an alias window by block, register and
bit, or nowhere. -/
inductive Place where
  | twin (off : Nat)
  | block
  | bits (a n : Nat)
  | nowhere
  deriving DecidableEq, Repr

/-- The address map. -/
def placeOf (a : Nat) : Place :=
  if 0x94000 ≤ a ∧ a < 0x98000 then .twin (a - 0x94000)
  else if a < 0x110000 then .block
  else if 0x1000000 ≤ a ∧ a < 0x3200000 then
    let k := (a - 0x1000000) / 0x200000
    let x := (a - 0x1000000) % 0x200000
    if aliasReg x < (if k = 9 then 0x4000 else 0x10000) then .bits (k * 0x10000 + aliasReg x) (aliasBit x) else .nowhere
  else .nowhere

/-- A bit-alias write (R528). -/
def State.aliasWrite (s : State) (a n : Nat) (d : Bool) (addr : Nat) : Res :=
  match regRow? a with
  | none => .next (s.unmapped addr true)
  | some r =>
    match aliasWord a n d r ((s.regWord a).getD 0) with
    | none => .next s
    | some w => s.blockWrite a w (decide (n = 0))

/-- A word written from a port. -/
def State.wordWrite (s : State) (port a : Nat) (v : Word) : Res :=
  match placeOf a with
  | .twin off => s.twinWrite port off v
  | .block => if s.routerStalls a then .next (s.stall ⟨port, 0, true, s.get F.WFT_RTR_SEL_ADDR, a % 0x4000⟩) else s.blockWrite a v
  | .bits b n => s.aliasWrite b n (bitAt v.toNat 0) a
  | .nowhere => .next (s.unmapped a true)

/-- A register write of whole words, the lower first; any other is dropped (R525). -/
def State.regWrite (s : State) (port a : Nat) (data : List Byte) : Res :=
  if a % 4 = 0 ∧ data.length = 4 then s.wordWrite port a (BitVec.ofNat 32 (leNat data))
  else if a % 4 = 0 ∧ data.length = 8 then
    match s.wordWrite port a (BitVec.ofNat 32 (leNat (data.take 4))) with
    | .next s1 => s1.wordWrite port (a + 4) (BitVec.ofNat 32 (leNat (data.drop 4)))
    | r => r
  else .next (s.dropped a)

/-! ### Reads (R526, R528) -/

/-- What a read does to the register read (R67, R145, R237, R275, R526). -/
def State.readEffect (s : State) (a : Nat) : State :=
  if a = R.PCK_PICK_LO then s.latchPick
  else if a = R.SKN_COMMITS_LO then s.latchCommits
  else if a = R.HC_TIME_LO then s.latchTime
  else if a = R.SPL_ECC_LOG1 then s.emptyEccLog
  else if R.CVU_RESULT_LO ≤ a ∧ a < R.CVU_RESULT_LO + 4096 ∧ (a - R.CVU_RESULT_LO) % 64 = 0 then s.latchResult ((a - R.CVU_RESULT_LO) / 64)
  else { s with latch := smSet none a none s.latch }

/-- A word read through the tile access window. -/
def State.twinRead (s : State) (off : Nat) : State × Word :=
  let t := s.get F.WRP_TWIN_SEL_ADDR
  let nothing := (s.unmapped (0x94000 + off) false, (0 : Word))
  if tileOk t = false then nothing
  else if off < 0x100 then
    match s.tilWord t off with
    | some w => (if 0x110000 + off = R.TIL_NVW_LOG then s.tilDo t tLogRead else s, w)
    | none => nothing
  else if 0x2000 ≤ off ∧ off < 0x4000 ∧ aliasReg (off - 0x2000) < 0x100 then
    match s.tilWord t (aliasReg (off - 0x2000)), regRow? (0x110000 + aliasReg (off - 0x2000)) with
    | some w, some r =>
      let n := aliasBit (off - 0x2000)
      (s, if bitAt r.resl n then 0 else BitVec.ofNat 32 (bitsOf w.toNat n 1))
    | _, _ => nothing
  else nothing

/-- A read of a bit-alias: the bit, 0 for RES-L (R528). -/
def State.aliasRead (s : State) (a n addr : Nat) : State × Word :=
  match s.regWord a, regRow? a with
  | some w, some r => (s, if bitAt r.resl n then 0 else BitVec.ofNat 32 (bitsOf w.toNat n 1))
  | _, _ => (s.unmapped addr false, 0)

/-- A word read at an address. -/
def State.wordRead (s : State) (a : Nat) : State × Word :=
  match placeOf a with
  | .twin off => s.twinRead off
  | .block =>
    match s.regWord a with
    | some w => (s.readEffect a, w)
    | none => (s.unmapped a false, 0)
  | .bits b n => s.aliasRead b n a
  | .nowhere => (s.unmapped a false, 0)

/-- A read at this address stalls. -/
def State.readStalls (s : State) (a : Nat) : Option (Nat × Nat) :=
  match placeOf a with
  | .twin off => if tileOk (s.get F.WRP_TWIN_SEL_ADDR) && s.tileDead (s.get F.WRP_TWIN_SEL_ADDR) then some (s.get F.WRP_TWIN_SEL_ADDR, off) else none
  | .block => if s.routerStalls a then some (s.get F.WFT_RTR_SEL_ADDR, a % 0x4000) else none
  | _ => none

/-- The words at addresses, read in order. -/
def State.wordsRead (s : State) : List Nat → State × List Byte
  | [] => (s, [])
  | a :: as =>
    let r := s.wordRead a
    let rest := r.1.wordsRead as
    (rest.1, leBytes 4 r.2.toNat ++ rest.2)

/-- The words that `len` bytes at an address touch (R525). -/
def wordsAt (a len : Nat) : List Nat := (rangeFrom (a / 4) ((a + len - 1) / 4 - a / 4 + 1)).map fun w => 4 * w

/-- A register read of `len` bytes, answered on its port (R390). -/
def State.regRead (s : State) (port tag a len : Nat) : State :=
  let ws := wordsAt a len
  match (ws.filterMap s.readStalls).head? with
  | some x => s.stall ⟨port, tag, false, x.1, x.2⟩
  | none =>
    let r := s.wordsRead ws
    r.1.emit [.regCpl port tag 0 r.2]

/-! ### Accesses as they arrive (R336, R337, R390) -/

/-- REG_WR: a write on a port that is not a HOST port fails. -/
def execRegWr (port : Fin 16) (addr : BitVec 32) (data : List (BitVec 8)) (s : State) : Res :=
  if s.portState port.val ≠ 3 then .next s
  else if s.portRole port.val ≠ 1 then .next (s.set F.HLS_STATUS_REG_ERR 1)
  else s.regWrite port.val addr.toNat data

/-- REG_RD of `len` + 1 bytes. -/
def execRegRd (port : Fin 16) (tag : BitVec 12) (addr : BitVec 32) (len : Fin 8) (s : State) : Res :=
  .next (if s.portState port.val ≠ 3 then s
    else if s.portRole port.val ≠ 1 then s.emit [.regCpl port.val tag.toNat 3 (leBytes 4 0xFFFFFFFF)]
    else s.regRead port.val tag.toNat addr.toNat (len.val + 1))

/-- REGISTER_WRITE: a write that the register path has taken. -/
def execRegisterWrite (addr : BitVec 32) (data : List (BitVec 8)) (s : State) : Res := s.regWrite 0 addr.toNat data

/-- ALIAS_WRITE: bit `bit` of the register at an offset of a block. -/
def execAliasWrite (block : Fin 17) (off : BitVec 16) (bit : Fin 32) (data : BitVec 32) (s : State) : Res :=
  let a := 0x1000000 + block.val * 0x200000 + off.toNat / 4 * 0x80 + bit.val * 4
  s.wordWrite 0 a data

/-- TILE_WINDOW_ACCESS: a word at an offset of the window. -/
def execTileWindowAccess (port : Fin 16) (tag : BitVec 12) (write : Bool) (off : BitVec 14) (data : BitVec 32) (s : State) : Res :=
  let o := off.toNat / 4 * 4
  if write then s.twinWrite port.val o data else .next (s.regRead port.val tag.toNat (0x94000 + o) 4)

/-- BRIDGE_TIMEOUT (R337): the oldest stall ends. -/
def State.bridgeEnd (s : State) : State :=
  match s.host.stalls with
  | [] => s
  | x :: xs =>
    let s1 := { s with host := { s.host with stalls := xs } }
    let s2 := if s1.get F.WRP_STATUS_BRIDGE_ERR = 1 then s1
      else (((s1.set F.WRP_TWIN_CAP0_ADDR x.tile).set F.WRP_TWIN_CAP1_WRITE (b2n x.write)).set F.WRP_TWIN_CAP1_OFFSET x.off)
    let s3 := (s2.set F.WRP_STATUS_BRIDGE_ERR 1).add F.WRP_BRIDGE_COUNT_STALLS 1
    (s3.raise 13 9 0 x.tile (s3.reg R.WRP_TWIN_CAP1).toNat).stallEnd x

/-- BRIDGE_TIMEOUT. -/
def execBridgeTimeout (s : State) : Res := .next s.bridgeEnd

end Sys2Proof.Machine
end

