-- ==== Sys2Proof/Machine/Dispatch.lean ====
section
/-!
DEFINITION. The effect of a command on everything but the queue: one arm for each constructor, each a direct call of its meaning.
-/
namespace Sys2Proof.Machine

/-- What a command does (one row of the opcode table an arm). -/
def exec (i : Instr) (s : State) : Host.Outcome State Fault Refusal :=
  match i with
  | .alu t fn d a b => Sys2Proof.Machine.execAlu t fn d a b s
  | .mul t d a b => Sys2Proof.Machine.execMul t d a b s
  | .addk t d a k => Sys2Proof.Machine.execAddk t d a k s
  | .ork t d a k => Sys2Proof.Machine.execOrk t d a k s
  | .seth t d k => Sys2Proof.Machine.execSeth t d k s
  | .ltsk t d a k => Sys2Proof.Machine.execLtsk t d a k s
  | .ldw t d a k e => Sys2Proof.Machine.execLdw t d a k e s
  | .ldb t d a k e => Sys2Proof.Machine.execLdb t d a k e s
  | .stw t d a k => Sys2Proof.Machine.execStw t d a k s
  | .stb t d a k => Sys2Proof.Machine.execStb t d a k s
  | .jeq t d a k => Sys2Proof.Machine.execJeq t d a k s
  | .jne t d a k => Sys2Proof.Machine.execJne t d a k s
  | .jlt t d a k => Sys2Proof.Machine.execJlt t d a k s
  | .jge t d a k => Sys2Proof.Machine.execJge t d a k s
  | .call t k => Sys2Proof.Machine.execCall t k s
  | .ret t => Sys2Proof.Machine.execRet t s
  | .jmp t a => Sys2Proof.Machine.execJmp t a s
  | .wait t a c => Sys2Proof.Machine.execWait t a c s
  | .clrc t c => Sys2Proof.Machine.execClrc t c s
  | .done t => Sys2Proof.Machine.execDone t s
  | .tfn t d a b e => Sys2Proof.Machine.execTfn t d a b s e
  | .pass t a w e => Sys2Proof.Machine.execPass t a w e s
  | .stream t a kind j lane e => Sys2Proof.Machine.execStream t a kind j lane s e
  | .drain t a set job e => Sys2Proof.Machine.execDrain t a set s job e
  | .send t a e => Sys2Proof.Machine.execSend t a s e
  | .spool t a e => Sys2Proof.Machine.execSpool t a s e
  | .reservedOpcode t op => Sys2Proof.Machine.execReservedOpcode t op s
  | .selectionWordArrival t => Sys2Proof.Machine.execSelectionWordArrival t s
  | .nvwRowRead t row errs => Sys2Proof.Machine.execNvwRowRead t row errs s
  | .weftInWrite t => Sys2Proof.Machine.execWeftInWrite t s
  | .spoolInWrite t => Sys2Proof.Machine.execSpoolInWrite t s
  | .turnEnd t => Sys2Proof.Machine.execTurnEnd t s
  | .reloadComplete t => Sys2Proof.Machine.execReloadComplete t s
  | .tileDone t mac idle stall => Sys2Proof.Machine.execTileDone t mac idle stall s
  | .tileLoadCommand t => Sys2Proof.Machine.execTileLoadCommand t s
  | .tileLoadComplete t => Sys2Proof.Machine.execTileLoadComplete t s
  | .tilLoad t => Sys2Proof.Machine.execTilLoad t s
  | .tilClrCounts t => Sys2Proof.Machine.execTilClrCounts t s
  | .tilDarn t => Sys2Proof.Machine.execTilDarn t s
  | .tilHaltReq t => Sys2Proof.Machine.execTilHaltReq t s
  | .tilEnable t v => Sys2Proof.Machine.execTilEnable t v s
  | .tilNvwLogRead t => Sys2Proof.Machine.execTilNvwLogRead t s
  | .strobeReceive f c0 c1 c2 => Sys2Proof.Machine.execStrobeReceive f c0 c1 c2 s
  | .strobeFire f => Sys2Proof.Machine.execStrobeFire f s
  | .allDone last => Sys2Proof.Machine.execAllDone last s
  | .pickEnd len => Sys2Proof.Machine.execPickEnd len s
  | .doneLimitExpired => Sys2Proof.Machine.execDoneLimitExpired s
  | .stepRequest source => Sys2Proof.Machine.execStepRequest source s
  | .modeRequest mode level fast => Sys2Proof.Machine.execModeRequest mode level fast s
  | .drainBegin stop => Sys2Proof.Machine.execDrainBegin stop s
  | .drainEnd => Sys2Proof.Machine.execDrainEnd s
  | .pckRun => Sys2Proof.Machine.execPckRun s
  | .pckRunClear => Sys2Proof.Machine.execPckRunClear s
  | .pckHalt => Sys2Proof.Machine.execPckHalt s
  | .resumeAdmit => Sys2Proof.Machine.execResumeAdmit s
  | .clrStats => Sys2Proof.Machine.execClrStats s
  | .clrAll => Sys2Proof.Machine.execClrAll s
  | .clrSel => Sys2Proof.Machine.execClrSel s
  | .pckPickLoRead => Sys2Proof.Machine.execPckPickLoRead s
  | .chainTiming port data skewPicks skewCy trim full => Sys2Proof.Machine.execChainTiming port data skewPicks skewCy trim full s
  | .chainChangeEffective => Sys2Proof.Machine.execChainChangeEffective s
  | .handoff port pick lane data mask => Sys2Proof.Machine.execHandoff port pick lane data s mask
  | .flitReceive r port flit side xovr => Sys2Proof.Machine.execFlitReceive r port flit side s xovr
  | .nakReceived r port seq => Sys2Proof.Machine.execNakReceived r port seq s
  | .linkRetrain r port => Sys2Proof.Machine.execLinkRetrain r port s
  | .seamTrainingComplete seam channel ok => Sys2Proof.Machine.execSeamTrainingComplete seam channel ok s
  | .shuttleRoute r port vc e => Sys2Proof.Machine.execShuttleRoute r port vc e s
  | .foldArrival r port => Sys2Proof.Machine.execFoldArrival r port s
  | .foldCombineComplete r group chunk pick => Sys2Proof.Machine.execFoldCombineComplete r group chunk pick s
  | .weftWatchdog r port vc => Sys2Proof.Machine.execWeftWatchdog r port vc s
  | .congestionMap blocked => Sys2Proof.Machine.execCongestionMap blocked s
  | .wftSwatchStart depth seam channel flitsK => Sys2Proof.Machine.execWftSwatchStart depth seam channel flitsK s
  | .wftSwatchComplete errs first => Sys2Proof.Machine.execWftSwatchComplete errs first s
  | .wftClrCounts => Sys2Proof.Machine.execWftClrCounts s
  | .spoolWriteAccept t skein root used => Sys2Proof.Machine.execSpoolWriteAccept t skein root used s
  | .spoolRead t skein root pos ce ue => Sys2Proof.Machine.execSpoolRead t skein root pos ce ue s
  | .translationWalk t skein root ue => Sys2Proof.Machine.execTranslationWalk t skein root ue s
  | .spoolResponse t => Sys2Proof.Machine.execSpoolResponse t s
  | .spoolChannelFail f ch => Sys2Proof.Machine.execSpoolChannelFail f ch s
  | .dramRefresh f ch temp => Sys2Proof.Machine.execDramRefresh f ch temp s
  | .spoolScrub f ch line e => Sys2Proof.Machine.execSpoolScrub f ch line e s
  | .frameRelease id => Sys2Proof.Machine.execFrameRelease id s
  | .prefixCopy id => Sys2Proof.Machine.execPrefixCopy id s
  | .swapOut id => Sys2Proof.Machine.execSwapOut id s
  | .swapOutComplete id => Sys2Proof.Machine.execSwapOutComplete id s
  | .restore id => Sys2Proof.Machine.execRestore id s
  | .restoreComplete id => Sys2Proof.Machine.execRestoreComplete id s
  | .splSwatchStart field ch depth => Sys2Proof.Machine.execSplSwatchStart field ch depth s
  | .splSwatchComplete errs => Sys2Proof.Machine.execSplSwatchComplete errs s
  | .xcFlush => Sys2Proof.Machine.execXcFlush s
  | .splClrCounts => Sys2Proof.Machine.execSplClrCounts s
  | .splEccLog1Read => Sys2Proof.Machine.execSplEccLog1Read s
  | .admitSeq ring tag id part prio sampler pfxUse pfxPub hold deadline limit seed ringBase promptBase ringLog2 promptLen => Sys2Proof.Machine.execAdmitSeq ring tag id part prio sampler pfxUse pfxPub hold deadline limit seed ringBase promptBase ringLog2 promptLen s
  | .cancel ring tag id => Sys2Proof.Machine.execCancel ring tag id s
  | .park ring tag id => Sys2Proof.Machine.execPark ring tag id s
  | .resume ring tag id => Sys2Proof.Machine.execResume ring tag id s
  | .release ring tag id => Sys2Proof.Machine.execRelease ring tag id s
  | .set ring tag id prio deadline => Sys2Proof.Machine.execSet ring tag id prio deadline s
  | .partEnable ring tag part => Sys2Proof.Machine.execPartEnable ring tag part s
  | .partDisable ring tag part => Sys2Proof.Machine.execPartDisable ring tag part s
  | .prefixCopyComplete id => Sys2Proof.Machine.execPrefixCopyComplete id s
  | .reedPosition last cap => Sys2Proof.Machine.execReedPosition last cap s
  | .promptUnitArrival id u toks => Sys2Proof.Machine.execPromptUnitArrival id u toks s
  | .ringCountFetch id count => Sys2Proof.Machine.execRingCountFetch id count s
  | .deadlineCheck => Sys2Proof.Machine.execDeadlineCheck s
  | .preempt => Sys2Proof.Machine.execPreempt s
  | .restoreStart => Sys2Proof.Machine.execRestoreStart s
  | .stopService => Sys2Proof.Machine.execStopService s
  | .sknClrCounts => Sys2Proof.Machine.execSknClrCounts s
  | .sknEntSelWrite v => Sys2Proof.Machine.execSknEntSelWrite v s
  | .sknSampDataWrite v => Sys2Proof.Machine.execSknSampDataWrite v s
  | .sknCommitsLoRead => Sys2Proof.Machine.execSknCommitsLoRead s
  | .programAll target => Sys2Proof.Machine.execProgramAll target s
  | .lwiChunkArrival => Sys2Proof.Machine.execLwiChunkArrival s
  | .sectionProgramComplete t ok => Sys2Proof.Machine.execSectionProgramComplete t ok s
  | .verifyAll target bad => Sys2Proof.Machine.execVerifyAll target bad s
  | .darn target => Sys2Proof.Machine.execDarn target s
  | .reweave target host => Sys2Proof.Machine.execReweave target host s
  | .nvwAbort => Sys2Proof.Machine.execNvwAbort s
  | .nvwClrCounts => Sys2Proof.Machine.execNvwClrCounts s
  | .nvwScrub t row errs sweepH => Sys2Proof.Machine.execNvwScrub t row errs sweepH s
  | .darnStart => Sys2Proof.Machine.execDarnStart s
  | .darnSwitch => Sys2Proof.Machine.execDarnSwitch s
  | .darnComplete => Sys2Proof.Machine.execDarnComplete s
  | .rotationReturn ok => Sys2Proof.Machine.execRotationReturn ok s
  | .reweaveComplete => Sys2Proof.Machine.execReweaveComplete s
  | .lwsLost => Sys2Proof.Machine.execLwsLost s
  | .install slot source => Sys2Proof.Machine.execInstall slot source s
  | .installComplete bad => Sys2Proof.Machine.execInstallComplete bad s
  | .linkLost => Sys2Proof.Machine.execLinkLost s
  | .load slot => Sys2Proof.Machine.execLoad slot s
  | .loadComplete rtt => Sys2Proof.Machine.execLoadComplete rtt s
  | .wrpAbort => Sys2Proof.Machine.execWrpAbort s
  | .wrpClrCounts => Sys2Proof.Machine.execWrpClrCounts s
  | .warpMessage f msg => Sys2Proof.Machine.execWarpMessage f msg s
  | .tileWindowAccess port tag write off data => Sys2Proof.Machine.execTileWindowAccess port tag write off data s
  | .bridgeTimeout => Sys2Proof.Machine.execBridgeTimeout s
  | .flit port slip ue ce bytes => Sys2Proof.Machine.execFlit port slip ue ce bytes s
  | .helsiaNak port ack => Sys2Proof.Machine.execHelsiaNak port ack s
  | .helsiaAckTimeout port => Sys2Proof.Machine.execHelsiaAckTimeout port s
  | .helsiaRetrain port => Sys2Proof.Machine.execHelsiaRetrain port s
  | .helsiaTrainingComplete port result rtt => Sys2Proof.Machine.execHelsiaTrainingComplete port result rtt s
  | .regWr port addr data => Sys2Proof.Machine.execRegWr port addr data s
  | .regRd port tag addr len => Sys2Proof.Machine.execRegRd port tag addr len s
  | .memCpl port tag data => Sys2Proof.Machine.execMemCpl port tag data s
  | .objCpl port tag status data => Sys2Proof.Machine.execObjCpl port tag status data s
  | .echo port data => Sys2Proof.Machine.execEcho port data s
  | .memRdTimeout tag => Sys2Proof.Machine.execMemRdTimeout tag s
  | .sqDoorbell ring v => Sys2Proof.Machine.execSqDoorbell ring v s
  | .completionCountPoll => Sys2Proof.Machine.execCompletionCountPoll s
  | .eventRingPoll => Sys2Proof.Machine.execEventRingPoll s
  | .beacon late => Sys2Proof.Machine.execBeacon late s
  | .hostPortLost port => Sys2Proof.Machine.execHostPortLost port s
  | .portDisable => Sys2Proof.Machine.execPortDisable s
  | .portDrainComplete port => Sys2Proof.Machine.execPortDrainComplete port s
  | .portEnable => Sys2Proof.Machine.execPortEnable s
  | .portRetrain => Sys2Proof.Machine.execPortRetrain s
  | .hlsSwatchStart depth port units => Sys2Proof.Machine.execHlsSwatchStart depth port units s
  | .hlsSwatchComplete errs noPartner => Sys2Proof.Machine.execHlsSwatchComplete errs noPartner s
  | .hlsClrCounts => Sys2Proof.Machine.execHlsClrCounts s
  | .vinSample vin => Sys2Proof.Machine.execVinSample vin s
  | .standbySample vin => Sys2Proof.Machine.execStandbySample vin s
  | .inputCurrentSample iin => Sys2Proof.Machine.execInputCurrentSample iin s
  | .capExceeded avg => Sys2Proof.Machine.execCapExceeded avg s
  | .phaseShed dom phase cause temp cur => Sys2Proof.Machine.execPhaseShed dom phase cause temp cur s
  | .tripped dom cause phase cur => Sys2Proof.Machine.execTripped dom cause phase cur s
  | .pathCheck dom out sense cur => Sys2Proof.Machine.execPathCheck dom out sense cur s
  | .droopWarning f => Sys2Proof.Machine.execDroopWarning f s
  | .droopStretchEnd f cycles => Sys2Proof.Machine.execDroopStretchEnd f cycles s
  | .droopReset f => Sys2Proof.Machine.execDroopReset f s
  | .rampStart => Sys2Proof.Machine.execRampStart s
  | .rampComplete t10 => Sys2Proof.Machine.execRampComplete t10 s
  | .rampTimeout r => Sys2Proof.Machine.execRampTimeout r s
  | .regionOff region => Sys2Proof.Machine.execRegionOff region s
  | .regionOn region => Sys2Proof.Machine.execRegionOn region s
  | .regionRetain region => Sys2Proof.Machine.execRegionRetain region s
  | .vpaClrCounts => Sys2Proof.Machine.execVpaClrCounts s
  | .refLoss edge ppm => Sys2Proof.Machine.execRefLoss edge ppm s
  | .refRestore => Sys2Proof.Machine.execRefRestore s
  | .sscOff off => Sys2Proof.Machine.execSscOff off s
  | .sscCrest => Sys2Proof.Machine.execSscCrest s
  | .clkClrCounts => Sys2Proof.Machine.execClkClrCounts s
  | .pllUnlock pll runs => Sys2Proof.Machine.execPllUnlock pll runs s
  | .pllRelock pll ok time => Sys2Proof.Machine.execPllRelock pll ok time s
  | .trayRead bytes => Sys2Proof.Machine.execTrayRead bytes s
  | .trayLost => Sys2Proof.Machine.execTrayLost s
  | .sensorSample f q => Sys2Proof.Machine.execSensorSample f q s
  | .forecast => Sys2Proof.Machine.execForecast s
  | .coolantStopDrainEnd late => Sys2Proof.Machine.execCoolantStopDrainEnd late s
  | .thermalTrip f sensor => Sys2Proof.Machine.execThermalTrip f sensor s
  | .clearStop => Sys2Proof.Machine.execClearStop s
  | .thmClrCounts => Sys2Proof.Machine.execThmClrCounts s
  | .powerOn => Sys2Proof.Machine.execPowerOn s
  | .bootStage fails late => Sys2Proof.Machine.execBootStage fails late s
  | .stateMirror alive => Sys2Proof.Machine.execStateMirror alive s
  | .takeover => Sys2Proof.Machine.execTakeover s
  | .wdog => Sys2Proof.Machine.execWdog s
  | .warmReset => Sys2Proof.Machine.execWarmReset s
  | .coldReset => Sys2Proof.Machine.execColdReset s
  | .resetN high ns => Sys2Proof.Machine.execResetN high ns s
  | .powerReset => Sys2Proof.Machine.execPowerReset s
  | .fwImageWrite target image lost bad => Sys2Proof.Machine.execFwImageWrite target image lost bad s
  | .restartStby bad => Sys2Proof.Machine.execRestartStby bad s
  | .swapRoles => Sys2Proof.Machine.execSwapRoles s
  | .commitSvn => Sys2Proof.Machine.execCommitSvn s
  | .report => Sys2Proof.Machine.execReport s
  | .enroll record => Sys2Proof.Machine.execEnroll record s
  | .rekey => Sys2Proof.Machine.execRekey s
  | .cert => Sys2Proof.Machine.execCert s
  | .lmsTreeBuildComplete => Sys2Proof.Machine.execLmsTreeBuildComplete s
  | .registerWrite addr data => Sys2Proof.Machine.execRegisterWrite addr data s
  | .aliasWrite block off bit data => Sys2Proof.Machine.execAliasWrite block off bit data s
  | .hcClrCounts => Sys2Proof.Machine.execHcClrCounts s
  | .hcTimeLoRead => Sys2Proof.Machine.execHcTimeLoRead s
  | .sentinelSweep errs => Sys2Proof.Machine.execSentinelSweep errs s
  | .segmentSweepEnd id => Sys2Proof.Machine.execSegmentSweepEnd id s
  | .commitReference => Sys2Proof.Machine.execCommitReference s
  | .sntEn v => Sys2Proof.Machine.execSntEn v s
  | .sntClrCounts => Sys2Proof.Machine.execSntClrCounts s
  | .sntSegSelWrite v => Sys2Proof.Machine.execSntSegSelWrite v s
  | .cvuCfgWrite c v => Sys2Proof.Machine.execCvuCfgWrite c v s
  | .cvuData8 c v => Sys2Proof.Machine.execCvuData8 c v s
  | .cvuData16 c v => Sys2Proof.Machine.execCvuData16 c v s
  | .cvuData32 c v => Sys2Proof.Machine.execCvuData32 c v s
  | .cvuResultLoRead c => Sys2Proof.Machine.execCvuResultLoRead c s
  | .faultRecord => Sys2Proof.Machine.execFaultRecord s
  | .fatalHalt reason cut => Sys2Proof.Machine.execFatalHalt reason cut s
  | .dumpTimeout n => Sys2Proof.Machine.execDumpTimeout n s
  | .dmpFatal cut => Sys2Proof.Machine.execDmpFatal cut s
  | .fetch bad => Sys2Proof.Machine.execFetch bad s
  | .erase => Sys2Proof.Machine.execErase s
  | .dmpClrCounts => Sys2Proof.Machine.execDmpClrCounts s
  | .testMode v => Sys2Proof.Machine.execTestMode v s
  | .injectionArm kind n target => Sys2Proof.Machine.execInjectionArm kind n target s
  | .captureArm skein => Sys2Proof.Machine.execCaptureArm skein s
  | .bist region => Sys2Proof.Machine.execBist region s
  | .bistComplete fails => Sys2Proof.Machine.execBistComplete fails s
  | .partnerLost port => Sys2Proof.Machine.execPartnerLost port s
  | .mgmtRx bytes => Sys2Proof.Machine.execMgmtRx bytes s
  | .noHc => Sys2Proof.Machine.execNoHc s
  | .rekeyComplete => Sys2Proof.Machine.execRekeyComplete s

end Sys2Proof.Machine
end

