-- ==== Sys2Proof/Machine/Step.lean ====
section
/-!
DEFINITION. One step: the command at the front of the queue, or, on an empty queue, one microsecond of heddle time.
-/
namespace Sys2Proof.Machine

/-- The block idles: heddle time goes on by 1 µs (R455, R530). Log entry 12. -/
def State.tick (s : State) : State := { s with timeUs := s.timeUs + 1 }

/-- A step takes the command at the front of the queue and runs it with the rest of the queue; with an empty queue the block idles. -/
def step (s : State) : Host.Outcome State Fault Refusal :=
  match s.pending with
  | [] => .next s.tick
  | c :: cs => exec c { s with pending := cs }

/-- The state with the command that a word spells put at the front of its queue. -/
def State.withFetchWord (s : State) (nbits w : Nat) : State :=
  match decodeTableWord nbits w with
  | some c => { s with pending := c :: s.pending }
  | none => s

end Sys2Proof.Machine
end

