-- ==== Sys2Proof/Safety.lean ====
section
/-!
DEFINITION. What counts as a safe run, and the words in which claims say what a command does and what it leaves alone.
-/
namespace Sys2Proof.Machine

/-- An outcome with a next state: the run goes on. -/
def goesOn (r : Host.Outcome State Fault Refusal) : Prop := ∃ t, r = .next t

/-- A command answers a next state, of which `P` holds. -/
def answers (c : Instr) (s : State) (P : State → Prop) : Prop := ∃ t, exec c s = .next t ∧ P t

/-- A command answers a next state that differs in nothing. -/
def keepsAll (c : Instr) (s : State) : Prop := exec c s = .next s

/-! ### Registers -/

/-- Every register but those of the list reads the same (an address with its instance, as a key of the bank). -/
def sameRegs (s t : State) (ks : List Nat) : Prop := ∀ k, k ∉ ks → bankReg k t.bank = bankReg k s.bank

/-- Nothing but the register bank differs. -/
def onlyBank (s t : State) : Prop := t = { s with bank := t.bank }

/-- Only the registers of the list differ. -/
def onlyRegs (s t : State) (ks : List Nat) : Prop := onlyBank s t ∧ sameRegs s t ks

/-- Of a register only the bits of a field may differ. -/
def onlyFld (s t : State) (f : Fld) (i : Nat) : Prop :=
  ∀ n, n < 32 → (n < f.lo ∨ f.lo + f.w ≤ n) → (t.reg f.reg i).getLsbD n = (s.reg f.reg i).getLsbD n

/-- Instance `i` of a field takes a value, and nothing else differs. -/
def setsFld (s t : State) (f : Fld) (i v : Nat) : Prop := t.get f i = v ∧ onlyRegs s t [rkey f.reg i] ∧ onlyFld s t f i

/-! ### Tiles -/

/-- Only the tile at an address differs. -/
def onlyTile (s t : State) (a : Nat) : Prop := (∀ b, b ≠ a → t.tile b = s.tile b) ∧ t = { s with tiles := t.tiles }

/-- A tile takes a value, and nothing else differs. -/
def tileBecomes (s t : State) (a : TileAddr) (u : Tile) : Prop := t.tile a.toNat = u ∧ onlyTile s t a.toNat

/-- Every register of a tile but those of the list reads the same. -/
def tileSameRegs (u v : Tile) (ks : List Nat) : Prop := ∀ k, k ∉ ks → bankReg k v.regs = bankReg k u.regs

/-- A tile of the device whose sequencer issues (R54, R58), in native mode (R351) and so outside a delay slot. -/
def native (s : State) (a : TileAddr) : Prop :=
  tileOk a.toNat = true ∧ issuing (s.tile a.toNat) = true ∧ s.pat.stepping = 0 ∧ (s.tile a.toNat).delay = none

/-- The sequencer of a tile stands at `pc` with the wait code `w`; no other register of the tile and nothing outside it differs. -/
def seqAt (s t : State) (a : TileAddr) (pc : BitVec 16) (w : Nat) : Prop :=
  (t.tile a.toNat).pc = pc ∧ tGet F.TIL_SEQ_WAIT (t.tile a.toNat) = w ∧
    tileSameRegs (s.tile a.toNat) (t.tile a.toNat) [R.TIL_SEQ] ∧ onlyTile s t a.toNat

/-- The sequencer went on to the next instruction of tile `a`. -/
def seqNext (s t : State) (a : TileAddr) : Prop := seqAt s t a ((s.tile a.toNat).pc + 1) 0

/-- Register `d` of tile `a` takes `v`, the others stay, g0 reads 0, and the sequencer goes on; nothing else differs (R353). -/
def regWritten (s t : State) (a : TileAddr) (d : BitVec 5) (v : Word) : Prop :=
  seqNext s t a ∧
  (∀ i, tReg i (t.tile a.toNat) = if i = d.toNat ∧ i ≠ 0 then v else tReg i (s.tile a.toNat)) ∧
  t.tile a.toNat = { s.tile a.toNat with g := (t.tile a.toNat).g, pc := (t.tile a.toNat).pc, regs := (t.tile a.toNat).regs }

/-! ### Completion records -/

/-- A command of a submission ring completes: one more completion record, and with nothing in its way the record is the last that left, in
its place of the ring (R394, R398). -/
def completes (s t : State) (ring op status tag id : Nat) : Prop :=
  let n := smGet 0 ring s.host.compWr
  let cls := clsComp ring
  smGet 0 ring t.host.compWr = n + 1 ∧
  ∀ p, s.clsHostPort cls = some p → smGet none cls s.host.clsPort = some p → s.clsHeld cls = false → (∀ w ∈ s.host.queue, w.cls ≠ cls) →
    t.out.getLast? = some (.memWr p 1 (s.ctlAddr cls 0 + 64 + 16 * (n % 2 ^ s.sqLog2 ring))
      (recBytes op status tag id 0 (phaseOf n (s.sqLog2 ring)) s.pm.pick))

/-! ### What every step keeps -/

/-- The registers and the tiles stand in canonical form: keys strictly rising, and nothing listed that an unlisted key holds. -/
def canonical (s : State) : Prop := smWf regReset s.bank = true ∧ smWf (fun _ => Tile.empty) s.tiles = true

/-- A memory stands in canonical form: addresses strictly rising, and no listed byte of the value that an unlisted address reads as. -/
abbrev Memory.wf (m : SMap Byte) : Prop := smWf (fun _ => (0 : Byte)) m = true

end Sys2Proof.Machine
end

