-- ==== Sys2Proof/WellFormed.lean ====
section
/-!
DEFINITION. Well-formed commands: a command names tiles and channels that the device has, and a message has its
length. A command that is not well-formed is nothing that can reach the device.
-/
namespace Sys2Proof
open Sys2Proof.Machine

/-- The command names what the device has (R8, R173), and the messages it carries have the length the spec gives them: a strobe
or warp message 8 bytes and a CRC (R333, R334), a flit 128 bytes (R161), a TIMING 32 bytes (R404), a handoff at most 1,056 bytes
(R403), the 26 sensors of a field (R479), a key record of 157 bytes or more (R509), the 60 fields (R12). -/
def Instr.wf (i : Instr) : Bool :=
  match i with
  | .alu t _ _ _ _ | .mul t _ _ _ | .addk t _ _ _ | .ork t _ _ _ | .seth t _ _ | .ltsk t _ _ _ | .ldw t _ _ _ _ | .ldb t _ _ _ _
  | .stw t _ _ _ | .stb t _ _ _ | .jeq t _ _ _ | .jne t _ _ _ | .jlt t _ _ _ | .jge t _ _ _ | .call t _ | .ret t | .jmp t _
  | .wait t _ _ | .clrc t _ | .done t | .reservedOpcode t _ | .selectionWordArrival t | .nvwRowRead t _ _ | .weftInWrite t
  | .spoolInWrite t | .turnEnd t | .reloadComplete t | .tileDone t _ _ _ | .tileLoadCommand t | .tileLoadComplete t | .tilLoad t
  | .tilClrCounts t | .tilDarn t | .tilHaltReq t | .tilEnable t _ | .tilNvwLogRead t | .spoolWriteAccept t _ _ _
  | .spoolRead t _ _ _ _ _ | .translationWalk t _ _ _ | .spoolResponse t | .sectionProgramComplete t _ | .nvwScrub t _ _ _ => tileOk t.toNat
  | .tfn t _ _ _ e | .pass t _ _ e | .stream t _ _ _ _ e | .drain t _ _ _ e | .send t _ e | .spool t _ e => tileOk t.toNat && e.all fun x => decide (x.1.toNat < spadBytes)
  | .nakReceived r _ _ | .linkRetrain r _ | .shuttleRoute r _ _ _ | .foldArrival r _ | .foldCombineComplete r _ _ _
  | .weftWatchdog r _ _ => tileOk r.toNat
  | .regWr _ _ data | .registerWrite _ data => decide (0 < data.length)
  | .strobeReceive _ c0 c1 c2 => decide (c0.length = 9) && decide (c1.length = 9) && decide (c2.length = 9)
  | .chainTiming _ data _ _ _ _ => decide (data.length = 32)
  | .handoff _ _ _ data _ => decide (data.length ≤ 1056)
  | .flitReceive r _ fl _ _ => tileOk r.toNat && decide (fl.length = 128)
  | .seamTrainingComplete seam channel _ => decide (channel.toNat < seamChannels seam.val)
  | .congestionMap blocked => blocked.all fun x => tileOk x.1.toNat
  | .reedPosition last cap => decide (last.length ≤ 32768) && decide (cap.length ≤ 129)
  | .loadComplete rtt => decide (rtt.length = 60)
  | .warpMessage _ msg => decide (msg.length = 9)
  | .sensorSample _ q => decide (q.length = 26)
  | .enroll record => decide (157 ≤ record.length)
  | .sentinelSweep errs => errs.all fun x => tileOk x.1.toNat && decide (x.2.1.toNat < 64 * staticLines)
  | .bistComplete fails => fails.all fun t => tileOk t.toNat
  | .strobeFire _ | .allDone _ | .pickEnd _ | .doneLimitExpired | .stepRequest _ | .modeRequest _ _ _ | .drainBegin _ | .drainEnd
  | .pckRun | .pckRunClear | .pckHalt | .resumeAdmit | .clrStats | .clrAll | .clrSel | .pckPickLoRead | .chainChangeEffective
  | .wftSwatchStart _ _ _ _ | .wftSwatchComplete _ _ | .wftClrCounts | .spoolChannelFail _ _ | .dramRefresh _ _ _
  | .spoolScrub _ _ _ _ | .frameRelease _ | .prefixCopy _ | .swapOut _ | .swapOutComplete _ | .restore _ | .restoreComplete _
  | .splSwatchStart _ _ _ | .splSwatchComplete _ | .xcFlush | .splClrCounts | .splEccLog1Read
  | .admitSeq _ _ _ _ _ _ _ _ _ _ _ _ _ _ _ _ | .cancel _ _ _ | .park _ _ _ | .resume _ _ _ | .release _ _ _ | .set _ _ _ _ _
  | .partEnable _ _ _ | .partDisable _ _ _ | .prefixCopyComplete _ | .promptUnitArrival _ _ _ | .ringCountFetch _ _
  | .deadlineCheck | .preempt | .restoreStart | .stopService | .sknClrCounts | .sknEntSelWrite _ | .sknSampDataWrite _
  | .sknCommitsLoRead | .programAll _ | .lwiChunkArrival | .verifyAll _ _ | .darn _ | .reweave _ _ | .nvwAbort | .nvwClrCounts
  | .darnStart | .darnSwitch | .darnComplete | .rotationReturn _ | .reweaveComplete | .lwsLost | .install _ _
  | .installComplete _ | .linkLost | .load _ | .wrpAbort | .wrpClrCounts | .tileWindowAccess _ _ _ _ _ | .bridgeTimeout
  | .flit _ _ _ _ _ | .helsiaNak _ _ | .helsiaAckTimeout _ | .helsiaRetrain _ | .helsiaTrainingComplete _ _ _ | .regRd _ _ _ _
  | .memCpl _ _ _ | .objCpl _ _ _ _ | .echo _ _ | .memRdTimeout _ | .sqDoorbell _ _ | .completionCountPoll | .eventRingPoll
  | .beacon _ | .hostPortLost _ | .portDisable | .portDrainComplete _ | .portEnable | .portRetrain | .hlsSwatchStart _ _ _
  | .hlsSwatchComplete _ _ | .hlsClrCounts | .vinSample _ | .standbySample _ | .inputCurrentSample _ | .capExceeded _
  | .phaseShed _ _ _ _ _ | .tripped _ _ _ _ | .pathCheck _ _ _ _ | .droopWarning _ | .droopStretchEnd _ _ | .droopReset _
  | .rampStart | .rampComplete _ | .rampTimeout _ | .regionOff _ | .regionOn _ | .regionRetain _ | .vpaClrCounts | .refLoss _ _
  | .refRestore | .sscOff _ | .sscCrest | .clkClrCounts | .pllUnlock _ _ | .pllRelock _ _ _ | .trayRead _ | .trayLost | .forecast
  | .coolantStopDrainEnd _ | .thermalTrip _ _ | .clearStop | .thmClrCounts | .powerOn | .bootStage _ _ | .stateMirror _
  | .takeover | .wdog | .warmReset | .coldReset | .resetN _ _ | .powerReset | .fwImageWrite _ _ _ _ | .restartStby _ | .swapRoles
  | .commitSvn | .report | .rekey | .cert | .lmsTreeBuildComplete | .aliasWrite _ _ _ _ | .hcClrCounts | .hcTimeLoRead
  | .segmentSweepEnd _ | .commitReference | .sntEn _ | .sntClrCounts | .sntSegSelWrite _ | .cvuCfgWrite _ _ | .cvuData8 _ _
  | .cvuData16 _ _ | .cvuData32 _ _ | .cvuResultLoRead _ | .faultRecord | .fatalHalt _ _ | .dumpTimeout _ | .dmpFatal _
  | .fetch _ | .erase | .dmpClrCounts | .testMode _ | .injectionArm _ _ _ | .captureArm _ | .bist _ | .partnerLost _ | .mgmtRx _
  | .noHc | .rekeyComplete => true

end Sys2Proof
end

