-- ==== Sys2Proof/Certificates/Slice0/Obligations.lean ====
section
/-!
DEFINITION. The statements for the provers, each a proposition about the block: what the commands do, family by family, and what every step keeps.
-/
open Sys2Proof Sys2Proof.Machine

/-- A step runs the front command. -/
def Obligations.StepRunsFrontCommand : Prop :=
  ∀ (c : Instr) (cs : List Instr) (s : State), s.pending = c :: cs → step s = exec c { s with pending := cs }

/-- Register instructions and jumps of the sequencer. -/
def Obligations.SequencerRegisterForms : Prop :=
  (∀ (s : State) (t : TileAddr) (d a b : BitVec 5), native s t →
    let x := tReg a.toNat (s.tile t.toNat)
    let y := tReg b.toNat (s.tile t.toNat)
    (answers (.alu t 0 d a b) s fun r => regWritten s r t d (x + y)) ∧
    (answers (.alu t 1 d a b) s fun r => regWritten s r t d (x - y)) ∧
    (answers (.alu t 2 d a b) s fun r => regWritten s r t d (x &&& y)) ∧
    (answers (.alu t 3 d a b) s fun r => regWritten s r t d (x ||| y)) ∧
    (answers (.alu t 4 d a b) s fun r => regWritten s r t d (x ^^^ y)) ∧
    (answers (.alu t 5 d a b) s fun r => regWritten s r t d (x <<< (y.toNat % 32))) ∧
    (answers (.alu t 6 d a b) s fun r => regWritten s r t d (x >>> (y.toNat % 32))) ∧
    (answers (.alu t 7 d a b) s fun r => regWritten s r t d (x.sshiftRight (y.toNat % 32))) ∧
    (answers (.alu t 8 d a b) s fun r => regWritten s r t d (if x.toInt < y.toInt then 1 else 0)) ∧
    (answers (.alu t 9 d a b) s fun r => regWritten s r t d (if x.toNat < y.toNat then 1 else 0)) ∧
    (∀ fn : BitVec 9, 9 < fn.toNat → ∃ v, answers (.alu t fn d a b) s fun r => regWritten { s with free := s.free + 1 } r t d v) ∧
    (answers (.mul t d a b) s fun r => regWritten s r t d (x * y)) ∧
    (∀ k : BitVec 14, answers (.addk t d a k) s fun r => regWritten s r t d (x + k.signExtend 32)) ∧
    (∀ k : BitVec 14, answers (.ork t d a k) s fun r => regWritten s r t d (x ||| k.zeroExtend 32)) ∧
    (∀ k : BitVec 19, answers (.seth t d k) s fun r => regWritten s r t d (k.zeroExtend 32 <<< 13)) ∧
    (∀ k : BitVec 14, answers (.ltsk t d a k) s fun r => regWritten s r t d (if x.toInt < k.toInt then 1 else 0))) ∧
  (∀ (s : State) (t : TileAddr) (d a : BitVec 5), native s t →
    let u := s.tile t.toNat
    let x := tReg d.toNat u
    let y := tReg a.toNat u
    let goes := fun (r : State) (pc : BitVec 16) (lk : Word) =>
      seqAt s r t pc 0 ∧ r.tile t.toNat = { u with lk := lk, pc := (r.tile t.toNat).pc, regs := (r.tile t.toNat).regs }
    (∀ k : BitVec 14,
      (answers (.jeq t d a k) s fun r => goes r (if x = y then u.pc + k.signExtend 16 else u.pc + 1) u.lk) ∧
      (answers (.jne t d a k) s fun r => goes r (if x = y then u.pc + 1 else u.pc + k.signExtend 16) u.lk) ∧
      (answers (.jlt t d a k) s fun r => goes r (if x.toInt < y.toInt then u.pc + k.signExtend 16 else u.pc + 1) u.lk) ∧
      (answers (.jge t d a k) s fun r => goes r (if x.toInt < y.toInt then u.pc + 1 else u.pc + k.signExtend 16) u.lk)) ∧
    (∀ k : BitVec 24, answers (.call t k) s fun r => goes r (u.pc + k.truncate 16) ((u.pc + 1).zeroExtend 32)) ∧
    (answers (.ret t) s fun r => goes r (u.lk.truncate 16) u.lk) ∧
    (answers (.jmp t a) s fun r => goes r (y.truncate 16) u.lk))

/-- Loads and stores of the sequencer. -/
def Obligations.SequencerMemory : Prop :=
  (∀ (s : State) (t : TileAddr) (d a : BitVec 5) (k : BitVec 14), native s t →
    let u := s.tile t.toNat
    let adr := (tReg a.toNat u + k.signExtend 32).toNat
    let word := adr / 4 * 4
    let stores := fun (r : State) (at' : Nat) (bs : List Byte) =>
      seqNext s r t ∧ (r.tile t.toNat).staged = u.staged ++ [⟨6, at', bs⟩] ∧
      r.tile t.toNat = { u with staged := (r.tile t.toNat).staged, accesses := (r.tile t.toNat).accesses, pc := (r.tile t.toNat).pc,
                                regs := (r.tile t.toNat).regs }
    let loads := fun (r : State) (v : Word) =>
      seqNext s r t ∧ (∀ i, tReg i (r.tile t.toNat) = if i = d.toNat ∧ i ≠ 0 then v else tReg i u) ∧
      r.tile t.toNat = { u with g := (r.tile t.toNat).g, accesses := (r.tile t.toNat).accesses, pc := (r.tile t.toNat).pc,
                                regs := (r.tile t.toNat).regs }
    adr < 0x30000 →
    (tBusyLine [adr / 64] u = false → s.injHas 2 t.toNat = false →
      (answers (.ldw t d a k 0) s fun r => loads r (BitVec.ofNat 32 (leNat (smGetBytes word 4 u.scratch)))) ∧
      (answers (.ldb t d a k 0) s fun r => loads r ((smGet 0 adr u.scratch).zeroExtend 32))) ∧
    (answers (.stw t d a k) s fun r => stores r word (leBytes 4 (tReg d.toNat u).toNat)) ∧
    (answers (.stb t d a k) s fun r => stores r adr [(tReg d.toNat u).truncate 8])) ∧
  (∀ (s : State) (t : TileAddr) (d a e : BitVec 5) (k : BitVec 14), native s t →
    let u := s.tile t.toNat
    (tReg a.toNat u + k.signExtend 32).toNat < 0x30000 → u.staged = [] → u.accesses = [] → u.drain = none → s.injHas 2 t.toNat = false → e ≠ 0 →
    answers (.stw t d a k) s fun r => answers (.ldw t e a k 0) r fun q => tReg e.toNat (q.tile t.toNat) = tReg d.toNat u)

/-- Control instructions of the sequencer, and bit errors that a load meets. -/
def Obligations.SequencerControl : Prop :=
  (∀ (s : State) (t : TileAddr), native s t →
    let u := s.tile t.toNat
    (∀ (a : BitVec 5) (c : BitVec 4), answers (.wait t a c) s fun r =>
      (if (tReg a.toNat u).toNat ≤ smGet 0 c.toNat u.arr then seqNext s r t else seqAt s r t u.pc 2) ∧
      r.tile t.toNat = { u with pc := (r.tile t.toNat).pc, regs := (r.tile t.toNat).regs }) ∧
    (∀ c : BitVec 4, answers (.clrc t c) s fun r =>
      seqNext s r t ∧ (∀ n, smGet 0 n (r.tile t.toNat).arr = if n = c.toNat then 0 else smGet 0 n u.arr) ∧
      r.tile t.toNat = { u with arr := (r.tile t.toNat).arr, pc := (r.tile t.toNat).pc, regs := (r.tile t.toNat).regs }) ∧
    (∀ op : BitVec 8, answers (.reservedOpcode t op) s fun r =>
      seqNext s r t ∧ r.tile t.toNat = { u with pc := (r.tile t.toNat).pc, regs := (r.tile t.toNat).regs }) ∧
    (u.pendRes = [] → u.pendAcc = [] → u.pendWrite = [] → u.pendSet = [] → answers (.done t) s fun r =>
      if u.haltReq then
        seqAt s r t u.pc 1 ∧
        r.tile t.toNat = { u with active := false, doneExec := true, st := 4, haltReq := false, regs := (r.tile t.toNat).regs }
      else if u.strobeHeld then
        seqAt s r t (BitVec.ofNat 16 (smGet 0 (s.get F.PCK_STATUS_MODE) u.entry)) 0 ∧ (r.tile t.toNat).active = true ∧
        (r.tile t.toNat).doneExec = false ∧ (r.tile t.toNat).strobeHeld = false ∧ (r.tile t.toNat).scratch = u.scratch
      else
        seqAt s r t u.pc 1 ∧ r.tile t.toNat = { u with active := false, doneExec := true, regs := (r.tile t.toNat).regs })) ∧
  (∀ (s : State) (t : TileAddr) (d a : BitVec 5) (k : BitVec 14), native s t →
    let u := s.tile t.toNat
    let adr := (tReg a.toNat u + k.signExtend 32).toNat
    adr < 0x30000 → tBusyLine [adr / 64] u = false → s.injHas 2 t.toNat = false →
    (answers (.ldw t d a k 1) s fun r =>
      (d ≠ 0 → tReg d.toNat (r.tile t.toNat) = BitVec.ofNat 32 (leNat (smGetBytes (adr / 4 * 4) 4 u.scratch))) ∧
      tGet F.TIL_SP_ERR_CE_COUNT (r.tile t.toNat) = min 65535 (tGet F.TIL_SP_ERR_CE_COUNT u + 1) ∧
      (r.tile t.toNat).st = u.st ∧ (r.tile t.toNat).poison = u.poison ∧ (r.tile t.toNat).scratch = u.scratch) ∧
    (answers (.ldw t d a k 2) s fun r =>
      tGet F.TIL_SP_ERR_UE (r.tile t.toNat) = 1 ∧
      tGet F.TIL_SP_ERR_UE_COUNT (r.tile t.toNat) = min (2 ^ F.TIL_SP_ERR_UE_COUNT.w - 1) (tGet F.TIL_SP_ERR_UE_COUNT u + 1) ∧
      (r.tile t.toNat).poison = true ∧
      (∀ x, x / 8 ≠ adr / 8 → smGet 0 x (r.tile t.toNat).scratch = smGet 0 x u.scratch) ∧
      (r.tile t.toNat).st = if adr / 64 < 1536 then 6 else 3))

/-- The units a sequencer commands. -/
def Obligations.SequencerUnits : Prop :=
  ∀ (s : State) (t : TileAddr) (a : BitVec 5), native s t → s.injHas 2 t.toNat = false → s.injHas 3 t.toNat = false →
    let u := s.tile t.toNat
    let line := (tReg a.toNat u).toNat
    let same := fun (r : State) => (r.tile t.toNat).scratch = u.scratch ∧ (r.tile t.toNat).g = u.g
    (∀ d b : BitVec 5, line * 64 + 2060 ≤ 0x30000 → tBusyLine (linesOf (line * 64) 2060) u = false →
      answers (.tfn t d a b []) s fun r => seqNext s r t ∧ (r.tile t.toNat).scratch = u.scratch ∧
        ∀ i, tReg i (r.tile t.toNat) =
          if i = d.toNat ∧ i ≠ 0 then BitVec.ofInt 32 (tTableFn (64 * line) (tReg b.toNat u).toInt u) else tReg i u) ∧
    (line < 3072 → tBusyLine [line] u = false →
      (∀ (kind : Fin 3) (j : BitVec 3) (lane : BitVec 5), (kind.val = 0 ∨ u.selHere = false) →
        (kind.val = 0 → (sliceAt (64 * line) u).ok = true) →
        answers (.stream t a kind j lane []) s fun r => same r ∧ (r.tile t.toNat).poison = u.poison ∧
          (if u.queue.length < 4 then
            seqNext s r t ∧ (r.tile t.toNat).queue = u.queue ++ [⟨kind.val, line, j.toNat, lane.toNat, 0⟩]
          else seqAt s r t u.pc 5 ∧ (r.tile t.toNat).queue = u.queue)) ∧
      (∀ (j : BitVec 3) (lane : BitVec 5), (sliceAt (64 * line) u).ok = false →
        answers (.stream t a 0 j lane []) s fun r => same r ∧ (r.tile t.toNat).queue = u.queue ∧ (r.tile t.toNat).poison = true ∧
          tGet F.TIL_HAZ_STREAM (r.tile t.toNat) = 1 ∧ (r.tile t.toNat).pc = u.pc + 1) ∧
      (∀ set : BitVec 1, drainOk (s.ctx t.toNat) set.toNat line .acc u = true →
        let d := drainDesc line u
        let acc := if set = 0 then u.acc0 else u.acc1
        answers (.drain t a set .acc []) s fun r => onlyTile s r t.toNat ∧ same r ∧ (r.tile t.toNat).staged = u.staged ∧
          (r.tile t.toNat).outbox = u.outbox ∧
          tileSameRegs u (r.tile t.toNat) [R.TIL_SEQ, F.TIL_ARITH_CLAMP_COUNT.reg, F.TIL_ARITH_SAT_COUNT.reg] ∧
          if u.drain.isSome then seqAt s r t u.pc 4 ∧ (r.tile t.toNat).drain = u.drain
          else (r.tile t.toNat).pc = u.pc + 1 ∧ (r.tile t.toNat).drain = some
            (if d.fold then ⟨[set.toNat], 5, 0, [], drainShuttles (s.ctx t.toNat) d acc u.poison u.lanePoison⟩
             else ⟨[set.toNat], 5, 64 * d.dest, (drainBytes d acc).1, []⟩)) ∧
      (∀ (set : BitVec 1) (job : DrainJob), drainOk (s.ctx t.toNat) set.toNat line job u = true → u.drain = none →
        tBusyLine (spanLines (jobSpans job)) u = false →
        let m := jobMade (s.ctx t.toNat) job (drainDesc line u) (accSet set.toNat u) (accSet (1 - set.toNat) u) u
        answers (.drain t a set job []) s fun r => same r ∧ (r.tile t.toNat).pc = u.pc + 1 ∧
          (r.tile t.toNat).drain = some ⟨jobSets job set.toNat, 5, (m.writes.headD (0, [])).1, (m.writes.headD (0, [])).2, m.shs⟩ ∧
          (r.tile t.toNat).staged = u.staged ∧ r.bank = s.bank ∧ ∀ b, b ≠ t.toNat → r.tile b = s.tile b) ∧
      (let q := spoolDesc line u
       (q.1 = true → q.2.2.1 + q.2.2.2.1 ≤ 3072 ∧ u.spWrites < 8 ∧ tBusyLine (rangeFrom q.2.2.1 q.2.2.2.1) u = false) →
       (q.1 = false → u.spReads < 16) →
       answers (.spool t a []) s fun r => seqNext s r t ∧ same r ∧
         if q.2.2.2.1 = 0 ∨ 64 < q.2.2.2.1 then (r.tile t.toNat).poison = true ∧ (r.tile t.toNat).spReqs = u.spReqs
         else
           let data := if q.1 then smGetBytes (64 * q.2.2.1) (64 * q.2.2.2.1) u.scratch else []
           let mark := q.1 && (u.poison || decide (q.2.2.2.2 ∈ u.lanePoison))
           let shs := spoolShuttles 4 3 (ctrlRouter t.toNat) t.toNat mark q.2.2.1 q.2.1 data
           (r.tile t.toNat).spReqs = u.spReqs ++ [⟨u.spNext, q.1, q.2.1, q.2.2.1, q.2.2.2.1, q.2.2.2.2, data, none, mark,
             ctrlRouter t.toNat, shs.length⟩] ∧
           (r.tile t.toNat).outbox ++ (r.tile t.toNat).building = u.outbox ++ u.building ++ shs ∧
           (r.tile t.toNat).spReads = u.spReads + (if q.1 then 0 else 1) ∧ (r.tile t.toNat).spWrites = u.spWrites + (if q.1 then 1 else 0))) ∧
    (let h := tNum (64 * line) 32 u
     let n := hLen h
     let sh : Shuttle := ⟨(let g := bitsPut h 64 19 t.toNat; if u.poison = true ∨ hLane g ∈ u.lanePoison then bitsPut g 6 1 1 else g), smGetBytes (64 * line + 32) n u.scratch⟩
     64 * line + 32 + n ≤ 0x30000 → tBusyLine (linesOf (64 * line) (32 + n)) u = false →
     answers (.send t a []) s fun r => same r ∧
       if outboxFlits (hVc sh.hdr) u = 0 ∨ outboxFlits (hVc sh.hdr) u + flitsOf sh ≤ 9 then
         seqNext s r t ∧ (r.tile t.toNat).outbox = u.outbox ++ [sh]
       else seqAt s r t u.pc 7 ∧ (r.tile t.toNat).outbox = u.outbox)

/-- PASS. -/
def Obligations.Passes : Prop :=
  ∀ (s : State) (t : TileAddr) (a : BitVec 5) (w : PassWork), native s t → s.injHas 2 t.toNat = false →
    let u := s.tile t.toNat
    let dl := (tReg a.toNat u).toNat
    let run := Instr.pass t a w []
    let stays := fun (v : Tile) => v.scratch = u.scratch ∧ v.g = u.g
    let sets := fun (v : Tile) => v.acc0 = u.acc0 ∧ v.acc1 = u.acc1
    (macWork w = true → dl < 3072 → tBusyLine [dl] u = false →
      (∀ (c : StreamCmd) (cs : List StreamCmd), u.queue = c :: cs →
        (∀ (sl : Option Slice) (lane : Option Nat), headRead c u = .read sl lane →
          let d := passOf dl lane u
          let span := inputSpan d lane
          spansOk (span :: specialSpans w) = true → tBusyLine (spanLines (span :: specialSpans w)) u = false →
          ((tDraining d.set u = true → answers run s fun r =>
              seqAt s r t u.pc 4 ∧ sets (r.tile t.toNat) ∧ stays (r.tile t.toNat) ∧ (r.tile t.toNat).queue = u.queue) ∧
           (tDraining d.set u = false → (∀ x, sl = some x → x.ok = true) → answers run s fun r =>
              let u1 := sl.elim u fun x => tStagedBad x u
              let v := (passResult (sl.elim false fun x => replays c x u) d sl lane (withSpecial w span.1 u1)).1
              (r.tile t.toNat).acc0 = (if d.set = 0 then v else u.acc0) ∧ (r.tile t.toNat).acc1 = (if d.set = 0 then u.acc1 else v) ∧
              (r.tile t.toNat).queue = (popHead u).queue ∧ (r.tile t.toNat).poison = u1.poison ∧ stays (r.tile t.toNat) ∧
              (r.tile t.toNat).pc = u.pc + 1 ∧ tGet F.TIL_SEQ_WAIT (r.tile t.toNat) = 0 ∧ onlyTile s r t.toNat) ∧
           (∀ x, tDraining d.set u = false → sl = some x → x.ok = false → answers run s fun r =>
              (r.tile t.toNat).poison = true ∧ (r.tile t.toNat).queue = cs ∧ stays (r.tile t.toNat) ∧ (r.tile t.toNat).pc = u.pc + 1))) ∧
        (headRead c u = .wait → spansOk (inputSpan (passDesc dl u) none :: specialSpans w) = true → answers run s fun r =>
          seqAt s r t u.pc 3 ∧ sets (r.tile t.toNat) ∧ stays (r.tile t.toNat) ∧ (r.tile t.toNat).queue = u.queue)) ∧
      (u.queue = [] → spansOk (inputSpan (passDesc dl u) none :: specialSpans w) = true → answers run s fun r =>
        seqAt s r t u.pc 5 ∧ sets (r.tile t.toNat) ∧ stays (r.tile t.toNat))) ∧
    (macWork w = false → passOk w dl u = true → tBusyLine (spanLines (workSpans w)) u = false → answers run s fun r =>
      let m := workMade w u
      (r.tile t.toNat).staged = u.staged ++ m.writes.map (fun x => (⟨2, x.1, x.2⟩ : Staged)) ∧
      (r.tile t.toNat).poison = (u.poison || m.bad) ∧ sets (r.tile t.toNat) ∧ stays (r.tile t.toNat) ∧
      (r.tile t.toNat).queue = u.queue ∧ (r.tile t.toNat).pc = u.pc + 1 ∧ tGet F.TIL_SEQ_WAIT (r.tile t.toNat) = 0 ∧ onlyTile s r t.toNat)

/-- Fixed-slot mode, and where sequencer commands stop or change nothing. -/
def Obligations.FixedSlotResults : Prop :=
  (∀ (s : State) (t : TileAddr) (d a b : BitVec 5), tileOk t.toNat = true → issuing (s.tile t.toNat) = true → s.pat.stepping ≠ 0 →
    let u := s.tile t.toNat
    let lat := latOf (s.ctx t.toNat) 1
    let v := tReg a.toNat u + tReg b.toNat u
    u.delay = none → u.pendRes = [] → u.pendAcc = [] → u.pendWrite = [] → u.pendSet = [] →
    answers (.alu t 0 d a b) s fun r =>
      onlyTile s r t.toNat ∧ (r.tile t.toNat).p = u.p + 1 ∧ (r.tile t.toNat).pc = u.pc + 1 ∧
      if lat ≤ 1 then (∀ i, tReg i (r.tile t.toNat) = if i = d.toNat ∧ i ≠ 0 then v else tReg i u) ∧ (r.tile t.toNat).pendRes = []
      else (r.tile t.toNat).g = u.g ∧ (r.tile t.toNat).pendRes = [⟨u.p + lat, u.p, d.toNat, v⟩]) ∧
  (∀ (s : State) (t : TileAddr) (d a b : BitVec 5) (fn : BitVec 9) (k : BitVec 14) (h : BitVec 19) (l : BitVec 24) (c : BitVec 4)
    (kind : Fin 3) (j : BitVec 3) (set : BitVec 1) (op : BitVec 8) (e : Nat) (w : PassWork) (job : DrainJob) (es : List (BitVec 18 × Nat)),
    (∀ i ∈ ([.alu t fn d a b, .mul t d a b, .addk t d a k, .ork t d a k, .seth t d h, .ltsk t d a k, .ldw t d a k e, .ldb t d a k e,
        .stw t d a k, .stb t d a k, .jeq t d a k, .jne t d a k, .jlt t d a k, .jge t d a k, .call t l, .ret t, .jmp t a, .wait t a c,
        .clrc t c, .done t, .tfn t d a b es, .pass t a w es, .stream t a kind j b es, .drain t a set job es, .send t a es, .spool t a es,
        .reservedOpcode t op] : List Instr),
      (tileOk t.toNat = false → exec i s = .fault .noTile) ∧
      (tileOk t.toNat = true → issuing (s.tile t.toNat) = false → (s.tile t.toNat).st ≠ 4 → (∀ f : BitVec 9, 9 < f.toNat → i ≠ .alu t f d a b) → keepsAll i s)) ∧
    (tileOk t.toNat = true → issuing (s.tile t.toNat) = true →
      0x30000 ≤ (tReg a.toNat (s.tile t.toNat) + k.signExtend 32).toNat →
      ∀ i ∈ ([.ldw t d a k e, .ldb t d a k e, .stw t d a k, .stb t d a k] : List Instr), exec i s = .fault .scratchAddr))

/-- What arrives at a tile, and hazards. -/
def Obligations.TileInput : Prop :=
  (∀ (s : State) (t : TileAddr), tileOk t.toNat = true →
    let u := s.tile t.toNat
    let outside := fun (r : State) => r = { s with tiles := r.tiles, bank := r.bank, flt := r.flt } ∧ (∀ b, b ≠ t.toNat → r.tile b = s.tile b)
    (u.inbox = [] → keepsAll (.selectionWordArrival t) s ∧ keepsAll (.weftInWrite t) s) ∧ (u.spIn = [] → keepsAll (.spoolInWrite t) s) ∧
    (∀ sh rest, u.inbox = sh :: rest →
      (answers (.selectionWordArrival t) s fun r => outside r ∧ (r.tile t.toNat).inbox = rest ∧ (r.tile t.toNat).selHere = true ∧
        (r.tile t.toNat).sel = selWords sh.payload ∧ (r.tile t.toNat).scratch = u.scratch ∧ (r.tile t.toNat).staged = u.staged ∧
        (hPoison sh.hdr = true → (r.tile t.toNat).poison = true)) ∧
      (answers (.weftInWrite t) s fun r => outside r ∧ (r.tile t.toNat).inbox = rest ∧ (r.tile t.toNat).scratch = u.scratch ∧
        (hPoison sh.hdr = true → hLane sh.hdr ∈ (r.tile t.toNat).lanePoison) ∧
        if inWin (tCfg F.TIL_WIN_WEFT_BASE u) (tCfg F.TIL_WIN_WEFT_LIMIT u) (linesOf (64 * hLine sh.hdr) sh.payload.length) = true then
          (r.tile t.toNat).staged = u.staged ++ [⟨0, 64 * hLine sh.hdr, sh.payload⟩] ∧ (r.tile t.toNat).poison = u.poison ∧ onlyTile s r t.toNat
        else (r.tile t.toNat).staged = u.staged ∧ tGet F.TIL_HAZ_WINDOW (r.tile t.toNat) = 1 ∧ (r.tile t.toNat).poison = true)) ∧
    (∀ p rest, u.spIn = p :: rest → answers (.spoolInWrite t) s fun r => outside r ∧ (r.tile t.toNat).spIn = rest ∧
        (r.tile t.toNat).scratch = u.scratch ∧
        if p.fault = true then (r.tile t.toNat).staged = u.staged ∧ tGet F.TIL_HAZ_SPOOL (r.tile t.toNat) = 1 ∧ (r.tile t.toNat).poison = true
        else if p.write = true then tileBecomes s r t { u with spIn := rest }
        else if inWin (tCfg F.TIL_WIN_SPOOL_BASE u) (tCfg F.TIL_WIN_SPOOL_LIMIT u) (linesOf (64 * p.line) p.data.length) = true then
          (r.tile t.toNat).staged = u.staged ++ [⟨1, 64 * p.line, p.data⟩] ∧ (r.tile t.toNat).poison = u.poison ∧ onlyTile s r t.toNat
        else (r.tile t.toNat).staged = u.staged ∧ tGet F.TIL_HAZ_WINDOW (r.tile t.toNat) = 1 ∧ (r.tile t.toNat).poison = true)) ∧
  (∀ (s : State) (t : TileAddr) (w o line : Nat) (b : Bool), tileOk t.toNat = true →
    let u := s.tile t.toNat
    u.accesses = [⟨w, line, true⟩, ⟨o, line, b⟩] → w ≠ o → tExcl line u = true → u.staged = [] →
    answers (.turnEnd t) s fun r => tGet F.TIL_HAZ_EXCL (r.tile t.toNat) = 1 ∧ (r.tile t.toNat).poison = true ∧
      tGet F.TIL_HAZ_COUNT_COUNT (r.tile t.toNat) = min (2 ^ F.TIL_HAZ_COUNT_COUNT.w - 1) (tGet F.TIL_HAZ_COUNT_COUNT u + 1))

/-- The end of a turn. -/
def Obligations.TurnEndWrites : Prop :=
  ∀ (s : State) (t : TileAddr), tileOk t.toNat = true →
    let u := s.tile t.toNat
    let covers := fun (w : Staged) (x : Nat) => w.addr ≤ x ∧ x < w.addr + w.data.length
    answers (.turnEnd t) s fun r => (r.tile t.toNat).g = u.g ∧
      ((∀ d, u.drain = some d → 1 < d.left) → (r.tile t.toNat).staged = []) ∧
      (∀ d, u.drain = some d → d.left ≤ 1 → d.data ≠ [] → (r.tile t.toNat).staged = [⟨2, d.addr, d.data⟩] ∧ (r.tile t.toNat).drain = none) ∧
      (r.tile t.toNat).pc = u.pc ∧ (∀ b, b ≠ t.toNat → r.tile b = s.tile b) ∧ r = { s with tiles := r.tiles, bank := r.bank, flt := r.flt } ∧
      (hazardsOf u = [] → onlyTile s r t.toNat ∧ (r.tile t.toNat).poison = u.poison) ∧
      ((u.staged.map Staged.slot).Nodup → ∀ x,
        ((∀ w ∈ u.staged, ¬ covers w x) → smGet 0 x (r.tile t.toNat).scratch = smGet 0 x u.scratch) ∧
        (∀ w ∈ u.staged, covers w x → (∀ v ∈ u.staged, covers v x → v.slot ≤ w.slot) →
          smGet 0 x (r.tile t.toNat).scratch = w.data.getD (x - w.addr) 0))

/-- Loading, halting, darning and reporting done. -/
def Obligations.TileLife : Prop :=
  ∀ (s : State) (t : TileAddr), tileOk t.toNat = true →
    let u := s.tile t.toNat
    let img := smGetBytes (128 * (61440 + 768 * u.slot)) 98304 u.nvw
    (answers (.tileLoadCommand t) s fun r => (∀ b, b ≠ t.toNat → r.tile b = s.tile b) ∧
      if u.st = 0 ∧ s.vlOn (fieldOf t.toNat) = true then (r.tile t.toNat).st = 1 ∧ (r.tile t.toNat).slot = s.loadSlot ∧ (r.tile t.toNat).scratch = u.scratch
      else r = s) ∧
    (answers (.tileLoadComplete t) s fun r =>
      if u.st = 1 then onlyTile s r t.toNat ∧ (r.tile t.toNat).st = (if imageOk s.pat.idleCrc img then 2 else 4) ∧
        (r.tile t.toNat).pc = BitVec.ofNat 16 (leNat (sliceB img (94208 + 2 * (s.get F.PCK_STATUS_MODE % 4)) 2)) ∧
        (∀ x, smGet 0 x (r.tile t.toNat).scratch = if x < 98304 then img.getD x 0 else smGet 0 x u.scratch)
      else r = s) ∧
    (answers (.reloadComplete t) s fun r =>
      if u.st = 6 ∧ u.reloaded = false then onlyTile s r t.toNat ∧ (r.tile t.toNat).st = 6 ∧ (r.tile t.toNat).reloaded = true ∧
        (∀ x, smGet 0 x (r.tile t.toNat).scratch = if x < 98304 then img.getD x 0 else smGet 0 x u.scratch)
      else r = s) ∧
    (answers (.tilLoad t) s fun r =>
      if s.vlOn (fieldOf t.toNat) = true ∧ (u.st = 2 ∨ u.st = 4 ∨ u.st = 5) then onlyTile s r t.toNat ∧ (r.tile t.toNat).st = 1 ∧
        (r.tile t.toNat).slot = s.get F.WRP_STATUS_ACTIVE_SLOT ∧ (r.tile t.toNat).queue = []
      else r = s) ∧
    (s.vlOn (fieldOf t.toNat) = true → u.st ≠ 5 →
      (answers (.tilHaltReq t) s fun r => tileBecomes s r t
        (if u.st = 3 then { u with haltReq := true } else if u.st = 2 then { u with st := 4, reported := true } else u)) ∧
      (answers (.tilDarn t) s fun r => tileBecomes s r t (if u.st = 0 then u else
        { u with st := 5, active := false, doneExec := false, queue := [], staging := [], drain := none, building := [], inbox := [],
                 strobeHeld := false }))) ∧
    (∀ mac idle stall : Word, answers (.tileDone t mac idle stall) s fun r =>
      if (u.st = 3 ∨ u.st = 4) ∧ u.doneExec = true ∧ u.reported = false ∧ u.staged = [] ∧ u.pendWrite = [] ∧ u.pendAcc = [] ∧ u.pendSet = [] ∧
          u.drain = none ∧ u.building = [] ∧ u.outbox = [] ∧ s.unlanded t.toNat = false ∧
          s.injHas 6 t.toNat = false then
        onlyTile s r t.toNat ∧ (r.tile t.toNat).reported = true ∧ bankReg R.TIL_PERF_MAC (r.tile t.toNat).regs = mac ∧
        bankReg R.TIL_PERF_NVW_IDLE (r.tile t.toNat).regs = idle ∧ bankReg R.TIL_PERF_STALL (r.tile t.toNat).regs = stall ∧
        tGet F.TIL_SEQ_WAIT (r.tile t.toNat) = 8
      else r = s)

/-- Enable, counts and the row log of a tile. -/
def Obligations.TileControl : Prop :=
  ∀ (s : State) (t : TileAddr) (v : Bool), tileOk t.toNat = true →
    let u := s.tile t.toNat
    let counts := [F.TIL_NVW_ERR_UE_COUNT, F.TIL_NVW_ERR_CE_COUNT, F.TIL_SP_ERR_UE_COUNT, F.TIL_SP_ERR_CE_COUNT, F.TIL_HAZ_COUNT_COUNT,
      F.TIL_ARITH_CLAMP_COUNT, F.TIL_ARITH_SAT_COUNT]
    let perf := [R.TIL_PERF_MAC, R.TIL_PERF_NVW_IDLE, R.TIL_PERF_STALL]
    if s.vlOn (fieldOf t.toNat) = true ∧ u.st ≠ 5 then
      (answers (.tilEnable t v) s fun r => tGet F.TIL_CTRL_ENABLE (r.tile t.toNat) = (if v then 1 else 0) ∧
        tileSameRegs u (r.tile t.toNat) [R.TIL_CTRL] ∧ (r.tile t.toNat).scratch = u.scratch ∧ (∀ b, b ≠ t.toNat → r.tile b = s.tile b)) ∧
      (answers (.tilClrCounts t) s fun r => onlyTile s r t.toNat ∧ (∀ f ∈ counts, tGet f (r.tile t.toNat) = 0) ∧
        (∀ a ∈ perf, bankReg (rkey a 0) (r.tile t.toNat).regs = 0) ∧ (∀ n, smGet 0 n (r.tile t.toNat).arr = 0) ∧
        tileSameRegs u (r.tile t.toNat) (counts.map Fld.reg ++ perf) ∧
        r.tile t.toNat = { u with regs := (r.tile t.toNat).regs, arr := (r.tile t.toNat).arr }) ∧
      (answers (.tilNvwLogRead t) s fun r => onlyTile s r t.toNat ∧ tGet F.TIL_NVW_LOG_BITS (r.tile t.toNat) = 0 ∧
        tGet F.TIL_NVW_LOG_ROW (r.tile t.toNat) = 0 ∧ tileSameRegs u (r.tile t.toNat) [R.TIL_NVW_LOG] ∧
        r.tile t.toNat = { u with regs := (r.tile t.toNat).regs })
    else keepsAll (.tilEnable t v) s ∧ keepsAll (.tilClrCounts t) s ∧ keepsAll (.tilNvwLogRead t) s

/-- Reads of weight rows. -/
def Obligations.RowReads : Prop :=
  ∀ (s : State) (t : TileAddr) (row errs : Nat) (row16 : BitVec 16) (sweep : Option (BitVec 16)), tileOk t.toNat = true →
    s.injHas 1 t.toNat = false →
    let u := s.tile t.toNat
    let asIs := fun (r : State) (n : Nat) => tRow false n (r.tile t.toNat) = smGetBytes (128 * n) 128 u.nvw ∧
      smGet false n (r.tile t.toNat).ueRows = false ∧ (r.tile t.toNat).nvw = u.nvw ∧ (r.tile t.toNat).poison = u.poison
    let same := fun (r : State) (n : Nat) => tRow false n (r.tile t.toNat) = tRow false n u ∧ (r.tile t.toNat).nvw = u.nvw ∧
      (r.tile t.toNat).poison = u.poison
    let counted := fun (r : State) =>
      tGet F.TIL_NVW_ERR_CE_COUNT (r.tile t.toNat) = min (2 ^ F.TIL_NVW_ERR_CE_COUNT.w - 1) (tGet F.TIL_NVW_ERR_CE_COUNT u + 1)
    ((u.st = 0 ∨ 65535 < row) → keepsAll (.nvwRowRead t row errs) s) ∧
    (u.st ≠ 0 → row ≤ 65535 →
      (answers (.nvwRowRead t row 0) s fun r => asIs r row ∧ (r.tile t.toNat).regs = u.regs) ∧
      (1 ≤ errs → errs ≤ 6 → answers (.nvwRowRead t row errs) s fun r => asIs r row ∧ counted r) ∧
      (answers (.nvwRowRead t row 7) s fun r => (r.tile t.toNat).nvw = u.nvw ∧
        tGet F.TIL_NVW_ERR_UE (r.tile t.toNat) = 1 ∧ smGet false row (r.tile t.toNat).ueRows = true) ∧
      (smGet false (rowKey t.toNat row) s.nvw.lastUe = false → answers (.nvwRowRead t row 7) s fun r =>
        tRow false row (r.tile t.toNat) = zeroBytes 128 ∧ ((∀ x ∈ u.staging, x.row ≠ row) → (r.tile t.toNat).poison = true) ∧
        ∀ x ∈ (r.tile t.toNat).staging, x.row = row → x.bad = true) ∧
      (7 < errs → answers (.nvwRowRead t row errs) s fun r => (r.tile t.toNat).nvw = u.nvw)) ∧
    (s.get F.NVW_CTRL_SCRUB_EN = 1 → u.st ≠ 0 → u.st ≠ 1 → u.programming = false →
      (answers (.nvwScrub t row16 0 sweep) s fun r => same r row16.toNat ∧ smGet false row16.toNat (r.tile t.toNat).ueRows = false) ∧
      (1 ≤ errs → errs ≤ 6 → answers (.nvwScrub t row16 errs sweep) s fun r => same r row16.toNat ∧ counted r ∧
        smGet false row16.toNat (r.tile t.toNat).ueRows = false) ∧
      (answers (.nvwScrub t row16 7 sweep) s fun r => same r row16.toNat ∧ smGet false row16.toNat (r.tile t.toNat).ueRows = true ∧
        r.get F.NVW_STATUS_SCRUB_UE = 1) ∧
      (7 < errs → answers (.nvwScrub t row16 errs sweep) s fun r => (r.tile t.toNat).nvw = u.nvw)) ∧
    ((u.st = 0 ∨ u.st = 1 ∨ u.programming = true) → answers (.nvwScrub t row16 errs sweep) s fun r => r.tiles = s.tiles ∧
      onlyRegs s r [R.NVW_SCRUB_STAT]) ∧
    (s.get F.NVW_CTRL_SCRUB_EN = 0 → keepsAll (.nvwScrub t row16 errs sweep) s)

/-- RUN, HALT and the statistics of the pick master. -/
def Obligations.PickMasterRunAndHalt : Prop :=
  ∀ s : State,
    (answers .pckRun s fun t =>
      if s.pickState = 0 ∧ s.get F.WRP_STATUS_LOADED = 1 ∧ s.get F.SNT_STATUS_REF_VALID = 1 ∧
          (∀ q : Fin 4, s.get F.VPA_DOM_STAT_STATE (48 + q.val) ≠ 6) ∧ s.nvw.hold = false then
        t.pickState = 1 ∧ t.pm.running = true ∧ t.pm.strobed = true ∧ t.pm.allDone = false ∧ t.held = [] ∧
        t.pm.pick = (if s.pm.strobed then (s.pm.pick + 1) % 2 ^ 48 else 0)
      else t = s) ∧
    (answers .pckRunClear s fun t => if s.pickState = 4 then setsFld s t F.PCK_STATUS_STATE 0 0 else t = s) ∧
    (answers .pckHalt s fun t =>
      if s.pickState = 1 ∨ s.pickState = 2 ∨ s.pickState = 3 then
        t.pickState = 4 ∧ t.pm.running = false ∧ t.pm.causes = 0 ∧ t.reed.lanes = [] ∧
        (∀ k, k % 4 < 2 → smGet [] k t.weft.bufs = []) ∧ (∀ k, 2 ≤ k % 4 → smGet [] k t.weft.bufs = smGet [] k s.weft.bufs) ∧
        t.spool.frames = s.spool.frames ∧ t.nvw = s.nvw
      else t = s) ∧
    (answers .resumeAdmit s fun t => setsFld s t F.PCK_STATUS_FLOOR 0 0) ∧
    (answers .clrStats s fun t => onlyBank s t ∧
      (∀ k, k % 2 ^ 26 ∉ [R.PCK_LAST_CY, R.PCK_MAX_CY, R.PCK_LATE_COUNT, R.PCK_STEP_COUNT] → bankReg k t.bank = bankReg k s.bank) ∧
      t.get F.PCK_LAST_CY_LAST = 0 ∧ t.get F.PCK_MAX_CY_MAX = 0 ∧ t.get F.PCK_LATE_COUNT_LATE = 0 ∧ t.get F.PCK_STEP_COUNT_STEPS = 0) ∧
    (answers .clrAll s fun t => onlyBank s t ∧ (∀ k, k % 2 ^ 26 ∉ arithRegs → bankReg k t.bank = bankReg k s.bank) ∧
      ∀ p, t.get F.PCK_ARITH_CLAMP_CLAMP_PICKS p = 0 ∧ t.get F.PCK_ARITH_SAT_SAT_PICKS p = 0 ∧
        ∀ n, n < 5 → t.get (F.PCK_ARITH_MAP_POS_BITS.nth n) = 0) ∧
    (answers .clrSel s fun t =>
      let p := s.get F.PCK_ARITH_SEL_POS
      if p ≤ 129 then
        onlyRegs s t [rkey R.PCK_ARITH_CLAMP p, rkey R.PCK_ARITH_SAT p, rkey R.PCK_ARITH_FIRST p, R.PCK_ARITH_MAP + 4 * (p / 32)] ∧
        t.get F.PCK_ARITH_CLAMP_CLAMP_PICKS p = 0 ∧ t.get F.PCK_ARITH_SAT_SAT_PICKS p = 0 ∧
        bitAt (t.get (F.PCK_ARITH_MAP_POS_BITS.nth (p / 32))) (p % 32) = false
      else t = s) ∧
    (answers .pckPickLoRead s fun t => t = { s with latch := t.latch } ∧
      smGet none R.PCK_PICK_HI t.latch = some (BitVec.ofNat 32 (s.pm.pick / 2 ^ 32)) ∧
      ∀ k, k ≠ R.PCK_PICK_HI → smGet none k t.latch = smGet none k s.latch)

/-- The strobe at a field. -/
def Obligations.Strobes : Prop :=
  ∀ (s : State) (f : Fin 60) (c0 c1 c2 : List Byte),
    (s.vsOn f.val = true → ∀ c, ([c0, c1, c2].find? fun c => decide (c.length = 9) && decide (crc8 (c.take 8) = leNat (c.drop 8))) = some c →
      answers (.strobeReceive f c0 c1 c2) s fun t => t = { s with pm := { s.pm with strobeAt := t.pm.strobeAt } } ∧
        smGet 0 f.val t.pm.strobeAt = leNat (c.take 8) + 1 ∧ ∀ g, g ≠ f.val → smGet 0 g t.pm.strobeAt = smGet 0 g s.pm.strobeAt) ∧
    (s.vsOn f.val = true → goodCopy c0 = false → goodCopy c1 = false → goodCopy c2 = false →
      answers (.strobeReceive f c0 c1 c2) s fun t => t.get F.WRP_STATUS_STROBE_ERR = 1 ∧ t.pm = s.pm ∧ t.tiles = s.tiles) ∧
    (s.vsOn f.val = false → keepsAll (.strobeReceive f c0 c1 c2) s) ∧
    (∀ m, s.vlOn f.val = true → smGet 0 f.val s.pm.strobeAt = m + 1 → canonical s →
      answers (.strobeFire f) s fun t => smGet 0 f.val t.pm.strobeAt = 0 ∧ t.pm.pick = s.pm.pick ∧
        (∀ a, fieldOf a ≠ f.val → t.tile a = s.tile a) ∧
        ∀ a, fieldOf a = f.val →
          let u := s.tile a
          let v := t.tile a
          let runs := v.st = 3 ∧ v.active = true ∧ v.pc = BitVec.ofNat 16 (smGet 0 (bitsOf m 48 2) u.entry)
          (u.st = 2 → tGet F.TIL_CTRL_ENABLE u = 1 → runs) ∧ (u.st = 2 → tGet F.TIL_CTRL_ENABLE u = 0 → v.st = 2) ∧
          (u.st = 3 → u.active = false → runs) ∧ (u.st = 3 → u.active = true → v.st = 3 ∧ v.strobeHeld = true ∧ v.pc = u.pc) ∧
          (u.st = 6 → u.reloaded = true → runs) ∧ (u.st = 0 ∨ u.st = 1 ∨ u.st = 5 → v = u) ∧ v.scratch = u.scratch ∧ v.nvw = u.nvw) ∧
    ((s.vlOn f.val = false ∨ smGet 0 f.val s.pm.strobeAt = 0) → keepsAll (.strobeFire f) s)

/-- All-done, the end of a pick and the done limit. -/
def Obligations.PickEnd : Prop :=
  ∀ (s : State) (last : Fin 60) (len : Nat),
    (answers (.allDone last) s fun t =>
      if s.pm.running = true ∧ s.pm.allDone = false ∧ (s.pm.reedDone = true ∨ s.get F.PCK_CHAIN_ROLE = 2) ∧
          (∀ f : Fin 60, s.fieldPending f.val = false) then
        t = { s with pm := { s.pm with allDone := true, lastField := last.val } }
      else t = s) ∧
    (let nom := s.get F.PCK_NOMINAL_CY_NOM
     let lag := s.get F.PCK_LAG_CY_LAG
     let target := max (s.get F.PCK_MIN_CY_MIN) ((nom : Int) - lag + s.pm.trim).toNat
     let lag' := min (2 ^ 32 - 1) (lag + len - nom)
     s.pickState = 1 → s.pm.running = true → s.pm.allDone = true → s.pm.chainFull = false → (s.strobeDrains = false ∨ s.pm.drainFast = false) →
     target ≤ len → (len ≤ max target (1024 * max 1 (s.cfg F.PCK_DONE_LIMIT_LIMIT)) ∨ s.pm.chainHeld = true) → s.changeDue = false →
     s.pm.causes = 0 → s.pm.hostStep = none → s.pm.drainStop = false → s.capDeeper = false → lag' ≤ max 1 (s.cfg F.PCK_LAG_BOUND_BOUND) * nom →
     answers (.pickEnd len) s fun t => t.get F.PCK_LAG_CY_LAG = lag' ∧ t.get F.PCK_LAST_CY_LAST = min len (2 ^ 32 - 1) ∧
       t.get F.PCK_MAX_CY_MAX = max (s.get F.PCK_MAX_CY_MAX) (min len (2 ^ 32 - 1)) ∧
       t.get F.PCK_LATE_COUNT_LATE = (if target < len then min (2 ^ 32 - 1) (s.get F.PCK_LATE_COUNT_LATE + 1) else s.get F.PCK_LATE_COUNT_LATE) ∧
       t.pickState = 1 ∧ t.pm.running = true ∧ t.pm.allDone = false ∧ t.pm.pick = s.nextPick ∧ t.held = []) ∧
    ((s.pm.running = false ∨ s.pm.allDone = false ∨ s.pm.chainFull = true ∨ len < s.target) → keepsAll (.pickEnd len) s) ∧
    (s.pm.running = true → s.pm.allDone = false → s.darkAfterHalt = none → answers .doneLimitExpired s fun t =>
      t.get F.PCK_STATUS_DONE_TIMEOUT = 1 ∧ t.get F.PCK_DONE_MISS_LO_FIELDS_LO = s.missBits 0 32 ∧
      t.get F.PCK_DONE_MISS_HI_FIELDS_HI = s.missBits 32 28 ∧ t.get F.PCK_DONE_MISS_HI_REED = (if s.reedPending then 1 else 0) ∧
      (s.pickState = 1 ∨ s.pickState = 2 ∨ s.pickState = 3 → t.pickState = 4 ∧ t.pm.running = false)) ∧
    ((s.pm.running = false ∨ s.pm.allDone = true) → keepsAll .doneLimitExpired s)

/-- Step requests, mode requests and drains. -/
def Obligations.StepsAndModes : Prop :=
  ∀ s : State,
    (∀ source : Fin 4, s.get F.PCK_CHAIN_ROLE ≠ 2 → s.pickState = 2 → s.pm.drainStop = false → answers (.stepRequest source) s fun t =>
      t.mode = s.mode ∧ t.level = s.level ∧ t.pickState = 2 ∧ t.pm.drainCount = s.pm.drainCount ∧
      (stepDown s.pat.modes s.mode s.level = none → t.get F.PCK_STATUS_FLOOR = 1) ∧
      t.pm.ceilPower = (if source = 1 then max s.pm.ceilPower (min 6 (depthOf s.mode s.level + 1)) else s.pm.ceilPower)) ∧
    (∀ source : Fin 4, s.get F.PCK_CHAIN_ROLE ≠ 2 → (s.pickState ≠ 2 ∨ s.pm.drainStop = true) → answers (.stepRequest source) s fun t =>
      t = { s with bank := t.bank, pm := t.pm } ∧ sameRegs s t [R.PCK_CEILING] ∧
      t.pm.causes = s.pm.causes ||| 2 ^ (source.val + 1) ∧
      t.pm.ceilPower = (if source = 1 then max s.pm.ceilPower (min 6 (depthOf s.mode s.level + 1)) else s.pm.ceilPower) ∧
      t.pm.ceilThermal = (if source = 2 then max s.pm.ceilThermal (min 6 (depthOf s.mode s.level + 1)) else s.pm.ceilThermal)) ∧
    (∀ (m : BitVec 2) (l : BitVec 3) (fast : Bool),
      let d := depthOf m.toNat l.toNat
      let refused := fun (t : State) (code : Nat) =>
        t.get F.PCK_MODE_STAT_RESULT = code ∧ t.mode = s.mode ∧ t.level = s.level ∧ t.pm = s.pm ∧ onlyRegs s t [R.PCK_MODE_CTRL, R.PCK_MODE_STAT]
      (s.modeBusy = true → answers (.modeRequest m l fast) s fun t => refused t 2) ∧
      (s.modeBusy = false → (4 < l.toNat ∨ (0 < l.toNat ∧ m.toNat ≤ 1)) → answers (.modeRequest m l fast) s fun t => refused t 5) ∧
      (s.modeBusy = false → l.toNat ≤ 4 → (m.toNat ≤ 1 → l = 0) → bitAt s.pat.modes m.toNat = false →
        answers (.modeRequest m l fast) s fun t => refused t 3) ∧
      (s.modeBusy = false → l.toNat ≤ 4 → (m.toNat ≤ 1 → l = 0) → bitAt s.pat.modes m.toNat = true →
        (d < s.get F.PCK_CEILING_DEPTH → answers (.modeRequest m l fast) s fun t => refused t 4) ∧
        (s.get F.PCK_CEILING_DEPTH ≤ d → s.pickState = 0 → answers (.modeRequest m l fast) s fun t =>
          t.get F.PCK_MODE_STAT_RESULT = 1 ∧ t.mode = m.toNat ∧ t.level = l.toNat ∧ t.pickState = 0 ∧
          (m.toNat ≠ s.mode ∨ l.toNat ≠ s.level →
            t.get F.PCK_NOMINAL_CY_NOM = nomOf m.toNat l.toNat ∧ t.get F.PCK_MIN_CY_MIN = minOf m.toNat l.toNat)) ∧
        (s.get F.PCK_CEILING_DEPTH ≤ d → s.pickState = 1 → s.mode ≤ 2 → m.toNat ≤ 2 → depthOf s.mode s.level < d →
          answers (.modeRequest m l fast) s fun t => t.pm.hostStep = some (m.toNat, l.toNat) ∧ t.mode = s.mode ∧ t.level = s.level))) ∧
    (∀ stop, s.pickState = 1 → answers (.drainBegin stop) s fun t => t = { s with bank := t.bank, pm := t.pm } ∧ t.pickState = 2 ∧
      onlyRegs { s with pm := t.pm } t [R.PCK_STATUS] ∧ t.pm.drainCount = 0 ∧ t.pm.drainStop = stop ∧
      t.pm.drainTarget = (if stop then none else s.pm.hostStep)) ∧
    (∀ stop, (s.pickState = 0 ∨ s.pickState = 4) → keepsAll (.drainBegin stop) s) ∧
    (s.pickState = 2 → s.pm.running = false → s.positions ≤ s.pm.drainCount → s.drainWaits = false → answers .drainEnd s fun t =>
      if s.pm.drainStop then t.pickState = 0 ∧ t.pm.drainStop = false ∧ t.mode = s.mode ∧ t.level = s.level
      else t.pickState = 3 ∧ t.pm.running = true ∧ t.pm.pick = s.nextPick) ∧
    ((s.pickState ≠ 2 ∨ s.pm.running = true ∨ s.pm.drainCount < s.positions) → keepsAll .drainEnd s)

/-- Chains of devices. -/
def Obligations.Chains : Prop :=
  ∀ (s : State) (port : Fin 16) (data : List Byte) (sp : BitVec 8) (sc pick : BitVec 16) (lane : BitVec 5) (mask : BitVec 32) (trim : Fin 17) (full : Bool),
    let timing := Instr.chainTiming port data sp sc trim full
    let handoff := Instr.handoff port pick lane data mask
    (s.portState port.val ≠ 3 → keepsAll timing s ∧ keepsAll handoff s) ∧
    (s.portState port.val = 3 → s.portRole port.val ≠ 3 →
      (answers timing s fun t => onlyRegs s t [rkey R.HLS_PORT_CRC port.val] ∧
        t.get F.HLS_PORT_CRC_BAD_TXN port.val = min (2 ^ F.HLS_PORT_CRC_BAD_TXN.w - 1) (s.get F.HLS_PORT_CRC_BAD_TXN port.val + 1)) ∧
      (answers handoff s fun t => onlyRegs s t [rkey R.HLS_PORT_CRC port.val] ∧
        t.get F.HLS_PORT_CRC_BAD_TXN port.val = min (2 ^ F.HLS_PORT_CRC_BAD_TXN.w - 1) (s.get F.HLS_PORT_CRC_BAD_TXN port.val + 1))) ∧
    (s.portState port.val = 3 → s.portRole port.val = 3 →
      (s.get F.PCK_CHAIN_ROLE = 2 → answers timing s fun t => t.get F.PCK_SKEW_SKEW_PICKS = sp.toNat ∧ t.get F.PCK_SKEW_SKEW_CY = sc.toNat ∧
        t.pm.chainFull = full ∧ t.pm.chainHeld = (s.pm.chainHeld || full) ∧ (full = true → t.get F.PCK_SKEW_MAX_EXCEEDED = 1) ∧
        t.pm.trim = (trim.val : Int) - 8 ∧ sameRegs s t [R.PCK_SKEW] ∧
        t = { s with bank := t.bank, pm := t.pm, free := t.free, out := t.out }) ∧
      (s.get F.PCK_CHAIN_ROLE = 1 → bitsOf (leNat (sliceB data 0 32)) 152 5 = 0 → answers timing s fun t =>
        t = { s with bank := t.bank, pm := { s.pm with chainFull := full, chainHeld := s.pm.chainHeld || full } } ∧
        sameRegs s t [R.PCK_SKEW] ∧ (full = true → t.get F.PCK_SKEW_MAX_EXCEEDED = 1)) ∧
      (answers handoff s fun t =>
        if s.chainBytes (s.get F.HLS_PORT_STAT_HOP port.val) + data.length ≤ 2 ^ 21 then
          t = { s with host := { s.host with chainBuf :=
            s.host.chainBuf ++ [(s.get F.HLS_PORT_STAT_HOP port.val, pick.toNat, lane.toNat, mask.toNat, data)] } }
        else t = s)) ∧
    (∀ m l c, m < 4 → l < 8 → s.pm.chainChange = some (s.nextPick, m, l, c) → s.pickState = 1 → s.pm.running = false →
      answers .chainChangeEffective s fun t => t.pm.running = true ∧ t.pm.pick = s.nextPick ∧
      t.mode = m ∧ t.level = l ∧ t.get F.PCK_LAG_CY_LAG = 0 ∧ t.pm.chainChange = none ∧
      t.get F.PCK_NOMINAL_CY_NOM = nomOf m l % 2 ^ 16 ∧ t.get F.PCK_MIN_CY_MIN = minOf m l % 2 ^ 16 ∧
      t.get F.PCK_STEP_COUNT_STEPS = min (2 ^ F.PCK_STEP_COUNT_STEPS.w - 1) (s.get F.PCK_STEP_COUNT_STEPS + 1)) ∧
    ((s.pm.chainChange = none ∨ s.pm.running = true ∨ s.pickState ≠ 1) → keepsAll .chainChangeEffective s)

/-- Routing the shuttle at the head of a buffer. -/
def Obligations.ShuttleRouting : Prop :=
  ∀ (s : State) (r : TileAddr) (port : Fin 6) (vc : Fin 4) (sh : Shuttle) (rest : List Shuttle), tileOk r.toNat = true →
    let run := Instr.shuttleRoute r port vc 0
    let own := bufKey r.toNat port.val vc.val
    let left := fun (t : State) => t.buf r.toNat port.val vc.val = rest ∧ (∀ b, b ≠ r.toNat → t.tile b = s.tile b)
    let othersStay := fun (t : State) => ∀ k, k ≠ own → smGet [] k t.weft.bufs = smGet [] k s.weft.bufs
    let discarded := fun (t : State) (bit count : Fld) => left t ∧ othersStay t ∧ t.get bit = 1 ∧
      t.get count = min (2 ^ count.w - 1) (s.get count + 1) ∧ (t.tile r.toNat).inbox = (s.tile r.toNat).inbox ∧
      sameRegs s t [bit.reg, count.reg, R.WFT_ERR_CAP0, R.WFT_ERR_CAP1, R.DMP_SUPPRESSED, R.DMP_STATUS]
    let ejected := fun (t : State) (x : Shuttle) => left t ∧ othersStay t ∧
      t.tile r.toNat = (if hKind sh.hdr = 5 then { s.tile r.toNat with
          spOut := rspArrive (hSrc sh.hdr) (s.tile r.toNat).spOut, outbox := (t.tile r.toNat).outbox }
        else { s.tile r.toNat with inbox := (s.tile r.toNat).inbox ++ [x], outbox := (t.tile r.toNat).outbox })
    (s.buf r.toNat port.val vc.val = [] → ∀ e, keepsAll (.shuttleRoute r port vc e) s) ∧
    (s.vsOn (fieldOf r.toNat) = false → keepsAll run s) ∧
    (s.vsOn (fieldOf r.toNat) = true → s.buf r.toNat port.val vc.val = sh :: rest → hVc sh.hdr = vc.val →
      (kindVc (hKind sh.hdr) ≠ some vc.val → answers run s fun t => discarded t F.WFT_STATUS_KIND F.WFT_DROP_COUNT_DROPS) ∧
      (kindVc (hKind sh.hdr) = some vc.val → hKind sh.hdr = 1 → s.weft.mcastMask r.toNat (hGroup sh.hdr) = some 16 →
        smGet 0 own s.weft.copied = 0 → s.deaf r.toNat = false → answers run s fun t => ejected t sh ∧ t.bank = s.bank) ∧
      (kindVc (hKind sh.hdr) = some vc.val → hKind sh.hdr ≠ 1 → hKind sh.hdr ≠ 2 → hKind sh.hdr ≠ 3 →
        (s.unicastPort r.toNat sh = none → answers run s fun t => discarded t F.WFT_STATUS_NO_ROUTE F.WFT_DROP_COUNT_DROPS) ∧
        (s.unicastPort r.toNat sh = some 4 → s.deaf r.toNat = true →
          answers run s fun t => discarded t F.WFT_STATUS_DEST_OFF F.WFT_DROP_COUNT_DROPS) ∧
        (s.unicastPort r.toNat sh = some 4 → s.deaf r.toNat = false →
          (answers run s fun t => ejected t sh ∧ t.bank = s.bank) ∧
          (answers (.shuttleRoute r port vc 1) s fun t => ejected t sh ∧
            t.get F.WFT_RTR_RETRY_CE r.toNat = min (2 ^ F.WFT_RTR_RETRY_CE.w - 1) (s.get F.WFT_RTR_RETRY_CE r.toNat + 1)) ∧
          (answers (.shuttleRoute r port vc 2) s fun t => ejected t (poisoned sh) ∧ t.get F.WFT_STATUS_BUF_UE = 1)) ∧
        (∀ p, p < 4 → s.unicastPort r.toNat sh = some p →
          (hHops sh.hdr = 0 → answers run s fun t => discarded t F.WFT_STATUS_HOP F.WFT_HOP_COUNT_HOPS) ∧
          (hHops sh.hdr ≠ 0 → s.canLeave r.toNat p sh = false → keepsAll run s) ∧
          (∀ n q, hHops sh.hdr ≠ 0 → s.canLeave r.toNat p sh = true → neigh r.toNat p = .mesh n q →
            answers run s fun t => left t ∧ othersStay t ∧ t.bank = s.bank ∧ t.out = s.out ∧ (t.tile r.toNat).inbox = (s.tile r.toNat).inbox ∧
              let l := s.weft.txAt (linkKey r.toNat p)
              t.weft.txAt (linkKey r.toNat p) =
                { l with wait := l.wait ++ flitsOfShuttle (hopped sh) }.pump (retryCap r.toNat p))))) ∧
    (s.vsOn (fieldOf r.toNat) = true → s.buf r.toNat port.val vc.val = sh :: rest → port.val ≠ 4 → vc.val = 3 → hVc sh.hdr = 3 →
      hKind sh.hdr = 4 → s.unicastPort r.toNat sh = some 5 →
      (s.spoolTakes r.toNat = false → keepsAll run s) ∧
      (s.spoolTakes r.toNat = true → answers run s fun t => t.buf r.toNat port.val vc.val = rest ∧ t.bank = s.bank ∧
        t.tile (hSrc sh.hdr) = { s.tile (hSrc sh.hdr) with spReqs := reqArrive r.toNat (s.tile (hSrc sh.hdr)).spReqs } ∧
        ∀ b, b ≠ hSrc sh.hdr → t.tile b = s.tile b))

/-- Fold arrivals and their combination. -/
def Obligations.Folds : Prop :=
  ∀ (s : State) (r : TileAddr) (port : Fin 6) (sh : Shuttle) (rest : List Shuttle) (coll : Bool) (mask out n : Nat), tileOk r.toNat = true →
    let g := hGroup sh.hdr
    let fresh := CombSlot.mk r.toNat g (hChunk sh.hdr) (hPick sh.hdr) (hKind sh.hdr) (hFmt sh.hdr) (hNblk sh.hdr) [port.val] (foldVals sh)
      (hContrib sh.hdr) (hHops sh.hdr) (hPoison sh.hdr) sh.hdr
    (s.buf r.toNat port.val 0 = [] → keepsAll (.foldArrival r port) s) ∧
    (s.buf r.toNat port.val 0 = sh :: rest → hVc sh.hdr = 0 → (hKind sh.hdr = 2 ∨ hKind sh.hdr = 3) →
      s.weft.foldEntry r.toNat g = some (coll, mask, out, n) → bitAt mask port.val = true →
      (s.weft.slots.find? (fun c => c.is r.toNat g (hChunk sh.hdr) (hPick sh.hdr)) = none →
        ((s.weft.slotsAt r.toNat).length < 8 → answers (.foldArrival r port) s fun t => t.buf r.toNat port.val 0 = rest ∧
          t.weft.slots = s.weft.slots ++ [fresh] ∧ t.bank = s.bank ∧ ∀ b, b ≠ r.toNat → t.tile b = s.tile b) ∧
        (8 ≤ (s.weft.slotsAt r.toNat).length → keepsAll (.foldArrival r port) s)) ∧
      (∀ c : CombSlot, s.weft.slots = [c] → c.is r.toNat g (hChunk sh.hdr) (hPick sh.hdr) = true → port.val ∉ c.ports →
        hKind sh.hdr = c.kind → hFmt sh.hdr = c.fmt → hNblk sh.hdr = c.nblk →
        answers (.foldArrival r port) s fun t => t.buf r.toNat port.val 0 = rest ∧ t.bank = s.bank ∧ t.weft.slots =
          [{ c with vals := if c.vals = [] then foldVals sh else foldCombine c.kind c.vals (foldVals sh), contrib := c.contrib + hContrib sh.hdr, hops := min c.hops (hHops sh.hdr),
                    poison := c.poison || hPoison sh.hdr, ports := c.ports ++ [port.val] }])) ∧
    (∀ (c : CombSlot) (group chunk : BitVec 12) (pick : BitVec 16), s.weft.slots = [c] → c.is r.toNat group.toNat chunk.toNat pick.toNat = true →
      s.weft.foldEntry r.toNat group.toNat = some (coll, mask, out, n) →
      let done := Instr.foldCombineComplete r group chunk pick
      ((∃ p, p < 6 ∧ bitAt mask p = true ∧ p ∉ c.ports) → keepsAll done s) ∧
      ((∀ p, p < 6 → bitAt mask p = true → p ∈ c.ports) → coll = true → s.deaf r.toNat = false →
        hKind (c.shuttle (c.poison || decide (c.contrib ≠ n))).hdr ≠ 5 → answers done s fun t =>
        t.weft.slots = [] ∧ t.weft.bufs = s.weft.bufs ∧ (∀ b, b ≠ r.toNat → t.tile b = s.tile b) ∧
        t.tile r.toNat = { s.tile r.toNat with inbox := (s.tile r.toNat).inbox ++ [c.shuttle (c.poison || decide (c.contrib ≠ n))] } ∧
        if c.contrib = n then t.bank = s.bank else t.get F.WFT_STATUS_FOLD_COUNT = 1))

/-- The weft link protocol. -/
def Obligations.WeftLinks : Prop :=
  ∀ (s : State) (r : TileAddr) (port : Fin 4), tileOk r.toNat = true →
    let k := linkKey r.toNat port.val
    (∀ (xovr : Bool) (flit : List (BitVec 8)) (side : BitVec 32), (∀ x, crcTarget r.toNat port.val = some x → s.injHas 4 x = false) →
      let run := Instr.flitReceive r port flit side xovr
      let runs := xovr = true ∧ (portSeam r.toNat port.val).isSome = true
      let good := crc16 (flit ++ leBytes 2 (side.toNat / 65536)) = side.toNat % 65536
      let want := smGet 0 k s.weft.rxSeq
      let counted := fun (t : State) => t.get F.WFT_CRC_COUNT_CRC = min (2 ^ F.WFT_CRC_COUNT_CRC.w - 1) (s.get F.WFT_CRC_COUNT_CRC + 1) ∧
        t.out = s.out ++ [.weftNak r.toNat port.val want] ∧ t.weft.rxSeq = s.weft.rxSeq ∧ t.weft.bufs = s.weft.bufs ∧ t.tiles = s.tiles
      (s.linkState r.toNat port.val ≠ 3 → keepsAll run s) ∧
      (s.linkState r.toNat port.val = 3 → runs → answers run s fun t => counted t ∧ t.get F.CLK_STATUS_XOVR = 1 ∧
        sameRegs s t [R.WFT_CRC_COUNT, R.CLK_STATUS, rkey R.CLK_XCLASS_STAT 1]) ∧
      (s.linkState r.toNat port.val = 3 → ¬ runs → ¬ good → answers run s fun t => counted t ∧ sameRegs s t [R.WFT_CRC_COUNT]) ∧
      (s.linkState r.toNat port.val = 3 → ¬ runs → good → bitsOf side.toNat 21 6 = want → s.weft.voided r.toNat port.val want = false →
        answers run s fun t => t = { s with weft := t.weft } ∧ smGet 0 k t.weft.rxSeq = (want + 1) % 64 ∧ smGet false k t.weft.nak = false ∧
          t.weft.links = s.weft.links ∧
          (bitsOf side.toNat 18 2 = 1 → bitAt side.toNat 20 = true →
            t.buf r.toNat port.val (bitsOf side.toNat 16 2) = s.buf r.toNat port.val (bitsOf side.toNat 16 2) ++ [shuttleOf flit]) ∧
          (bitsOf side.toNat 18 2 = 1 → bitAt side.toNat 20 = false → t.weft.bufs = s.weft.bufs ∧
            smGet [] (bufKey r.toNat port.val (bitsOf side.toNat 16 2)) t.weft.part = flit) ∧
          (∀ n p f fs, linkEnd r.toNat port.val = some (n, p) → (s.weft.txAt (linkKey n p)).keep = f :: fs → f.seq = want →
            t.weft.txAt (linkKey n p) = { s.weft.txAt (linkKey n p) with keep := fs }.pump (retryCap n p))) ∧
      (s.linkState r.toNat port.val = 3 → ¬ runs → good → bitsOf side.toNat 21 6 ≠ want →
        (smGet false k s.weft.nak = true → keepsAll run s) ∧
        (smGet false k s.weft.nak = false → answers run s fun t => t.out = s.out ++ [.weftNak r.toNat port.val want] ∧
          t.bank = s.bank ∧ t.weft.rxSeq = s.weft.rxSeq ∧ smGet false k t.weft.nak = true))) ∧
    (∀ seq : BitVec 6,
      let l := s.weft.txAt k
      (s.linkState r.toNat port.val ≠ 3 → keepsAll (.nakReceived r port seq) s) ∧
      ((∀ f ∈ l.keep, f.seq ≠ seq.toNat) → keepsAll (.nakReceived r port seq) s) ∧
      (∀ i, s.linkState r.toNat port.val = 3 → l.keep.findIdx? (fun f => decide (f.seq = seq.toNat)) = some i →
        answers (.nakReceived r port seq) s fun t =>
          let n := (l.keep.drop i).length
          t.out = s.out ++ [.weftResend r.toNat port.val seq.toNat n] ∧ t.weft.bufs = s.weft.bufs ∧
          t.get F.WFT_RTR_RETRY_RETRIES r.toNat = min (2 ^ F.WFT_RTR_RETRY_RETRIES.w - 1) (s.get F.WFT_RTR_RETRY_RETRIES r.toNat + n) ∧
          t.weft.txAt k = { l with keep := l.keep.drop i }.pump (retryCap r.toNat port.val) ∧
          (smGet (0, 0) k t.weft.resent).1 = seq.toNat)) ∧
    (s.linkState r.toNat port.val = 3 → 8 ≤ (smGet (0, 0) k s.weft.resent).2 → answers (.linkRetrain r port) s fun t =>
      smGet 0 k t.weft.links = (if (portSeam r.toNat port.val).isSome then 2 else 4) ∧ (smGet (0, 0) k t.weft.resent).2 = 0 ∧
      if (portSeam r.toNat port.val).isSome then t.bank = s.bank else t.get F.WFT_STATUS_LINK_FAIL = 1) ∧
    ((s.linkState r.toNat port.val ≠ 3 ∨ (smGet (0, 0) k s.weft.resent).2 < 8) → keepsAll (.linkRetrain r port) s) ∧
    (∀ (seam : Fin 120) (channel : BitVec 7) (ok : Bool),
      let rp := seamPort seam.val channel.toNat
      let run := Instr.seamTrainingComplete seam channel ok
      (seamChannels seam.val ≤ channel.toNat → exec run s = .fault .noTile) ∧
      (channel.toNat < seamChannels seam.val → s.linkState rp.1 rp.2 ≠ 2 → keepsAll run s) ∧
      (channel.toNat < seamChannels seam.val → s.linkState rp.1 rp.2 = 2 → answers run s fun t =>
        t.tiles = s.tiles ∧ smGet 0 (linkKey rp.1 rp.2) t.weft.links = (if ok then 3 else 4) ∧
        if ok then t.get F.CLK_SEAM_FILL_NOW (seam.val * 128 + channel.toNat) = 4 else t.get F.WFT_STATUS_LINK_FAIL = 1))

/-- The weft watchdog, congestion maps and counts. -/
def Obligations.WatchdogMapAndCounts : Prop :=
  ∀ s : State,
    (∀ (r : TileAddr) (port : Fin 6) (vc : Fin 4), tileOk r.toNat = true →
      let k := bufKey r.toNat port.val vc.val
      if s.get F.WFT_CTRL_WDOG_EN = 1 ∧ s.buf r.toNat port.val vc.val ≠ [] ∧ (s.get F.WFT_STATUS_WDOG = 0 ∨ k ∉ s.weft.wdog) then
        answers (.weftWatchdog r port vc) s fun t => t.get F.WFT_STATUS_WDOG = 1 ∧ k ∈ t.weft.wdog ∧ t.weft.bufs = s.weft.bufs ∧
          t.tiles = s.tiles ∧ sameRegs s t [R.WFT_STATUS, R.WFT_ERR_CAP0, R.WFT_ERR_CAP1, R.DMP_SUPPRESSED, R.DMP_STATUS]
      else keepsAll (.weftWatchdog r port vc) s) ∧
    (∀ l : List (TileAddr × BitVec 32), answers (.congestionMap l) s fun t =>
      t = { s with bank := t.bank, weft := { s.weft with cmapCodes := t.weft.cmapCodes }, out := t.out } ∧
      (∀ r, t.reg R.WFT_RTR_BLOCK r = regReset (rkey R.WFT_RTR_BLOCK r)) ∧
      if s.get F.WFT_CTRL_CMAP_EN = 1 then
        match s.hostPort 0 with
        | none => t.get F.WFT_STATUS_CMAP_LATE = 1 ∧ t.out = s.out
        | some p =>
          let seq := s.get F.WFT_CMAP_SEQ_SEQ + 1
          let depth := if s.get F.WFT_CMAP_DEPTH_DEPTH = 0 then 256 else s.get F.WFT_CMAP_DEPTH_DEPTH
          t.get F.WFT_CMAP_SEQ_SEQ = seq % 2 ^ F.WFT_CMAP_SEQ_SEQ.w ∧
          ∃ d, d.take 8 = leBytes 8 seq ∧ d.length = 138304 ∧ t.out = s.out ++ memWrs p 2
            (s.get F.WFT_CMAP_BASE_LO_ADDR_LO * 4096 + s.get F.WFT_CMAP_BASE_HI_ADDR_HI * 2 ^ 32 + (seq - 1) % depth * 139264) d
      else t.out = s.out ∧ ∀ k, k % 2 ^ 26 ≠ R.WFT_RTR_BLOCK → bankReg k t.bank = bankReg k s.bank) ∧
    (answers .wftClrCounts s fun t => onlyBank s t ∧ (∀ k, k % 2 ^ 26 ∉ weftCountKeys → bankReg k t.bank = bankReg k s.bank) ∧
      t.get F.WFT_HOP_COUNT_HOPS = 0 ∧ t.get F.WFT_DROP_COUNT_DROPS = 0 ∧ t.get F.WFT_CRC_COUNT_CRC = 0 ∧
      t.get F.WFT_RETRAIN_COUNT_RETRAINS = 0 ∧ t.get F.WFT_FOLD_ERR_COUNT_FOLDS = 0 ∧ ∀ r, t.get F.WFT_RTR_RETRY_RETRIES r = 0)

/-- Swatch tests of a seam. -/
def Obligations.SeamTests : Prop :=
  ∀ (s : State) (depth : BitVec 2) (seam channel : BitVec 7) (flitsK : BitVec 15) (errs : Nat) (first : BitVec 7),
    let start := Instr.wftSwatchStart depth seam channel flitsK
    let exists' := seam.toNat ≤ 119 ∧ (channel.toNat = 127 ∨ channel.toNat < seamChannels seam.toNat)
    let training := (swatchChannels seam.toNat channel.toNat).any
      (fun c => decide (s.linkState (seamPort seam.toNat c).1 (seamPort seam.toNat c).2 = 2)) = true
    let used := s.pickState ≠ 0 ∧ s.get F.WRP_STATUS_LOADED = 1 ∧
      (swatchChannels seam.toNat channel.toNat).any (fun c => s.seamUsed seam.toNat c) = true
    let refused := fun (t : State) (code : Nat) => t.get F.WFT_SWATCH_STAT_RESULT = code ∧ onlyRegs s t [R.WFT_SWATCH_CTRL, R.WFT_SWATCH_STAT]
    (¬ exists' → answers start s fun t => refused t 6) ∧
    (exists' → s.weft.swatch ≠ none → answers start s fun t => refused t 4) ∧
    (exists' → s.weft.swatch = none → s.seamPower seam.toNat = false → answers start s fun t => refused t 5) ∧
    (exists' → s.weft.swatch = none → s.seamPower seam.toNat = true →
      (used ∨ training → answers start s fun t => refused t 4) ∧
      (¬ used → ¬ training → answers start s fun t => t.get F.WFT_SWATCH_STAT_RESULT = 1 ∧ t.get F.WFT_SWATCH_STAT_ERR_FLITS = 0 ∧
        t.weft.swatch.isSome = true ∧ t.get F.WFT_STATUS_SWATCH_DONE = 0 ∧ t = { s with bank := t.bank, weft := t.weft } ∧
        t.weft.bufs = s.weft.bufs ∧ sameRegs s t [R.WFT_SWATCH_CTRL, R.WFT_SWATCH_STAT, R.WFT_STATUS, R.WFT_SWATCH_CH])) ∧
    (s.weft.swatch = none → keepsAll (.wftSwatchComplete errs first) s) ∧
    (s.weft.swatch ≠ none → answers (.wftSwatchComplete errs first) s fun t => t.weft.swatch = none ∧ t.get F.WFT_STATUS_SWATCH_DONE = 1 ∧
      t.get F.WFT_SWATCH_STAT_RESULT = (if errs = 0 then 2 else 3) ∧ t.get F.WFT_SWATCH_STAT_ERR_FLITS = min errs (2 ^ 28 - 1) ∧
      t.weft.bufs = s.weft.bufs ∧ (errs ≠ 0 → t.get F.WFT_SWATCH_CH_CH = first.toNat ∧ t.get F.WFT_SWATCH_CH_VALID = 1))

/-- Spool writes. -/
def Obligations.SpoolWrites : Prop :=
  ∀ (s : State) (t : TileAddr) (skein : BitVec 12) (root : BitVec 26) (used : Nat) (r : SpoolReq) (rest : List SpoolReq), tileOk t.toNat = true →
    let run := Instr.spoolWriteAccept t skein root used
    let u := s.tile t.toNat
    let units := (r.data.length + 1023) / 1024
    ((∀ q ∈ u.spReqs, q.write = false ∨ q.away ≠ 0) → keepsAll run s) ∧
    (u.spReqs = r :: rest → r.write = true → r.away = 0 → r.xlat = none → s.spool.xcFind (fieldOf t.toNat) skein.toNat r.sva = none → keepsAll run s) ∧
    (∀ f, u.spReqs = r :: rest → r.write = true → r.away = 0 → r.xlat = some (some f) →
      let band := svaBand r.sva
      let bsa := f * frameBytes + svaOff r.sva
      let c := s.chanAt band bsa
      let held := min used (smGet 0 c s.spool.wbuf)
      let others := fun (v : State) => ∀ b, b ≠ t.toNat → v.tile b = s.tile b
      let answered := fun (v : State) (fault : Bool) => others v ∧
        v.tile t.toNat = { u with spReqs := rest, spOut := u.spOut ++ [⟨r.id, true, r.line, fault, [], r.ctrl, 1⟩] } ∧
        v.buf r.ctrl 5 2 = s.buf r.ctrl 5 2 ++ spoolShuttles 5 2 t.toNat r.ctrl false r.line r.sva []
      (s.ctrlOf band bsa ≠ r.ctrl → answers run s fun v => others v ∧ v.bank = s.bank ∧ v.spool = s.spool ∧
        let shs := spoolShuttles 4 3 (s.ctrlOf band bsa) t.toNat r.poison r.line r.sva r.data
        v.tile t.toNat = { u with spReqs := rest ++ [{ r with ctrl := s.ctrlOf band bsa, away := shs.length }] } ∧
        v.buf r.ctrl 5 3 = s.buf r.ctrl 5 3 ++ shs) ∧
      (s.ctrlOf band bsa = r.ctrl →
        (s.chDown band bsa r.data.length = true → answers run s fun v => answered v true ∧ v.spool = s.spool ∧
          v.get F.SPL_STATUS_XLAT = 1 ∧ v.get F.SPL_XLAT_COUNT_FAULTS = min (2 ^ F.SPL_XLAT_COUNT_FAULTS.w - 1) (s.get F.SPL_XLAT_COUNT_FAULTS + 1) ∧
          (s.get F.SPL_STATUS_XLAT = 0 →
            v.reg R.SPL_FAULT_CAP0 = BitVec.ofNat 32 (7 * 2 ^ 28 + fieldOf t.toNat * 2 ^ 22 + skein.toNat))) ∧
        (s.chDown band bsa r.data.length = false → 64 < held + units → answers run s fun v => setsFld s v F.SPL_STATUS_WBUF_STALL 0 1) ∧
        (s.chDown band bsa r.data.length = false → held + units ≤ 64 → answers run s fun v => answered v false ∧
          v.spool.tbl = s.spool.tbl ∧ v.spool.frames = s.spool.frames ∧ smGet 0 c v.spool.wbuf = held + units ∧
          ∀ d o, r.poison = false → r.data ≠ [] → bsa % 1024 + r.data.length ≤ 1024 → s.pat.bsaAt band bsa = some (d, o) →
            ∀ x, smGet 0 x v.spool.dram = if dramKey d o ≤ x ∧ x < dramKey d o + r.data.length then r.data.getD (x - dramKey d o) 0
              else smGet 0 x s.spool.dram)))

/-- Spool reads, translation and responses. -/
def Obligations.SpoolReadsAndWalks : Prop :=
  ∀ (s : State) (t : TileAddr) (skein : BitVec 12) (root : BitVec 26) (pos : BitVec 40) (r : SpoolReq) (rest : List SpoolReq), tileOk t.toNat = true →
    let u := s.tile t.toNat
    let fld := fieldOf t.toNat
    let others := fun (v : State) => ∀ b, b ≠ t.toNat → v.tile b = s.tile b
    let reply := fun (v : State) (fault : Bool) (d : List Byte) => others v ∧ (v.tile t.toNat).spReqs = rest ∧
      (v.tile t.toNat).spOut = u.spOut ++ [⟨r.id, r.write, r.line, fault, d, r.ctrl, (spoolShuttles 5 2 t.toNat r.ctrl false r.line r.sva d).length⟩] ∧
      v.buf r.ctrl 5 2 = s.buf r.ctrl 5 2 ++ spoolShuttles 5 2 t.toNat r.ctrl false r.line r.sva d ∧ v.spool.dram = s.spool.dram ∧
      (fault = true → v.get F.SPL_STATUS_XLAT = 1)
    let read := fun (ue : List (Fin 64)) => Instr.spoolRead t skein root pos 0 ue
    ((∀ q ∈ u.spReqs, q.write = true ∨ q.away ≠ 0) → ∀ ue, keepsAll (read ue) s) ∧
    (u.spReqs = r :: rest → r.write = false → r.away = 0 → r.xlat = some none → ∀ ue, answers (read ue) s fun v => reply v true []) ∧
    (∀ f, u.spReqs = r :: rest → r.write = false → r.away = 0 → r.xlat = some (some f) →
      let band := svaBand r.sva
      let bsa := f * frameBytes + svaOff r.sva
      let n := 64 * r.units
      (s.ctrlOf band bsa ≠ r.ctrl → ∀ ue, answers (read ue) s fun v => others v ∧ v.bank = s.bank ∧ v.spool = s.spool ∧
        let shs := spoolShuttles 4 3 (s.ctrlOf band bsa) t.toNat r.poison r.line r.sva r.data
        v.tile t.toNat = { u with spReqs := rest ++ [{ r with ctrl := s.ctrlOf band bsa, away := shs.length }] } ∧
        v.buf r.ctrl 5 3 = s.buf r.ctrl 5 3 ++ shs) ∧
      (s.ctrlOf band bsa = r.ctrl → s.injHas 5 (s.chanAt band bsa) = false →
        (s.chDown band bsa n = true → ∀ ue, answers (read ue) s fun v => reply v true []) ∧
        (s.chDown band bsa n = false →
          (∀ i : Fin 64, i.val < r.units → answers (read [i]) s fun v => reply v true [] ∧ v.get F.SPL_STATUS_ECC_UE = 1 ∧
            v.get F.SPL_ECC_UE_UE = min (2 ^ F.SPL_ECC_UE_UE.w - 1) (s.get F.SPL_ECC_UE_UE + 1) ∧ v.get F.SPL_ECC_LOG0_VALID = 1 ∧
            (s.get F.SPL_ECC_LOG0_VALID = 1 → v.get F.SPL_ECC_LOG0_OVF = 1)) ∧
          (s.dataFaults band (svaArea r.sva) f pos.toNat (svaOff r.sva) n = [] →
            answers (read []) s fun v => reply v false (s.poolRead band bsa n) ∧
              (v.tile t.toNat).poison = (u.poison || s.dataPoison band (svaArea r.sva) f (svaOff r.sva) n)) ∧
          (s.dataFaults band (svaArea r.sva) f pos.toNat (svaOff r.sva) n ≠ [] → answers (read []) s fun v => reply v true [])))) ∧
    (u.spReqs = r :: rest → r.xlat = none → r.away = 0 →
      (s.spool.xcFind fld skein.toNat r.sva ≠ none → ∀ ue, keepsAll (.translationWalk t skein root ue) s) ∧
      (s.spool.xcFind fld skein.toNat r.sva = none →
        let walk := fun (ue : Option (Fin 3)) => Instr.translationWalk t skein root ue
        let keys := s.spool.walkKeys root.toNat r.sva
        let given := fun (v : State) (x : Option Nat) => others v ∧
          (v.tile t.toNat) = { u with spReqs := setXlat r.id x (r :: rest) } ∧
          v.get F.SPL_XC_MISS_MISSES fld = min (2 ^ F.SPL_XC_MISS_MISSES.w - 1) (s.get F.SPL_XC_MISS_MISSES fld + 1)
        (keys.any s.tblDown = true → ∀ ue, answers (walk ue) s fun v => reply v true []) ∧
        (keys.any s.tblDown = false →
          (∀ i : Fin 3, i.val < keys.length → answers (walk (some i)) s fun v => reply v true [] ∧ v.get F.SPL_STATUS_ECC_UE = 1 ∧
            v.get F.SPL_ECC_UE_UE = min (2 ^ F.SPL_ECC_UE_UE.w - 1) (s.get F.SPL_ECC_UE_UE + 1)) ∧
          (∀ code, s.spool.walk root.toNat r.sva = .fault code → answers (walk none) s fun v => reply v true []) ∧
          (s.spool.walk root.toNat r.sva = .missing → answers (walk none) s fun v =>
            if r.write = true then given v none else reply v true []) ∧
          (∀ k e, s.spool.walk root.toNat r.sva = .leaf k e → answers (walk none) s fun v =>
            if eSwapped e = true then reply v true []
            else given v (some (eFrame e)) ∧ v.spool.xcFind fld skein.toNat r.sva = some (eFrame e))))) ∧
    (∀ (p : SpoolRsp) (ps : List SpoolRsp), u.spOut = p :: ps → p.away = 0 → answers (.spoolResponse t) s fun v => tileBecomes s v t
      { u with spOut := ps, spIn := u.spIn ++ [p], spWrites := (if p.write then u.spWrites - 1 else u.spWrites),
               spReads := (if p.write then u.spReads else u.spReads - 1) }) ∧
    ((∀ p ∈ u.spOut, p.away ≠ 0) → answers (.spoolResponse t) s fun v => tileBecomes s v t u)

/-- Channels, scrub, tests and counts of the spool. -/
def Obligations.SpoolMaintenance : Prop :=
  ∀ (s : State) (f : Fin 60) (ch : Fin 64),
    let c := f.val * 64 + ch.val
    (∀ temp : BitVec 8, answers (.dramRefresh f ch temp) s fun t => setsFld s t F.SPL_CH_STATE_TEMP c temp.toNat) ∧
    (∀ line : BitVec 25,
      (s.get F.SPL_CTRL_SCRUB_EN = 0 ∨ s.chState c ≠ 2 → ∀ e, keepsAll (.spoolScrub f ch line e) s) ∧
      (s.get F.SPL_CTRL_SCRUB_EN = 1 → s.chState c = 2 → keepsAll (.spoolScrub f ch line 0) s ∧
        (answers (.spoolScrub f ch line 1) s fun t => setsFld s t F.SPL_ECC_CE_CE 0 (min (2 ^ F.SPL_ECC_CE_CE.w - 1) (s.get F.SPL_ECC_CE_CE + 1))) ∧
        (answers (.spoolScrub f ch line 2) s fun t => t.get F.SPL_STATUS_SCRUB_UE = 1 ∧
          onlyRegs s t [R.SPL_STATUS, R.SPL_ECC_LOG0, R.SPL_ECC_LOG1] ∧
          if s.get F.SPL_ECC_LOG0_VALID = 1 then t.get F.SPL_ECC_LOG0_OVF = 1
          else t.get F.SPL_ECC_LOG0_VALID = 1 ∧ t.get F.SPL_ECC_LOG0_SCRUB = 1 ∧ t.get F.SPL_ECC_LOG0_FIELD = f.val ∧
            t.get F.SPL_ECC_LOG0_CHANNEL = ch.val ∧ t.get F.SPL_ECC_LOG1_LINE = line.toNat))) ∧
    (s.chState c = 0 → keepsAll (.spoolChannelFail f ch) s) ∧
    (s.chState c ≠ 0 → s.get F.WRP_STATUS_LOADED = 0 → s.ld.load = none → answers (.spoolChannelFail f ch) s fun t =>
      t.chState c = 3 ∧ t.get F.SPL_STATUS_CH_FAIL = 1 ∧ t = { s with bank := t.bank, flt := t.flt }) ∧
    (∀ (field chan : BitVec 6) (depth : BitVec 2),
      let run := Instr.splSwatchStart field chan depth
      let d := field.toNat * 64 + chan.toNat
      let refused := fun (t : State) (code : Nat) => t.get F.SPL_SWATCH_STAT_RESULT = code ∧ onlyRegs s t [R.SPL_SWATCH_CTRL, R.SPL_SWATCH_STAT]
      (59 < field.toNat → answers run s fun t => refused t 6) ∧
      (field.toNat ≤ 59 → s.vmOn field.toNat = false → answers run s fun t => refused t 5) ∧
      (field.toNat ≤ 59 → s.vmOn field.toNat = true → (s.spool.swatch ≠ none ∨ s.chState d ≠ 2) → answers run s fun t => refused t 4) ∧
      (field.toNat ≤ 59 → s.vmOn field.toNat = true → s.spool.swatch = none → s.chState d = 2 → s.pickState = 0 → answers run s fun t =>
        t.get F.SPL_SWATCH_STAT_RESULT = 1 ∧ t.chState d = 4 ∧ t.spool = { s.spool with swatch := some (d, 2) } ∧
        t = { s with bank := t.bank, spool := t.spool })) ∧
    (∀ errs : Nat, (s.spool.swatch = none → keepsAll (.splSwatchComplete errs) s) ∧
      (∀ d old, s.spool.swatch = some (d, old) → old < 2 ^ F.SPL_CH_STATE_STATE.w → answers (.splSwatchComplete errs) s fun t =>
        t.chState d = (if s.chState d = 4 then old else s.chState d) ∧ t.spool = { s.spool with swatch := none } ∧
        t.get F.SPL_SWATCH_STAT_RESULT = (if errs = 0 then 2 else 3) ∧ t.get F.SPL_SWATCH_STAT_ERR_WORDS = min errs (2 ^ 28 - 1) ∧
        t.get F.SPL_STATUS_SWATCH_DONE = 1)) ∧
    (answers .xcFlush s fun t => t = { s with spool := { s.spool with xc := [] } }) ∧
    (canonical s → answers .splClrCounts s fun t => onlyBank s t ∧ t.get F.SPL_XLAT_COUNT_FAULTS = 0 ∧ t.get F.SPL_ECC_CE_CE = 0 ∧
      t.get F.SPL_ECC_UE_UE = 0 ∧ (∀ k, t.get F.SPL_XC_HIT_HITS k = 0 ∧ t.get F.SPL_XC_MISS_MISSES k = 0 ∧ t.get F.SPL_CH_STATE_WBUF_MAX k = 0 ∧
        t.chState k = s.chState k) ∧
      (∀ b, b < 128 → t.get F.SPL_POOL_MIN_MIN b = s.get F.SPL_POOL_FREE_FREE b) ∧
      ∀ k, k % 2 ^ 26 ∉ R.SPL_POOL_MIN :: R.SPL_CH_STATE :: splCountRegs → bankReg k t.bank = bankReg k s.bank) ∧
    (answers .splEccLog1Read s fun t => onlyRegs s t [R.SPL_ECC_LOG0, R.SPL_ECC_LOG1] ∧ t.get F.SPL_ECC_LOG0_VALID = 0 ∧
      t.get F.SPL_ECC_LOG1_LINE = 0 ∧ t.get F.SPL_ECC_LOG0_OVF = s.get F.SPL_ECC_LOG0_OVF)

/-- ADMIT. -/
def Obligations.Admission : Prop :=
  ∀ (s : State) (ring : Fin 16) (tag id : BitVec 16) (part prio : BitVec 3) (sampler : BitVec 8) (pfxUse pfxPub hold : Bool)
      (deadline : BitVec 48) (limit : BitVec 40) (seed ringBase promptBase : BitVec 64) (ringLog2 : BitVec 5) (promptLen : BitVec 40),
    let run := Instr.admitSeq ring tag id part prio sampler pfxUse pfxPub hold deadline limit seed ringBase promptBase ringLog2 promptLen
    let ends := fun (t : State) (status : Nat) => completes s t ring.val 0x10 status tag.toNat (id.toNat % 4096)
    let refused := fun (status : Nat) => answers run s fun t => ends t status ∧ t.reed = s.reed ∧ t.spool = s.spool ∧ t.bank = s.bank
    let free := id.toNat ≤ 4095 ∧ (s.sk id.toNat).state = 0
    let takes := s.get (F.SKN_PART_STAT_PRESENT.nth part.toNat) = 1 ∧ s.get (F.SKN_PART_STAT_ENABLED.nth part.toNat) = 1 ∧
      s.get (F.SKN_PART_STAT_STOPPING.nth part.toNat) = 0
    let ringOk := 6 ≤ ringLog2.toNat ∧ ringLog2.toNat ≤ 19
    let promptOk := promptLen.toNat ≠ 0 ∧ promptLen.toNat ≤ limit.toNat ∧ limit.toNat < 2 ^ 40 - 1
    let valid := bitAt (s.reed.sampEntry (s.sampOf sampler.toNat part.toNat)) 23
    (4095 < id.toNat → refused 1) ∧ (id.toNat ≤ 4095 → (s.sk id.toNat).state ≠ 0 → refused 2) ∧ (free → ¬ takes → refused 4) ∧
    (free → takes → ¬ ringOk → refused 5) ∧ (free → takes → ringOk → ¬ promptOk → refused 6) ∧
    (free → takes → ringOk → promptOk → valid = false → refused 7) ∧
    (free → takes → ringOk → promptOk → valid = true → s.spool.newBlock = none → refused 8) ∧
    (∀ b p, free → takes → ringOk → promptOk → valid = true → s.spool.newBlock = some (b, p) → answers run s fun t => ends t 0 ∧
      t.spool = p ∧ (∀ j, j ≠ id.toNat → t.sk j = s.sk j) ∧ t.reed.lanes = s.reed.lanes ∧
      let k := t.sk id.toNat
      k.state = 1 ∧ k.part = part.toNat ∧ k.prio = prio.toNat ∧ k.sampler = sampler.toNat ∧ k.pfxUse = pfxUse ∧ k.pfxPub = pfxPub ∧
      k.hold = hold ∧ k.deadline = deadline.toNat ∧ k.limit = limit.toNat ∧ k.seed = seed.toNat ∧ k.ptRoot = 2 * b ∧
      k.ringLog2 = ringLog2.toNat ∧ k.ringBase = ringBase.toNat / 4096 * 4096 ∧ k.promptBase = promptBase.toNat / 4 * 4 ∧
      k.promptLen = promptLen.toNat ∧ k.committed = 0 ∧ k.next = 0 ∧ k.swapped = false)

/-- CANCEL, PARK, RESUME, RELEASE and SET. -/
def Obligations.SkeinCommands : Prop :=
  ∀ (s : State) (ring : Fin 16) (tag id : BitVec 16) (prio : BitVec 3) (deadline : BitVec 48),
    let i := id.toNat
    let k := s.sk i
    let ends := fun (t : State) (op status : Nat) => completes s t ring.val op status tag.toNat (i % 4096)
    let refused := fun (c : Instr) (op status : Nat) => answers c s fun t => ends t op status ∧ t.reed = s.reed ∧ t.spool = s.spool ∧ t.bank = s.bank
    let live := 1 ≤ k.state ∧ k.state ≤ 4
    let others := fun (t : State) => (∀ j, j ≠ i → t.sk j = s.sk j) ∧ t.reed.lanes = s.reed.lanes ∧ t.spool = s.spool
    (4095 < i → refused (.cancel ring tag id) 0x11 1 ∧ refused (.park ring tag id) 0x12 1 ∧ refused (.resume ring tag id) 0x13 1 ∧
      refused (.release ring tag id) 0x14 1 ∧ refused (.set ring tag id prio deadline) 0x15 1) ∧
    (i ≤ 4095 → ¬ live → refused (.cancel ring tag id) 0x11 3 ∧ refused (.park ring tag id) 0x12 3 ∧ refused (.resume ring tag id) 0x13 3) ∧
    (i ≤ 4095 → live →
      (answers (.cancel ring tag id) s fun t => ends t 0x11 0 ∧ others t ∧ (t.sk i).reason = 3 ∧
        (t.sk i).state = (if s.outOfRing i then 6 else 5) ∧ (t.sk i).committed = k.committed) ∧
      (answers (.park ring tag id) s fun t => ends t 0x12 0 ∧ others t ∧ (t.sk i).hold = true ∧
        if inRing k.state then (if s.outOfRing i then (t.sk i).state = 4 ∧ (t.sk i).parkPend = false else (t.sk i).state = k.state ∧ (t.sk i).parkPend = true)
        else t.sk i = { k with hold := true }) ∧
      (answers (.resume ring tag id) s fun t => ends t 0x13 0 ∧ others t ∧ t.sk i = { k with hold := false })) ∧
    (i ≤ 4095 → (k.state = 6 ∨ k.state = 7) → k.releasing = none → answers (.release ring tag id) s fun t => others t ∧ t.host = s.host ∧
      t.sk i = { k with releasing := some (ring.val, tag.toNat) } ∧ ∀ e, e ∈ t.reed.prefixIdx ↔ e ∈ s.reed.prefixIdx ∧ e.source ≠ i) ∧
    (i ≤ 4095 → ((k.state ≠ 6 ∧ k.state ≠ 7) ∨ k.releasing ≠ none) → refused (.release ring tag id) 0x14 3) ∧
    (i ≤ 4095 → k.state = 0 → refused (.set ring tag id prio deadline) 0x15 3) ∧
    (i ≤ 4095 → k.state ≠ 0 → answers (.set ring tag id prio deadline) s fun t => ends t 0x15 0 ∧ others t ∧
      t.sk i = { k with prio := prio.toNat, deadline := deadline.toNat, missed := k.missed && !(later deadline.toNat s.pm.pick) })

/-- PART_ENABLE, PART_DISABLE and STOP_SERVICE. -/
def Obligations.Partitions : Prop :=
  ∀ (s : State) (ring : Fin 16) (tag : BitVec 16) (part : BitVec 3),
    let p := part.toNat
    let present := F.SKN_PART_STAT_PRESENT.nth p
    let enabled := F.SKN_PART_STAT_ENABLED.nth p
    let stopping := F.SKN_PART_STAT_STOPPING.nth p
    let ends := fun (t : State) (op status : Nat) =>
      completes s t ring.val op status tag.toNat ((Config.freeWord s.free).toNat % 4096)
    (s.get present = 0 →
      (answers (.partEnable ring tag part) s fun t => ends t 0x18 4 ∧ t.bank = s.bank ∧ t.reed = s.reed) ∧
      (answers (.partDisable ring tag part) s fun t => ends t 0x19 4 ∧ t.bank = s.bank ∧ t.reed = s.reed)) ∧
    (s.get present = 1 → answers (.partEnable ring tag part) s fun t => ends t 0x18 0 ∧ t.get enabled = 1 ∧ t.get stopping = 0 ∧
      t.reed = s.reed ∧ sameRegs s t [enabled.reg]) ∧
    (s.get present = 1 → (s.get enabled = 0 ∨ s.get stopping = 1) →
      answers (.partDisable ring tag part) s fun t => ends t 0x19 0 ∧ t.bank = s.bank ∧ t.reed = s.reed) ∧
    (s.get present = 1 → s.get enabled = 1 → s.get stopping = 0 →
      ((∀ kv ∈ s.reed.lanes, (∀ i, kv.2.owner = some i → (s.sk i).part ≠ p) ∧ ∀ st, kv.2.step = some st → (s.sk st.skein).part ≠ p) →
        answers (.partDisable ring tag part) s fun t => ends t 0x19 0 ∧ t.get enabled = 0 ∧ t.get stopping = 0 ∧ t.reed.lanes = s.reed.lanes ∧
          t.tiles = s.tiles ∧ ((∀ kv ∈ s.reed.skeins, inRing kv.2.state = true → kv.2.part ≠ p) → t.reed = s.reed)) ∧
      ((∃ kv ∈ s.reed.lanes, ∃ i, kv.2.owner = some i ∧ (s.sk i).part = p) →
        answers (.partDisable ring tag part) s fun t => ends t 0x19 0 ∧ t.get enabled = 1 ∧ t.get stopping = 1 ∧
          t.reed.lanes = s.reed.lanes ∧ t.tiles = s.tiles ∧
          ∀ j, inRing (s.sk j).state = true → (s.sk j).part = p → (t.sk j).parkPend = true ∨ (t.sk j).state = 4)) ∧
    (answers .stopService s fun t =>
      (∀ j, if inRing (s.sk j).state = true then (t.sk j).parkPend = true ∨ (t.sk j).state = 4 else t.sk j = s.sk j) ∧
      t.reed.lanes = s.reed.lanes ∧ t.tiles = s.tiles ∧ t.spool = s.spool ∧
      (s.pickState = 1 → t.pickState = 2 ∧ t.pm.drainStop = true ∧ t.pm.drainTarget = none ∧ t.pm.drainCount = 0) ∧
      ((s.pickState = 0 ∨ s.pickState = 4) → t.pickState = s.pickState ∧ t.pm = s.pm)) ∧
    (s.pickState = 1 → (∀ kv ∈ s.reed.skeins, inRing kv.2.state = false) → answers .stopService s fun t => t.pickState = 2 ∧
      t.pm.drainStop = true ∧ t.pm.drainTarget = none ∧ t.pm.drainCount = 0 ∧ t = { s with bank := t.bank, pm := t.pm })

/-- The reed at its position. -/
def Obligations.ReedPosition : Prop :=
  ∀ (s : State) (st : Step) (k : Skein) (last : List Byte) (cap : List (List Byte)),
    let run := Instr.reedPosition last cap
    let runs := s.pm.running = true ∧ s.pm.reedDone = false ∧ s.get F.PCK_CHAIN_ROLE ≠ 2
    let res := s.weft.reed.filter fun sh => decide (hPick sh.hdr = s.pm.pick % 65536)
    let sampler := s.reed.sampEntry (s.sampOf k.sampler k.part)
    let tok := (s.sampleTok st.skein (st.pos + 1) (topCands (lanePairs res 0))).1
    let one := fun (owner : Option Nat) => runs ∧ s.get F.SKN_CTRL_ADMIT_EN = 0 ∧ s.reed.capture = none ∧
      s.reed.lanes = [(laneKey s.reedSlot 0, ⟨owner, some st⟩)] ∧ s.reed.skeins = [(st.skein, k)] ∧ k ≠ Skein.empty ∧ k.state = 2 ∧ k.parkPend = false ∧
      st.pos = k.committed ∧ ∀ q : Fin 8, s.get (F.SKN_PART_STAT_STOPPING.nth q.val) = 0
    (¬ runs → keepsAll run s) ∧
    (runs → answers run s fun t => t.pm = { s.pm with reedDone := true } ∧ t.weft = { s.weft with reed := [] } ∧
      t.reed.mask = t.laneMask s.reedSlot ∧ (∀ n, n / 32 ≠ s.reedSlot → t.lane n = s.lane n) ∧ t.tiles = s.tiles ∧ t.nvw = s.nvw) ∧
    (one none → st.pos + 1 < k.promptLen →
      (laneBad res 0 = false → answers run s fun t => t.reed.lanes = [] ∧ (t.sk st.skein).committed = k.committed + 1 ∧ (t.sk st.skein).voids = 0 ∧
        t.reed.commits = min (2 ^ 64 - 1) (s.reed.commits + 1) ∧ t.spool.dram = s.spool.dram) ∧
      (laneBad res 0 = true → answers run s fun t => t.reed.lanes = [] ∧ (t.sk st.skein).committed = k.committed ∧
        t.get F.SKN_VOIDS_VOIDS = min (2 ^ 32 - 1) (s.get F.SKN_VOIDS_VOIDS + 1) ∧ t.reed.commits = s.reed.commits)) ∧
    (one (some st.skein) → st.pos + 1 = k.promptLen → k.promptLen ≠ k.limit → s.strobeDrains = false → s.hostPorts ≠ [] → laneBad res 0 = false →
      topCands (lanePairs res 0) ≠ [] → isStop sampler tok = false → ((k.ringWr + 1) % 2 ^ 20 + 2 ^ 20 - k.ringRd) % 2 ^ 20 < 2 ^ k.ringLog2 →
      answers run s fun t => t.lane (laneKey s.reedSlot 0) = ⟨some st.skein, some ⟨st.skein, k.committed + 1, tok⟩⟩ ∧
        let v := t.sk st.skein
        v.state = 3 ∧ v.committed = k.committed + 1 ∧ v.held = tok ∧ v.heldValid = true ∧ v.ringWr = (k.ringWr + 1) % 2 ^ 20 ∧ v.slot = s.reedSlot)

/-- Prompt units, ring counts and deadlines. -/
def Obligations.FetchesAndDeadlines : Prop :=
  ∀ (s : State) (id : BitVec 12),
    let i := id.toNat
    let k := s.sk i
    (∀ (u : Nat) (toks : List (BitVec 32)),
      let run := Instr.promptUnitArrival id u toks
      let ts := ((toks.map BitVec.toNat).take (k.unitBytes u / 4)).map fun t => t % 2 ^ 18
      (u ∉ k.unitsAsked → keepsAll run s) ∧
      (u ∈ k.unitsAsked → answers run s fun t => smGet [] u (t.sk i).units = ts ∧ (∀ j, j ≠ i → t.sk j = s.sk j) ∧
        t.reed.lanes = s.reed.lanes ∧ t.tiles = s.tiles ∧ t.spool = s.spool) ∧
      (u ∈ k.unitsAsked → (∀ x ∈ ts, x < Config.vocabSize s.pat.serial) → k.pfxLook = false → answers run s fun t =>
        t.sk i = { k with unitsAsked := k.unitsAsked.filter (fun x => decide (x ≠ u)), units := smSet [] u ts k.units } ∧
        (∀ j, j ≠ i → t.sk j = s.sk j) ∧ t = { s with reed := { s.reed with skeins := t.reed.skeins } }) ∧
      (u ∈ k.unitsAsked → (∃ x ∈ ts, Config.vocabSize s.pat.serial ≤ x) → 1 ≤ k.state → k.state ≤ 4 → answers run s fun t =>
        (t.sk i).reason = 5 ∧ (t.sk i).state = (if s.outOfRing i then 7 else 5) ∧ ∀ j, j ≠ i → t.sk j = s.sk j)) ∧
    (∀ count : BitVec 32, (k.state = 0 → keepsAll (.ringCountFetch id count) s) ∧
      (k.state ≠ 0 → answers (.ringCountFetch id count) s fun t => t.sk i = { k with ringRd := count.toNat % 2 ^ 20 } ∧
        (∀ j, j ≠ i → t.sk j = s.sk j) ∧ t = { s with reed := { s.reed with skeins := t.reed.skeins } })) ∧
    ((s.reed.skeins.map Prod.fst).Nodup → answers .deadlineCheck s fun t =>
      (∀ j, t.sk j = { s.sk j with missed := (s.sk j).missed ||
        ((decide ((s.sk j).state = 1) || decide ((s.sk j).state = 4)) && later s.pm.pick (s.sk j).deadline) }) ∧ t.reed.lanes = s.reed.lanes)

/-- Release of frames and prefix copies. -/
def Obligations.PrefixCopies : Prop :=
  ∀ (s : State) (id : BitVec 12),
    let i := id.toNat
    let k := s.sk i
    ((k.releasing = none ∨ s.copiedFrom i = true ∨ k.swapOut = true ∨ k.restore = true) → keepsAll (.frameRelease id) s) ∧
    (∀ ring tag, k.releasing = some (ring, tag) → s.copiedFrom i = false → k.swapOut = false → k.restore = false →
      answers (.frameRelease id) s fun t => t.sk i = Skein.empty ∧ (∀ j, j ≠ i → t.sk j = s.sk j) ∧
        smGet 0 ring t.host.compWr = smGet 0 ring s.host.compWr + 1 ∧ t.spool.dram = s.spool.dram ∧
        (k.ptRoot ≠ 0 → ∀ b, b < 128 → smGet 0 (i * 128 + b) t.spool.owned = 0)) ∧
    (k.copies = [] → keepsAll (.prefixCopy id) s) ∧
    (∀ g src rest, k.copies = (g, src) :: rest →
      let root := (s.sk src).ptRoot
      let good := (s.sk src).sourceOk g = true ∧ s.spool.copySource root g = true
      let stops := fun (t : State) => t.sk i = { k with copies := [], pfxLook := false } ∧ ∀ j, j ≠ i → t.sk j = s.sk j
      (¬ good ∨ (s.copyDown root g = false ∧ s.copyFits root k.ptRoot g = false) → answers (.prefixCopy id) s fun t => stops t ∧
        t = { s with reed := { s.reed with skeins := t.reed.skeins } }) ∧
      (good → s.copyDown root g = true → answers (.prefixCopy id) s fun t => stops t ∧ t.spool = s.spool ∧
        t.get F.SPL_STATUS_COPY_ERR = 1 ∧ t.get F.SPL_STATUS_XLAT = 1) ∧
      (good → s.copyDown root g = false → s.copyFits root k.ptRoot g = true → (s.copyPage root i k.ptRoot g).spool.copyWhole root k.ptRoot g = true →
        (s.copyPage root i k.ptRoot g).copyDown k.ptRoot g = false →
        answers (.prefixCopy id) s fun t => t.sk i = { k with copies := rest, pfxBlocks := k.pfxBlocks + 1 } ∧ (∀ j, j ≠ i → t.sk j = s.sk j) ∧
          t.get F.SKN_PFX_HITS_HITS = min (2 ^ F.SKN_PFX_HITS_HITS.w - 1) (s.get F.SKN_PFX_HITS_HITS + 1))) ∧
    (k.pfxRun = true → k.pfxLook = false → k.copies = [] → answers (.prefixCopyComplete id) s fun t =>
      (t.sk i).committed = 64 * k.pfxBlocks ∧ (t.sk i).next = 64 * k.pfxBlocks ∧ (t.sk i).pfxRun = false ∧ (t.sk i).state = k.state ∧
      (∀ j, j ≠ i → t.sk j = s.sk j) ∧ t.spool = s.spool) ∧
    ((k.pfxRun = false ∨ k.pfxLook = true ∨ k.copies ≠ []) → keepsAll (.prefixCopyComplete id) s)

/-- Pre-emption, swap out and restore. -/
def Obligations.SwapAndRestore : Prop :=
  ∀ (s : State) (id : BitVec 12),
    let i := id.toNat
    let k := s.sk i
    let others := fun (t : State) => ∀ j, j ≠ i → t.sk j = s.sk j
    let chosen := s.reed.target = some i ∧ k.state = 4 ∧ k.swapped = false ∧ s.swapRuns = false ∧ s.copiedFrom i = false ∧
      s.get F.SPL_STATUS_FREE_LOW = 1 ∧ s.hostPorts ≠ []
    (s.get F.SPL_STATUS_FREE_LOW = 0 → keepsAll .preempt s) ∧
    (∀ j rest, s.get F.SPL_STATUS_FREE_LOW = 1 → s.critNow = false → s.swapRuns = false → s.reed.target = none →
      s.preemptOrder = j :: rest → answers .preempt s fun t => t.reed.target = some j ∧ ((t.sk j).parkPend = true ∨ (t.sk j).state = 4) ∧
        ∀ m, m ≠ j → t.sk m = s.sk m) ∧
    (¬ chosen → keepsAll (.swapOut id) s) ∧
    (chosen → s.get F.SPL_SWAP_SIZE_SIZE = 0 → s.preemptOrder = [] → answers (.swapOut id) s fun t => t.sk i = k ∧
      t.get F.SPL_STATUS_COPY_ERR = 1 ∧ t.get F.SPL_STATUS_XLAT = 1 ∧ t.reed.target = none ∧ t.spool = s.spool ∧ others t) ∧
    (chosen → s.get F.SPL_SWAP_SIZE_SIZE ≠ 0 → s.spool.framesAll i ≤ s.slotsFree →
      (s.spool.leaves k.ptRoot).find? s.leafDown = none → answers (.swapOut id) s fun t =>
      t.sk i = { k with swapOut := true } ∧ t.reed.target = none ∧ t.spool.dram = s.spool.dram ∧ t.get F.SKN_STATUS_SWAP_RUN = 1 ∧ others t) ∧
    (k.swapOut = true → s.reading (.swapFlush i) = false → answers (.swapOutComplete id) s fun t =>
      t.sk i = { k with swapOut := false, swapped := true } ∧ others t ∧ t.spool = s.spool ∧
      t.get F.SKN_SWAPS_OUT = min (2 ^ F.SKN_SWAPS_OUT.w - 1) (s.get F.SKN_SWAPS_OUT + 1)) ∧
    ((k.swapOut = false ∨ s.reading (.swapFlush i) = true) → keepsAll (.swapOutComplete id) s) ∧
    (s.firstSwapped = none → keepsAll .restoreStart s) ∧
    (∀ j, s.firstSwapped = some j →
      let need := s.cfg F.SKN_RESTORE_MARK + s.spool.restoreNeeds (s.sk j).ptRoot
      let may := s.get F.SPL_STATUS_FREE_LOW = 0 ∧ s.swapRuns = false ∧ ∀ b, b < 128 → need ≤ s.spool.free b
      (may → answers .restoreStart s fun t => t.sk j = { s.sk j with restore := true } ∧ (∀ m, m ≠ j → t.sk m = s.sk m) ∧
        t.get F.SKN_STATUS_SWAP_RUN = 1) ∧ (¬ may → keepsAll .restoreStart s)) ∧
    ((k.restore = false ∨ s.spool.swappedLeaves k.ptRoot = [] ∨ (∃ c ∈ s.spool.coming, c.id = i)) → keepsAll (.restore id) s) ∧
    (∀ l, k.restore = true → (∀ c ∈ s.spool.coming, c.id ≠ i) → s.spool.leaves k.ptRoot = [l] → eSwapped l.2.2 = true →
      (s.inWindow (eHost l.2.2) = false → 1 ≤ k.state → k.state ≤ 4 → answers (.restore id) s fun t =>
        (t.sk i).reason = 6 ∧ (t.sk i).restore = false ∧ t.get F.SPL_STATUS_COPY_ERR = 1 ∧ t.spool = s.spool ∧ others t) ∧
      (s.inWindow (eHost l.2.2) = true → 0 < s.spool.free (svaBand l.1) → answers (.restore id) s fun t => t.sk i = k ∧ others t ∧
        t.host.reads.length = s.host.reads.length + 16 ∧
        t.spool.tbl = s.spool.tbl ∧ t.spool.slots = s.spool.slots ∧ t.spool.coming = s.spool.coming ++
          [⟨i, l.2.1, svaBand l.1, lowestFree 0 (smGet [] (svaBand l.1) s.spool.frames), 16⟩])) ∧
    (k.restore = true → s.restoring i = false → s.spool.swappedLeaves k.ptRoot = [] → answers (.restoreComplete id) s fun t =>
      t.sk i = { k with restore := false, swapped := false, resumed := true } ∧ others t ∧ t.spool = s.spool ∧
      t.get F.SKN_SWAPS_IN = min (2 ^ F.SKN_SWAPS_IN.w - 1) (s.get F.SKN_SWAPS_IN + 1)) ∧
    ((k.restore = false ∨ s.restoring i = true ∨ s.spool.swappedLeaves k.ptRoot ≠ []) → keepsAll (.restoreComplete id) s)

/-- The SKN_ registers. -/
def Obligations.SkeinRegisters : Prop :=
  ∀ s : State,
    (answers .sknClrCounts s fun t => t.reed = { s.reed with commits := 0 } ∧ t = { s with bank := t.bank, reed := t.reed } ∧
      (∀ k, k % 2 ^ 26 ∉ sknCountRegs → bankReg k t.bank = bankReg k s.bank) ∧ t.get F.SKN_VOIDS_VOIDS = 0 ∧ t.get F.SKN_MISSES_MISSES = 0 ∧
      t.get F.SKN_SWAPS_IN = 0 ∧ t.get F.SKN_SWAPS_OUT = 0 ∧ t.get F.SKN_PFX_LOOKUPS_LOOKUPS = 0 ∧ t.get F.SKN_PFX_HITS_HITS = 0 ∧
      t.get F.SKN_RING_STALLS_STALLS = 0) ∧
    (∀ v : BitVec 32, answers (.sknEntSelWrite v) s fun t => t.reed = { s.reed with entry := s.entryWords (v.toNat % 4096) } ∧
      onlyRegs { s with reed := t.reed } t [R.SKN_ENT_SEL] ∧ t.get F.SKN_ENT_SEL_ID = v.toNat % 4096 ∧
      t.get F.SKN_ENT_SEL_WORD = v.toNat / 65536 % 16) ∧
    (∀ v : BitVec 32,
      let e := s.get F.SKN_SAMP_ADDR_ENTRY
      let w := 4 * e + s.get F.SKN_SAMP_ADDR_WORD
      (e = 0 → keepsAll (.sknSampDataWrite v) s) ∧
      (e ≠ 0 → answers (.sknSampDataWrite v) s fun t => smGet none w t.reed.samplerNext = some v ∧
        t.reed.sampler = s.reed.sampler ∧ t.reed.skeins = s.reed.skeins ∧ ∀ x, x ≠ w → smGet none x t.reed.samplerNext = smGet none x s.reed.samplerNext)) ∧
    (answers .sknCommitsLoRead s fun t => t = { s with latch := t.latch } ∧
      smGet none R.SKN_COMMITS_HI t.latch = some (BitVec.ofNat 32 (s.reed.commits / 2 ^ 32)) ∧
      ∀ k, k ≠ R.SKN_COMMITS_HI → smGet none k t.latch = smGet none k s.latch)

/-- PROGRAM_ALL and VERIFY_ALL. -/
def Obligations.ProgramAndVerify : Prop :=
  ∀ s : State,
    let busy := s.opRuns = true ∨ s.loaderRuns = true ∨ s.pickState ≠ 0
    let opRegs := [R.NVW_OP, R.NVW_OP_STAT, R.NVW_OP_INFO]
    let refused := fun (c : Instr) (code : Nat) => answers c s fun t => t.get F.NVW_OP_STAT_RESULT = code ∧ onlyRegs s t opRegs
    let ended := fun (t : State) (code tile : Nat) => t.nvw.op = 0 ∧ t.nvw.fetch = none ∧ t.get F.NVW_STATUS_OP_BUSY = 0 ∧
      t.get F.NVW_OP_STAT_RESULT = code ∧ t.get F.NVW_OP_INFO_TILE = tile
    (∀ target : BitVec 19,
      (busy → refused (.programAll target) 3) ∧
      (¬ busy → s.slotState (target.toNat % 4) ≠ 2 → refused (.programAll target) 15) ∧
      (¬ busy → s.slotState (target.toNat % 4) = 2 → s.get F.WRP_STATUS_LOADED = 0 → answers (.programAll target) s fun t =>
        t.get F.NVW_STATUS_PROGRAMMED = 0 ∧ t.get F.NVW_STATUS_OP_BUSY = 1 ∧ t.get F.NVW_OP_STAT_RESULT = 1 ∧ t.get F.NVW_OP_STAT_DONE = 0 ∧
        t.nvw.op = 1 ∧ t.nvw.slot = target.toNat % 4 ∧ t.nvw.stage = 0 ∧ t.nvw.fetch = some ⟨1, 1, 0, 0, 512, []⟩ ∧ t.tiles = s.tiles ∧
        t.host.objs.length = s.host.objs.length + 1) ∧
      (¬ busy → s.slotState (target.toNat % 4) = 2 → s.get F.WRP_STATUS_LOADED = 1 → answers (.programAll target) s fun t =>
        t.get F.WRP_STATUS_LOADED = 0 ∧ t.get F.NVW_STATUS_PROGRAMMED = 0 ∧ t.get F.NVW_STATUS_OP_BUSY = 1 ∧ t.nvw.op = 1) ∧
      (∀ bad : Option (BitVec 19),
        (busy → refused (.verifyAll target bad) 3) ∧
        (∀ a, ¬ busy → s.badSection = some a → a < 2 ^ 19 → answers (.verifyAll target bad) s fun t => t.tiles = s.tiles ∧
          t.get F.NVW_STATUS_PROGRAMMED = 0 ∧ t.get F.NVW_STATUS_VERIFY_FAIL = 1 ∧ t.get F.NVW_OP_STAT_RESULT = 9 ∧ t.get F.NVW_OP_INFO_TILE = a) ∧
        (¬ busy → s.badSection = none → answers (.verifyAll target bad) s fun t => t.tiles = s.tiles ∧ match bad with
          | some a => t.get F.NVW_STATUS_PROGRAMMED = 0 ∧ t.get F.NVW_OP_STAT_RESULT = 9 ∧ t.get F.NVW_OP_INFO_TILE = a.toNat
          | none => t.get F.NVW_OP_STAT_RESULT = 2 ∧ t.get F.NVW_STATUS_PROGRAMMED = s.get F.NVW_STATUS_PROGRAMMED))) ∧
    (s.nvw.fetch = none → keepsAll .lwiChunkArrival s) ∧
    (∀ f, s.nvw.fetch = some f →
      let i := s.nvw.chunk
      let due := s.nvw.op = 1 ∧ s.nvw.stage = 2 ∧ f.want = 0 ∧ s.nvw.backlog = [] ∧ i < lwiChunks s.nvw.hdr
      let good := sha384 f.buf = sliceB s.nvw.tables (32 * lwiSections s.nvw.hdr + 48 * i) 48
      (¬ due → keepsAll .lwiChunkArrival s) ∧
      (due → ¬ good → s.nvw.retried = false → answers .lwiChunkArrival s fun t => t.nvw.retried = true ∧ t.nvw.chunk = i ∧ t.tiles = s.tiles ∧
        t.bank = s.bank) ∧
      (due → ¬ good → s.nvw.retried = true → answers .lwiChunkArrival s fun t => ended t 8 0 ∧ t.tiles = s.tiles) ∧
      (∀ x : Section, due → good → i = 0 → s.nvw.secs = [x] → x.off = 0 → 0 < x.rows → x.rows ≤ 61440 → 128 * x.rows ≤ f.buf.length →
        secDone x (s.tile x.tile) = false →
        let may := (s.tile x.tile).programming = true ∨ s.programs < max 1 (s.cfg F.NVW_PROG_CFG_ACTIVE_MAX)
        (may → answers .lwiChunkArrival s fun t => t.nvw.chunk = 1 ∧ t.nvw.retried = false ∧
          (∀ b, b ≠ x.tile → t.tile b = s.tile b) ∧ (t.tile x.tile).programming = true ∧ (t.tile x.tile).secRows = 0 ∧
          ∀ y, smGet 0 y (t.tile x.tile).nvw = if y < 128 * x.rows then f.buf.getD y 0 else if y < 128 * 61440 then 0
            else smGet 0 y (s.tile x.tile).nvw) ∧
        (¬ may → answers .lwiChunkArrival s fun t => t.nvw.chunk = 1 ∧ t.nvw.backlog = [(x, 0, f.buf)] ∧ t.tiles = s.tiles ∧ t.bank = s.bank))) ∧
    (∀ (a : TileAddr) (ok : Bool), tileOk a.toNat = true →
      let u := s.tile a.toNat
      (u.programming = false → keepsAll (.sectionProgramComplete a ok) s) ∧
      (∀ x, u.programming = true → s.nvw.op = 1 → s.nvw.jobs = [] → s.nvw.backlog = [] →
        s.nvw.secs.find? (fun y => decide (y.tile = a.toNat)) = some x → x.tile = a.toNat →
        answers (.sectionProgramComplete a ok) s fun t => onlyTile { s with bank := t.bank, nvw := t.nvw, host := t.host, out := t.out } t a.toNat ∧
          t.get F.NVW_PROG_MAX_COUNT = max (s.get F.NVW_PROG_MAX_COUNT) (min 65535 (u.programs + 1)) ∧
          t.tile a.toNat = { u with programming := false, secTile := a.toNat, secRows := x.rows, secCrc := columnCrc x.rows u, programs := u.programs + 1 } ∧
          if ok = true ∧ columnCrc x.rows u = x.crc then
            t.get F.NVW_OP_STAT_DONE = min (2 ^ F.NVW_OP_STAT_DONE.w - 1) (s.get F.NVW_OP_STAT_DONE + 1)
          else ended t 9 a.toNat ∧ t.get F.NVW_STATUS_VERIFY_FAIL = 1)) ∧
    (answers .nvwAbort s fun t => if s.nvw.op = 1 then ended t 14 0 ∧ t.tiles = s.tiles else t = s) ∧
    (answers .nvwClrCounts s fun t => onlyBank s t ∧ (∀ k, k % 2 ^ 26 ≠ R.NVW_COUNTS → bankReg k t.bank = bankReg k s.bank) ∧ t.get F.NVW_COUNTS_DARNS = 0 ∧ t.get F.NVW_COUNTS_ROTATIONS = 0)

/-- Darns and rotations. -/
def Obligations.Darns : Prop :=
  ∀ s : State,
    (∀ target : BitVec 19,
      let a := target.toNat
      let queued := s.nvw.queue.any fun q => decide (q.tile = a)
      let busy := s.opRuns = true ∨ (16 ≤ s.nvw.queue.length ∧ queued = false)
      let refused := fun (code : Nat) => answers (.darn target) s fun t => t.get F.NVW_OP_STAT_RESULT = code ∧
        onlyRegs s t [R.NVW_OP, R.NVW_OP_STAT, R.NVW_OP_INFO]
      (busy → refused 3) ∧ (¬ busy → s.bearsRole a = false → refused 15) ∧
      (¬ busy → s.bearsRole a = true → queued = false → answers (.darn target) s fun t =>
        t.nvw.queue = s.nvw.queue ++ [⟨a, false, 5, 2, true⟩] ∧ t.nvw.op = 3 ∧ t.get F.NVW_STATUS_OP_BUSY = 1 ∧ t.get F.NVW_OP_STAT_RESULT = 1 ∧
        t.tiles = s.tiles ∧ t.pm = s.pm)) ∧
    (let idle := s.darning = true ∨ s.nvw.weave.isSome = true ∨ s.loaderRuns = true ∨ s.nvw.op = 1 ∨ s.get F.WRP_STATUS_LOADED = 0
     ((idle ∨ s.darnPick = none) → keepsAll .darnStart s) ∧
     (∀ r, ¬ idle → s.darnPick = some r → r.group ≠ 0 → s.chainLen ≤ 1 →
       (s.bearsRole r.tile = false → answers .darnStart s fun t => t.nvw.queue = s.nvw.queue.erase r ∧ t.nvw.run = none ∧
         t.get F.NVW_OP_STAT_RESULT = 15 ∧ t.tiles = s.tiles) ∧
       (s.bearsRole r.tile = true → s.logFull = false → s.nearest r.tile [] = none → answers .darnStart s fun t =>
         t.nvw.queue = s.nvw.queue.erase r ∧ t.nvw.run = none ∧ t.get F.NVW_OP_STAT_RESULT = 11 ∧ t.get F.NVW_STATUS_RESERVE_OUT = 1 ∧
         t.tiles = s.tiles) ∧
       (∀ d, s.bearsRole r.tile = true → s.logFull = false → s.nearest r.tile [] = some d → answers .darnStart s fun t =>
         t.nvw.queue = s.nvw.queue.erase r ∧ t.nvw.run = some ⟨r, d, [d], false, smGetBytes (slotAt (s.get F.WRP_STATUS_ACTIVE_SLOT)) roleBytes (s.tile d).nvw⟩ ∧
         t.get F.NVW_OP_STAT_RESULT = 1 ∧ (t.tile d).programming = true ∧ ∀ b, b ≠ d → t.tile b = s.tile b))) ∧
    (s.nvw.run = none → keepsAll .darnSwitch s ∧ keepsAll .darnComplete s) ∧
    (∀ d, s.nvw.run = some d →
      let u := s.tile d.d
      ((d.switched = true ∨ u.programming = true ∨ s.nvw.jobs ≠ []) → keepsAll .darnSwitch s) ∧
      (∀ w, d.switched = false → u.programming = false → s.nvw.jobs = [] → u.st = 2 → u.ringPos ≠ 255 → s.detourTo d.req.tile d.d = some w →
        d.d ≠ d.req.tile → answers .darnSwitch s fun t => t.weft = w ∧ t.nvw.run = some { d with switched := true } ∧ t.bank = s.bank ∧
          smGet 0 d.d t.nvw.roles = s.roleOf d.req.tile + 1 ∧ smGet 0 d.req.tile t.nvw.roles = 0 ∧
          t.tile d.req.tile = tDarn (s.tile d.req.tile) ∧ (t.tile d.req.tile).st = (if (s.tile d.req.tile).st = 0 then 0 else 5) ∧
          tGet F.TIL_CTRL_ENABLE (t.tile d.d) = 1 ∧ (t.tile d.d).poisonNext = true ∧ (t.tile d.d).nvw = u.nvw ∧
          ∀ b, b ≠ d.d → b ≠ d.req.tile → t.tile b = s.tile b) ∧
      (d.switched = false → keepsAll .darnComplete s) ∧
      (d.switched = true → d.req.group ≠ 0 → s.logFull = false → answers .darnComplete s fun t =>
        t.nvw.log = s.nvw.log ++ [⟨d.req.tile, d.d, if d.req.rotation then 2 else 1, d.req.cause, s.pm.pick, s.timeUs⟩] ∧ t.nvw.run = none ∧
        if d.req.rotation then t.nvw.rot = some (d.req.tile, u.ringPos, d.idle) ∧ (∀ b, b ≠ d.req.tile → t.tile b = s.tile b) ∧
          t.tile d.req.tile = { s.tile d.req.tile with programming := true }
        else t.tiles = s.tiles ∧ t.nvw.rot = s.nvw.rot ∧ t.get F.NVW_OP_STAT_RESULT = 2 ∧
            t.get F.NVW_COUNTS_DARNS = min (2 ^ F.NVW_COUNTS_DARNS.w - 1) (s.get F.NVW_COUNTS_DARNS + 1))) ∧
    (s.nvw.rot = none → ∀ ok, keepsAll (.rotationReturn ok) s) ∧
    (∀ a p idle, s.nvw.rot = some (a, p, idle) →
      (s.nvw.jobs ≠ [] → ∀ ok, keepsAll (.rotationReturn ok) s) ∧
      (s.nvw.jobs = [] → columnCrc (s.tile a).secRows (s.tile a) = (s.tile a).secCrc → s.logFull = false → answers (.rotationReturn true) s fun t => t.nvw.rot = none ∧ t.nvw.log = s.nvw.log ++ [⟨a, a, 3, 0, s.pm.pick, s.timeUs⟩] ∧
        smGet 0 a t.nvw.returned = p + 1 ∧ t.get F.NVW_OP_STAT_RESULT = 2 ∧
        t.get F.NVW_COUNTS_ROTATIONS = min (2 ^ F.NVW_COUNTS_ROTATIONS.w - 1) (s.get F.NVW_COUNTS_ROTATIONS + 1) ∧
        ∀ b, b ≠ a → t.tile b = s.tile b) ∧
      (∀ ok, s.nvw.jobs = [] → (ok = false ∨ columnCrc (s.tile a).secRows (s.tile a) ≠ (s.tile a).secCrc) → a < 2 ^ 19 →
        answers (.rotationReturn ok) s fun t => t.nvw.rot = none ∧ a ∈ t.nvw.removed ∧ t.get F.NVW_OP_STAT_RESULT = 9 ∧
        t.get F.NVW_OP_INFO_TILE = a ∧ t.get F.NVW_STATUS_VERIFY_FAIL = 1 ∧ ∀ b, b ≠ a → t.tile b = s.tile b))

/-- Re-weaves. -/
def Obligations.Reweaves : Prop :=
  ∀ s : State,
    (∀ target : BitVec 19,
      let r := target.toNat % 16
      let busy := s.opRuns = true ∨ s.loaderRuns = true
      let bad := r = s.pat.spare ∨ s.patUses r = false
      let refused := fun (code : Nat) => answers (.reweave target true) s fun t => t.get F.NVW_OP_STAT_RESULT = code ∧
        onlyRegs s t [R.NVW_OP, R.NVW_OP_STAT, R.NVW_OP_INFO]
      (busy → refused 3) ∧ (¬ busy → bad → refused 15) ∧ (¬ busy → ¬ bad → s.spareFree = false → refused 12) ∧
      (¬ busy → ¬ bad → s.spareFree = true → answers (.reweave target true) s fun t => t.nvw.weave = some r ∧ t.nvw.op = 4 ∧
        t.get F.NVW_STATUS_OP_BUSY = 1 ∧ t.get F.NVW_OP_STAT_RESULT = 1 ∧ t.spool.tbl = [] ∧ t.spool.frames = [] ∧ t.reed.prefixIdx = [] ∧
        (s.pickState = 1 ∨ s.pickState = 2 ∨ s.pickState = 3 → t.pickState = 4)) ∧
      (s.get F.WRP_STATUS_LOADED = 0 → s.ld.load = none → keepsAll (.reweave target false) s)) ∧
    (s.nvw.weave = none → keepsAll .reweaveComplete s) ∧
    (∀ r, s.nvw.weave = some r →
      (s.pat.variantFor r = none → answers .reweaveComplete s fun t => t.nvw.weave = none ∧ t.get F.NVW_OP_STAT_RESULT = 12 ∧ t.pm = s.pm) ∧
      (∀ v, s.pat.variantFor r = some v →
        let slot := s.get F.WRP_STATUS_ACTIVE_SLOT
        let s1 := ({ s with pat := { s.pat with variant := idxOf r (s.pat.variants.map Variant.dark |>.set 0 16) } }).sntDrop.writeTables slot
        (s.weaveLoaded v = false → keepsAll .reweaveComplete s) ∧
        (∀ s2, s.weaveLoaded v = true → r < 16 → s.logFull = false →
          s1.routeCheck slot ((rangeFrom 0 60).map fun f => s.get (F.PCK_STROBE_CAL_RTT.nth f)) = none → s1.reapplyAll = some s2 →
          answers .reweaveComplete s fun t => t.nvw.weave = none ∧ t.nvw.op = 0 ∧ t.get F.NVW_STATUS_REWOVEN = 1 ∧ t.get F.NVW_STATUS_NO_COVER = 1 ∧
            t.get F.NVW_REWEAVE_VALID = 1 ∧ t.get F.NVW_REWEAVE_DARK = r ∧ t.nvw.log = s.nvw.log ++ [⟨0, r, 4, 6, s.pm.pick, s.timeUs⟩] ∧
            (t.get F.NVW_OP_STAT_RESULT = 2 ∨ t.get F.NVW_OP_STAT_RESULT = 12)))) ∧
    (s.nvw.op = 1 → answers .lwsLost s fun t => t.nvw.op = 0 ∧ t.get F.NVW_STATUS_LWS_LOST = 1 ∧ t.get F.NVW_OP_STAT_RESULT = 10 ∧ t.tiles = s.tiles) ∧
    (s.nvw.op ≠ 1 → s.nvw.weave ≠ none → answers .lwsLost s fun t => t.nvw.weave = none ∧ t.get F.NVW_STATUS_LWS_LOST = 1 ∧
      t.get F.NVW_OP_STAT_RESULT = 10 ∧ t.tiles = s.tiles) ∧
    (s.nvw.op ≠ 1 → s.nvw.weave = none → s.nvw.jobs = [] → keepsAll .lwsLost s)

/-- Installing a pattern. -/
def Obligations.Installing : Prop :=
  ∀ s : State,
    (∀ (slot : BitVec 2) (source : Bool),
      let busy := (s.pickState ≠ 0 ∧ s.pickState ≠ 4) ∨ s.loaderRuns = true ∨ s.opRuns = true ∨ s.activeSlot = some slot.toNat
      (busy → answers (.install slot source) s fun t => t.get F.WRP_INSTALL_STAT_RESULT = 3 ∧ onlyRegs s t [R.WRP_INSTALL, R.WRP_INSTALL_STAT]) ∧
      (¬ busy → answers (.install slot source) s fun t => t.get F.WRP_INSTALL_STAT_RESULT = 1 ∧ t.get F.WRP_STATUS_INSTALL_BUSY = 1 ∧
        t.get F.WRP_INSTALL_STAT_TILES = 0 ∧ t.tiles = s.tiles ∧ t.ld.store = s.ld.store ∧
        ∃ i, t.ld.install = some i ∧ i.slot = slot.toNat ∧ i.stage = 0 ∧ i.fetch.want = 1024 ∧ i.fetch.off = 0 ∧ i.fetch.src = (if source then 1 else 0))) ∧
    (s.ld.install = none → (∀ bad, keepsAll (.installComplete bad) s) ∧ keepsAll .linkLost s) ∧
    (∀ i, s.ld.install = some i →
      let stopped := fun (t : State) (code : Nat) => t.ld.install = none ∧ t.get F.WRP_STATUS_INSTALL_BUSY = 0 ∧
        t.get F.WRP_INSTALL_STAT_RESULT = code ∧ t.tiles = s.tiles ∧ t.ld.store = s.ld.store
      let whole := (mapTilesOf (recSec i.record 1)).all fun a => imageWhole (tImage i.slot (s.tile a))
      (answers .linkLost s fun t => stopped t 26 ∧ ∀ n, n < 4 → t.slotState n = s.slotState n) ∧
      (s.ld.load = none → answers .wrpAbort s fun t => stopped t 25 ∧ ∀ n, n < 4 → t.slotState n = s.slotState n) ∧
      ((i.stage ≠ 2 ∨ i.tiles ≠ []) → ∀ bad, keepsAll (.installComplete bad) s) ∧
      (i.stage = 2 → i.tiles = [] → i.slot < 4 →
        (whole = false → ∀ bad, answers (.installComplete bad) s fun t => stopped t 16 ∧ t.slotState i.slot = s.slotState i.slot) ∧
        (∀ a, answers (.installComplete (some a)) s fun t => stopped t 16 ∧ t.slotState i.slot = s.slotState i.slot) ∧
        (whole = true → answers (.installComplete none) s fun t => stopped t 2 ∧ t.slotState i.slot = 2))) ∧
    (s.ld.install = none → s.ld.load = none → keepsAll .wrpAbort s)

/-- Loading a pattern. -/
def Obligations.Loading : Prop :=
  ∀ s : State,
    (∀ slot : BitVec 2,
      let busy := s.pickState ≠ 0 ∨ s.opRuns = true ∨ s.loaderRuns = true
      let r := s.record slot.toNat
      let p := recPattern r 0
      (busy → answers (.load slot) s fun t => t.get F.WRP_LOAD_STAT_RESULT = 3 ∧ onlyRegs s t [R.WRP_LOAD, R.WRP_LOAD_STAT]) ∧
      (¬ busy → s.slotState slot.toNat ≠ 2 → answers (.load slot) s fun t => t.get F.WRP_LOAD_STAT_RESULT = 4 ∧
        onlyRegs s t [R.WRP_LOAD, R.WRP_LOAD_STAT]) ∧
      (∀ code item, ¬ busy → s.slotState slot.toNat = 2 → s.get F.WRP_STATUS_LOADED = 0 → s.recordCheck slot.toNat r p = some (code, item) →
        answers (.load slot) s fun t => t.get F.WRP_LOAD_STAT_RESULT = code ∧ t.get F.WRP_STATUS_LOADED = 0 ∧ t.get F.WRP_STATUS_LOAD_BUSY = 0 ∧
          t.ld.load = none ∧ t.pat = s.pat ∧ t.tiles = s.tiles ∧ t.get F.SNT_STATUS_REF_VALID = 0) ∧
      (let p1 := { p with variant := (s.newCover p).variantOf p }
       ¬ busy → s.slotState slot.toNat = 2 → s.get F.WRP_STATUS_LOADED = 0 → s.recordCheck slot.toNat r p = none → p.digest = s.ld.lastDigest →
        s.tiles = [] → (∀ q : Fin 16, p1.uses q.val = true → s.regionOn q.val = true ∧ s.domOn (32 + q.val) = true) →
        answers (.load slot) s fun t => t.pat = p1 ∧ t.ld.load = some (slot.toNat, s.timeUs) ∧ t.get F.WRP_LOAD_STAT_RESULT = 1 ∧
          t.get F.WRP_STATUS_LOAD_BUSY = 1 ∧ t.get F.WRP_STATUS_LOADED = 0 ∧ t.tiles = []) ∧
      (let p1 := { p with variant := (s.newCover p).variantOf p }
       ¬ busy → s.slotState slot.toNat = 2 → s.get F.WRP_STATUS_LOADED = 0 → s.recordCheck slot.toNat r p = none →
        (∀ q : Fin 16, p1.uses q.val = true → s.domOn (32 + q.val) = true ∧ s.get F.VPA_DOM_STAT_STATE q.val ≠ 6 ∧
          s.get F.VPA_DOM_STAT_STATE (16 + q.val) ≠ 6) →
        answers (.load slot) s fun t => t.pat = p1 ∧ t.ld.load = some (slot.toNat, s.timeUs) ∧ t.get F.WRP_LOAD_STAT_RESULT = 1 ∧
          t.get F.WRP_STATUS_LOAD_BUSY = 1 ∧ t.get F.WRP_STATUS_LOADED = 0)) ∧
    (s.ld.load ≠ none → answers .wrpAbort s fun t => t.ld.load = none ∧ t.get F.WRP_LOAD_STAT_RESULT = 25 ∧
      t.get F.WRP_STATUS_LOAD_BUSY = 0 ∧ t.tiles = s.tiles ∧ t.pat = s.pat) ∧
    (∀ rtt, s.ld.load = none → keepsAll (.loadComplete rtt) s) ∧
    (∀ (rtt : List (BitVec 8)) (slot start : Nat), s.ld.load = some (slot, start) → slot < 4 →
      let s1 := (s.writeTables slot).showRtt (rtt.map BitVec.toNat)
      let measured := fun (t : State) => ∀ f, f < 60 → t.get (F.PCK_STROBE_CAL_RTT.nth f) = (rtt.map BitVec.toNat).getD f 0
      (s.loadReady = false → keepsAll (.loadComplete rtt) s) ∧
      (∀ code tile item, s.loadReady = true → s.get F.WRP_STATUS_LOADED = 0 → code < 32 → s1.routeCheck slot (rtt.map BitVec.toNat) = some (code, tile, item) →
        answers (.loadComplete rtt) s fun t => t.ld.load = none ∧ t.get F.WRP_LOAD_STAT_RESULT = code ∧ t.get F.WRP_STATUS_LOAD_BUSY = 0 ∧
          t.get F.WRP_STATUS_LOADED = 0 ∧ t.tiles = s.tiles ∧ measured t) ∧
      (∀ s2, s.loadReady = true → s.failedRegions = [] → s1.routeCheck slot (rtt.map BitVec.toNat) = none → s1.reapplyAll = some s2 →
        answers (.loadComplete rtt) s fun t => t.ld.load = none ∧ t.get F.WRP_LOAD_STAT_RESULT = 2 ∧ t.get F.WRP_STATUS_LOAD_BUSY = 0 ∧
          t.get F.WRP_STATUS_LOADED = 1 ∧ t.get F.WRP_STATUS_ACTIVE_SLOT = slot ∧ t.pat = s.pat ∧ t.nvw.log = s.nvw.log ∧ measured t))

/-- Warp messages, the tile window and the bridge. -/
def Obligations.WarpAndWindow : Prop :=
  ∀ s : State,
    (∀ (f : Fin 60) (msg : List (BitVec 8)),
      let n := smGet 0 f.val s.ld.resends
      (s.vsOn f.val = false → keepsAll (.warpMessage f msg) s) ∧
      (s.vsOn f.val = true → goodCopy msg = true → answers (.warpMessage f msg) s fun t => smGet 0 f.val t.ld.resends = 0 ∧ t = { s with ld := t.ld } ∧
        ∀ g, g ≠ f.val → smGet 0 g t.ld.resends = smGet 0 g s.ld.resends) ∧
      (s.vsOn f.val = true → goodCopy msg = false → n < 3 → answers (.warpMessage f msg) s fun t => smGet 0 f.val t.ld.resends = n + 1 ∧
        setsFld { s with ld := t.ld } t F.WRP_EP_STAT_RESENDS f.val (min (2 ^ F.WRP_EP_STAT_RESENDS.w - 1) (s.get F.WRP_EP_STAT_RESENDS f.val + 1))) ∧
      (s.vsOn f.val = true → goodCopy msg = false → 3 ≤ n → answers (.warpMessage f msg) s fun t => smGet 0 f.val t.ld.resends = 0 ∧
        setsFld { s with ld := t.ld } t F.WRP_STATUS_LINK_ERR 0 1)) ∧
    (∀ (port : Fin 16) (tag : BitVec 12) (off : BitVec 14) (data : BitVec 32),
      let o := off.toNat / 4 * 4
      let a := s.get F.WRP_TWIN_SEL_ADDR
      let read := Instr.tileWindowAccess port tag false off data
      let write := Instr.tileWindowAccess port tag true off data
      (tileOk a = true → s.tileDead a = true → answers read s fun t =>
        t = { s with host := { s.host with stalls := s.host.stalls ++ [⟨port.val, tag.toNat, false, a, o⟩] } }) ∧
      (∀ w, tileOk a = true → s.tileDead a = false → o < 256 → s.tilWord a o = some w → 0x110000 + o ≠ R.TIL_NVW_LOG →
        answers read s fun t => t = { s with out := s.out ++ [.regCpl port.val tag.toNat 0 (leBytes 4 w.toNat)] }) ∧
      (∀ q r w, tileOk a = true → s.get F.WRP_TWIN_SEL_BCAST = 0 → s.tilTarget a o data = .write q r w →
        (reslKept (0x110000 + q) r w = false → exec write s = .fault .reslWrite) ∧
        (reslKept (0x110000 + q) r w = true → s.tileDead a = true → s.darnedLoad a o data = false → answers write s fun t =>
          t = { s with host := { s.host with stalls := s.host.stalls ++ [⟨port.val, 0, true, a, o⟩] } }) ∧
        (reslKept (0x110000 + q) r w = true → s.tileDead a = false → 0x110000 + q ≠ R.TIL_CTRL → answers write s fun t =>
          (∀ b, b ≠ a → t.tile b = s.tile b) ∧
          bankReg (rkey (0x110000 + q) 0) (t.tile a).regs = written r r.rw (bankReg (rkey (0x110000 + q) 0) (s.tile a).regs) w ∧
          tileSameRegs (s.tile a) (t.tile a) [rkey (0x110000 + q) 0, rkey R.TIL_HAZ_CAP 0] ∧
          (0x110000 + q ≠ R.TIL_HAZ → tileSameRegs (s.tile a) (t.tile a) [rkey (0x110000 + q) 0])))) ∧
    (s.host.stalls = [] → keepsAll .bridgeTimeout s) ∧
    (∀ x xs, s.host.stalls = x :: xs → answers .bridgeTimeout s fun t => t.host.stalls = xs ∧ t.get F.WRP_STATUS_BRIDGE_ERR = 1 ∧
      t.get F.WRP_BRIDGE_COUNT_STALLS = min (2 ^ F.WRP_BRIDGE_COUNT_STALLS.w - 1) (s.get F.WRP_BRIDGE_COUNT_STALLS + 1) ∧ t.tiles = s.tiles ∧
      (s.get F.WRP_STATUS_BRIDGE_ERR = 0 → x.off < 2 ^ 14 → t.get F.WRP_TWIN_CAP1_OFFSET = x.off) ∧
      if x.write then t.get F.HLS_STATUS_REG_ERR = 1 ∧ t.out = s.out else t.out = s.out ++ [.regCpl x.port x.tag 1 (leBytes 4 0xFFFFFFFF)]) ∧
    (answers .wrpClrCounts s fun t => onlyBank s t ∧ t.get F.WRP_BRIDGE_COUNT_STALLS = 0 ∧ (∀ f, f < 60 → t.get F.WRP_EP_STAT_RESENDS f = 0 ∧
      t.get F.WRP_EP_STAT_STATE f = s.get F.WRP_EP_STAT_STATE f) ∧
      ∀ k, k % 2 ^ 26 ∉ [R.WRP_BRIDGE_COUNT, R.WRP_EP_STAT] → bankReg k t.bank = bankReg k s.bank)

/-- Flits and retry of the Helsia link. -/
def Obligations.HelsiaFlits : Prop :=
  ∀ (s : State) (port : Fin 16),
    let p := port.val
    let next := smGet 0 p s.host.rxSeq
    let naked := fun (t : State) => smGet false p t.host.nakOut = true ∧
      t.out = s.out ++ (if smGet false p s.host.nakOut then [] else [.ack p ((next + 4095) % 4096) true 0 0 0]) ∧ smGet 0 p t.host.rxSeq = next
    let counted := fun (t : State) (f : Fld) (n : Nat) => t.get f p = min (2 ^ f.w - 1) (s.get f p + n)
    (s.portLive p = false → (∀ slip ue ce bytes, keepsAll (.flit port slip ue ce bytes) s) ∧ (∀ a, keepsAll (.helsiaNak port a) s) ∧
      keepsAll (.helsiaAckTimeout port) s ∧ keepsAll (.helsiaRetrain port) s) ∧
    (s.portLive p = true → ∀ (ce : BitVec 16) (bytes : List (BitVec 8)),
      (∀ ue, answers (.flit port true ue ce bytes) s fun t => naked t ∧ t.get F.CLK_STATUS_XOVR = 1 ∧
        t.get F.CLK_XCLASS_STAT_OVERRUNS 7 = min (2 ^ F.CLK_XCLASS_STAT_OVERRUNS.w - 1) (s.get F.CLK_XCLASS_STAT_OVERRUNS 7 + 1)) ∧
      (answers (.flit port false true ce bytes) s fun t => naked t ∧ counted t F.HLS_PORT_FEC_CE_CE ce.toNat ∧ counted t F.HLS_PORT_FEC_UE_UE 1) ∧
      ((bytes.length ≠ 256 ∨ leNat (bytes.drop 252) ≠ crc32 (bytes.take 252)) → answers (.flit port false false ce bytes) s fun t =>
        naked t ∧ counted t F.HLS_PORT_FEC_CE_CE ce.toNat ∧ counted t F.HLS_PORT_CRC_CRC 1) ∧
      (let h := leNat (bytes.take 8)
       let seq := bitsOf h 8 12
       let tc := bitsOf h 4 2
       let full := tc < 3 ∧ clsCredits tc ≤ s.rxHeld p tc
       bytes.length = 256 → leNat (bytes.drop 252) = crc32 (bytes.take 252) → h % 16 = 1 →
        (seq = next → ¬ full → (bitAt h 6 = false ∨ (tc ≠ 3 ∧ txnOk (s.portRole p) (leNat (sliceB bytes 8 1) % 16) = true)) →
          answers (.flit port false false ce bytes) s fun t =>
            t.out = s.out ++ [.ack p seq false (s.creditsBack p h 0) (s.creditsBack p h 1) (s.creditsBack p h 2)] ∧
            smGet 0 p t.host.rxSeq = (next + 1) % 4096 ∧ smGet false p t.host.nakOut = false ∧
            t.rxHeld p tc = (if tc = 3 ∨ bitAt h 7 = true then 0 else s.rxHeld p tc + 1) ∧ counted t F.HLS_PORT_FEC_CE_CE ce.toNat) ∧
        (seq = next → full → answers (.flit port false false ce bytes) s fun t => naked t ∧ ∀ c, t.rxHeld p c = s.rxHeld p c) ∧
        (seq ≠ next → (next + 4096 - seq) % 4096 ≤ 1024 → answers (.flit port false false ce bytes) s fun t => t.out = s.out ∧
          smGet 0 p t.host.rxSeq = next ∧ counted t F.HLS_PORT_FEC_CE_CE ce.toNat) ∧
        (seq ≠ next → 1024 < (next + 4096 - seq) % 4096 → answers (.flit port false false ce bytes) s fun t => naked t))) ∧
    (s.portLive p = true →
      let again := fun (u t : State) =>
        let n := u.acked p
        if u.flitsSent p ≤ n then t = u
        else t.out = u.out ++ [.resend p (n % 4096) (u.flitsSent p - n)] ∧ t.get F.HLS_PORT_RETRY_REPLAYS p =
            min (2 ^ F.HLS_PORT_RETRY_REPLAYS.w - 1) (u.get F.HLS_PORT_RETRY_REPLAYS p + 1) ∧ (smGet (0, 0) p t.host.resent).1 = n
      (answers (.helsiaAckTimeout port) s fun t => again s t) ∧
      (∀ a : BitVec 12, answers (.helsiaNak port a) s fun t => again (s.ackTo p a.toNat) t) ∧
      (let r := smGet (0, 0) p s.host.resent
       let due := 8 ≤ r.2 ∧ r.1 = s.acked p
       (¬ due → keepsAll (.helsiaRetrain port) s) ∧
       (due → answers (.helsiaRetrain port) s fun t => t.portState p = 2 ∧ t.get F.HLS_STATUS_RETRAIN = 1 ∧ counted t F.HLS_PORT_RETRY_RETRAINS 1 ∧
          (s.portState p = 4 → smGet false p t.host.disableNext = true))))

/-- Training of a Helsia port and its loss. -/
def Obligations.HelsiaTraining : Prop :=
  ∀ (s : State) (port : Fin 16),
    let p := port.val
    (∀ (result : Fin 3) (rtt : BitVec 16), (s.vxOn p = false ∨ 2 < s.portState p) → keepsAll (.helsiaTrainingComplete port result rtt) s) ∧
    (s.vxOn p = true → s.portState p ≤ 2 → smGet false p s.host.disableNext = false → ∀ rtt : BitVec 16,
      (rtt.toNat ≤ 2000 → answers (.helsiaTrainingComplete port 0 rtt) s fun t => t.portState p = 3 ∧ t.get F.HLS_PORT_RTT_RTT_NS p = rtt.toNat ∧
        t.get F.HLS_PORT_STAT_LANE_LOCK p = 255 ∧ smGet 0 p t.host.trainFails = 0 ∧ t.portRole p = s.portRole p) ∧
      (∀ result : Fin 3, (result = 1 ∨ (result = 0 ∧ 2000 < rtt.toNat)) →
        (smGet 0 p s.host.trainFails < 2 → answers (.helsiaTrainingComplete port result rtt) s fun t => t.portState p = s.portState p ∧
          smGet 0 p t.host.trainFails = smGet 0 p s.host.trainFails + 1) ∧
        (2 ≤ smGet 0 p s.host.trainFails → answers (.helsiaTrainingComplete port result rtt) s fun t => t.portState p = 6 ∧
          t.get F.HLS_STATUS_PORT_FAIL = 1 ∧ smGet 0 p t.host.trainFails = 0)) ∧
      (answers (.helsiaTrainingComplete port 2 rtt) s fun t => t.portState p = 0)) ∧
    (s.host.swatch = none → s.dmp.run = none → smGet false p s.host.disableNext = false →
      ((s.portState p = 2 ∨ s.portState p = 3) → answers (.partnerLost port) s fun t => t.portState p = 1 ∧ t.portRole p = s.portRole p) ∧
      (s.portState p = 4 → answers (.partnerLost port) s fun t => t.portState p = 5) ∧
      (s.portRole p = 1 → s.portState p = 3 → answers (.hostPortLost port) s fun t => t.portState p = 1)) ∧
    ((s.portState p = 0 ∨ s.portState p = 1 ∨ s.portState p = 5 ∨ s.portState p = 6) → keepsAll (.partnerLost port) s) ∧
    ((s.portRole p ≠ 1 ∨ s.portLive p = false) → keepsAll (.hostPortLost port) s)

/-- Port actions and port tests. -/
def Obligations.PortActions : Prop :=
  ∀ s : State,
    let p := s.get F.HLS_PORT_SEL_PORT
    let result := fun (t : State) (r : Nat) => t.get F.HLS_PORT_STAT_RESULT p = r
    let only := fun (c : Instr) (r : Nat) => answers c s fun t => result t r ∧ t.portState p = s.portState p
    (s.swatchOn p = true → only .portDisable 6) ∧
    (s.swatchOn p = false →
      (s.portState p = 3 → s.hostPorts = [p] → only .portDisable 3) ∧
      (s.portState p = 3 → s.hostPorts ≠ [p] → s.lastOfBond p = true → only .portDisable 4) ∧
      (s.portState p = 3 → s.hostPorts ≠ [p] → s.lastOfBond p = false → answers .portDisable s fun t => result t 1 ∧ t.portState p = 4) ∧
      (s.portState p = 2 → answers .portDisable s fun t => result t 1 ∧ t.portState p = 2 ∧ smGet false p t.host.disableNext = true) ∧
      (s.portState p = 5 → only .portDisable 2) ∧
      ((s.portState p = 0 ∨ s.portState p = 1 ∨ s.portState p = 6) → answers .portDisable s fun t => result t 2 ∧ t.portState p = 5)) ∧
    (s.vxOn p = false → only .portEnable 5 ∧ only .portRetrain 5) ∧
    (s.vxOn p = true →
      ((s.swatchOn p = true ∨ (s.portState p ≠ 5 ∧ s.portState p ≠ 6)) → only .portEnable 6) ∧
      (s.swatchOn p = false → (s.portState p = 5 ∨ s.portState p = 6) → answers .portEnable s fun t => result t 1 ∧ t.portState p = 2) ∧
      ((s.swatchOn p = true ∨ s.portState p ≠ 3) → only .portRetrain 6) ∧
      (s.swatchOn p = false → s.portState p = 3 → answers .portRetrain s fun t => result t 1 ∧ t.portState p = 2 ∧
        t.get F.HLS_STATUS_RETRAIN = 1)) ∧
    (∀ port : Fin 16,
      (s.portState port.val = 4 → s.portBusy port.val = false → answers (.portDrainComplete port) s fun t => t.portState port.val = 5 ∧
        t.get F.HLS_PORT_STAT_RESULT port.val = 2) ∧
      ((s.portState port.val ≠ 4 ∨ s.portBusy port.val = true) → keepsAll (.portDrainComplete port) s)) ∧
    (∀ (depth : BitVec 3) (port : Fin 16) (units : BitVec 16),
      let run := Instr.hlsSwatchStart depth port units
      let refused := fun (t : State) (r : Nat) => t.get F.HLS_SWATCH_STAT_RESULT = r ∧ t.host = s.host ∧ t.portState port.val = s.portState port.val
      (s.host.swatch ≠ none → answers run s fun t => refused t 4) ∧
      (s.host.swatch = none → s.vxOn port.val = false → answers run s fun t => refused t 5) ∧
      (s.host.swatch = none → s.vxOn port.val = true → s.depthOk port.val depth.toNat = false → answers run s fun t => refused t 4) ∧
      (s.host.swatch = none → s.vxOn port.val = true → s.depthOk port.val depth.toNat = true → answers run s fun t =>
        t.get F.HLS_SWATCH_STAT_RESULT = 1 ∧ t.host.swatch = some (port.val, s.portState port.val) ∧
        t.portState port.val = (if depth = 4 then s.portState port.val else 7))) ∧
    (∀ (errs : Nat) (none' : Bool),
      let run := Instr.hlsSwatchComplete errs none'
      let d := s.get F.HLS_SWATCH_CTRL_DEPTH
      (s.host.swatch = none → keepsAll run s) ∧
      (∀ q old, s.host.swatch = some (q, old) → old < 8 → answers run s fun t => t.host.swatch = none ∧ t.portState q = old ∧
        if none' = true ∧ (d = 2 ∨ d = 3) then t.get F.HLS_SWATCH_STAT_RESULT = 6
        else t.get F.HLS_SWATCH_STAT_RESULT = (if errs = 0 then 2 else 3) ∧ t.get F.HLS_SWATCH_STAT_ERRORS = min errs (2 ^ 28 - 1))) ∧
    (answers .hlsClrCounts s fun t => onlyBank s t ∧ (∀ k, k % 2 ^ 26 ∉ hlsCountRegs → bankReg k t.bank = bankReg k s.bank) ∧
      t.get F.HLS_BEACON_MISSES_MISSES = 0 ∧ ∀ q, t.get F.HLS_PORT_FEC_CE_CE q = 0 ∧ t.get F.HLS_PORT_FEC_UE_UE q = 0 ∧ t.get F.HLS_PORT_CRC_CRC q = 0 ∧
        t.get F.HLS_PORT_RETRY_REPLAYS q = 0)

/-- Completions, timeouts and echoes. -/
def Obligations.HostCompletions : Prop :=
  ∀ (s : State) (port : Fin 16) (tag : BitVec 12) (data : List (BitVec 8)),
    let p := port.val
    let bad := fun (t : State) => setsFld s t F.HLS_PORT_CRC_BAD_TXN p (min (2 ^ F.HLS_PORT_CRC_BAD_TXN.w - 1) (s.get F.HLS_PORT_CRC_BAD_TXN p + 1))
    (s.portLive p = false → keepsAll (.memCpl port tag data) s ∧ ∀ st, keepsAll (.objCpl port tag st data) s) ∧
    (s.portLive p = true → s.portRole p ≠ 1 → answers (.memCpl port tag data) s bad) ∧
    (s.portLive p = true → s.portRole p ≠ 2 → ∀ st, answers (.objCpl port tag st data) s bad) ∧
    (s.portLive p = true → s.portRole p = 1 →
      (s.readOf tag.toNat = none → keepsAll (.memCpl port tag data) s) ∧
      (∀ r id, s.readOf tag.toNat = some r → r.why = .ringRd id → (s.sk id).state ≠ 0 → answers (.memCpl port tag data) s fun t =>
        t.sk id = { s.sk id with ringRd := leNat (sliceB data 0 r.len) % 2 ^ 20 } ∧ (∀ j, j ≠ id → t.sk j = s.sk j) ∧ t.bank = s.bank ∧
        t.host.reads = s.host.reads.filter fun x => !(decide (x.tag = tag.toNat) && x.issued))) ∧
    (s.portLive p = true → s.portRole p = 2 →
      ((s.host.objs.find? fun o => decide (o.1 = tag.toNat)) = none → ∀ st, keepsAll (.objCpl port tag st data) s) ∧
      (∀ kind off len, s.host.objs = [(tag.toNat, kind, off, len)] →
        (answers (.objCpl port tag 3 data) s fun t => t.host.objs = [(s.host.nextTag, kind, off, len)] ∧ t.nvw = s.nvw ∧ t.ld = s.ld ∧ t.bank = s.bank) ∧
        (∀ f, kind = 1 → s.nvw.fetch = some f → s.nvw.stage = 2 → f.want ≤ data.length → answers (.objCpl port tag 0 data) s fun t =>
          t.nvw = { s.nvw with fetch := some ⟨f.src, f.kind, f.key, f.off + data.length, 0, f.buf ++ data⟩ } ∧ t.host.objs = [] ∧ t.bank = s.bank))) ∧
    (answers (.echo port data) s fun t => t = if s.portState p = 3 then { s with out := s.out ++ [.echo p data] } else s) ∧
    (s.readOf tag.toNat = none → keepsAll (.memRdTimeout tag) s) ∧
    (∀ r q, s.readOf tag.toNat = some r → r.tries < 2 → (s.hostPorts.find? fun x => decide (x ≠ r.port)) = some q →
      ((s.dropRead tag.toNat).readRoom q r.why = false → answers (.memRdTimeout tag) s fun t => t.get F.HLS_STATUS_RD_TIMEOUT = 1 ∧
        t.out = s.out ∧ { r with port := q, issued := false } ∈ t.host.reads) ∧
      ((s.dropRead tag.toNat).readRoom q r.why = true → answers (.memRdTimeout tag) s fun t => t.get F.HLS_STATUS_RD_TIMEOUT = 1 ∧
        t.out = s.out ++ [if r.len = 0 then .flush q r.why.tc r.tag r.addr else .memRd q r.why.tc r.tag r.addr r.len] ∧
        { r with port := q, tries := r.tries + 1 } ∈ t.host.reads ∧ t.host.reads.length ≤ s.host.reads.length))

/-- Doorbells, polls and the beacon. -/
def Obligations.RingsAndBeacon : Prop :=
  ∀ s : State,
    (∀ (ring : Fin 16) (v : BitVec 32),
      let n := ring.val
      let run := Instr.sqDoorbell ring v
      let tail := fun (t : State) => t.get (F.HLS_SQ_TAIL_TAIL.nth n) = v.toNat % 2 ^ 16
      let ahead := (v.toNat % 2 ^ 16 + 2 ^ 16 - s.get (F.HLS_SQ_STAT_HEAD.nth n)) % 2 ^ 16
      (s.get (F.HLS_SQ_LO_EN.nth n) = 0 → answers run s fun t => tail t ∧ onlyRegs s t [(F.HLS_SQ_TAIL_TAIL.nth n).reg]) ∧
      (s.get (F.HLS_SQ_LO_EN.nth n) = 1 → 4 ≤ s.sqLog2 n → s.sqLog2 n ≤ 12 → s.get (F.HLS_SQ_STAT_ERR.nth n) = 0 →
        (2 ^ s.sqLog2 n < ahead → answers run s fun t => tail t ∧ t.get (F.HLS_SQ_STAT_ERR.nth n) = 1 ∧ t.host = s.host) ∧
        (ahead ≤ 2 ^ s.sqLog2 n → ahead ≠ 0 → s.get F.HLS_CTRL_CMD_EN = 1 → s.sqReading n = false → answers run s fun t => tail t ∧
          t.get (F.HLS_SQ_STAT_ERR.nth n) = 0 ∧ t.host.reads.length = s.host.reads.length + 1 ∧ t.sqReading n = true))) ∧
    (answers .completionCountPoll s fun t => t.bank = s.bank ∧ t.reed = s.reed ∧
      ∀ n, n < 16 → s.waiting n ≠ [] → s.compRoom n = false → t.reading (.compRd n) = true) ∧
    ((∀ n, n < 16 → s.waiting n = [] ∨ s.compRoom n = true) → keepsAll .completionCountPoll s) ∧
    ((s.host.evQueue = [] ∨ s.evOpen = false) → keepsAll .eventRingPoll s) ∧
    (s.host.evQueue ≠ [] → s.evOpen = true → s.evRoom = false → s.reading .evRd = false → answers .eventRingPoll s fun t =>
      t.reading .evRd = true ∧ t.host.evQueue = s.host.evQueue ∧ t.bank = s.bank) ∧
    (∀ r, s.host.evQueue = [r] → s.evOpen = true → s.evRoom = true → answers .eventRingPoll s fun t => t.host.evQueue = [] ∧
      t.host.evWr = s.host.evWr + 1 ∧ t.bank = s.bank) ∧
    (∀ late, s.get F.HLS_CTRL_BEACON_EN = 0 → keepsAll (.beacon late) s) ∧
    (∀ late, s.get F.HLS_CTRL_BEACON_EN = 1 → s.hostPorts = [] → answers (.beacon late) s fun t => t.get F.HLS_STATUS_BEACON_MISS = 1 ∧
      t.get F.HLS_BEACON_MISSES_MISSES = min (2 ^ F.HLS_BEACON_MISSES_MISSES.w - 1) (s.get F.HLS_BEACON_MISSES_MISSES + 1) ∧ t.out = s.out ∧ t.bcn = s.bcn) ∧
    (∀ p, s.get F.HLS_CTRL_BEACON_EN = 1 → s.hostPort (s.get F.HLS_BEACON_LO_PORT) = some p → s.hcRuns = true → answers (.beacon false) s fun t =>
      let seq := s.bcn.bseq + 1
      let base := s.get F.HLS_BEACON_LO_ADDR_LO * 4096 + s.get F.HLS_BEACON_HI_ADDR_HI * 2 ^ 32
      t.bcn = { s.bcn with bseq := seq } ∧ t.get F.HLS_BEACON_SEQ_SEQ = seq % 2 ^ F.HLS_BEACON_SEQ_SEQ.w ∧ t.reed = { s.reed with ivCommits := 0, ivVoids := 0 } ∧
      ∃ mid last, t.out = s.out ++ [.memWr p 1 base (leBytes 8 seq), .memWr p 1 (base + 8) mid, .memWr p 1 (base + 4088) last])

/-- Samples of the inputs, of current, of power and of paths. -/
def Obligations.PowerSamples : Prop :=
  ∀ (s : State) (v i : BitVec 16),
    let b := vinBand v.toNat
    let run := if b = s.pwr.vinBand then s.pwr.vinRun + 1 else 1
    let same := fun (t : State) (ks : List Nat) => t = { s with bank := t.bank, pwr := t.pwr } ∧ sameRegs s t ks
    let vin := fun (t : State) => t.get F.VPA_INPUT_VIN = v.toNat ∧ t.pwr = { s.pwr with vinBand := b, vinRun := run }
    let seen := fun (t : State) => vin t ∧ same t [R.VPA_INPUT] ∧ onlyFld s t F.VPA_INPUT_VIN 0
    let asks := fun (t : State) => ∃ u, exec (.stepRequest 1) s = .next u ∧ t.pm = u.pm
    let calm := s.pickState ≠ 2 ∨ s.pm.drainStop = true
    ((b = 0 ∨ run % 1000 ≠ 0) → bandOut b run = false → answers (.vinSample v) s seen) ∧
    (b = 1 → run = 1000 → answers (.vinSample v) s fun t => vin t ∧ t.get F.VPA_STATUS_VIN_LOW = 1 ∧
      (calm → t.bcn.rseq = s.bcn.rseq + 1)) ∧
    (b = 1 → run % 1000 = 0 → answers (.vinSample v) s asks) ∧
    (b = 3 → run = 1000 → answers (.vinSample v) s fun t => vin t ∧ t.get F.VPA_STATUS_VIN_HIGH = 1 ∧ t.bcn.rseq = s.bcn.rseq + 1) ∧
    (bandOut b run = true → s.get F.BOOT_STATUS_STAGE < 5 → answers (.vinSample v) s seen) ∧
    (bandOut b run = true → 5 ≤ s.get F.BOOT_STATUS_STAGE → answers (.vinSample v) s fun t => ∃ u, seen u ∧ t = (u.allOff 5).coldReset 5) ∧
    (let sb := vinBand v.toNat
     let srun := if sb = s.pwr.stbyBand then s.pwr.stbyRun + 1 else 1
     let only := fun (t : State) => t = { s with pwr := { s.pwr with stbyBand := sb, stbyRun := srun } }
     ((s.domOn 54 = false ∨ sb = 0 ∨ srun % 1000 ≠ 0) → bandOut sb srun = false → answers (.standbySample v) s only) ∧
     (s.domOn 54 = true → sb = 1 → srun = 1000 → answers (.standbySample v) s fun t => t.get F.VPA_STATUS_STBY_LOW = 1 ∧ same { t with bcn := s.bcn } [R.VPA_STATUS] ∧
       t.bcn.rseq = s.bcn.rseq + 1) ∧
     (s.domOn 54 = true → sb = 3 → srun = 1000 → answers (.standbySample v) s fun t => t.get F.VPA_STATUS_STBY_HIGH = 1 ∧ same { t with bcn := s.bcn } [R.VPA_STATUS] ∧
       t.bcn.rseq = s.bcn.rseq + 1) ∧
     (s.domOn 54 = true → bandOut sb srun = true → answers (.standbySample v) s fun t => ∃ u, only u ∧
       t = ((u.allOff 5).powerReset).set F.VPA_DOM_STAT_CAUSE 5 54) ∧
     (s.get F.VPA_DOM_STAT_STATE 54 = 6 → bandOut sb srun = true → answers (.standbySample v) s fun t => t.get F.VPA_DOM_STAT_STATE 54 = 0)) ∧
    (let lim := if s.get F.VPA_INPUT_VIN = 0 then 10000 else min 10000 (46000000 / s.get F.VPA_INPUT_VIN)
     let k := if 95 * lim < 100 * i.toNat then s.pwr.iinRun + 1 else 0
     answers (.inputCurrentSample i) s fun t => t.get F.VPA_INPUT_IIN = i.toNat ∧
       t.get F.VPA_STATUS_INPUT_LIMIT = (if lim ≤ i.toNat then 1 else 0) ∧ t.pwr.iinRun = k ∧
       (if 100 ≤ k ∧ (k - 100) % 1000 = 0 then asks t else t.pm = s.pm)) ∧
    (let cap := min 4600 (s.get F.VPA_CAP_CAP_W)
     let shown := fun (t : State) => t.get F.VPA_POWER_PIN = i.toNat ∧ t.get F.VPA_POWER_PMAX = max (s.get F.VPA_POWER_PMAX) i.toNat
     (i.toNat ≤ cap → answers (.capExceeded i) s fun t => shown t ∧ onlyRegs s t [R.VPA_POWER]) ∧
     (cap < i.toNat → answers (.capExceeded i) s fun t => shown t ∧ t.get F.VPA_STATUS_CAP_EXCEEDED = 1 ∧ asks t ∧
       (calm → t.bcn.rseq = s.bcn.rseq + s.get F.PCK_STATUS_FLOOR ∧ sameRegs s t [R.VPA_POWER, R.VPA_STATUS, R.PCK_CEILING]))) ∧
    (∀ (dom : Fin 55) (o n c : BitVec 16),
      let d := dom.val
      let run := Instr.pathCheck dom o n c
      let shows := fun (t : State) => t.get F.VPA_DOM_VOLT_OUT_MV d = o.toNat ∧ t.get F.VPA_DOM_VOLT_SENSE_MV d = n.toNat ∧ t.get F.VPA_DOM_STAT_CURRENT d = c.toNat
      (s.domOn d = false → keepsAll run s) ∧
      (s.domOn d = true → (c = 0 ∨ s.get F.VPA_CTRL_PATH_EN = 0) → answers run s fun t => shows t ∧
        onlyRegs s t [rkey R.VPA_DOM_VOLT d, rkey R.VPA_DOM_STAT d]) ∧
      (s.domOn d = true → c ≠ 0 → s.get F.VPA_CTRL_PATH_EN = 1 → o.toNat < s.setpoint d + 80 →
        let r := min 65535 ((o.toNat - n.toNat) * 10000 / c.toNat)
        let k := if s.get F.VPA_DOM_PATH_R_CAL d * (100 + max 1 (s.get F.VPA_PATH_CFG_TOL)) + 500 < r * 100 then smGet 0 d s.pwr.pathRun + 1 else 0
        answers run s fun t => shows t ∧ t.get F.VPA_DOM_PATH_R_MEAS d = r ∧ smGet 0 d t.pwr.pathRun = k ∧
          t.get F.VPA_STATUS_PATH = if k = 100 then 1 else s.get F.VPA_STATUS_PATH))

/-- Shed phases and trips. -/
def Obligations.PhasesAndTrips : Prop :=
  ∀ (s : State) (dom : Fin 55) (cur : BitVec 16),
    let d := dom.val
    let st := s.get F.VPA_DOM_STAT_STATE d
    (∀ (phase : Fin 16) (cause : Fin 3) (temp : BitVec 8),
      let run := Instr.phaseShed dom phase cause temp cur
      let i := d * 16 + phase.val
      let a := allowedDepth d (s.domOk d - 1)
      let open' := fun (t : State) => t.get F.VPA_PHASE_STAT_STATE i = 2 ∧ t.get F.VPA_PHASE_STAT_SHED_CAUSE i = cause.val + 1 ∧
        t.get F.VPA_PHASE_STAT_TEMP i = temp.toNat ∧ t.get F.VPA_PHASE_STAT_CURRENT i = 0 ∧ t.domOk d = s.domOk d - 1 ∧
        t.get F.VPA_STATUS_SHED = 1 ∧ t.get F.VPA_SHED_COUNT_SHED = min (2 ^ F.VPA_SHED_COUNT_SHED.w - 1) (s.get F.VPA_SHED_COUNT_SHED + 1)
      let just := fun (t : State) => open' t ∧ t = { s with bank := t.bank, bcn := t.bcn } ∧
        sameRegs s t [rkey R.VPA_PHASE_STAT i, rkey R.VPA_DOM_STAT d, R.VPA_SHED_COUNT, R.VPA_STATUS] ∧ t.get F.VPA_DOM_STAT_STATE d = st
      ((domPhases d ≤ phase.val ∨ s.get F.VPA_PHASE_STAT_STATE i = 2) → keepsAll run s) ∧
      (phase.val < domPhases d → s.get F.VPA_PHASE_STAT_STATE i ≠ 2 →
        ((st = 0 ∨ st = 6 ∨ a = 0) → answers run s just) ∧
        (d < 32 → st = 3 → 0 < a → a < 7 → answers run s fun t => open' t ∧ t.get F.VPA_DOM_STAT_STATE d = 4 ∧ t.get F.VPA_DOM_STAT_ALLOWED d = a ∧
          t.pm.ceilPower = max s.pm.ceilPower a) ∧
        (st ≠ 0 → st ≠ 6 → a = 7 → ∃ u, just u ∧ exec run s = exec (.tripped dom 1 phase cur) u))) ∧
    (∀ (cause : Fin 3) (phase : Fin 16),
      let run := Instr.tripped dom cause phase cur
      ((st = 0 ∨ st = 6 ∨ (cause = 2 ∧ d = 54) ∨ (cause = 1 ∧ allowedDepth d (s.domOk d) ≠ 7)) → keepsAll run s) ∧
      (st ≠ 0 → st ≠ 6 → (cause = 1 → allowedDepth d (s.domOk d) = 7) → d < 48 → s.rampOf (d % 16) = none → s.ld.load = none →
        s.get F.WRP_STATUS_LOADED = 0 → answers run s fun t =>
          t.get F.VPA_DOM_STAT_STATE d = 6 ∧ t.get F.VPA_DOM_STAT_CAUSE d = cause.val + 2 ∧ t.get F.VPA_DOM_STAT_CURRENT d = cur.toNat ∧
          t.get F.VPA_STATUS_TRIPPED = 1 ∧ t.bcn.rseq = s.bcn.rseq + 1 ∧
          (s.reg R.VPA_FAULT_CAP0 = 0 → t.get F.VPA_FAULT_CAP0_DOM = d ∧ t.get F.VPA_FAULT_CAP0_CAUSE = cause.val + 2 ∧
            t.get F.VPA_FAULT_CAP0_PHASE = phase.val) ∧
          (s.reg R.VPA_FAULT_CAP0 ≠ 0 → t.reg R.VPA_FAULT_CAP0 = s.reg R.VPA_FAULT_CAP0) ∧
          (d < 16 → ∀ x, regionOf (fieldOf x) = d → (t.tile x).st = 0) ∧ (∀ x, regionOf (fieldOf x) ≠ d % 16 → canonical s → t.tile x = s.tile x)))

/-- Ramps, droop and the switching of regions. -/
def Obligations.PowerDomains : Prop :=
  ∀ s : State,
    let dst := fun (t : State) (d : Nat) => t.get F.VPA_DOM_STAT_STATE d
    let result := fun (t : State) (n : Nat) => t.get F.VPA_REGION_STAT_RESULT = n
    (s.pwr.wait = [] → keepsAll .rampStart s) ∧
    (∀ r why ws, s.pwr.wait = (r, why) :: ws →
      (s.rampOk r = false → keepsAll .rampStart s) ∧
      (s.rampOk r = true → answers .rampStart s fun t => t = { s with bank := t.bank, pwr := { s.pwr with wait := ws, ramp := some (r, why) } } ∧
        sameRegs s t [rkey R.VPA_DOM_STAT r, rkey R.VPA_DOM_STAT (16 + r)] ∧
        (∀ d, (d = r ∨ d = 16 + r) → dst t d = if dst s d = 1 then 2 else dst s d))) ∧
    (∀ t10 : BitVec 12,
      (s.pwr.ramp = none → keepsAll (.rampComplete t10) s) ∧
      (∀ r, s.pwr.ramp = some (r, 1) → dst s r = 2 → dst s (16 + r) = 2 → allowedDepth r (s.domOk r) = 0 →
        allowedDepth (16 + r) (s.domOk (16 + r)) = 0 → answers (.rampComplete t10) s fun t => t.pwr = { s.pwr with ramp := none } ∧
          dst t r = 3 ∧ dst t (16 + r) = 3 ∧ result t 2 ∧ t.get F.VPA_REGION_STAT_TIME = t10.toNat)) ∧
    (∀ region : Fin 16,
      let r := region.val
      (s.rampOf r = none → keepsAll (.rampTimeout region) s) ∧
      (s.rampOf r = some 1 → answers (.rampTimeout region) s fun t => t.rampOf r = none ∧ result t 5 ∧
        t.get F.VPA_REGION_STAT_TIME = 1000 ∧ t.bcn.rseq = s.bcn.rseq + 1 ∧
        (∀ d, (d = r ∨ d = 16 + r) → dst t d = if dst s d = 1 ∨ dst s d = 2 then 0 else dst s d) ∧
        sameRegs s t [rkey R.VPA_DOM_STAT r, rkey R.VPA_DOM_STAT (16 + r), R.VPA_REGION_STAT])) ∧
    (∀ region : BitVec 4,
      let r := region.toNat
      let said := fun (act n : Nat) (t : State) => result t n ∧ t.get F.VPA_REGION_CTRL_ACTION = act ∧ t.get F.VPA_REGION_CTRL_REGION = r
      let refused := fun (c : Instr) (act n : Nat) => answers c s fun t => said act n t ∧ onlyRegs s t [R.VPA_REGION_CTRL, R.VPA_REGION_STAT]
      (s.regionBusy = true → refused (.regionOff region) 1 3 ∧ refused (.regionOn region) 2 3 ∧ refused (.regionRetain region) 3 3) ∧
      (s.regionBusy = false →
        (s.patUses r = true → refused (.regionOff region) 1 4 ∧ refused (.regionRetain region) 3 4) ∧
        (s.regionTripped r = true → refused (.regionOn region) 2 6 ∧
          (s.patUses r = false → refused (.regionOff region) 1 6 ∧ refused (.regionRetain region) 3 6)) ∧
        (s.regionTripped r = false →
          (s.regionOn r = true → answers (.regionOn region) s fun t => said 2 2 t ∧ t.pwr = s.pwr) ∧
          (s.regionOn r = false → answers (.regionOn region) s fun t => said 2 1 t ∧ (r, 1) ∈ t.pwr.wait ∧
            (∀ d, (d = r ∨ d = 16 + r) → dst t d = if dst s d = 0 ∨ dst s d = 5 then 1 else dst s d)) ∧
          (s.patUses r = false →
            (answers (.regionOff region) s fun t => said 1 2 t ∧ t.get F.VPA_REGION_STAT_TIME = 0 ∧ dst t r = 0 ∧ dst t (16 + r) = 0 ∧
              t.get F.VPA_DOM_STAT_CAUSE r = 1 ∧ ∀ x, regionOf (fieldOf x) = r → (t.tile x).st = 0 ∧ (t.tile x).scratch = []) ∧
            (answers (.regionRetain region) s fun t => said 3 2 t ∧ dst t r = 0 ∧ dst t (16 + r) = (if s.domOn (16 + r) then 5 else dst s (16 + r)) ∧
              ∀ x, regionOf (fieldOf x) = r → (t.tile x).st = 0 ∧
                (canonical s → (s.domOn (16 + r) = true ∨ dst s (16 + r) = 5) → (t.tile x).scratch = (s.tile x).scratch)))))) ∧
    (∀ f : Fin 60,
      let r := regionOf f.val
      let n := f.val
      (s.fieldPowered n = false → keepsAll (.droopWarning f) s ∧ keepsAll (.droopReset f) s) ∧
      (s.fieldPowered n = true →
        (answers (.droopWarning f) s fun t => t.get F.VPA_DROOP_WARN_EVENTS n = min (2 ^ 32 - 1) (s.get F.VPA_DROOP_WARN_EVENTS n + 1) ∧
          t.get F.VPA_STATUS_DROOP_WARN = 1 ∧ n ∈ t.pwr.stretch ∧ sameRegs s t [rkey R.VPA_DROOP_WARN n, R.VPA_STATUS]) ∧
        (canonical s → answers (.droopReset f) s fun t => t.get F.VPA_DROOP_RESET_RESETS n = min (2 ^ 16 - 1) (s.get F.VPA_DROOP_RESET_RESETS n + 1) ∧
          t.get F.VPA_STATUS_DROOP_RESET = 1 ∧ (∀ x, regionOf (fieldOf x) ≠ r → t.tile x = s.tile x) ∧
          (∀ x, regionOf (fieldOf x) = r → (t.tile x).inbox = [] ∧ (t.tile x).scratch = (s.tile x).scratch ∧
            ((s.tile x).st = 3 → (t.tile x).st = 6 ∧ (t.tile x).poison = true ∧ (t.tile x).poisonNext = true) ∧
            ((s.tile x).st ≠ 3 → (t.tile x).st = (s.tile x).st)))) ∧
      (∀ k : Nat, (n ∉ s.pwr.stretch → keepsAll (.droopStretchEnd f k) s) ∧
        (n ∈ s.pwr.stretch → answers (.droopStretchEnd f k) s fun t => n ∉ t.pwr.stretch ∧
          t.get F.VPA_DROOP_STRETCH_CYCLES n = min (2 ^ 32 - 1) (s.get F.VPA_DROOP_STRETCH_CYCLES n + k) ∧ sameRegs s t [rkey R.VPA_DROOP_STRETCH n]))) ∧
    (answers .vpaClrCounts s fun t => onlyBank s t ∧ t.get F.VPA_POWER_PMAX = 0 ∧ t.get F.VPA_POWER_PIN = s.get F.VPA_POWER_PIN ∧
      (∀ f, t.get F.VPA_DROOP_WARN_EVENTS f = 0 ∧ t.get F.VPA_DROOP_RESET_RESETS f = 0 ∧ t.get F.VPA_DROOP_STRETCH_CYCLES f = 0) ∧
      ∀ k, k % 2 ^ 26 ∉ vpaCountRegs → k ≠ R.VPA_POWER → bankReg k t.bank = bankReg k s.bank)

/-- The reference, spreading and the PLLs. -/
def Obligations.Clocks : Prop :=
  ∀ s : State,
    (∀ (edge : Bool) (ppm : BitVec 16),
      let bad := edge = false ∨ ppm.toInt < -500 ∨ 500 < ppm.toInt
      answers (.refLoss edge ppm) s fun t => t.get F.CLK_REF_STAT_PPM = ppm.toNat ∧ (t.clk.lost = true ↔ bad) ∧
        (((¬ bad) ∨ s.get F.CLK_STATUS_REF_SUB = 1) → t = { s with bank := t.bank, clk := t.clk } ∧ sameRegs s t [R.CLK_REF_STAT] ∧
          onlyFld s t F.CLK_REF_STAT_PPM 0) ∧
        (bad → s.get F.CLK_STATUS_REF_SUB = 0 → t.get F.CLK_STATUS_REF_LOS = 1 ∧ t.get F.CLK_STATUS_REF_SUB = 1 ∧
          t.get F.CLK_REF_STAT_LOS_COUNT = min (2 ^ 16 - 1) (s.get F.CLK_REF_STAT_LOS_COUNT + 1))) ∧
    (s.pickState = 0 → s.clk.lost = false → answers .refRestore s fun t => setsFld s t F.CLK_STATUS_REF_SUB 0 0) ∧
    ((s.pickState ≠ 0 ∨ s.clk.lost = true) → keepsAll .refRestore s) ∧
    (s.testMode = true → s.pickState = 0 → answers (.sscOff true) s fun t => t.get F.CLK_CTRL_SSC_OFF = 1 ∧
      t.get F.CLK_STATUS_SSC_ON = s.get F.CLK_STATUS_SSC_ON ∧ t.clk = { s.clk with ssc := if s.get F.CLK_STATUS_SSC_ON = 1 then some false else none }) ∧
    ((s.testMode = false ∨ s.pickState ≠ 0) → answers (.sscOff true) s fun t => setsFld s t F.CLK_STATUS_SSC_REFUSED 0 1) ∧
    (answers (.sscOff false) s fun t => t.get F.CLK_CTRL_SSC_OFF = 0 ∧ t.get F.CLK_STATUS_SSC_ON = s.get F.CLK_STATUS_SSC_ON ∧
      t.clk = { s.clk with ssc := if s.get F.CLK_STATUS_SSC_ON = 0 then some true else none }) ∧
    (s.clk.ssc = none → keepsAll .sscCrest s) ∧
    (∀ on, s.clk.ssc = some on → answers .sscCrest s fun t => t.get F.CLK_STATUS_SSC_ON = (if on then 1 else 0) ∧
      t = { s with bank := t.bank, clk := { s.clk with ssc := none } } ∧ sameRegs s t [R.CLK_STATUS] ∧ onlyFld s t F.CLK_STATUS_SSC_ON 0) ∧
    (canonical s → answers .clkClrCounts s fun t => onlyBank s t ∧ t.get F.CLK_REF_STAT_LOS_COUNT = 0 ∧ t.get F.CLK_REF_STAT_PPM = s.get F.CLK_REF_STAT_PPM ∧
      (∀ n, n < 145 → t.get F.CLK_PLL_STAT_UNLOCKS n = 0 ∧ t.get F.CLK_PLL_STAT_STATE n = s.get F.CLK_PLL_STAT_STATE n) ∧
      (∀ c, c < 9 → t.get F.CLK_XCLASS_STAT_OVERRUNS c = 0) ∧
      (∀ i, t.get F.CLK_SEAM_FILL_NOW i = s.get F.CLK_SEAM_FILL_NOW i ∧ t.get F.CLK_SEAM_FILL_MAX i = t.get F.CLK_SEAM_FILL_NOW i ∧
        t.get F.CLK_SEAM_FILL_MIN i = t.get F.CLK_SEAM_FILL_NOW i ∨ bankReg (rkey R.CLK_SEAM_FILL i) s.bank = 0) ∧
      ∀ k, k % 2 ^ 26 ∉ [R.CLK_PLL_STAT, R.CLK_XCLASS_STAT, R.CLK_REF_STAT, R.CLK_SEAM_FILL] → bankReg k t.bank = bankReg k s.bank) ∧
    (∀ pll : Fin 145,
      let n := pll.val
      let k := smGet 0 n s.clk.tries
      (s.get F.CLK_PLL_STAT_STATE n ≠ 2 → ∀ runs, keepsAll (.pllUnlock pll runs) s) ∧
      (s.get F.CLK_PLL_STAT_STATE n = 2 → ∀ runs : List (Fin 8), answers (.pllUnlock pll runs) s fun t => t.get F.CLK_PLL_STAT_STATE n = 1 ∧
        t.get F.CLK_PLL_STAT_UNLOCKS n = min (2 ^ 8 - 1) (s.get F.CLK_PLL_STAT_UNLOCKS n + 1) ∧ t.get F.CLK_STATUS_UNLOCK = 1 ∧
        smGet 0 n t.clk.tries = 0 ∧ (runs ≠ [] → t.get F.CLK_STATUS_XOVR = 1)) ∧
      (∀ time : BitVec 16,
        (s.get F.CLK_PLL_STAT_STATE n ≠ 1 → ∀ ok, keepsAll (.pllRelock pll ok time) s) ∧
        (s.get F.CLK_PLL_STAT_STATE n = 1 →
          (answers (.pllRelock pll true time) s fun t => t.get F.CLK_PLL_STAT_STATE n = 2 ∧ t.get F.CLK_PLL_STAT_LOCK_TIME n = time.toNat ∧
            onlyRegs s t [rkey R.CLK_PLL_STAT n]) ∧
          (k < 2 → answers (.pllRelock pll false time) s fun t => t = { s with clk := t.clk } ∧ smGet 0 n t.clk.tries = k + 1) ∧
          (2 ≤ k → answers (.pllRelock pll false time) s fun t => t.get F.CLK_PLL_STAT_STATE n = 3 ∧
            (n < 60 → t.get F.CLK_STATUS_FIELD_FAIL = 1 ∧ n ∈ t.clk.stopped) ∧ (60 ≤ n → t.clk.stopped = s.clk.stopped)))))

/-- Tray readings, sensors, the forecaster and coolant stops. -/
def Obligations.Cooling : Prop :=
  ∀ s : State,
    (∀ bytes : List (BitVec 8),
      let run := Instr.trayRead bytes
      let good := bytes.length = 8 ∧ crc8 (bytes.take 7) = leNat (bytes.drop 7)
      let flow := leNat (sliceB bytes 4 2)
      (s.hcRuns = false → keepsAll run s) ∧
      (s.hcRuns = true → ¬ good → answers run s fun t => t.thm = { s.thm with valid := false } ∧
        t.get F.THM_COUNTS_TRAY_CRC = (if bytes = [] then s.get F.THM_COUNTS_TRAY_CRC else min (2 ^ 8 - 1) (s.get F.THM_COUNTS_TRAY_CRC + 1)) ∧
        sameRegs s t [R.THM_COUNTS]) ∧
      (s.hcRuns = true → good → s.get F.THM_STATUS_STOPPED = 1 → answers run s fun t => t.thm.valid = true ∧ t.thm.last = s.timeUs ∧
        t.get F.THM_TRAY_INLET = leNat (sliceB bytes 0 2) ∧ t.get F.THM_TRAY_OUTLET = leNat (sliceB bytes 2 2) ∧ t.get F.THM_FLOW_FLOW = flow ∧
        t.get F.THM_STATUS_TRAY_LOST = 0 ∧ sameRegs s t [R.THM_TRAY, R.THM_FLOW, R.THM_STATUS]) ∧
      (s.hcRuns = true → good → s.get F.THM_STATUS_STOPPED = 0 → flow < 10 * max 12 (s.get F.THM_FLOW_CFG_STOP) →
        answers run s fun t => t.thm.stopping = true)) ∧
    ((s.timeUs < s.thm.last + 50000 ∨ s.get F.THM_STATUS_TRAY_LOST = 1) → keepsAll .trayLost s) ∧
    (s.thm.last + 50000 ≤ s.timeUs → s.get F.THM_STATUS_TRAY_LOST = 0 → answers .trayLost s fun t => t.get F.THM_STATUS_TRAY_LOST = 1 ∧
      t.pm = { s.pm with ceilThermal := if s.get F.THM_CTRL_FORECAST_EN = 1 then max s.pm.ceilThermal 2 else s.pm.ceilThermal }) ∧
    (∀ (f : Fin 60) (q : List (BitVec 16)), answers (.sensorSample f q) s fun t =>
      t = { s with bank := t.bank, thm := { s.thm with trip := t.thm.trip } } ∧
      sameRegs s t ((rangeFrom 0 26).map fun n => rkey R.THM_SENS_STAT (f.val * 32 + n)) ∧
      ∀ (n : Nat) (w : BitVec 16), n < 26 → q[n]? = some w →
        let k := f.val * 32 + n
        let v := s.sensRead f.val n w.toNat
        t.get F.THM_SENS_STAT_TEMP k = tow 16 v ∧
        t.get F.THM_SENS_STAT_MAX k = (if sgn 16 (s.get F.THM_SENS_STAT_MAX k) < v then tow 16 v else s.get F.THM_SENS_STAT_MAX k) ∧
        smGet 0 k t.thm.trip = if (s.tripOf n : Int) ≤ v then smGet 0 k s.thm.trip + 1 else 0) ∧
    (let hot := s.preds.filter fun p => decide ((s.actOf p.dram : Rat) ≤ p.val)
     (s.get F.THM_CTRL_FORECAST_EN = 0 → s.preds = [] → keepsAll .forecast s) ∧
     (∀ p, s.get F.THM_CTRL_FORECAST_EN = 0 → topPred s.preds = some p → answers .forecast s fun t => onlyRegs s t [R.THM_PRED] ∧
       t.get F.THM_PRED_PRED = tow 16 (roundT (10 * p.val)) ∧ t.get F.THM_PRED_FIELD = p.field % 64 ∧ t.get F.THM_PRED_STEP = p.step % 16) ∧
     (s.get F.THM_CTRL_FORECAST_EN = 1 → hot = [] → s.get F.THM_STATUS_TRAY_LOST = 0 → answers .forecast s fun t => t.get F.THM_STATUS_PARKING = 0) ∧
     (s.get F.THM_CTRL_FORECAST_EN = 1 → hot ≠ [] → s.thm.acted = true → stepDown s.pat.modes s.mode s.level ≠ none →
       answers .forecast s fun t => (∃ u, exec (.stepRequest 2) s = .next u ∧ t.pm = u.pm) ∧ t.pm.ceilThermal = max s.pm.ceilThermal (min 6 (s.depth + 1)) ∧
         t.get F.THM_COUNTS_STEPS = min (2 ^ 16 - 1) (s.get F.THM_COUNTS_STEPS + 1)) ∧
     (s.get F.THM_CTRL_FORECAST_EN = 1 → hot ≠ [] → s.thm.acted = true → s.reed.skeins = [] → stepDown s.pat.modes s.mode s.level = none →
       answers .forecast s fun t => t.get F.THM_STATUS_PARKING = 1 ∧ t.pm.ceilThermal = max s.pm.ceilThermal s.depth)) ∧
    (∀ late, (s.thm.stopping = false ∨ (late = false ∧ 1 ≤ s.pickState ∧ s.pickState ≤ 3)) → keepsAll (.coolantStopDrainEnd late) s) ∧
    (∀ late, s.thm.stopping = true → (late = true ∨ s.pickState = 0 ∨ 3 < s.pickState) → answers (.coolantStopDrainEnd late) s fun t =>
      t.thm.stopping = false ∧ t.get F.WRP_STATUS_LOADED = 0 ∧ t.pwr.wait = [] ∧ t.pwr.ramp = none) ∧
    (∀ (f : Fin 60) (n : Fin 26),
      (smGet 0 (f.val * 32 + n.val) s.thm.trip < 2 → keepsAll (.thermalTrip f n) s) ∧
      (2 ≤ smGet 0 (f.val * 32 + n.val) s.thm.trip → answers (.thermalTrip f n) s fun t => t.get F.THM_STATUS_TRIP = 1 ∧
        t.get F.THM_STATUS_STOPPED = 1 ∧ t.get F.THM_PRED_FIELD = f.val ∧ t.get F.THM_PRED_DRAM = (if 16 ≤ n.val ∧ n.val < 24 then 1 else 0) ∧
        t.get F.THM_PRED_PRED = s.get F.THM_SENS_STAT_TEMP (f.val * 32 + n.val))) ∧
    ((s.get F.THM_STATUS_STOPPED = 0 ∨ s.coolOk = false) → keepsAll .clearStop s) ∧
    (s.get F.THM_STATUS_STOPPED = 1 → s.coolOk = true → answers .clearStop s fun t => ∃ u, setsFld s u F.THM_STATUS_STOPPED 0 0 ∧ t = u.coldReset 7) ∧
    (answers .thmClrCounts s fun t => onlyBank s t ∧ t.reg R.THM_COUNTS = 0 ∧
      (∀ f n, f < 60 → n < 26 → t.get F.THM_SENS_STAT_MAX (f * 32 + n) = 0 ∧
        t.get F.THM_SENS_STAT_TEMP (f * 32 + n) = s.get F.THM_SENS_STAT_TEMP (f * 32 + n)) ∧
      ∀ k, k % 2 ^ 26 ∉ [R.THM_COUNTS, R.THM_SENS_STAT] → bankReg k t.bank = bankReg k s.bank)

/-- Power-on, resets and their causes. -/
def Obligations.Resets : Prop :=
  ∀ s : State,
    let kept := nvRegs ++ powerRegs ++ warmRegs ++ [R.NVW_STATUS, R.BOOT_SVN, R.BOOT_STATUS, R.ATT_STATUS, R.HC_INFO, R.VPA_DOM_PATH, R.CLK_STATUS, R.PCK_CEILING]
    let cleared := fun (t : State) => t.pm.pick = 0 ∧ t.reed = Reed.empty ∧ t.pat = Pattern.empty ∧ t.held = [] ∧ t.pending = s.pending ∧
      t.pins.hcStat = false ∧ (∀ x, (t.tile x).st = 0) ∧ t.get F.BOOT_SVN_FW_SVN = s.get F.BOOT_SVN_FW_SVN ∧
      ∀ k, k % 2 ^ 26 ∉ kept → bankReg k t.bank = regReset k
    let begun := fun (last stage : Nat) (t : State) => cleared t ∧ t.get F.BOOT_STATUS_LAST_RESET = last ∧
      t.get F.BOOT_STATUS_WDOG_RESET = (if last = 4 then 1 else 0) ∧ t.get F.BOOT_STATUS_STAGE = stage
    let first := if s.pins.resetLow then 0 else 1
    (s.dmp.run = none → s.spool.swatch = none → answers .warmReset s fun t => begun 3 first t ∧ t.pins.pwrgood = s.pins.pwrgood ∧
      t.spool.dram = s.spool.dram ∧ t.dmp.pen = s.dmp.pen) ∧
    (s.dmp.run ≠ none → answers .warmReset s fun t => t.trust.resetWait = some (1, 3) ∧ setsFld { s with trust := t.trust } t F.BOOT_CTRL_SCOPE 0 1) ∧
    (answers .coldReset s fun t => begun 2 first t ∧ t.pins.pwrgood = false) ∧
    ((s.hcRuns = false ∨ s.timeUs < s.trust.beat + 100000) → keepsAll .wdog s) ∧
    (s.hcRuns = true → s.trust.beat + 100000 ≤ s.timeUs → s.dmp.run = none → s.spool.swatch = none → answers .wdog s fun t => begun 4 first t ∧
      t.spool.dram = s.spool.dram) ∧
    (∀ (high : Bool) (ns : Nat),
      let run := Instr.resetN high ns
      ((ns < 50 ∨ high = !s.pins.resetLow) → keepsAll run s) ∧
      (50 ≤ ns → high = s.pins.resetLow → s.domOn 54 = false → answers run s fun t => t = { s with pins := { s.pins with resetLow := !high } }) ∧
      (50 ≤ ns → high = false → s.pins.resetLow = false → s.domOn 54 = true → answers run s fun t => begun 1 0 t ∧ t.pins.resetLow = true ∧
        t.pins.pwrgood = false) ∧
      (50 ≤ ns → high = true → s.pins.resetLow = true → s.domOn 54 = true → answers run s fun t => t.get F.BOOT_STATUS_STAGE = 1 ∧
        t.pins.resetLow = false ∧ sameRegs s t [R.BOOT_STATUS])) ∧
    ((s.domOn 54 = true ∨ s.get F.VPA_DOM_STAT_STATE 54 = 6) → keepsAll .powerOn s) ∧
    (s.domOn 54 = false → s.get F.VPA_DOM_STAT_STATE 54 ≠ 6 → answers .powerOn s fun t => t.get F.VPA_DOM_STAT_STATE 54 = 3 ∧ t.domOk 54 = 4 ∧
      t.get F.BOOT_STATUS_LAST_RESET = 0 ∧ t.trust.vkTime = s.timeUs ∧
      t.get F.BOOT_STATUS_STAGE = (if s.pins.resetLow then s.get F.BOOT_STATUS_STAGE else 1) ∧ sameRegs s t [rkey R.VPA_DOM_STAT 54, R.BOOT_STATUS]) ∧
    (s.domOn 54 = true → answers .powerReset s fun t => cleared t ∧ t.timeUs = 0 ∧ t.get F.VPA_DOM_STAT_STATE 54 = 0 ∧
      t.get F.VPA_DOM_STAT_CAUSE 54 = 5 ∧ t.pins.pwrgood = false ∧ t.spool = Spool.empty) ∧
    (s.get F.VPA_DOM_STAT_STATE 54 = 6 → answers .powerReset s fun t => t.get F.VPA_DOM_STAT_STATE 54 = 0 ∧ onlyRegs s t [rkey R.VPA_DOM_STAT 54]) ∧
    (s.domOn 54 = false → s.get F.VPA_DOM_STAT_STATE 54 ≠ 6 → keepsAll .powerReset s) ∧
    (let dark := 1 ≤ s.get F.BOOT_STATUS_STAGE ∧ s.get F.BOOT_STATUS_CODE ≠ 0 ∧ s.hcUp 0 = false ∧ s.hcUp 1 = false
     (¬ dark → keepsAll .noHc s) ∧
     (dark → answers .noHc s fun t => t = { s with out := s.out ++ [.mgmt (Config.mgmtLine (s.get F.BOOT_STATUS_STAGE) 11)] }))

/-- Boot stages, takeover and firmware update. -/
def Obligations.Controllers : Prop :=
  ∀ s : State,
    let stage := s.get F.BOOT_STATUS_STAGE
    let next := fun (l : List (BitVec 12)) (late : Bool) => answers (.bootStage l late) s fun t => t.get F.BOOT_STATUS_STAGE = stage + 1
    let stays := fun (l : List (BitVec 12)) (late : Bool) => keepsAll (.bootStage l late) s
    (∀ l late,
      ((stage = 0 ∨ 11 ≤ stage) → stays l late) ∧
      ((stage = 5 ∨ stage = 8 ∨ stage = 9) → next l late) ∧
      ((stage = 2 ∨ stage = 3) → s.hcRuns = false → stays l late) ∧
      ((stage = 2 ∨ stage = 3) → s.hcRuns = true → next [] late) ∧
      (stage = 4 → if vinBand (s.get F.VPA_INPUT_VIN) = 0 then next l late else stays l late) ∧
      (stage = 6 → if late = false ∧ (∃ p : Fin 16, s.portState p.val = 2) then stays l late else next l late) ∧
      (stage = 7 → if s.coolOk = true ∧ s.get F.THM_STATUS_STOPPED = 0 then next l late else late = false → stays l late) ∧
      (stage = 10 → if s.ld.load = none then next l late else stays l late) ∧
      (stage = 1 → s.get F.BOOT_STATUS_CODE = 0 →
        let bad := l.map BitVec.toNat
        (s.bankCode bad 0 (smGet 0 0 s.trust.cur) = 0 → s.bankCode bad 1 (smGet 0 1 s.trust.cur) = 0 → answers (.bootStage l late) s fun t =>
          t.get F.BOOT_STATUS_STAGE = 2 ∧ t.get F.BOOT_STATUS_HCA_OK = 1 ∧ t.get F.BOOT_STATUS_HCB_OK = 1 ∧ t.get F.BOOT_STATUS_PRIMARY = 0 ∧
          t.get F.BOOT_STATUS_CODE = 0 ∧ t.get F.BOOT_SVN_RUN_A = fwSvn (s.bankImg 0 (smGet 0 0 s.trust.cur)) % 256) ∧
        ((∀ c b : Fin 2, s.bankCode bad c.val b.val ≠ 0) → (∀ c : Fin 2, smGet 0 c.val s.trust.cur < 2) → answers (.bootStage l late) s fun t =>
          t.get F.BOOT_STATUS_STAGE = 1 ∧ t.get F.BOOT_STATUS_HCA_OK = 0 ∧ t.get F.BOOT_STATUS_HCB_OK = 0 ∧
          t.get F.BOOT_STATUS_CODE = s.bankCode bad 0 (smGet 0 0 s.trust.cur)))) ∧
    (∀ alive, s.hcRuns = false → keepsAll (.stateMirror alive) s) ∧
    (s.hcRuns = true → s.hcUp s.standby = true →
      (answers (.stateMirror true) s fun t => t = { s with trust := { s.trust with beat := s.timeUs, mirror := some (s.nvw.queue, s.bcn.bseq, s.bcn.rseq) } }) ∧
      (s.trust.retried = false → answers (.stateMirror false) s fun t => t = { s with trust := { s.trust with beat := s.timeUs, retried := true } }) ∧
      (s.trust.retried = true → answers (.stateMirror false) s fun t => t.hcUp s.standby = false ∧ t.trust.beat = s.timeUs ∧ t.primary = s.primary)) ∧
    ((s.hcRuns = false ∨ s.hcUp s.standby = false ∨ s.timeUs < s.trust.beat + s.beatLimit) → keepsAll .takeover s) ∧
    (s.hcRuns = true → s.hcUp s.standby = true → s.trust.beat + s.beatLimit ≤ s.timeUs → s.ld.load = none → s.ld.install = none → s.nvw.op ≠ 1 →
      s.nvw.run = none → s.nvw.weave = none → s.trust.report = false → s.get F.ATT_STATUS_REKEY_BUSY = 0 → s.host.stalls = [] →
      answers .takeover s fun t => t.primary = s.standby ∧ t.get F.BOOT_STATUS_TAKEOVER = 1 ∧ t.hcUp s.primary = false ∧ t.hcUp s.standby = true ∧
        t.trust.beat = s.timeUs ∧ t.trust.mirror = none ∧
        (∀ m, s.trust.mirror = some m → t.nvw.queue = m.1 ∧ t.bcn.bseq = m.2.1 ∧ t.bcn.rseq = m.2.2)) ∧
    (∀ (target : Bool) (img : List (BitVec 8)) (lost bad : Bool),
      let run := Instr.fwImageWrite target img lost bad
      let c := if target then 1 else 0
      let result := fun (t : State) (n : Nat) => t.get F.BOOT_FW_STAT_RESULT = n
      let refused := fun (n : Nat) => answers run s fun t => result t n ∧ onlyRegs s t [R.BOOT_FW_CTRL, R.BOOT_FW_STAT]
      let n := 8192 + fwLen img
      let image := img.take n
      let slot := c * 2 + s.otherBank c
      (s.hcRuns = false → keepsAll run s) ∧
      (s.hcRuns = true →
        (c ≠ s.standby → refused 4) ∧
        (c = s.standby → (lost = true ∨ s.hostPorts = []) → refused 8) ∧
        (c = s.standby → lost = false → s.hostPorts ≠ [] →
          (fwFormat img = false → refused 5) ∧
          (fwFormat img = true → bad = true → answers run s fun t => result t 9 ∧ smGet [] slot t.trust.banks = image ∧
            t.get F.BOOT_STATUS_UPDATE_PEND = 0) ∧
          (fwFormat img = true → bad = false → answers run s fun t => smGet [] slot t.trust.banks = image ∧
            (∀ k, k ≠ slot → smGet [] k t.trust.banks = smGet [] k s.trust.banks) ∧
            (if s.fwCheck image = 0 then result t 2 ∧ t.get F.BOOT_STATUS_UPDATE_PEND = 1
             else result t (fwStatOf (s.fwCheck image)) ∧ t.get F.BOOT_STATUS_UPDATE_PEND = 0))))) ∧
    (∀ bad, s.hcRuns = false → keepsAll (.restartStby bad) s) ∧
    (let c := s.standby
     let b := if s.get F.BOOT_STATUS_UPDATE_PEND = 1 then s.otherBank c else smGet 0 c s.trust.cur
     (s.hcRuns = true → s.trust.heldReset = some c → ∀ bad, answers (.restartStby bad) s fun t => setsFld s t F.BOOT_FW_STAT_RESULT 0 4) ∧
     (s.hcRuns = true → s.trust.heldReset ≠ some c → s.bankCode [] c b = 0 → answers (.restartStby []) s fun t => t.hcUp c = true ∧ smGet 0 c t.trust.cur = b ∧
       t.get F.BOOT_STATUS_UPDATE_PEND = 0 ∧ t.get F.BOOT_FW_STAT_RESULT = 2 ∧ t.get (hcSvn c) = fwSvn (s.bankImg c b) % 256 ∧ t.primary = s.primary)) ∧
    (let only := fun (c : Instr) (n : Nat) => answers c s fun t => setsFld s t F.BOOT_FW_STAT_RESULT 0 n
     (s.hcRuns = false → keepsAll .swapRoles s) ∧
     (s.hcRuns = true →
       (s.hcUp s.standby = false → only .swapRoles 4) ∧
       (s.hcUp s.standby = true →
         (smGet 0 0 s.trust.handoff ≠ smGet 0 1 s.trust.handoff → only .swapRoles 11) ∧
         (smGet 0 0 s.trust.handoff = smGet 0 1 s.trust.handoff → s.hcBusy = true → only .swapRoles 3) ∧
         (smGet 0 0 s.trust.handoff = smGet 0 1 s.trust.handoff → s.hcBusy = false → answers .swapRoles s fun t => t.primary = s.standby ∧
           t.get F.BOOT_FW_STAT_RESULT = 2 ∧ t.get F.WRP_STATUS_PRIMARY = s.standby ∧ onlyBank s t))) ∧
     (let agree := s.hcUp 0 = true ∧ s.hcUp 1 = true ∧ s.get F.BOOT_SVN_RUN_A = s.get F.BOOT_SVN_RUN_B
      (¬ agree → only .commitSvn 12) ∧
      (agree → answers .commitSvn s fun t => t.get F.BOOT_SVN_FW_SVN = max (s.get F.BOOT_SVN_FW_SVN) (s.get F.BOOT_SVN_RUN_A) ∧
        t.get F.BOOT_FW_STAT_RESULT = 2 ∧ t.get F.BOOT_STATUS_SVN_PEND = 0 ∧ onlyRegs s t [R.BOOT_SVN, R.BOOT_FW_STAT, R.BOOT_STATUS])))

/-- Reports, enrolment and rekeys. -/
def Obligations.Attestation : Prop :=
  ∀ s : State,
    let only := fun (c : Instr) (n : Nat) => answers c s fun t => setsFld s t F.ATT_STATUS_RESULT 0 n
    (s.hcRuns = false → keepsAll .report s ∧ (∀ rec, keepsAll (.enroll rec) s) ∧ keepsAll .rekey s ∧ keepsAll .cert s ∧ keepsAll .rekeyComplete s ∧
      keepsAll .lmsTreeBuildComplete s) ∧
    (s.hcRuns = true →
      ((s.attBusy = true ∨ s.reportRate ≤ s.reportsNow) → only .report 3) ∧
      (s.attBusy = false → s.reportsNow < s.reportRate →
        (s.lmsLeft ≤ 1 → only .report 4) ∧
        (1 < s.lmsLeft → s.lmsBuilt = false → only .report 3) ∧
        (1 < s.lmsLeft → s.lmsBuilt = true →
          (s.hostPorts = [] → only .report 5) ∧
          (∀ p, s.hostPorts.head? = some p → answers .report s fun t => t.get F.ATT_STATUS_RESULT = 1 ∧ t.trust.report = true ∧
            t.trust.lmsNext = s.trust.lmsNext + 1 ∧ t.trust.inSecond = s.reportsNow + 1 ∧
            t.get F.ATT_COUNT_REPORTS = min (2 ^ 32 - 1) (s.get F.ATT_COUNT_REPORTS + 1) ∧ sameRegs s t [R.ATT_STATUS, R.ATT_COUNT] ∧
            t.out = s.out ++ [.memWr p 2 s.attAddr (s.reportBytes.take 4096), .memWr p 2 (s.attAddr + 4096) (s.reportBytes.drop 4096)] ++
              [.flush p 2 s.host.nextTag s.attAddr]))) ∧
      (∀ rec : List (BitVec 8),
        let keyed := fun (t : State) => t.trust = { s.trust with patKey := rec.take 157 } ∧ t.get F.ATT_STATUS_RESULT = 2
        (s.pickState ≠ 0 → only (.enroll rec) 3) ∧
        (s.pickState = 0 → s.hostPorts = [] → only (.enroll rec) 5) ∧
        (s.pickState = 0 → s.hostPorts ≠ [] →
          (keyRecordOk rec = false → only (.enroll rec) 8) ∧
          (keyRecordOk rec = true → s.trust.patKey = [] → answers (.enroll rec) s fun t => keyed t ∧ sameRegs s t [R.ATT_STATUS]) ∧
          (keyRecordOk rec = true → s.trust.patKey ≠ [] →
            (s.enrollChecked rec ≠ 2 → only (.enroll rec) (s.enrollChecked rec)) ∧
            (s.enrollChecked rec = 2 → answers (.enroll rec) s fun t => keyed t ∧
              t.get F.BOOT_SVN_KEY_EPOCH = s.get F.BOOT_SVN_KEY_EPOCH + 1 ∧ sameRegs s t [R.ATT_STATUS, R.BOOT_SVN])))) ∧
      (s.attBusy = true → only .rekey 3) ∧
      (s.attBusy = false →
        (2 ^ 24 ≤ s.lmsLeft → only .rekey 11) ∧
        (s.lmsLeft < 2 ^ 24 → s.get F.ATT_STATUS_REKEYS = 15 → only .rekey 9) ∧
        (s.lmsLeft < 2 ^ 24 → s.get F.ATT_STATUS_REKEYS ≠ 15 → s.hostPorts = [] → only .rekey 5) ∧
        (s.lmsLeft < 2 ^ 24 → s.get F.ATT_STATUS_REKEYS ≠ 15 → s.hostPorts ≠ [] → answers .rekey s fun t => t.get F.ATT_STATUS_REKEY_BUSY = 1 ∧
          t.get F.ATT_STATUS_RESULT = 1 ∧ onlyRegs s t [R.ATT_STATUS])) ∧
      (s.get F.ATT_STATUS_REKEY_BUSY = 0 → keepsAll .rekeyComplete s) ∧
      (s.get F.ATT_STATUS_REKEY_BUSY = 1 → answers .rekeyComplete s fun t => t.get F.ATT_STATUS_REKEY_BUSY = 0 ∧ t.get F.ATT_STATUS_RESULT = 2 ∧
        t.get F.ATT_STATUS_REKEYS = min 15 (s.get F.ATT_STATUS_REKEYS + 1) ∧
        t.trust = { s.trust with certs := s.trust.certs ++ [s.certBytes], keys := s.trust.keys + 1, lmsNext := 0, lmsEnd := 0, trees := 1 } ∧
        t.out = s.out ++ (match s.hostPorts.head? with
          | some p => [.memWr p 2 s.attAddr s.certBytes]
          | none => [])) ∧
      (let i := s.get F.ATT_CERT_SEL_INDEX
       ((i = 0 ∨ s.get F.ATT_STATUS_REKEYS < i) → only .cert 8) ∧
       (0 < i → i ≤ s.get F.ATT_STATUS_REKEYS →
         (s.hostPorts = [] → only .cert 5) ∧
         (∀ p, s.hostPorts.head? = some p → answers .cert s fun t => t.get F.ATT_STATUS_RESULT = 2 ∧ t.trust = s.trust ∧
           t.out = s.out ++ [.memWr p 2 s.attAddr (s.trust.certs.getD (i - 1) [])] ∧ sameRegs s t [R.ATT_STATUS]))) ∧
      (let due := s.trust.trees * 2 ^ 20 ≤ s.trust.lmsNext + 2 ^ 19 ∧ s.trust.trees < 2 ^ 20
       (¬ due → keepsAll .lmsTreeBuildComplete s) ∧
       (due → answers .lmsTreeBuildComplete s fun t => t = { s with trust := { s.trust with trees := s.trust.trees + 1 } })))

/-- Register writes, alias writes and reads. -/
def Obligations.RegisterAccess : Prop :=
  ∀ (s : State) (addr : BitVec 32) (data : List (BitVec 8)),
    let a := addr.toNat
    let w := leNat data
    let run := Instr.registerWrite addr data
    let plain := [R.HC_SCRATCH, R.HC_SCRATCH + 4, R.HC_SCRATCH + 8, R.HC_SCRATCH + 12, R.BOOT_FW_SRC_LO, R.BOOT_FW_SRC_HI, R.ATT_NONCE,
      R.ATT_ADDR_LO, R.ATT_ADDR_HI, R.ATT_CERT_SEL, R.DMP_PEN_SEL, R.TST_INJ_PICK, R.TST_CAP_POS,
      R.TST_CAP_ADDR_LO, R.TST_CAP_ADDR_HI]
    let clears := [R.PCK_STATUS, R.THM_STATUS, R.CLK_STATUS, R.HLS_STATUS, R.DMP_STATUS]
    let later := [R.PCK_LAG_BOUND, R.PCK_DONE_LIMIT, R.WFT_WDOG, R.NVW_THRESH]
    let counted := fun (t : State) (f : Fld) => t.get f = min (2 ^ 16 - 1) (s.get f + 1) ∧ t.get F.HC_ACC_CAP_VALID = 1 ∧ t.get F.HC_ACC_CAP_WRITE = 1 ∧
      t.get F.HC_ACC_CAP_ADDR = a % 2 ^ 26 ∧ onlyRegs s t [R.HC_ACC, R.HC_ACC_CAP]
    ((a % 4 ≠ 0 ∨ (data.length ≠ 4 ∧ data.length ≠ 8)) → answers run s fun t => counted t F.HC_ACC_PARTIAL) ∧
    (a % 4 = 0 → data.length = 4 → a < 0x94000 →
      (regRow? a = none → answers run s fun t => counted t F.HC_ACC_UNMAPPED) ∧
      (∀ r, regRow? a = some r →
        cvuFirmAt a = false → Nat.land w r.resl ≠ reslBits a r → exec run s = .fault .reslWrite)) ∧
    (data.length = 4 → ∀ r, regRow? a = some r →
      (a ∈ clears → answers run s fun t => onlyRegs s t [a] ∧ ∀ n, n < 32 →
        (t.reg a).getLsbD n = ((s.reg a).getLsbD n && !(bitAt r.w1c n && bitAt w n))) ∧
      (a ∈ plain → answers run s fun t => onlyRegs s t [a] ∧ ∀ n, n < 32 → (t.reg a).getLsbD n = if bitAt r.rw n then bitAt w n else (s.reg a).getLsbD n) ∧
      (a ∈ later → Nat.land w r.resl = reslBits a r → answers run s fun t => t.cfgWord a = s.cfgWord a ∧
        ∀ n, n < 32 → bitAt r.rw n = true → (t.reg a).getLsbD n = bitAt w n)) ∧
    (a = R.HC_SCRATCH → data.length = 8 → answers run s fun t => t.reg R.HC_SCRATCH = BitVec.ofNat 32 (leNat (data.take 4)) ∧
      t.reg (R.HC_SCRATCH + 4) = BitVec.ofNat 32 (leNat (data.drop 4)) ∧ onlyRegs s t [R.HC_SCRATCH, R.HC_SCRATCH + 4]) ∧
    (∀ (block : Fin 17) (off : BitVec 16) (bit : Fin 32) (d : BitVec 32) (r : RegRow),
      let b := block.val * 0x10000 + off.toNat
      b ∈ plain → regRow? b = some r → smGet none b s.latch = none →
        (bitAt r.rw bit.val = true → answers (.aliasWrite block off bit d) s fun t => onlyRegs s t [b] ∧
          ∀ n, n < 32 → (t.reg b).getLsbD n = if n = bit.val then d.getLsbD 0 else (s.reg b).getLsbD n) ∧
        (bitAt r.rw bit.val = false → keepsAll (.aliasWrite block off bit d) s)) ∧
    (∀ port : Fin 16,
      let p := port.val
      (s.portState p ≠ 3 → keepsAll (.regWr port addr data) s ∧ ∀ tag len, keepsAll (.regRd port tag addr len) s) ∧
      (s.portState p = 3 → s.portRole p ≠ 1 → (answers (.regWr port addr data) s fun t => setsFld s t F.HLS_STATUS_REG_ERR 0 1) ∧
        ∀ (tag : BitVec 12) len, answers (.regRd port tag addr len) s fun t => t = { s with out := s.out ++ [.regCpl p tag.toNat 3 (leBytes 4 0xFFFFFFFF)] }) ∧
      (s.portState p = 3 → s.portRole p = 1 →
        (((a ∈ plain ∧ data.length = 4) ∨ a % 4 ≠ 0 ∨ (data.length ≠ 4 ∧ data.length ≠ 8)) → exec (.regWr port addr data) s = exec run s) ∧
        (∀ (tag : BitVec 12) (r : RegRow), a ∈ plain → regRow? a = some r → smGet none a s.latch = none →
          answers (.regRd port tag addr 3) s fun t => t = { s with latch := t.latch, out := t.out } ∧
            t.out = s.out ++ [.regCpl p tag.toNat 0 (leBytes 4 (Nat.land (s.reg a).toNat r.rw))]))) ∧
    (answers .hcClrCounts s fun t => t.reg R.HC_ACC = 0 ∧ t.reg R.HC_ACC_CAP = 0 ∧ onlyRegs s t [R.HC_ACC, R.HC_ACC_CAP]) ∧
    (answers .hcTimeLoRead s fun t => t = { s with latch := t.latch } ∧ (∀ k, k ≠ R.HC_TIME_HI → smGet none k t.latch = smGet none k s.latch) ∧
      ∀ u : State, u.latch = t.latch → u.regWord R.HC_TIME_HI = some (BitVec.ofNat 32 (s.timeUs / 2 ^ 32)))

/-- Sweeps, captures and mismatches of the sentinel. -/
def Obligations.Sentinel : Prop :=
  ∀ s : State,
    let snt := fun (t : State) => t = { s with snt := t.snt }
    (∀ errs, (s.get F.SNT_CTRL_EN = 0 ∨ s.hcRuns = false) → keepsAll (.sentinelSweep errs) s) ∧
    (s.get F.SNT_CTRL_EN = 1 → s.hcRuns = true → s.snt.sweep = [] → s.segments.Nodup → answers (.sentinelSweep []) s fun t => snt t ∧
      t.snt.sweep = s.segments ∧ t.snt.round = s.segments ∧ t.snt.differs = false ∧ t.snt.vals = s.snt.vals ∧ t.snt.refs = s.snt.refs ∧
      ∀ id, id ∈ s.segments → id ∈ s.snt.capture → s.segOn id = true → id ∈ t.snt.fresh) ∧
    (∀ seg : BitVec 24,
      let id := seg.toNat
      let run := Instr.segmentSweepEnd seg
      let crc := s.segCrc id
      let ref := smGet 0 id s.snt.refs
      let valid := s.get F.SNT_STATUS_REF_VALID = 1 ∧ ref ≠ 0
      (id ∉ s.snt.sweep → keepsAll run s) ∧
      (id < 0x80000 → (s.tile id).st = 6 → keepsAll run s) ∧
      (id ∈ s.snt.sweep → s.segOn id = true → id ∉ s.snt.fresh → id ∉ s.snt.again → s.get F.SNT_STATUS_CAPTURING = 0 →
        (∃ j ∈ s.snt.sweep, j ≠ id) → answers run s fun t => smGet 0 id t.snt.vals = crc + 1 ∧ id ∉ t.snt.sweep ∧
          (∀ j, j ≠ id → (j ∈ t.snt.sweep ↔ j ∈ s.snt.sweep) ∧ smGet 0 j t.snt.vals = smGet 0 j s.snt.vals) ∧ t.snt.refs = s.snt.refs ∧
          (¬ (valid ∧ ref ≠ crc + 1) → snt t) ∧
          (valid ∧ ref ≠ crc + 1 → t.get F.SNT_STATUS_MISMATCH = 1 ∧ t.get F.SNT_STATUS_MISMATCH_SEEN = 1 ∧ t.get F.SKN_CTRL_ADMIT_EN = 0 ∧
            t.snt.differs = true ∧ t.get F.SNT_MISMATCHES_COUNT = min (2 ^ 32 - 1) (s.get F.SNT_MISMATCHES_COUNT + 1) ∧
            (s.get F.SNT_CAP0_VALID = 0 → t.get F.SNT_CAP0_VALID = 1 ∧ t.get F.SNT_CAP0_SEGMENT = id ∧ t.get F.SNT_CAP0_WRITE = 0 ∧
              t.get F.SNT_CAP1_CRC = crc % 2 ^ 32) ∧
            (s.get F.SNT_CAP0_VALID = 1 → t.reg R.SNT_CAP0 = s.reg R.SNT_CAP0 ∧ t.reg R.SNT_CAP1 = s.reg R.SNT_CAP1))) ∧
      (s.snt.sweep = [id] → s.segOn id = true → id ∉ s.snt.fresh → id ∉ s.snt.again → s.get F.SNT_STATUS_CAPTURING = 0 → id ∈ s.snt.round →
        s.snt.differs = false → s.get F.SNT_STATUS_REF_VALID = 1 → ref = crc + 1 → answers run s fun t => t.snt.sweep = [] ∧
          smGet 0 id t.snt.vals = crc + 1 ∧ t.get F.SNT_STATUS_MISMATCH = 0 ∧ t.get F.SNT_VALUE_VALUE = deviceValue t.snt.vals % 2 ^ 32 ∧
          t.get F.SNT_SWEEPS_SWEEPS = min (2 ^ 32 - 1) (s.get F.SNT_SWEEPS_SWEEPS + 1) ∧
          sameRegs s t [R.SNT_STATUS, R.SNT_VALUE, R.SNT_SWEEPS, R.SNT_SEGMENTS]) ∧
      (id ∈ s.snt.sweep → s.segOn id = true → id ∈ s.snt.fresh → id ∉ s.snt.again → s.get F.SNT_STATUS_CAPTURING = 1 → s.snt.capture = [id] →
        answers run s fun t => smGet 0 id t.snt.refs = crc + 1 ∧ t.snt.capture = [] ∧ t.get F.SNT_STATUS_REF_VALID = 1 ∧
          t.get F.SNT_STATUS_CAPTURING = 0 ∧ t.get F.SNT_STATUS_MISMATCH = 0 ∧ t.get F.SNT_REF_REF = deviceValue t.snt.refs % 2 ^ 32)) ∧
    (answers .commitReference s fun t => t.get F.SNT_STATUS_CAPTURING = 1 ∧ t.snt = { s.snt with capture := s.segments, fresh := [], restarts := 0 } ∧
      t = { s with bank := t.bank, snt := t.snt } ∧ sameRegs s t [R.SNT_STATUS] ∧ onlyFld s t F.SNT_STATUS_CAPTURING 0) ∧
    (answers (.sntEn true) s fun t => setsFld s t F.SNT_CTRL_EN 0 1) ∧
    (s.testMode = true → answers (.sntEn false) s fun t => setsFld s t F.SNT_CTRL_EN 0 0) ∧
    (s.testMode = false → keepsAll (.sntEn false) s) ∧
    (answers .sntClrCounts s fun t => t.get F.SNT_SWEEPS_SWEEPS = 0 ∧ t.get F.SNT_MISMATCHES_COUNT = 0 ∧ t.reg R.SNT_RESTARTS = 0 ∧ t.reg R.SNT_CAP0 = 0 ∧
      t.reg R.SNT_CAP1 = 0 ∧ onlyRegs s t [R.SNT_SWEEPS, R.SNT_MISMATCHES, R.SNT_RESTARTS, R.SNT_CAP0, R.SNT_CAP1]) ∧
    (∀ v : BitVec 32, answers (.sntSegSelWrite v) s fun t => t.get F.SNT_SEG_SEL_SEGMENT = v.toNat % 2 ^ 24 ∧
      t.get F.SNT_SEG_VAL_CRC = (smGet 0 (v.toNat % 2 ^ 24) s.snt.vals - 1) % 2 ^ 32 ∧
      t.get F.SNT_SEG_REF_REF = (smGet 0 (v.toNat % 2 ^ 24) s.snt.refs - 1) % 2 ^ 32 ∧ onlyRegs s t [R.SNT_SEG_SEL, R.SNT_SEG_VAL, R.SNT_SEG_REF])

/-- The check-value units compute by the procedure of R547. -/
def Obligations.CheckValues : Prop :=
  ∀ (s : State) (c : Fin 64) (v : BitVec 32),
    let i := c.val
    let width := fun (u : State) => max 8 (min 64 (u.get (F.CVU_CFG_WIDTH.nth i)))
    let poly := s.get (F.CVU_POLY_LO_POLY_LO.nth i) + s.get (F.CVU_POLY_HI_POLY_HI.nth i) * 2 ^ 32
    let init := s.get (F.CVU_INIT_LO_INIT_LO.nth i) + s.get (F.CVU_INIT_HI_INIT_HI.nth i) * 2 ^ 32
    let state := fun (u : State) => u.get (F.CVU_STATE_LO_STATE_LO.nth i) + u.get (F.CVU_STATE_HI_STATE_HI.nth i) * 2 ^ 32
    let result := fun (u : State) => u.get (F.CVU_RESULT_LO_RESULT_LO.nth i) + u.get (F.CVU_RESULT_HI_RESULT_HI.nth i) * 2 ^ 32
    let bytes := fun (u : State) => u.get (F.CVU_COUNT_BYTES.nth i)
    let bit := fun (st : Nat) (b : Bool) =>
      let sh := st * 2 % 2 ^ width s
      if (st.testBit (width s - 1) != b) = true then Nat.xor sh (poly % 2 ^ width s) else sh
    let feed := fun (st : Nat) (d : BitVec 8) =>
      [7, 6, 5, 4, 3, 2, 1, 0].foldl (fun x n => bit x (d.getLsbD (if s.get (F.CVU_CFG_REFIN.nth i) = 1 then 7 - n else n))) st
    let shows := fun (t : State) (st : Nat) => state t = st ∧ ∀ k, k < 64 →
      (result t).testBit k = (decide (k < width t) &&
        (st.testBit (if t.get (F.CVU_CFG_REFOUT.nth i) = 1 then width t - 1 - k else k) != decide (t.get (F.CVU_CFG_INVERT.nth i) = 1)))
    let fed := fun (run : Instr) (bs : List (BitVec 8)) => answers run s fun t => shows t (bs.foldl feed (state s)) ∧
      bytes t = min (2 ^ 32 - 1) (bytes s + bs.length) ∧
      onlyRegs s t [R.CVU_STATE_LO + 64 * i, R.CVU_STATE_HI + 64 * i, R.CVU_RESULT_LO + 64 * i, R.CVU_RESULT_HI + 64 * i, R.CVU_COUNT + 64 * i]
    let byte := fun (n : Nat) => v.extractLsb' (8 * n) 8
    (i % 16 < 12 →
      (answers (.cvuCfgWrite c v) s fun t =>
        t.get (F.CVU_CFG_WIDTH.nth i) = v.toNat % 2 ^ 7 ∧ t.get (F.CVU_CFG_REFIN.nth i) = v.toNat / 2 ^ 8 % 2 ∧
        t.get (F.CVU_CFG_REFOUT.nth i) = v.toNat / 2 ^ 9 % 2 ∧ t.get (F.CVU_CFG_INVERT.nth i) = v.toNat / 2 ^ 10 % 2 ∧
        (if v.getLsbD 31 then shows t (init % 2 ^ width t) ∧ bytes t = 0 else state t = state s ∧ bytes t = bytes s ∧ result t = result s)) ∧
      fed (.cvuData8 c v) [byte 0] ∧ fed (.cvuData16 c v) [byte 0, byte 1] ∧ fed (.cvuData32 c v) [byte 0, byte 1, byte 2, byte 3]) ∧
    (12 ≤ i % 16 → ∀ run, (run = .cvuCfgWrite c v ∨ run = .cvuData8 c v ∨ run = .cvuData16 c v ∨ run = .cvuData32 c v) → answers run s fun t =>
      t.get F.HC_ACC_UNMAPPED = min (2 ^ 16 - 1) (s.get F.HC_ACC_UNMAPPED + 1) ∧ onlyRegs s t [R.HC_ACC, R.HC_ACC_CAP]) ∧
    (answers (.cvuResultLoRead c) s fun t => t = { s with latch := t.latch } ∧
      smGet none (R.CVU_RESULT_HI + 64 * i) t.latch = some (s.reg (R.CVU_RESULT_HI + 64 * i)))

/-- Fault records, the fatal halt and the dump pen. -/
def Obligations.FaultsAndDumps : Prop :=
  ∀ s : State,
    (∀ (code block scope unit detail : Nat) (inj : Bool),
      let t := s.raise code block scope unit detail inj
      let k := code * 2 ^ 24 + unit
      if smGet 0 k s.flt.last = s.timeUs / 1000 + 1 then t.flt.telem = s.flt.telem ∧ smGet false k t.flt.supp = true ∧
        t.get F.DMP_SUPPRESSED_COUNT = min (2 ^ 32 - 1) (s.get F.DMP_SUPPRESSED_COUNT + 1) ∧ t.get F.DMP_STATUS_SUPPRESSED = 1
      else t.flt.telem = s.flt.telem ++ [⟨code, block, scope, unit, detail, s.pm.pick, s.timeUs, inj, smGet false k s.flt.supp⟩] ∧ t.bank = s.bank ∧
        smGet 0 k t.flt.last = s.timeUs / 1000 + 1 ∧ smGet false k t.flt.supp = false) ∧
    ((s.hcRuns = false ∨ s.flt.telem = []) → keepsAll .faultRecord s) ∧
    (∀ m ms, s.hcRuns = true → s.flt.telem = m :: ms → answers .faultRecord s fun t => t.flt.telem = ms ∧
      t.get F.DMP_FSEQ_FSEQ = (s.get F.DMP_FSEQ_FSEQ + 1) % 2 ^ 32 ∧ t.flt.log.getLast? = some (s.get F.DMP_FSEQ_FSEQ + 1, m) ∧
      t.flt.log.length = min 1024 (s.flt.log.length + 1) ∧ sameRegs s t [R.DMP_FSEQ]) ∧
    (let halted := fun (run : Instr) (reason : Nat) => s.hostPorts ≠ [] → s.get F.HLS_DUMP_SIZE_SIZE ≠ 0 → answers run s fun t =>
       (∃ d, t.dmp.run = some d ∧ d.reason = reason ∧ d.time = s.timeUs ∧ d.pick = s.pm.pick ∧ d.port ∈ s.hostPorts) ∧
         t.get F.DMP_STATUS_DUMP_BUSY = 1 ∧ t.dmp.pen = s.dmp.pen
     let off := s.hcRuns = false ∨ s.dmp.run ≠ none
     (∀ reason cut, (off → keepsAll (.fatalHalt reason cut) s) ∧ (¬ off → halted (.fatalHalt reason cut) (reason.val + 1))) ∧
     (∀ cut, ((s.testMode = false ∨ off) → keepsAll (.dmpFatal cut) s) ∧ (s.testMode = true → ¬ off → halted (.dmpFatal cut) 4))) ∧
    (∀ n, (s.dmp.run = none → keepsAll (.dumpTimeout n) s) ∧
      (s.dmp.run ≠ none → s.trust.resetWait = none → answers (.dumpTimeout n) s fun t => t.dmp.run = none ∧ t.pm.pick = 0 ∧ t.reed = Reed.empty ∧
        t.get F.BOOT_STATUS_LAST_RESET = 6)) ∧
    (let k := s.get F.DMP_PEN_SEL_SEG
     let only := fun (run : Instr) (n : Nat) => answers run s fun t => setsFld s t F.DMP_STATUS_RESULT 0 n
     let free := s.dmp.run = none ∧ s.dmp.fetch = none
     (¬ free → (∀ bad, only (.fetch bad) 3) ∧ only .erase 3) ∧
     (free → s.penAt k = none → (∀ bad, only (.fetch bad) 4) ∧ only .erase 4) ∧
     (free → ∀ d, s.penAt k = some d →
       (answers .erase s fun t => t.get F.DMP_STATUS_RESULT = 2 ∧ smGet none k t.dmp.pen = none ∧
         (∀ j, j ≠ k → smGet none j t.dmp.pen = smGet none j s.dmp.pen) ∧ sameRegs s t [R.DMP_STATUS]) ∧
       ((s.hostPorts = [] ∨ s.dumpRoom = 0) → ∀ bad, only (.fetch bad) 5) ∧
       (s.hostPorts ≠ [] → s.dumpRoom ≠ 0 → s.penPower k = false → ∀ bad, only (.fetch bad) 6) ∧
       (s.hostPorts ≠ [] → s.dumpRoom ≠ 0 → s.penPower k = true → ∀ bad : List (BitVec 23), answers (.fetch bad) s fun t =>
         let lines := bad.map BitVec.toNat
         let bs := d.2.take s.dumpRoom
         t.get F.DMP_STATUS_RESULT = 1 ∧ t.get F.DMP_STATUS_FETCH_BUSY = 1 ∧
           t.dmp.fetch = some (if lines.any fun l => decide (64 * l < bs.length) then 7 else 2) ∧
           ∃ p, s.hostPort 0 = some p ∧ t.out = s.out ++ memWrs p 2 s.dumpBase (zeroLines lines bs) ++
             [.flush p 2 s.host.nextTag s.dumpBase]))) ∧
    (answers .dmpClrCounts s fun t => t.reg R.DMP_SUPPRESSED = 0 ∧ onlyRegs s t [R.DMP_SUPPRESSED])

/-- Test mode, injections, captures and the self-test of a region. -/
def Obligations.TestMode : Prop :=
  ∀ s : State,
    (s.pickState = 0 → answers (.testMode true) s fun t => t.get F.TST_STATUS_TEST_MODE = 1 ∧ t.get F.TST_CTRL_TEST_MODE = 1 ∧
      t.get F.TST_STATUS_RESULT = 2 ∧ onlyRegs s t [R.TST_STATUS, R.TST_CTRL]) ∧
    (s.pickState ≠ 0 → answers (.testMode true) s fun t => setsFld s t F.TST_STATUS_RESULT 0 4) ∧
    (answers (.testMode false) s fun t => t.get F.TST_STATUS_TEST_MODE = 0 ∧ t.get F.TST_STATUS_RESULT = 2 ∧
      (if s.testMode then t.get F.CLK_STATUS_SSC_ON = 1 ∧ t.get F.CLK_CTRL_SSC_OFF = 0 ∧ t.get F.SNT_CTRL_EN = 1 ∧ t.clk.ssc = none ∧
        sameRegs s t [R.TST_STATUS, R.TST_CTRL, R.CLK_STATUS, R.CLK_CTRL, R.SNT_CTRL]
       else onlyRegs s t [R.TST_STATUS])) ∧
    (∀ bytes, (s.testMode = false → keepsAll (.mgmtRx bytes) s) ∧
      (s.testMode = true → answers (.mgmtRx bytes) s fun t => t = { s with pins := { s.pins with mgmtIn := s.pins.mgmtIn ++ bytes } })) ∧
    (∀ (kind n : BitVec 3) (target : BitVec 19),
      let run := Instr.injectionArm kind n target
      let field := injField kind.toNat target.toNat
      let refused := fun (code : Nat) => answers run s fun t => t.get F.TST_INJ_STAT_RESULT = code ∧ onlyRegs s t [R.TST_INJ, R.TST_INJ_STAT]
      (s.testMode = false → refused 6) ∧
      (s.testMode = true → field = none → refused 7) ∧
      (s.testMode = true → ∀ f, field = some f →
        (s.flt.armed ≠ none → refused 4) ∧
        (s.flt.armed = none → s.injPower kind.toNat f = false → refused 5) ∧
        (s.flt.armed = none → s.injPower kind.toNat f = true → answers run s fun t => t.get F.TST_INJ_STAT_RESULT = 1 ∧
          t.get F.TST_STATUS_INJ_PEND = 1 ∧ sameRegs s t [R.TST_INJ, R.TST_INJ_STAT, R.TST_STATUS] ∧
          ∃ j, t.flt = { s.flt with armed := some (j, s.get F.TST_INJ_PICK_PICK_LO) } ∧ j.kind = kind.toNat ∧ j.n = max 1 n.toNat ∧
            (kind.toNat < 4 → j.target = target.toNat)))) ∧
    (∀ skein : BitVec 12,
      let run := Instr.captureArm skein
      let refused := fun (code : Nat) => answers run s fun t => t.get F.TST_CAP_STAT_RESULT = code ∧ onlyRegs s t [R.TST_CAP_CTRL, R.TST_CAP_STAT]
      (s.reed.capture ≠ none → refused 4) ∧
      (s.reed.capture = none → s.hostPorts = [] → refused 8) ∧
      (s.reed.capture = none → s.hostPorts ≠ [] → answers run s fun t => t.get F.TST_CAP_STAT_RESULT = 1 ∧ t.get F.TST_STATUS_CAP_ARMED = 1 ∧
        t.reed = { s.reed with capture := some (skein.toNat, s.get F.TST_CAP_POS_POS) } ∧ sameRegs s t [R.TST_CAP_CTRL, R.TST_CAP_STAT, R.TST_STATUS])) ∧
    (∀ region : BitVec 4,
      let r := region.toNat
      let refused := fun (code : Nat) => answers (.bist region) s fun t => t.get F.TST_BIST_STAT_RESULT = code ∧ onlyRegs s t [R.TST_BIST, R.TST_BIST_STAT]
      (s.dmp.bist ≠ none → refused 4) ∧
      (s.dmp.bist = none → s.regionOn r = false → refused 5) ∧
      (s.dmp.bist = none → s.regionOn r = true → (s.regionIdle r = false ∨ s.patUses r = true) → refused 7) ∧
      (s.dmp.bist = none → s.regionOn r = true → s.regionIdle r = true → s.patUses r = false → answers (.bist region) s fun t =>
        t.get F.TST_BIST_STAT_RESULT = 1 ∧ t.get F.TST_STATUS_BIST_BUSY = 1 ∧ t.dmp = { s.dmp with bist := some r } ∧ t.tiles = s.tiles)) ∧
    (∀ fails : List TileAddr,
      let run := Instr.bistComplete fails
      (s.dmp.bist = none → keepsAll run s) ∧
      (∀ r, s.dmp.bist = some r → canonical s →
        let bad := (fails.map BitVec.toNat).filter fun a => tileOk a && decide (regionOf (fieldOf a) = r)
        answers run s fun t => t.dmp = { s.dmp with bist := none } ∧ t.get F.TST_STATUS_BIST_BUSY = 0 ∧
          t.get F.TST_BIST_STAT_RESULT = (if bad = [] then 2 else 3) ∧ t.get F.TST_BIST_STAT_FIRST_FAIL = bad.headD 0 ∧
          t.get F.TST_BIST_COUNT_FAILED = bad.length % 2 ^ 16 ∧ t.get F.TST_BIST_COUNT_TESTED = 4608 * (fieldsOf r).length ∧
          (let spare := s.get F.WRP_STATUS_LOADED = 1 ∧ r = s.pat.spare ∧ s.pat.variant = 0
           (¬ spare → ∀ x, regionOf (fieldOf x) = r → t.tile x = { s.tile x with scratch := [] }) ∧
           (spare → t.regionOn r = false ∧ ∀ x, regionOf (fieldOf x) = r → (t.tile x).scratch = [])) ∧ (∀ x, regionOf (fieldOf x) ≠ r → t.tile x = s.tile x)))

/-- What power-on reset leaves, and what the block does without a command. -/
def Obligations.StateAfterReset : Prop :=
  (∀ k, bankReg k State.reset.bank = regReset k) ∧ State.reset.pm.pick = 0 ∧ State.reset.reed.skeins = [] ∧ State.reset.pending = [] ∧
    (∀ x, (State.reset.tile x).st = 0) ∧ canonical State.reset ∧ State.reset.get F.WRP_STATUS_LOADED = 0 ∧ State.reset.pickState = 0 ∧
    (∀ p : Fin 16, State.reset.portRole p.val = if p = 0 ∨ p = 8 then 1 else if p = 1 ∨ p = 9 then 2 else 0) ∧
    State.reset.get F.PCK_LAG_BOUND_BOUND = 4096 ∧ State.reset.get F.PCK_DONE_LIMIT_LIMIT = 1024 ∧ State.reset.get F.WFT_WDOG_LIMIT = 64 ∧
    State.reset.reg R.CVU_POLY_LO = 0x1EDC6F41 ∧ State.reset.reg R.CVU_INIT_LO = 0xFFFFFFFF ∧ State.reset.get F.CVU_CFG_WIDTH = 32 ∧
    State.reset.get F.THM_LIMITS_ACT_J = 92 ∧ State.reset.get F.THM_LIMITS_ACT_D = 82 ∧ State.reset.get F.THM_LIMITS_TRIP_J = 100 ∧
    State.reset.get F.THM_LIMITS_TRIP_D = 90 ∧ State.reset.get (F.VPA_VL_SETPT_MV.nth 0) = 720 ∧ State.reset.get (F.VPA_VL_SETPT_MV.nth 6) = 640 ∧
    ∀ s : State, s.pending = [] → step s = .next { s with timeUs := s.timeUs + 1 }

/-- Every step keeps the registers and the tiles in canonical form. -/
def Obligations.CanonicalKept : Prop :=
  ∀ s t : State, canonical s → step s = .next t → canonical t

/-- No command is refused, and where a command faults. -/
def Obligations.NoRefusals : Prop :=
  ∀ (c : Instr) (s : State),
    (∀ r, exec c s ≠ .refused r) ∧
    (c.wf = true → exec c s ≠ .fault .noTile) ∧
    (exec c s = .fault .reslWrite → (∃ a d, c = .registerWrite a d) ∨ (∃ b o i d, c = .aliasWrite b o i d) ∨ (∃ p a d, c = .regWr p a d) ∨
      ∃ p tag w o d, c = .tileWindowAccess p tag w o d)
end

