-- ==== Sys2Proof/Laws/Store.lean ====
section
/-!
SUPPORT. Laws of the sparse maps: reading after writing, and that writing keeps the canonical form.
-/
namespace Sys2Proof.Machine

variable {α : Type}

@[simp] theorem smGet_nil (d : α) (k : Nat) : smGet d k [] = d := rfl

theorem smGet_smErase_same (d : α) (k : Nat) (m : SMap α) : smGet d k (smErase k m) = d := by
  induction m with
  | nil => rfl
  | cons p m ih =>
    obtain ⟨j, v⟩ := p
    by_cases h : j = k <;> simp [smErase, smGet, h, ih]

theorem smGet_smErase_other (d : α) {j k : Nat} (h : j ≠ k) (m : SMap α) : smGet d j (smErase k m) = smGet d j m := by
  induction m with
  | nil => rfl
  | cons p m ih =>
    obtain ⟨i, v⟩ := p
    by_cases hk : i = k
    · subst hk
      simp [smErase, smGet, ih, Ne.symm h]
    · simp only [smErase, hk, if_false, smGet, ih]


theorem smGet_smInsert_erased (d : α) (k : Nat) (v : α) (m : SMap α) : smGet d k (smInsert k v (smErase k m)) = v := by
  induction m with
  | nil => simp [smErase, smInsert, smGet]
  | cons p m ih =>
    obtain ⟨j, w⟩ := p
    by_cases h : j = k
    · simpa [smErase, h] using ih
    · by_cases hl : k < j <;> simp [smErase, smInsert, smGet, h, hl, ih]

theorem smGet_smInsert_other (d : α) {j k : Nat} (h : j ≠ k) (v : α) (m : SMap α) : smGet d j (smInsert k v m) = smGet d j m := by
  induction m with
  | nil => simp [smInsert, smGet, Ne.symm h]
  | cons p m ih =>
    obtain ⟨i, w⟩ := p
    by_cases hl : k < i <;> simp only [smInsert, hl, if_true, if_false, smGet, ih, Ne.symm h]

/-- A key reads as it was written. -/
@[simp] theorem smGet_smSet_same [DecidableEq α] (d : α) (k : Nat) (v : α) (m : SMap α) : smGet d k (smSet d k v m) = v := by
  unfold smSet
  split
  · next h => rw [smGet_smErase_same, h]
  · exact smGet_smInsert_erased d k v m

/-- Every other key reads as before, whatever an unlisted key holds. -/
theorem smGet_smSet_other [DecidableEq α] (d e : α) {j k : Nat} (h : j ≠ k) (v : α) (m : SMap α) :
    smGet e j (smSet d k v m) = smGet e j m := by
  unfold smSet
  split
  · exact smGet_smErase_other e h m
  · rw [smGet_smInsert_other e h, smGet_smErase_other e h]

theorem smGet_smClear_out (d : α) {lo hi k : Nat} (h : k < lo ∨ hi < k) (m : SMap α) : smGet d k (smClear lo hi m) = smGet d k m := by
  induction m with
  | nil => rfl
  | cons p m ih =>
    obtain ⟨j, v⟩ := p
    by_cases hj : lo ≤ j ∧ j ≤ hi
    · have hk : j ≠ k := by omega
      simp [smClear, smGet, hj, hk, ih]
    · simp only [smClear, hj, if_false, smGet, ih]

theorem smGet_smClear_in (d : α) {lo hi k : Nat} (h : lo ≤ k ∧ k ≤ hi) (m : SMap α) : smGet d k (smClear lo hi m) = d := by
  induction m with
  | nil => rfl
  | cons p m ih =>
    obtain ⟨j, v⟩ := p
    by_cases hj : lo ≤ j ∧ j ≤ hi
    · simp [smClear, hj, ih]
    · have hk : j ≠ k := by omega
      simp [smClear, smGet, hj, hk, ih]

/-! ### The canonical form -/

theorem smAbove_smErase (k i : Nat) (m : SMap α) (h : smAbove k m = true) : smAbove k (smErase i m) = true := by
  induction m with
  | nil => rfl
  | cons p m ih =>
    obtain ⟨j, v⟩ := p
    simp only [smAbove, Bool.and_eq_true, decide_eq_true_eq] at h
    by_cases hj : j = i
    · simpa [smErase, hj] using ih h.2
    · simp [smErase, smAbove, hj, ih h.2, h.1]

theorem smAbove_smInsert {k i : Nat} (h : k < i) (v : α) (m : SMap α) (hm : smAbove k m = true) : smAbove k (smInsert i v m) = true := by
  induction m with
  | nil => simp [smInsert, smAbove, h]
  | cons p m ih =>
    obtain ⟨j, w⟩ := p
    simp only [smAbove, Bool.and_eq_true, decide_eq_true_eq] at hm
    by_cases hl : i < j <;> simp [smInsert, smAbove, hl, h, hm.1, hm.2, ih hm.2]

theorem smAbove_mono {j k : Nat} (h : j ≤ k) (m : SMap α) (hm : smAbove k m = true) : smAbove j m = true := by
  induction m with
  | nil => rfl
  | cons p m ih =>
    obtain ⟨i, w⟩ := p
    simp only [smAbove, Bool.and_eq_true, decide_eq_true_eq] at hm ⊢
    exact ⟨by omega, ih hm.2⟩

variable [DecidableEq α]

theorem smWf_smErase (d : Nat → α) (k : Nat) (m : SMap α) (h : smWf d m = true) : smWf d (smErase k m) = true := by
  induction m with
  | nil => rfl
  | cons p m ih =>
    obtain ⟨j, v⟩ := p
    simp only [smWf, Bool.and_eq_true, decide_eq_true_eq] at h
    by_cases hj : j = k
    · simpa [smErase, hj] using ih h.2
    · simp [smErase, hj, smWf, h.1.1, ih h.2, smAbove_smErase j k m h.1.2]

theorem smWf_smInsert (d : Nat → α) {k : Nat} {v : α} (hv : v ≠ d k) (m : SMap α) (h : smWf d m = true) (hk : smGet (d k) k m = d k) :
    smWf d (smInsert k v m) = true := by
  induction m with
  | nil => simp [smInsert, smWf, hv, smAbove]
  | cons p m ih =>
    obtain ⟨j, w⟩ := p
    simp only [smWf, Bool.and_eq_true, decide_eq_true_eq] at h
    by_cases hl : k < j
    · simp [smInsert, hl, smWf, hv, h.1.1, h.1.2, h.2, smAbove, smAbove_mono (Nat.le_of_lt hl) m h.1.2]
    · have hjk : j ≠ k := by
        intro e
        subst e
        simp [smGet] at hk
        exact h.1.1 hk
      have hjlt : j < k := by omega
      have hk' : smGet (d k) k m = d k := by simpa [smGet, hjk] using hk
      simp [smInsert, hl, smWf, h.1.1, ih h.2 hk', smAbove_smInsert hjlt v m h.1.2]

/-- Writing a key keeps the canonical form. -/
theorem smWf_smSet (d : Nat → α) (k : Nat) (v : α) (m : SMap α) (h : smWf d m = true) : smWf d (smSet (d k) k v m) = true := by
  unfold smSet
  split
  · exact smWf_smErase d k m h
  · next hv => exact smWf_smInsert d hv _ (smWf_smErase d k m h) (smGet_smErase_same _ _ _)

end Sys2Proof.Machine
end

