-- ==== Sys2Proof/Laws/Bank.lean ====
section
/-!
SUPPORT. Laws of bit fields and of the register bank: a field reads as it was written, and no other field changes.
-/
namespace Sys2Proof.Machine

theorem bitsOf_lt (x lo w : Nat) : bitsOf x lo w < 2 ^ w := Nat.mod_lt _ (Nat.two_pow_pos w)

/-- The bits put are read back. -/
theorem bitsOf_bitsPut_same (x lo w v : Nat) : bitsOf (bitsPut x lo w v) lo w = v % 2 ^ w := by
  unfold bitsOf bitsPut
  rw [Nat.shiftRight_eq_div_pow, Nat.pow_add]
  have h : x % 2 ^ lo + v % 2 ^ w * 2 ^ lo + x / (2 ^ lo * 2 ^ w) * (2 ^ lo * 2 ^ w)
      = x % 2 ^ lo + 2 ^ lo * (v % 2 ^ w + 2 ^ w * (x / (2 ^ lo * 2 ^ w))) := by ring
  rw [h, Nat.add_mul_div_left _ _ (Nat.two_pow_pos lo), Nat.div_eq_of_lt (Nat.mod_lt _ (Nat.two_pow_pos lo)), Nat.zero_add,
    Nat.add_mul_mod_self_left, Nat.mod_mod]

theorem testBit_bitsOf (x lo w i : Nat) : (bitsOf x lo w).testBit i = (decide (i < w) && x.testBit (lo + i)) := by
  unfold bitsOf
  rw [Nat.testBit_mod_two_pow, Nat.testBit_shiftRight]

theorem testBit_bitsPut (x lo w v i : Nat) :
    (bitsPut x lo w v).testBit i = if i < lo then x.testBit i else if i < lo + w then v.testBit (i - lo) else x.testBit i := by
  unfold bitsPut
  have h : x % 2 ^ lo + v % 2 ^ w * 2 ^ lo + x / 2 ^ (lo + w) * 2 ^ (lo + w)
      = 2 ^ lo * (2 ^ w * (x / 2 ^ (lo + w)) + v % 2 ^ w) + x % 2 ^ lo := by
    rw [Nat.pow_add]; ring
  rw [h, Nat.testBit_two_pow_mul_add _ (Nat.mod_lt _ (Nat.two_pow_pos lo)),
    Nat.testBit_two_pow_mul_add _ (Nat.mod_lt _ (Nat.two_pow_pos w))]
  by_cases h1 : i < lo
  · simp [h1, Nat.testBit_mod_two_pow]
  · by_cases h2 : i < lo + w
    · have : i - lo < w := by omega
      simp [h1, h2, this, Nat.testBit_mod_two_pow]
    · have h3 : ¬ i - lo < w := by omega
      have h4 : lo + w + (i - lo - w) = i := by omega
      simp [h1, h2, h3, Nat.testBit_div_two_pow]
      congr 1
      omega

/-- Bits outside those put stay. -/
theorem bitsOf_bitsPut_other (x v : Nat) {lo w lo' w' : Nat} (h : lo' + w' ≤ lo ∨ lo + w ≤ lo') :
    bitsOf (bitsPut x lo w v) lo' w' = bitsOf x lo' w' := by
  apply Nat.eq_of_testBit_eq
  intro i
  rw [testBit_bitsOf, testBit_bitsOf, testBit_bitsPut]
  by_cases hi : i < w'
  · rcases h with h | h
    · have : lo' + i < lo := by omega
      simp [hi, this]
    · have h1 : ¬ lo' + i < lo := by omega
      have h2 : ¬ lo' + i < lo + w := by omega
      simp [hi, h1, h2]
  · simp [hi]

theorem bitsOf_mod (x : Nat) {lo w n : Nat} (h : lo + w ≤ n) : bitsOf (x % 2 ^ n) lo w = bitsOf x lo w := by
  apply Nat.eq_of_testBit_eq
  intro i
  rw [testBit_bitsOf, testBit_bitsOf, Nat.testBit_mod_two_pow]
  by_cases hi : i < w
  · have : lo + i < n := by omega
    simp [hi, this]
  · simp [hi]

/-- A field of a word reads as it was put, in its width. -/
theorem fldOf_fldPut_same (f : Fld) (v : Nat) (r : Word) (h : f.lo + f.w ≤ 32) : fldOf f (fldPut f v r) = v % 2 ^ f.w := by
  unfold fldOf fldPut
  rw [BitVec.toNat_ofNat, bitsOf_mod _ h, bitsOf_bitsPut_same]

/-- A field apart from the one put stays. -/
theorem fldOf_fldPut_other (f g : Fld) (v : Nat) (r : Word) (hg : g.lo + g.w ≤ 32) (h : g.lo + g.w ≤ f.lo ∨ f.lo + f.w ≤ g.lo) :
    fldOf g (fldPut f v r) = fldOf g r := by
  unfold fldOf fldPut
  rw [BitVec.toNat_ofNat, bitsOf_mod _ hg, bitsOf_bitsPut_other _ _ h]

/-! ### The bank -/

@[simp] theorem bankReg_bankPut_same (k : Nat) (v : Word) (b : SMap Word) : bankReg k (bankPut k v b) = v := by
  simp [bankReg, bankPut]

theorem bankReg_bankPut_other {j k : Nat} (h : j ≠ k) (v : Word) (b : SMap Word) : bankReg j (bankPut k v b) = bankReg j b :=
  smGet_smSet_other _ _ h v b

/-- A field reads as it was written, in its width. -/
theorem bankGet_bankSet_same (f : Fld) (i v : Nat) (b : SMap Word) (h : f.lo + f.w ≤ 32) : bankGet f i (bankSet f i v b) = v % 2 ^ f.w := by
  simp [bankGet, bankSet, fldOf_fldPut_same f v _ h]

/-- A field of another register, or apart in the same one, stays. -/
theorem bankGet_bankSet_other (f g : Fld) (i j v : Nat) (b : SMap Word)
    (h : rkey g.reg j ≠ rkey f.reg i ∨ (g.lo + g.w ≤ 32 ∧ (g.lo + g.w ≤ f.lo ∨ f.lo + f.w ≤ g.lo))) :
    bankGet g j (bankSet f i v b) = bankGet g j b := by
  unfold bankGet bankSet
  by_cases hk : rkey g.reg j = rkey f.reg i
  · rcases h with h | h
    · exact absurd hk h
    · rw [hk, bankReg_bankPut_same, fldOf_fldPut_other f g v _ h.1 h.2]
  · rw [bankReg_bankPut_other hk]

theorem bankReg_bankSet_other (f : Fld) (i v : Nat) {k : Nat} (h : k ≠ rkey f.reg i) (b : SMap Word) :
    bankReg k (bankSet f i v b) = bankReg k b := bankReg_bankPut_other h _ b

theorem bankReg_bankAdd_other (f : Fld) (i n : Nat) {k : Nat} (h : k ≠ rkey f.reg i) (b : SMap Word) :
    bankReg k (bankAdd f i n b) = bankReg k b := bankReg_bankSet_other f i _ h b

/-- Writing a register keeps the canonical form of a bank. -/
theorem bankPut_wf (k : Nat) (v : Word) (b : SMap Word) (h : smWf regReset b = true) : smWf regReset (bankPut k v b) = true :=
  smWf_smSet regReset k v b h

theorem bankSet_wf (f : Fld) (i v : Nat) (b : SMap Word) (h : smWf regReset b = true) : smWf regReset (bankSet f i v b) = true :=
  bankPut_wf _ _ b h

theorem bankAdd_wf (f : Fld) (i n : Nat) (b : SMap Word) (h : smWf regReset b = true) : smWf regReset (bankAdd f i n b) = true :=
  bankSet_wf f i _ b h

end Sys2Proof.Machine
end

