-- ==== Sys2Proof/Laws/Memory.lean ====
section
/-!
SUPPORT. Laws of the memories and of the tile map: byte ranges read after they are written, and every operation on them keeps the
canonical form.
-/
namespace Sys2Proof.Machine

section maps
variable {α : Type}

theorem smAbove_filter (k : Nat) (p : Nat × α → Bool) (m : SMap α) (h : smAbove k m = true) : smAbove k (m.filter p) = true := by
  induction m with
  | nil => rfl
  | cons q m ih =>
    obtain ⟨j, v⟩ := q
    simp only [smAbove, Bool.and_eq_true, decide_eq_true_eq] at h
    by_cases hp : p (j, v) = true
    · simp [hp, smAbove, h.1, ih h.2]
    · simpa [List.filter_cons, hp] using ih h.2

theorem smWf_filter [DecidableEq α] (d : Nat → α) (p : Nat × α → Bool) (m : SMap α) (h : smWf d m = true) : smWf d (m.filter p) = true := by
  induction m with
  | nil => rfl
  | cons q m ih =>
    obtain ⟨j, v⟩ := q
    simp only [smWf, Bool.and_eq_true, decide_eq_true_eq] at h
    by_cases hp : p (j, v) = true
    · simp [hp, smWf, h.1.1, smAbove_filter j p m h.1.2, ih h.2]
    · simpa [List.filter_cons, hp] using ih h.2

theorem smClear_eq_filter (lo hi : Nat) (m : SMap α) : smClear lo hi m = m.filter fun kv => !decide (lo ≤ kv.1 ∧ kv.1 ≤ hi) := by
  induction m with
  | nil => rfl
  | cons q m ih =>
    obtain ⟨j, v⟩ := q
    by_cases hj : lo ≤ j ∧ j ≤ hi <;> simp [smClear, hj, ih, List.filter_cons]

/-- Setting a range back keeps the canonical form. -/
theorem smWf_smClear [DecidableEq α] (d : Nat → α) (lo hi : Nat) (m : SMap α) (h : smWf d m = true) : smWf d (smClear lo hi m) = true := by
  rw [smClear_eq_filter]
  exact smWf_filter d _ m h

end maps

/-! ### Byte ranges -/

/-- Writing consecutive bytes keeps the canonical form. -/
theorem wf_smSetBytes (k : Nat) (bs : List Byte) (m : SMap Byte) (h : Memory.wf m) : Memory.wf (smSetBytes k bs m) := by
  induction bs generalizing k m with
  | nil => exact h
  | cons b bs ih => exact ih (k + 1) _ (smWf_smSet (fun _ => 0) k b m h)

/-- Bytes outside those written read as before. -/
theorem smGet_smSetBytes_out (k : Nat) (bs : List Byte) (m : SMap Byte) {j : Nat} (h : j < k ∨ k + bs.length ≤ j) :
    smGet 0 j (smSetBytes k bs m) = smGet 0 j m := by
  induction bs generalizing k m with
  | nil => rfl
  | cons b bs ih =>
    simp only [List.length_cons] at h
    simp only [smSetBytes]
    rw [ih (k + 1) _ (by omega), smGet_smSet_other 0 0 (by omega)]

/-- The bytes written are read back. -/
theorem smGetBytes_smSetBytes (k : Nat) (bs : List Byte) (m : SMap Byte) : smGetBytes k bs.length (smSetBytes k bs m) = bs := by
  induction bs generalizing k m with
  | nil => rfl
  | cons b bs ih =>
    simp only [List.length_cons, smGetBytes, smSetBytes]
    rw [smGet_smSetBytes_out (k + 1) bs _ (by omega), smGet_smSet_same, ih (k + 1)]

@[simp] theorem length_smGetBytes (k n : Nat) (m : SMap Byte) : (smGetBytes k n m).length = n := by
  induction n generalizing k with
  | zero => rfl
  | succ n ih => simp [smGetBytes, ih]

/-- Moving a range keeps the canonical form. -/
theorem wf_dramMove (src n dst : Nat) (m : SMap Byte) (h : Memory.wf m) : Memory.wf (dramMove src n dst m) := by
  unfold dramMove
  have hc := smWf_smClear (fun _ => (0 : Byte)) dst (dst + n - 1) m h
  revert hc
  generalize smClear dst (dst + n - 1) m = u
  generalize (m.filter fun kv => decide (src ≤ kv.1) && decide (kv.1 < src + n)) = l
  intro hc
  induction l generalizing u with
  | nil => exact hc
  | cons q l ih => exact ih _ (smWf_smSet (fun _ => 0) _ _ u hc)

/-! ### The band pools -/

theorem wf_foldl {β : Type} (f : SMap Byte → β → SMap Byte) (hf : ∀ m p, Memory.wf m → Memory.wf (f m p)) (l : List β) (m : SMap Byte)
    (h : Memory.wf m) : Memory.wf (l.foldl f m) := by
  induction l generalizing m with
  | nil => exact h
  | cons p l ih => exact ih _ (hf m p h)

theorem wf_poolWrite (s : State) (band bsa : Nat) (bs : List Byte) (h : Memory.wf s.spool.dram) :
    Memory.wf (s.poolWrite band bsa bs).spool.dram := by
  refine wf_foldl _ (fun m p hm => ?_) _ _ h
  split
  · exact wf_smSetBytes _ _ _ hm
  · exact hm

theorem wf_poolZero (s : State) (band frame : Nat) (h : Memory.wf s.spool.dram) : Memory.wf (s.poolZero band frame).spool.dram := by
  refine wf_foldl _ (fun m p hm => ?_) _ _ h
  split
  · exact smWf_smClear _ _ _ _ hm
  · exact hm

theorem wf_poolCopy (s : State) (band src n dst : Nat) (h : Memory.wf s.spool.dram) :
    Memory.wf (s.poolCopy band src n dst).spool.dram := by
  refine wf_foldl _ (fun m p hm => ?_) _ _ h
  split
  · exact wf_dramMove _ _ _ _ hm
  · exact hm

/-- After reset the spool and every tile's memories stand in canonical form. -/
theorem wf_reset : Memory.wf State.reset.spool.dram ∧ Memory.wf Tile.empty.nvw ∧ Memory.wf Tile.empty.scratch := by decide

/-! ### The tile map -/

theorem smAbove_mapTiles (f : Nat → Tile → Tile) (k : Nat) (m : SMap Tile) (h : smAbove k m = true) : smAbove k (mapTiles f m) = true := by
  induction m with
  | nil => rfl
  | cons q m ih =>
    obtain ⟨j, v⟩ := q
    simp only [smAbove, Bool.and_eq_true, decide_eq_true_eq] at h
    by_cases ht : f j v = Tile.empty
    · simpa [mapTiles, ht] using ih h.2
    · simp [mapTiles, ht, smAbove, h.1, ih h.2]

/-- Changing every listed tile keeps the canonical form. -/
theorem smWf_mapTiles (f : Nat → Tile → Tile) (m : SMap Tile) (h : smWf (fun _ => Tile.empty) m = true) :
    smWf (fun _ => Tile.empty) (mapTiles f m) = true := by
  induction m with
  | nil => rfl
  | cons q m ih =>
    obtain ⟨j, v⟩ := q
    simp only [smWf, Bool.and_eq_true, decide_eq_true_eq] at h
    by_cases ht : f j v = Tile.empty
    · simpa [mapTiles, ht] using ih h.2
    · simp [mapTiles, ht, smWf, smAbove_mapTiles f j m h.1.2, ih h.2]

/-- Replacing one tile keeps the canonical form. -/
theorem wf_setTile (s : State) (a : Nat) (t : Tile) (h : smWf (fun _ => Tile.empty) s.tiles = true) :
    smWf (fun _ => Tile.empty) (s.setTile a t).tiles = true := smWf_smSet (fun _ => Tile.empty) a t s.tiles h

end Sys2Proof.Machine
end

