-- ==== Sys2Proof/Laws/State.lean ====
section
/-!
SUPPORT. Laws of the state: for each named update, what every field of the state is after it; a register field reads as it was written and
no other one changes; a tile reads as it was put and no other tile changes.
-/
namespace Sys2Proof.Machine

variable (s : State)


/-! ### set -/

@[simp] theorem State.held_set (f : Fld) (v i : Nat) : (s.set f v i).held = s.held := by cases s; rfl
@[simp] theorem State.latch_set (f : Fld) (v i : Nat) : (s.set f v i).latch = s.latch := by cases s; rfl
@[simp] theorem State.timeUs_set (f : Fld) (v i : Nat) : (s.set f v i).timeUs = s.timeUs := by cases s; rfl
@[simp] theorem State.free_set (f : Fld) (v i : Nat) : (s.set f v i).free = s.free := by cases s; rfl
@[simp] theorem State.tiles_set (f : Fld) (v i : Nat) : (s.set f v i).tiles = s.tiles := by cases s; rfl
@[simp] theorem State.flt_set (f : Fld) (v i : Nat) : (s.set f v i).flt = s.flt := by cases s; rfl
@[simp] theorem State.inj_set (f : Fld) (v i : Nat) : (s.set f v i).inj = s.inj := by cases s; rfl
@[simp] theorem State.pat_set (f : Fld) (v i : Nat) : (s.set f v i).pat = s.pat := by cases s; rfl
@[simp] theorem State.pm_set (f : Fld) (v i : Nat) : (s.set f v i).pm = s.pm := by cases s; rfl
@[simp] theorem State.weft_set (f : Fld) (v i : Nat) : (s.set f v i).weft = s.weft := by cases s; rfl
@[simp] theorem State.reed_set (f : Fld) (v i : Nat) : (s.set f v i).reed = s.reed := by cases s; rfl
@[simp] theorem State.bcn_set (f : Fld) (v i : Nat) : (s.set f v i).bcn = s.bcn := by cases s; rfl
@[simp] theorem State.host_set (f : Fld) (v i : Nat) : (s.set f v i).host = s.host := by cases s; rfl
@[simp] theorem State.spool_set (f : Fld) (v i : Nat) : (s.set f v i).spool = s.spool := by cases s; rfl
@[simp] theorem State.nvw_set (f : Fld) (v i : Nat) : (s.set f v i).nvw = s.nvw := by cases s; rfl
@[simp] theorem State.ld_set (f : Fld) (v i : Nat) : (s.set f v i).ld = s.ld := by cases s; rfl
@[simp] theorem State.pwr_set (f : Fld) (v i : Nat) : (s.set f v i).pwr = s.pwr := by cases s; rfl
@[simp] theorem State.clk_set (f : Fld) (v i : Nat) : (s.set f v i).clk = s.clk := by cases s; rfl
@[simp] theorem State.thm_set (f : Fld) (v i : Nat) : (s.set f v i).thm = s.thm := by cases s; rfl
@[simp] theorem State.snt_set (f : Fld) (v i : Nat) : (s.set f v i).snt = s.snt := by cases s; rfl
@[simp] theorem State.trust_set (f : Fld) (v i : Nat) : (s.set f v i).trust = s.trust := by cases s; rfl
@[simp] theorem State.dmp_set (f : Fld) (v i : Nat) : (s.set f v i).dmp = s.dmp := by cases s; rfl
@[simp] theorem State.pins_set (f : Fld) (v i : Nat) : (s.set f v i).pins = s.pins := by cases s; rfl
@[simp] theorem State.out_set (f : Fld) (v i : Nat) : (s.set f v i).out = s.out := by cases s; rfl
@[simp] theorem State.pending_set (f : Fld) (v i : Nat) : (s.set f v i).pending = s.pending := by cases s; rfl

/-! ### add -/

@[simp] theorem State.held_add (f : Fld) (n i : Nat) : (s.add f n i).held = s.held := by cases s; rfl
@[simp] theorem State.latch_add (f : Fld) (n i : Nat) : (s.add f n i).latch = s.latch := by cases s; rfl
@[simp] theorem State.timeUs_add (f : Fld) (n i : Nat) : (s.add f n i).timeUs = s.timeUs := by cases s; rfl
@[simp] theorem State.free_add (f : Fld) (n i : Nat) : (s.add f n i).free = s.free := by cases s; rfl
@[simp] theorem State.tiles_add (f : Fld) (n i : Nat) : (s.add f n i).tiles = s.tiles := by cases s; rfl
@[simp] theorem State.flt_add (f : Fld) (n i : Nat) : (s.add f n i).flt = s.flt := by cases s; rfl
@[simp] theorem State.inj_add (f : Fld) (n i : Nat) : (s.add f n i).inj = s.inj := by cases s; rfl
@[simp] theorem State.pat_add (f : Fld) (n i : Nat) : (s.add f n i).pat = s.pat := by cases s; rfl
@[simp] theorem State.pm_add (f : Fld) (n i : Nat) : (s.add f n i).pm = s.pm := by cases s; rfl
@[simp] theorem State.weft_add (f : Fld) (n i : Nat) : (s.add f n i).weft = s.weft := by cases s; rfl
@[simp] theorem State.reed_add (f : Fld) (n i : Nat) : (s.add f n i).reed = s.reed := by cases s; rfl
@[simp] theorem State.bcn_add (f : Fld) (n i : Nat) : (s.add f n i).bcn = s.bcn := by cases s; rfl
@[simp] theorem State.host_add (f : Fld) (n i : Nat) : (s.add f n i).host = s.host := by cases s; rfl
@[simp] theorem State.spool_add (f : Fld) (n i : Nat) : (s.add f n i).spool = s.spool := by cases s; rfl
@[simp] theorem State.nvw_add (f : Fld) (n i : Nat) : (s.add f n i).nvw = s.nvw := by cases s; rfl
@[simp] theorem State.ld_add (f : Fld) (n i : Nat) : (s.add f n i).ld = s.ld := by cases s; rfl
@[simp] theorem State.pwr_add (f : Fld) (n i : Nat) : (s.add f n i).pwr = s.pwr := by cases s; rfl
@[simp] theorem State.clk_add (f : Fld) (n i : Nat) : (s.add f n i).clk = s.clk := by cases s; rfl
@[simp] theorem State.thm_add (f : Fld) (n i : Nat) : (s.add f n i).thm = s.thm := by cases s; rfl
@[simp] theorem State.snt_add (f : Fld) (n i : Nat) : (s.add f n i).snt = s.snt := by cases s; rfl
@[simp] theorem State.trust_add (f : Fld) (n i : Nat) : (s.add f n i).trust = s.trust := by cases s; rfl
@[simp] theorem State.dmp_add (f : Fld) (n i : Nat) : (s.add f n i).dmp = s.dmp := by cases s; rfl
@[simp] theorem State.pins_add (f : Fld) (n i : Nat) : (s.add f n i).pins = s.pins := by cases s; rfl
@[simp] theorem State.out_add (f : Fld) (n i : Nat) : (s.add f n i).out = s.out := by cases s; rfl
@[simp] theorem State.pending_add (f : Fld) (n i : Nat) : (s.add f n i).pending = s.pending := by cases s; rfl

/-! ### setReg -/

@[simp] theorem State.held_setReg (a : Nat) (v : Word) (i : Nat) : (s.setReg a v i).held = s.held := by cases s; rfl
@[simp] theorem State.latch_setReg (a : Nat) (v : Word) (i : Nat) : (s.setReg a v i).latch = s.latch := by cases s; rfl
@[simp] theorem State.timeUs_setReg (a : Nat) (v : Word) (i : Nat) : (s.setReg a v i).timeUs = s.timeUs := by cases s; rfl
@[simp] theorem State.free_setReg (a : Nat) (v : Word) (i : Nat) : (s.setReg a v i).free = s.free := by cases s; rfl
@[simp] theorem State.tiles_setReg (a : Nat) (v : Word) (i : Nat) : (s.setReg a v i).tiles = s.tiles := by cases s; rfl
@[simp] theorem State.flt_setReg (a : Nat) (v : Word) (i : Nat) : (s.setReg a v i).flt = s.flt := by cases s; rfl
@[simp] theorem State.inj_setReg (a : Nat) (v : Word) (i : Nat) : (s.setReg a v i).inj = s.inj := by cases s; rfl
@[simp] theorem State.pat_setReg (a : Nat) (v : Word) (i : Nat) : (s.setReg a v i).pat = s.pat := by cases s; rfl
@[simp] theorem State.pm_setReg (a : Nat) (v : Word) (i : Nat) : (s.setReg a v i).pm = s.pm := by cases s; rfl
@[simp] theorem State.weft_setReg (a : Nat) (v : Word) (i : Nat) : (s.setReg a v i).weft = s.weft := by cases s; rfl
@[simp] theorem State.reed_setReg (a : Nat) (v : Word) (i : Nat) : (s.setReg a v i).reed = s.reed := by cases s; rfl
@[simp] theorem State.bcn_setReg (a : Nat) (v : Word) (i : Nat) : (s.setReg a v i).bcn = s.bcn := by cases s; rfl
@[simp] theorem State.host_setReg (a : Nat) (v : Word) (i : Nat) : (s.setReg a v i).host = s.host := by cases s; rfl
@[simp] theorem State.spool_setReg (a : Nat) (v : Word) (i : Nat) : (s.setReg a v i).spool = s.spool := by cases s; rfl
@[simp] theorem State.nvw_setReg (a : Nat) (v : Word) (i : Nat) : (s.setReg a v i).nvw = s.nvw := by cases s; rfl
@[simp] theorem State.ld_setReg (a : Nat) (v : Word) (i : Nat) : (s.setReg a v i).ld = s.ld := by cases s; rfl
@[simp] theorem State.pwr_setReg (a : Nat) (v : Word) (i : Nat) : (s.setReg a v i).pwr = s.pwr := by cases s; rfl
@[simp] theorem State.clk_setReg (a : Nat) (v : Word) (i : Nat) : (s.setReg a v i).clk = s.clk := by cases s; rfl
@[simp] theorem State.thm_setReg (a : Nat) (v : Word) (i : Nat) : (s.setReg a v i).thm = s.thm := by cases s; rfl
@[simp] theorem State.snt_setReg (a : Nat) (v : Word) (i : Nat) : (s.setReg a v i).snt = s.snt := by cases s; rfl
@[simp] theorem State.trust_setReg (a : Nat) (v : Word) (i : Nat) : (s.setReg a v i).trust = s.trust := by cases s; rfl
@[simp] theorem State.dmp_setReg (a : Nat) (v : Word) (i : Nat) : (s.setReg a v i).dmp = s.dmp := by cases s; rfl
@[simp] theorem State.pins_setReg (a : Nat) (v : Word) (i : Nat) : (s.setReg a v i).pins = s.pins := by cases s; rfl
@[simp] theorem State.out_setReg (a : Nat) (v : Word) (i : Nat) : (s.setReg a v i).out = s.out := by cases s; rfl
@[simp] theorem State.pending_setReg (a : Nat) (v : Word) (i : Nat) : (s.setReg a v i).pending = s.pending := by cases s; rfl

/-! ### hold -/

@[simp] theorem State.bank_hold (a : Nat) : (s.hold a).bank = s.bank := by cases s; rfl
@[simp] theorem State.latch_hold (a : Nat) : (s.hold a).latch = s.latch := by cases s; rfl
@[simp] theorem State.timeUs_hold (a : Nat) : (s.hold a).timeUs = s.timeUs := by cases s; rfl
@[simp] theorem State.free_hold (a : Nat) : (s.hold a).free = s.free := by cases s; rfl
@[simp] theorem State.tiles_hold (a : Nat) : (s.hold a).tiles = s.tiles := by cases s; rfl
@[simp] theorem State.flt_hold (a : Nat) : (s.hold a).flt = s.flt := by cases s; rfl
@[simp] theorem State.inj_hold (a : Nat) : (s.hold a).inj = s.inj := by cases s; rfl
@[simp] theorem State.pat_hold (a : Nat) : (s.hold a).pat = s.pat := by cases s; rfl
@[simp] theorem State.pm_hold (a : Nat) : (s.hold a).pm = s.pm := by cases s; rfl
@[simp] theorem State.weft_hold (a : Nat) : (s.hold a).weft = s.weft := by cases s; rfl
@[simp] theorem State.reed_hold (a : Nat) : (s.hold a).reed = s.reed := by cases s; rfl
@[simp] theorem State.bcn_hold (a : Nat) : (s.hold a).bcn = s.bcn := by cases s; rfl
@[simp] theorem State.host_hold (a : Nat) : (s.hold a).host = s.host := by cases s; rfl
@[simp] theorem State.spool_hold (a : Nat) : (s.hold a).spool = s.spool := by cases s; rfl
@[simp] theorem State.nvw_hold (a : Nat) : (s.hold a).nvw = s.nvw := by cases s; rfl
@[simp] theorem State.ld_hold (a : Nat) : (s.hold a).ld = s.ld := by cases s; rfl
@[simp] theorem State.pwr_hold (a : Nat) : (s.hold a).pwr = s.pwr := by cases s; rfl
@[simp] theorem State.clk_hold (a : Nat) : (s.hold a).clk = s.clk := by cases s; rfl
@[simp] theorem State.thm_hold (a : Nat) : (s.hold a).thm = s.thm := by cases s; rfl
@[simp] theorem State.snt_hold (a : Nat) : (s.hold a).snt = s.snt := by cases s; rfl
@[simp] theorem State.trust_hold (a : Nat) : (s.hold a).trust = s.trust := by cases s; rfl
@[simp] theorem State.dmp_hold (a : Nat) : (s.hold a).dmp = s.dmp := by cases s; rfl
@[simp] theorem State.pins_hold (a : Nat) : (s.hold a).pins = s.pins := by cases s; rfl
@[simp] theorem State.out_hold (a : Nat) : (s.hold a).out = s.out := by cases s; rfl
@[simp] theorem State.pending_hold (a : Nat) : (s.hold a).pending = s.pending := by cases s; rfl

/-! ### release -/

@[simp] theorem State.bank_release  : (s.release).bank = s.bank := by cases s; rfl
@[simp] theorem State.latch_release  : (s.release).latch = s.latch := by cases s; rfl
@[simp] theorem State.timeUs_release  : (s.release).timeUs = s.timeUs := by cases s; rfl
@[simp] theorem State.free_release  : (s.release).free = s.free := by cases s; rfl
@[simp] theorem State.tiles_release  : (s.release).tiles = s.tiles := by cases s; rfl
@[simp] theorem State.flt_release  : (s.release).flt = s.flt := by cases s; rfl
@[simp] theorem State.inj_release  : (s.release).inj = s.inj := by cases s; rfl
@[simp] theorem State.pat_release  : (s.release).pat = s.pat := by cases s; rfl
@[simp] theorem State.pm_release  : (s.release).pm = s.pm := by cases s; rfl
@[simp] theorem State.weft_release  : (s.release).weft = s.weft := by cases s; rfl
@[simp] theorem State.reed_release  : (s.release).reed = s.reed := by cases s; rfl
@[simp] theorem State.bcn_release  : (s.release).bcn = s.bcn := by cases s; rfl
@[simp] theorem State.host_release  : (s.release).host = s.host := by cases s; rfl
@[simp] theorem State.spool_release  : (s.release).spool = s.spool := by cases s; rfl
@[simp] theorem State.nvw_release  : (s.release).nvw = s.nvw := by cases s; rfl
@[simp] theorem State.ld_release  : (s.release).ld = s.ld := by cases s; rfl
@[simp] theorem State.pwr_release  : (s.release).pwr = s.pwr := by cases s; rfl
@[simp] theorem State.clk_release  : (s.release).clk = s.clk := by cases s; rfl
@[simp] theorem State.thm_release  : (s.release).thm = s.thm := by cases s; rfl
@[simp] theorem State.snt_release  : (s.release).snt = s.snt := by cases s; rfl
@[simp] theorem State.trust_release  : (s.release).trust = s.trust := by cases s; rfl
@[simp] theorem State.dmp_release  : (s.release).dmp = s.dmp := by cases s; rfl
@[simp] theorem State.pins_release  : (s.release).pins = s.pins := by cases s; rfl
@[simp] theorem State.out_release  : (s.release).out = s.out := by cases s; rfl
@[simp] theorem State.pending_release  : (s.release).pending = s.pending := by cases s; rfl

/-! ### setTile -/

@[simp] theorem State.bank_setTile (a : Nat) (t : Tile) : (s.setTile a t).bank = s.bank := by cases s; rfl
@[simp] theorem State.held_setTile (a : Nat) (t : Tile) : (s.setTile a t).held = s.held := by cases s; rfl
@[simp] theorem State.latch_setTile (a : Nat) (t : Tile) : (s.setTile a t).latch = s.latch := by cases s; rfl
@[simp] theorem State.timeUs_setTile (a : Nat) (t : Tile) : (s.setTile a t).timeUs = s.timeUs := by cases s; rfl
@[simp] theorem State.free_setTile (a : Nat) (t : Tile) : (s.setTile a t).free = s.free := by cases s; rfl
@[simp] theorem State.flt_setTile (a : Nat) (t : Tile) : (s.setTile a t).flt = s.flt := by cases s; rfl
@[simp] theorem State.inj_setTile (a : Nat) (t : Tile) : (s.setTile a t).inj = s.inj := by cases s; rfl
@[simp] theorem State.pat_setTile (a : Nat) (t : Tile) : (s.setTile a t).pat = s.pat := by cases s; rfl
@[simp] theorem State.pm_setTile (a : Nat) (t : Tile) : (s.setTile a t).pm = s.pm := by cases s; rfl
@[simp] theorem State.weft_setTile (a : Nat) (t : Tile) : (s.setTile a t).weft = s.weft := by cases s; rfl
@[simp] theorem State.reed_setTile (a : Nat) (t : Tile) : (s.setTile a t).reed = s.reed := by cases s; rfl
@[simp] theorem State.bcn_setTile (a : Nat) (t : Tile) : (s.setTile a t).bcn = s.bcn := by cases s; rfl
@[simp] theorem State.host_setTile (a : Nat) (t : Tile) : (s.setTile a t).host = s.host := by cases s; rfl
@[simp] theorem State.spool_setTile (a : Nat) (t : Tile) : (s.setTile a t).spool = s.spool := by cases s; rfl
@[simp] theorem State.nvw_setTile (a : Nat) (t : Tile) : (s.setTile a t).nvw = s.nvw := by cases s; rfl
@[simp] theorem State.ld_setTile (a : Nat) (t : Tile) : (s.setTile a t).ld = s.ld := by cases s; rfl
@[simp] theorem State.pwr_setTile (a : Nat) (t : Tile) : (s.setTile a t).pwr = s.pwr := by cases s; rfl
@[simp] theorem State.clk_setTile (a : Nat) (t : Tile) : (s.setTile a t).clk = s.clk := by cases s; rfl
@[simp] theorem State.thm_setTile (a : Nat) (t : Tile) : (s.setTile a t).thm = s.thm := by cases s; rfl
@[simp] theorem State.snt_setTile (a : Nat) (t : Tile) : (s.setTile a t).snt = s.snt := by cases s; rfl
@[simp] theorem State.trust_setTile (a : Nat) (t : Tile) : (s.setTile a t).trust = s.trust := by cases s; rfl
@[simp] theorem State.dmp_setTile (a : Nat) (t : Tile) : (s.setTile a t).dmp = s.dmp := by cases s; rfl
@[simp] theorem State.pins_setTile (a : Nat) (t : Tile) : (s.setTile a t).pins = s.pins := by cases s; rfl
@[simp] theorem State.out_setTile (a : Nat) (t : Tile) : (s.setTile a t).out = s.out := by cases s; rfl
@[simp] theorem State.pending_setTile (a : Nat) (t : Tile) : (s.setTile a t).pending = s.pending := by cases s; rfl

/-! ### onTiles -/

@[simp] theorem State.bank_onTiles (f : Nat → Tile → Tile) : (s.onTiles f).bank = s.bank := by cases s; rfl
@[simp] theorem State.held_onTiles (f : Nat → Tile → Tile) : (s.onTiles f).held = s.held := by cases s; rfl
@[simp] theorem State.latch_onTiles (f : Nat → Tile → Tile) : (s.onTiles f).latch = s.latch := by cases s; rfl
@[simp] theorem State.timeUs_onTiles (f : Nat → Tile → Tile) : (s.onTiles f).timeUs = s.timeUs := by cases s; rfl
@[simp] theorem State.free_onTiles (f : Nat → Tile → Tile) : (s.onTiles f).free = s.free := by cases s; rfl
@[simp] theorem State.flt_onTiles (f : Nat → Tile → Tile) : (s.onTiles f).flt = s.flt := by cases s; rfl
@[simp] theorem State.inj_onTiles (f : Nat → Tile → Tile) : (s.onTiles f).inj = s.inj := by cases s; rfl
@[simp] theorem State.pat_onTiles (f : Nat → Tile → Tile) : (s.onTiles f).pat = s.pat := by cases s; rfl
@[simp] theorem State.pm_onTiles (f : Nat → Tile → Tile) : (s.onTiles f).pm = s.pm := by cases s; rfl
@[simp] theorem State.weft_onTiles (f : Nat → Tile → Tile) : (s.onTiles f).weft = s.weft := by cases s; rfl
@[simp] theorem State.reed_onTiles (f : Nat → Tile → Tile) : (s.onTiles f).reed = s.reed := by cases s; rfl
@[simp] theorem State.bcn_onTiles (f : Nat → Tile → Tile) : (s.onTiles f).bcn = s.bcn := by cases s; rfl
@[simp] theorem State.host_onTiles (f : Nat → Tile → Tile) : (s.onTiles f).host = s.host := by cases s; rfl
@[simp] theorem State.spool_onTiles (f : Nat → Tile → Tile) : (s.onTiles f).spool = s.spool := by cases s; rfl
@[simp] theorem State.nvw_onTiles (f : Nat → Tile → Tile) : (s.onTiles f).nvw = s.nvw := by cases s; rfl
@[simp] theorem State.ld_onTiles (f : Nat → Tile → Tile) : (s.onTiles f).ld = s.ld := by cases s; rfl
@[simp] theorem State.pwr_onTiles (f : Nat → Tile → Tile) : (s.onTiles f).pwr = s.pwr := by cases s; rfl
@[simp] theorem State.clk_onTiles (f : Nat → Tile → Tile) : (s.onTiles f).clk = s.clk := by cases s; rfl
@[simp] theorem State.thm_onTiles (f : Nat → Tile → Tile) : (s.onTiles f).thm = s.thm := by cases s; rfl
@[simp] theorem State.snt_onTiles (f : Nat → Tile → Tile) : (s.onTiles f).snt = s.snt := by cases s; rfl
@[simp] theorem State.trust_onTiles (f : Nat → Tile → Tile) : (s.onTiles f).trust = s.trust := by cases s; rfl
@[simp] theorem State.dmp_onTiles (f : Nat → Tile → Tile) : (s.onTiles f).dmp = s.dmp := by cases s; rfl
@[simp] theorem State.pins_onTiles (f : Nat → Tile → Tile) : (s.onTiles f).pins = s.pins := by cases s; rfl
@[simp] theorem State.out_onTiles (f : Nat → Tile → Tile) : (s.onTiles f).out = s.out := by cases s; rfl
@[simp] theorem State.pending_onTiles (f : Nat → Tile → Tile) : (s.onTiles f).pending = s.pending := by cases s; rfl

/-! ### injUse -/

@[simp] theorem State.bank_injUse (k a : Nat) : (s.injUse k a).bank = s.bank := by cases s; rfl
@[simp] theorem State.held_injUse (k a : Nat) : (s.injUse k a).held = s.held := by cases s; rfl
@[simp] theorem State.latch_injUse (k a : Nat) : (s.injUse k a).latch = s.latch := by cases s; rfl
@[simp] theorem State.timeUs_injUse (k a : Nat) : (s.injUse k a).timeUs = s.timeUs := by cases s; rfl
@[simp] theorem State.free_injUse (k a : Nat) : (s.injUse k a).free = s.free := by cases s; rfl
@[simp] theorem State.tiles_injUse (k a : Nat) : (s.injUse k a).tiles = s.tiles := by cases s; rfl
@[simp] theorem State.flt_injUse (k a : Nat) : (s.injUse k a).flt = s.flt := by cases s; rfl
@[simp] theorem State.pat_injUse (k a : Nat) : (s.injUse k a).pat = s.pat := by cases s; rfl
@[simp] theorem State.pm_injUse (k a : Nat) : (s.injUse k a).pm = s.pm := by cases s; rfl
@[simp] theorem State.weft_injUse (k a : Nat) : (s.injUse k a).weft = s.weft := by cases s; rfl
@[simp] theorem State.reed_injUse (k a : Nat) : (s.injUse k a).reed = s.reed := by cases s; rfl
@[simp] theorem State.bcn_injUse (k a : Nat) : (s.injUse k a).bcn = s.bcn := by cases s; rfl
@[simp] theorem State.host_injUse (k a : Nat) : (s.injUse k a).host = s.host := by cases s; rfl
@[simp] theorem State.spool_injUse (k a : Nat) : (s.injUse k a).spool = s.spool := by cases s; rfl
@[simp] theorem State.nvw_injUse (k a : Nat) : (s.injUse k a).nvw = s.nvw := by cases s; rfl
@[simp] theorem State.ld_injUse (k a : Nat) : (s.injUse k a).ld = s.ld := by cases s; rfl
@[simp] theorem State.pwr_injUse (k a : Nat) : (s.injUse k a).pwr = s.pwr := by cases s; rfl
@[simp] theorem State.clk_injUse (k a : Nat) : (s.injUse k a).clk = s.clk := by cases s; rfl
@[simp] theorem State.thm_injUse (k a : Nat) : (s.injUse k a).thm = s.thm := by cases s; rfl
@[simp] theorem State.snt_injUse (k a : Nat) : (s.injUse k a).snt = s.snt := by cases s; rfl
@[simp] theorem State.trust_injUse (k a : Nat) : (s.injUse k a).trust = s.trust := by cases s; rfl
@[simp] theorem State.dmp_injUse (k a : Nat) : (s.injUse k a).dmp = s.dmp := by cases s; rfl
@[simp] theorem State.pins_injUse (k a : Nat) : (s.injUse k a).pins = s.pins := by cases s; rfl
@[simp] theorem State.out_injUse (k a : Nat) : (s.injUse k a).out = s.out := by cases s; rfl
@[simp] theorem State.pending_injUse (k a : Nat) : (s.injUse k a).pending = s.pending := by cases s; rfl

/-! ### useFree -/

@[simp] theorem State.bank_useFree (n : Nat) : (s.useFree n).bank = s.bank := by cases s; rfl
@[simp] theorem State.held_useFree (n : Nat) : (s.useFree n).held = s.held := by cases s; rfl
@[simp] theorem State.latch_useFree (n : Nat) : (s.useFree n).latch = s.latch := by cases s; rfl
@[simp] theorem State.timeUs_useFree (n : Nat) : (s.useFree n).timeUs = s.timeUs := by cases s; rfl
@[simp] theorem State.tiles_useFree (n : Nat) : (s.useFree n).tiles = s.tiles := by cases s; rfl
@[simp] theorem State.flt_useFree (n : Nat) : (s.useFree n).flt = s.flt := by cases s; rfl
@[simp] theorem State.inj_useFree (n : Nat) : (s.useFree n).inj = s.inj := by cases s; rfl
@[simp] theorem State.pat_useFree (n : Nat) : (s.useFree n).pat = s.pat := by cases s; rfl
@[simp] theorem State.pm_useFree (n : Nat) : (s.useFree n).pm = s.pm := by cases s; rfl
@[simp] theorem State.weft_useFree (n : Nat) : (s.useFree n).weft = s.weft := by cases s; rfl
@[simp] theorem State.reed_useFree (n : Nat) : (s.useFree n).reed = s.reed := by cases s; rfl
@[simp] theorem State.bcn_useFree (n : Nat) : (s.useFree n).bcn = s.bcn := by cases s; rfl
@[simp] theorem State.host_useFree (n : Nat) : (s.useFree n).host = s.host := by cases s; rfl
@[simp] theorem State.spool_useFree (n : Nat) : (s.useFree n).spool = s.spool := by cases s; rfl
@[simp] theorem State.nvw_useFree (n : Nat) : (s.useFree n).nvw = s.nvw := by cases s; rfl
@[simp] theorem State.ld_useFree (n : Nat) : (s.useFree n).ld = s.ld := by cases s; rfl
@[simp] theorem State.pwr_useFree (n : Nat) : (s.useFree n).pwr = s.pwr := by cases s; rfl
@[simp] theorem State.clk_useFree (n : Nat) : (s.useFree n).clk = s.clk := by cases s; rfl
@[simp] theorem State.thm_useFree (n : Nat) : (s.useFree n).thm = s.thm := by cases s; rfl
@[simp] theorem State.snt_useFree (n : Nat) : (s.useFree n).snt = s.snt := by cases s; rfl
@[simp] theorem State.trust_useFree (n : Nat) : (s.useFree n).trust = s.trust := by cases s; rfl
@[simp] theorem State.dmp_useFree (n : Nat) : (s.useFree n).dmp = s.dmp := by cases s; rfl
@[simp] theorem State.pins_useFree (n : Nat) : (s.useFree n).pins = s.pins := by cases s; rfl
@[simp] theorem State.out_useFree (n : Nat) : (s.useFree n).out = s.out := by cases s; rfl
@[simp] theorem State.pending_useFree (n : Nat) : (s.useFree n).pending = s.pending := by cases s; rfl

/-! ### emit -/

@[simp] theorem State.bank_emit (o : List Out) : (s.emit o).bank = s.bank := by cases s; rfl
@[simp] theorem State.held_emit (o : List Out) : (s.emit o).held = s.held := by cases s; rfl
@[simp] theorem State.latch_emit (o : List Out) : (s.emit o).latch = s.latch := by cases s; rfl
@[simp] theorem State.timeUs_emit (o : List Out) : (s.emit o).timeUs = s.timeUs := by cases s; rfl
@[simp] theorem State.free_emit (o : List Out) : (s.emit o).free = s.free := by cases s; rfl
@[simp] theorem State.tiles_emit (o : List Out) : (s.emit o).tiles = s.tiles := by cases s; rfl
@[simp] theorem State.flt_emit (o : List Out) : (s.emit o).flt = s.flt := by cases s; rfl
@[simp] theorem State.inj_emit (o : List Out) : (s.emit o).inj = s.inj := by cases s; rfl
@[simp] theorem State.pat_emit (o : List Out) : (s.emit o).pat = s.pat := by cases s; rfl
@[simp] theorem State.pm_emit (o : List Out) : (s.emit o).pm = s.pm := by cases s; rfl
@[simp] theorem State.weft_emit (o : List Out) : (s.emit o).weft = s.weft := by cases s; rfl
@[simp] theorem State.reed_emit (o : List Out) : (s.emit o).reed = s.reed := by cases s; rfl
@[simp] theorem State.bcn_emit (o : List Out) : (s.emit o).bcn = s.bcn := by cases s; rfl
@[simp] theorem State.host_emit (o : List Out) : (s.emit o).host = s.host := by cases s; rfl
@[simp] theorem State.spool_emit (o : List Out) : (s.emit o).spool = s.spool := by cases s; rfl
@[simp] theorem State.nvw_emit (o : List Out) : (s.emit o).nvw = s.nvw := by cases s; rfl
@[simp] theorem State.ld_emit (o : List Out) : (s.emit o).ld = s.ld := by cases s; rfl
@[simp] theorem State.pwr_emit (o : List Out) : (s.emit o).pwr = s.pwr := by cases s; rfl
@[simp] theorem State.clk_emit (o : List Out) : (s.emit o).clk = s.clk := by cases s; rfl
@[simp] theorem State.thm_emit (o : List Out) : (s.emit o).thm = s.thm := by cases s; rfl
@[simp] theorem State.snt_emit (o : List Out) : (s.emit o).snt = s.snt := by cases s; rfl
@[simp] theorem State.trust_emit (o : List Out) : (s.emit o).trust = s.trust := by cases s; rfl
@[simp] theorem State.dmp_emit (o : List Out) : (s.emit o).dmp = s.dmp := by cases s; rfl
@[simp] theorem State.pins_emit (o : List Out) : (s.emit o).pins = s.pins := by cases s; rfl
@[simp] theorem State.pending_emit (o : List Out) : (s.emit o).pending = s.pending := by cases s; rfl

/-! ### beacon -/

@[simp] theorem State.bank_beacon (k : Nat) (d : List Byte) : (s.beacon k d).bank = s.bank := by cases s; rfl
@[simp] theorem State.held_beacon (k : Nat) (d : List Byte) : (s.beacon k d).held = s.held := by cases s; rfl
@[simp] theorem State.latch_beacon (k : Nat) (d : List Byte) : (s.beacon k d).latch = s.latch := by cases s; rfl
@[simp] theorem State.timeUs_beacon (k : Nat) (d : List Byte) : (s.beacon k d).timeUs = s.timeUs := by cases s; rfl
@[simp] theorem State.free_beacon (k : Nat) (d : List Byte) : (s.beacon k d).free = s.free := by cases s; rfl
@[simp] theorem State.tiles_beacon (k : Nat) (d : List Byte) : (s.beacon k d).tiles = s.tiles := by cases s; rfl
@[simp] theorem State.flt_beacon (k : Nat) (d : List Byte) : (s.beacon k d).flt = s.flt := by cases s; rfl
@[simp] theorem State.inj_beacon (k : Nat) (d : List Byte) : (s.beacon k d).inj = s.inj := by cases s; rfl
@[simp] theorem State.pat_beacon (k : Nat) (d : List Byte) : (s.beacon k d).pat = s.pat := by cases s; rfl
@[simp] theorem State.pm_beacon (k : Nat) (d : List Byte) : (s.beacon k d).pm = s.pm := by cases s; rfl
@[simp] theorem State.weft_beacon (k : Nat) (d : List Byte) : (s.beacon k d).weft = s.weft := by cases s; rfl
@[simp] theorem State.reed_beacon (k : Nat) (d : List Byte) : (s.beacon k d).reed = s.reed := by cases s; rfl
@[simp] theorem State.host_beacon (k : Nat) (d : List Byte) : (s.beacon k d).host = s.host := by cases s; rfl
@[simp] theorem State.spool_beacon (k : Nat) (d : List Byte) : (s.beacon k d).spool = s.spool := by cases s; rfl
@[simp] theorem State.nvw_beacon (k : Nat) (d : List Byte) : (s.beacon k d).nvw = s.nvw := by cases s; rfl
@[simp] theorem State.ld_beacon (k : Nat) (d : List Byte) : (s.beacon k d).ld = s.ld := by cases s; rfl
@[simp] theorem State.pwr_beacon (k : Nat) (d : List Byte) : (s.beacon k d).pwr = s.pwr := by cases s; rfl
@[simp] theorem State.clk_beacon (k : Nat) (d : List Byte) : (s.beacon k d).clk = s.clk := by cases s; rfl
@[simp] theorem State.thm_beacon (k : Nat) (d : List Byte) : (s.beacon k d).thm = s.thm := by cases s; rfl
@[simp] theorem State.snt_beacon (k : Nat) (d : List Byte) : (s.beacon k d).snt = s.snt := by cases s; rfl
@[simp] theorem State.trust_beacon (k : Nat) (d : List Byte) : (s.beacon k d).trust = s.trust := by cases s; rfl
@[simp] theorem State.dmp_beacon (k : Nat) (d : List Byte) : (s.beacon k d).dmp = s.dmp := by cases s; rfl
@[simp] theorem State.pins_beacon (k : Nat) (d : List Byte) : (s.beacon k d).pins = s.pins := by cases s; rfl
@[simp] theorem State.out_beacon (k : Nat) (d : List Byte) : (s.beacon k d).out = s.out := by cases s; rfl
@[simp] theorem State.pending_beacon (k : Nat) (d : List Byte) : (s.beacon k d).pending = s.pending := by cases s; rfl

/-! ### raise -/

@[simp] theorem State.held_raise (c b k u d : Nat) (j : Bool) : (s.raise c b k u d j).held = s.held := by cases s; unfold State.raise; dsimp only; split <;> rfl
@[simp] theorem State.latch_raise (c b k u d : Nat) (j : Bool) : (s.raise c b k u d j).latch = s.latch := by cases s; unfold State.raise; dsimp only; split <;> rfl
@[simp] theorem State.timeUs_raise (c b k u d : Nat) (j : Bool) : (s.raise c b k u d j).timeUs = s.timeUs := by cases s; unfold State.raise; dsimp only; split <;> rfl
@[simp] theorem State.free_raise (c b k u d : Nat) (j : Bool) : (s.raise c b k u d j).free = s.free := by cases s; unfold State.raise; dsimp only; split <;> rfl
@[simp] theorem State.tiles_raise (c b k u d : Nat) (j : Bool) : (s.raise c b k u d j).tiles = s.tiles := by cases s; unfold State.raise; dsimp only; split <;> rfl
@[simp] theorem State.inj_raise (c b k u d : Nat) (j : Bool) : (s.raise c b k u d j).inj = s.inj := by cases s; unfold State.raise; dsimp only; split <;> rfl
@[simp] theorem State.pat_raise (c b k u d : Nat) (j : Bool) : (s.raise c b k u d j).pat = s.pat := by cases s; unfold State.raise; dsimp only; split <;> rfl
@[simp] theorem State.pm_raise (c b k u d : Nat) (j : Bool) : (s.raise c b k u d j).pm = s.pm := by cases s; unfold State.raise; dsimp only; split <;> rfl
@[simp] theorem State.weft_raise (c b k u d : Nat) (j : Bool) : (s.raise c b k u d j).weft = s.weft := by cases s; unfold State.raise; dsimp only; split <;> rfl
@[simp] theorem State.reed_raise (c b k u d : Nat) (j : Bool) : (s.raise c b k u d j).reed = s.reed := by cases s; unfold State.raise; dsimp only; split <;> rfl
@[simp] theorem State.bcn_raise (c b k u d : Nat) (j : Bool) : (s.raise c b k u d j).bcn = s.bcn := by cases s; unfold State.raise; dsimp only; split <;> rfl
@[simp] theorem State.host_raise (c b k u d : Nat) (j : Bool) : (s.raise c b k u d j).host = s.host := by cases s; unfold State.raise; dsimp only; split <;> rfl
@[simp] theorem State.spool_raise (c b k u d : Nat) (j : Bool) : (s.raise c b k u d j).spool = s.spool := by cases s; unfold State.raise; dsimp only; split <;> rfl
@[simp] theorem State.nvw_raise (c b k u d : Nat) (j : Bool) : (s.raise c b k u d j).nvw = s.nvw := by cases s; unfold State.raise; dsimp only; split <;> rfl
@[simp] theorem State.ld_raise (c b k u d : Nat) (j : Bool) : (s.raise c b k u d j).ld = s.ld := by cases s; unfold State.raise; dsimp only; split <;> rfl
@[simp] theorem State.pwr_raise (c b k u d : Nat) (j : Bool) : (s.raise c b k u d j).pwr = s.pwr := by cases s; unfold State.raise; dsimp only; split <;> rfl
@[simp] theorem State.clk_raise (c b k u d : Nat) (j : Bool) : (s.raise c b k u d j).clk = s.clk := by cases s; unfold State.raise; dsimp only; split <;> rfl
@[simp] theorem State.thm_raise (c b k u d : Nat) (j : Bool) : (s.raise c b k u d j).thm = s.thm := by cases s; unfold State.raise; dsimp only; split <;> rfl
@[simp] theorem State.snt_raise (c b k u d : Nat) (j : Bool) : (s.raise c b k u d j).snt = s.snt := by cases s; unfold State.raise; dsimp only; split <;> rfl
@[simp] theorem State.trust_raise (c b k u d : Nat) (j : Bool) : (s.raise c b k u d j).trust = s.trust := by cases s; unfold State.raise; dsimp only; split <;> rfl
@[simp] theorem State.dmp_raise (c b k u d : Nat) (j : Bool) : (s.raise c b k u d j).dmp = s.dmp := by cases s; unfold State.raise; dsimp only; split <;> rfl
@[simp] theorem State.pins_raise (c b k u d : Nat) (j : Bool) : (s.raise c b k u d j).pins = s.pins := by cases s; unfold State.raise; dsimp only; split <;> rfl
@[simp] theorem State.out_raise (c b k u d : Nat) (j : Bool) : (s.raise c b k u d j).out = s.out := by cases s; unfold State.raise; dsimp only; split <;> rfl
@[simp] theorem State.pending_raise (c b k u d : Nat) (j : Bool) : (s.raise c b k u d j).pending = s.pending := by cases s; unfold State.raise; dsimp only; split <;> rfl

/-- States with the same bank have the same HOST ports. -/
theorem State.hostPorts_of_bank {s t : State} (h : s.bank = t.bank) : s.hostPorts = t.hostPorts := by
  have e : ∀ f i, s.get f i = t.get f i := fun f i => by unfold State.get; rw [h]
  unfold State.hostPorts State.upPorts State.portState State.portRole
  apply List.filter_congr
  intro p _
  rw [e, e]


/-! ### What reads only the bank, or only the tiles -/

@[simp] theorem State.tile_set (f : Fld) (v i : Nat) (j : Nat) : (s.set f v i).tile j = s.tile j := by simp [State.tile]
@[simp] theorem State.tile_add (f : Fld) (n i : Nat) (j : Nat) : (s.add f n i).tile j = s.tile j := by simp [State.tile]
@[simp] theorem State.tile_setReg (a : Nat) (v : Word) (i : Nat) (j : Nat) : (s.setReg a v i).tile j = s.tile j := by simp [State.tile]
@[simp] theorem State.get_hold (a : Nat) (g : Fld) (j : Nat) : (s.hold a).get g j = s.get g j := by simp [State.get]
@[simp] theorem State.reg_hold (a : Nat) (r j : Nat) : (s.hold a).reg r j = s.reg r j := by simp [State.reg]
@[simp] theorem State.domOn_hold (a : Nat) (d : Nat) : (s.hold a).domOn d = s.domOn d := by simp [State.domOn]
@[simp] theorem State.hostPorts_hold (a : Nat) : (s.hold a).hostPorts = s.hostPorts := State.hostPorts_of_bank (by simp)
@[simp] theorem State.tile_hold (a : Nat) (j : Nat) : (s.hold a).tile j = s.tile j := by simp [State.tile]
@[simp] theorem State.get_release  (g : Fld) (j : Nat) : (s.release).get g j = s.get g j := by simp [State.get]
@[simp] theorem State.reg_release  (r j : Nat) : (s.release).reg r j = s.reg r j := by simp [State.reg]
@[simp] theorem State.domOn_release  (d : Nat) : (s.release).domOn d = s.domOn d := by simp [State.domOn]
@[simp] theorem State.hostPorts_release  : (s.release).hostPorts = s.hostPorts := State.hostPorts_of_bank (by simp)
@[simp] theorem State.tile_release  (j : Nat) : (s.release).tile j = s.tile j := by simp [State.tile]
@[simp] theorem State.get_setTile (a : Nat) (t : Tile) (g : Fld) (j : Nat) : (s.setTile a t).get g j = s.get g j := by simp [State.get]
@[simp] theorem State.reg_setTile (a : Nat) (t : Tile) (r j : Nat) : (s.setTile a t).reg r j = s.reg r j := by simp [State.reg]
@[simp] theorem State.domOn_setTile (a : Nat) (t : Tile) (d : Nat) : (s.setTile a t).domOn d = s.domOn d := by simp [State.domOn]
@[simp] theorem State.hostPorts_setTile (a : Nat) (t : Tile) : (s.setTile a t).hostPorts = s.hostPorts := State.hostPorts_of_bank (by simp)
@[simp] theorem State.get_onTiles (f : Nat → Tile → Tile) (g : Fld) (j : Nat) : (s.onTiles f).get g j = s.get g j := by simp [State.get]
@[simp] theorem State.reg_onTiles (f : Nat → Tile → Tile) (r j : Nat) : (s.onTiles f).reg r j = s.reg r j := by simp [State.reg]
@[simp] theorem State.domOn_onTiles (f : Nat → Tile → Tile) (d : Nat) : (s.onTiles f).domOn d = s.domOn d := by simp [State.domOn]
@[simp] theorem State.hostPorts_onTiles (f : Nat → Tile → Tile) : (s.onTiles f).hostPorts = s.hostPorts := State.hostPorts_of_bank (by simp)
@[simp] theorem State.get_injUse (k a : Nat) (g : Fld) (j : Nat) : (s.injUse k a).get g j = s.get g j := by simp [State.get]
@[simp] theorem State.reg_injUse (k a : Nat) (r j : Nat) : (s.injUse k a).reg r j = s.reg r j := by simp [State.reg]
@[simp] theorem State.domOn_injUse (k a : Nat) (d : Nat) : (s.injUse k a).domOn d = s.domOn d := by simp [State.domOn]
@[simp] theorem State.hostPorts_injUse (k a : Nat) : (s.injUse k a).hostPorts = s.hostPorts := State.hostPorts_of_bank (by simp)
@[simp] theorem State.tile_injUse (k a : Nat) (j : Nat) : (s.injUse k a).tile j = s.tile j := by simp [State.tile]
@[simp] theorem State.get_useFree (n : Nat) (g : Fld) (j : Nat) : (s.useFree n).get g j = s.get g j := by simp [State.get]
@[simp] theorem State.reg_useFree (n : Nat) (r j : Nat) : (s.useFree n).reg r j = s.reg r j := by simp [State.reg]
@[simp] theorem State.domOn_useFree (n : Nat) (d : Nat) : (s.useFree n).domOn d = s.domOn d := by simp [State.domOn]
@[simp] theorem State.hostPorts_useFree (n : Nat) : (s.useFree n).hostPorts = s.hostPorts := State.hostPorts_of_bank (by simp)
@[simp] theorem State.tile_useFree (n : Nat) (j : Nat) : (s.useFree n).tile j = s.tile j := by simp [State.tile]
@[simp] theorem State.get_emit (o : List Out) (g : Fld) (j : Nat) : (s.emit o).get g j = s.get g j := by simp [State.get]
@[simp] theorem State.reg_emit (o : List Out) (r j : Nat) : (s.emit o).reg r j = s.reg r j := by simp [State.reg]
@[simp] theorem State.domOn_emit (o : List Out) (d : Nat) : (s.emit o).domOn d = s.domOn d := by simp [State.domOn]
@[simp] theorem State.hostPorts_emit (o : List Out) : (s.emit o).hostPorts = s.hostPorts := State.hostPorts_of_bank (by simp)
@[simp] theorem State.tile_emit (o : List Out) (j : Nat) : (s.emit o).tile j = s.tile j := by simp [State.tile]
@[simp] theorem State.get_beacon (k : Nat) (d : List Byte) (g : Fld) (j : Nat) : (s.beacon k d).get g j = s.get g j := by simp [State.get]
@[simp] theorem State.reg_beacon (k : Nat) (d : List Byte) (r j : Nat) : (s.beacon k d).reg r j = s.reg r j := by simp [State.reg]
@[simp] theorem State.domOn_beacon (k : Nat) (x : List Byte) (d : Nat) : (s.beacon k x).domOn d = s.domOn d := by simp [State.domOn]
@[simp] theorem State.hostPorts_beacon (k : Nat) (d : List Byte) : (s.beacon k d).hostPorts = s.hostPorts := State.hostPorts_of_bank (by simp)
@[simp] theorem State.tile_beacon (k : Nat) (d : List Byte) (j : Nat) : (s.beacon k d).tile j = s.tile j := by simp [State.tile]
@[simp] theorem State.tile_raise (c b k u d : Nat) (j : Bool) (i : Nat) : (s.raise c b k u d j).tile i = s.tile i := by simp [State.tile]

/-! ### Reading registers and tiles -/

@[simp] theorem State.bank_set (f : Fld) (v i : Nat) : (s.set f v i).bank = bankSet f i v s.bank := by cases s; rfl
@[simp] theorem State.bank_add (f : Fld) (n i : Nat) : (s.add f n i).bank = bankAdd f i n s.bank := by cases s; rfl
@[simp] theorem State.bank_setReg (a : Nat) (v : Word) (i : Nat) : (s.setReg a v i).bank = bankPut (rkey a i) v s.bank := by cases s; rfl
@[simp] theorem State.tiles_setTile (a : Nat) (t : Tile) : (s.setTile a t).tiles = smSet Tile.empty a t s.tiles := by cases s; rfl
@[simp] theorem State.free_useFree (n : Nat) : (s.useFree n).free = s.free + n := rfl
@[simp] theorem State.out_emit (o : List Out) : (s.emit o).out = s.out ++ o := rfl
@[simp] theorem State.held_release : s.release.held = [] := rfl

/-- A field reads as it was set, in its width. -/
theorem State.get_set_same (f : Fld) (v i : Nat) (h : f.lo + f.w ≤ 32) : (s.set f v i).get f i = v % 2 ^ f.w :=
  bankGet_bankSet_same f i v s.bank h

/-- Another field stays: in another register or instance, or apart in the same one. -/
theorem State.get_set_other (f g : Fld) (v i j : Nat)
    (h : rkey g.reg j ≠ rkey f.reg i ∨ (g.lo + g.w ≤ 32 ∧ (g.lo + g.w ≤ f.lo ∨ f.lo + f.w ≤ g.lo))) : (s.set f v i).get g j = s.get g j :=
  bankGet_bankSet_other f g i j v s.bank h

/-- A count reads as its saturated sum. -/
theorem State.get_add_same (f : Fld) (n i : Nat) (h : f.lo + f.w ≤ 32) : (s.add f n i).get f i = min (2 ^ f.w - 1) (s.get f i + n) := by
  have hp := Nat.two_pow_pos f.w
  have hl : min (2 ^ f.w - 1) (s.get f i + n) < 2 ^ f.w := Nat.lt_of_le_of_lt (Nat.min_le_left _ _) (Nat.sub_lt hp Nat.one_pos)
  exact (bankGet_bankSet_same f i _ s.bank h).trans (Nat.mod_eq_of_lt hl)

/-- A count of another field stays. -/
theorem State.get_add_other (f g : Fld) (n i j : Nat)
    (h : rkey g.reg j ≠ rkey f.reg i ∨ (g.lo + g.w ≤ 32 ∧ (g.lo + g.w ≤ f.lo ∨ f.lo + f.w ≤ g.lo))) : (s.add f n i).get g j = s.get g j :=
  bankGet_bankSet_other f g i j _ s.bank h

/-- A register reads as it was written. -/
@[simp] theorem State.reg_setReg_same (a : Nat) (v : Word) (i : Nat) : (s.setReg a v i).reg a i = v := by
  simp [State.reg, State.setReg]

/-- A tile reads as it was put. -/
@[simp] theorem State.tile_setTile_same (a : Nat) (t : Tile) : (s.setTile a t).tile a = t := by
  simp [State.tile, State.setTile]

/-- Another tile stays. -/
theorem State.tile_setTile_other {a b : Nat} (h : b ≠ a) (t : Tile) : (s.setTile a t).tile b = s.tile b :=
  smGet_smSet_other _ _ h t s.tiles

/-- Putting a tile twice is putting it the second time. -/
theorem State.setTile_tile (a b : Nat) (t : Tile) : (s.setTile a t).tile b = if b = a then t else s.tile b := by
  split
  · subst_vars; exact s.tile_setTile_same _ t
  · exact s.tile_setTile_other ‹_› t

/-! ### Fault records: everything that raising one does (R556, R557) -/

/-- Nothing but the fault records and the two fields of DMP_ that count suppressed ones changes. -/
theorem State.raise_frame (c b k u d : Nat) (j : Bool) :
    s.raise c b k u d j = { s with bank := (s.raise c b k u d j).bank, flt := (s.raise c b k u d j).flt } := by
  cases s
  unfold State.raise
  dsimp only
  split <;> rfl

/-- The first record of a code and unit in a millisecond goes out on TELEM, after those that wait. -/
theorem State.raise_sent (c b k u d : Nat) (j : Bool) (h : smGet 0 (c * 2 ^ 24 + u) s.flt.last ≠ s.timeUs / 1000 + 1) :
    (s.raise c b k u d j).flt.telem =
      s.flt.telem ++ [⟨c, b, k, u, d, s.pm.pick, s.timeUs, j, smGet false (c * 2 ^ 24 + u) s.flt.supp⟩] ∧
    (s.raise c b k u d j).bank = s.bank := by
  unfold State.raise
  rw [if_neg h]
  exact ⟨rfl, rfl⟩

/-- A further one in the same millisecond is only counted. -/
theorem State.raise_counted (c b k u d : Nat) (j : Bool) (h : smGet 0 (c * 2 ^ 24 + u) s.flt.last = s.timeUs / 1000 + 1) :
    (s.raise c b k u d j).flt.telem = s.flt.telem ∧
    (s.raise c b k u d j).bank = bankAdd F.DMP_SUPPRESSED_COUNT 0 1 (bankSet F.DMP_STATUS_SUPPRESSED 0 1 s.bank) := by
  unfold State.raise
  rw [if_pos h]
  exact ⟨rfl, rfl⟩

/-- A command on a tile answers a next state exactly where the tile exists. -/
theorem onTile_eq (a : TileAddr) (s : State) (f : Tile → State) :
    onTile a s f = if tileOk a.toNat then .next (f (s.tile a.toNat)) else .fault .noTile := rfl

end Sys2Proof.Machine
end

