-- ==== Sys2Proof/Tests/Slice0.lean ====
section
/-!
SUPPORT. Tests: small checks against the spec's own numbers, ill-formed commands that the check refuses, and for each statement with hypotheses a state that meets them.
-/
namespace Sys2Proof.Tests
open Sys2Proof Sys2Proof.Machine
set_option Elab.async false

/-! ### Helpers -/

/-- A command answers a next state of which the check holds. -/
def nextIs (c : Instr) (s : State) (p : State → Bool) : Bool := match exec c s with | .next t => p t | _ => false

/-- A command answers the state it found. -/
def keeps (c : Instr) (s : State) : Bool := nextIs c s fun t => decide (t = s)

/-- A command stops with a fault. -/
def faults (f : Fault) (c : Instr) (s : State) : Bool := match exec c s with | .fault g => decide (g = f) | _ => false

/-- The state after reset with the contents that the spec leaves open empty, so that whole states compare. -/
def dev0 : State :=
  { State.reset with nvw := { State.reset.nvw with mapHdr := [], map := [], mapDigest := [] },
                     trust := { State.reset.trust with banks := [], fwEcdsa := [], fwHss := [] } }

/-- That state with fields of registers set: field, instance, value. -/
def st (l : List (Fld × Nat × Nat)) (s : State := dev0) : State := l.foldl (fun s x => s.set x.1 x.2.2 x.2.1) s

/-- Nothing but one register differs. -/
def onlyReg (a i : Nat) (s t : State) : Bool :=
  decide ({ t with bank := bankPut (rkey a i) 0 t.bank } = { s with bank := bankPut (rkey a i) 0 s.bank })

/-- The next state of a command, the state itself where it stops. -/
def run (c : Instr) (s : State) : State := match exec c s with | .next t => t | _ => s

/-- A tile address: field 2, column 5, row 3. -/
def tA : TileAddr := BitVec.ofNat 19 (2 * 8192 + 5 * 128 + 3)

/-- A tile in RUN with its program running: g1 = 7, g2 = -2, g3 = 40, g4 = 0x2FFFC, g5 = 3072; the link register at 0x1234; line 2000
and the scratchpad's last word written. -/
def uA : Tile :=
  { Tile.empty with st := 3, active := true, pc := 100, lk := 0x1234,
                    g := [(1, 7), (2, 0xFFFFFFFE), (3, 40), (4, 0x2FFFC), (5, 3072)],
                    scratch := [(2560, 0x78), (2561, 0x56), (2562, 0x34), (2563, 0x92), (0x2FFFC, 1), (0x2FFFF, 0x80)],
                    entry := [(0, 9)], arr := [(2, 7)] }

/-- The device with that tile. -/
def sA : State := dev0.setTile tA.toNat uA

/-- A register of that tile after a command, with the program counter. -/
def gives (c : Instr) (d : Nat) (v : Word) (s : State := sA) : Bool :=
  nextIs c s fun r => decide (tReg d (r.tile tA.toNat) = v ∧ (r.tile tA.toNat).pc = 101)

/-- A jump went to `pc`. -/
def goes (c : Instr) (pc : BitVec 16) (s : State := sA) : Bool := nextIs c s fun r => decide ((r.tile tA.toNat).pc = pc)

/-- Every check of a list holds. -/
def allOf (l : List Bool) : Bool := l.all id

/-! ### The sequencer -/

theorem test_idle_step_counts_time : (match step dev0 with | .next t => decide (t = { dev0 with timeUs := 1 }) | _ => false) = true := by
  decide +kernel

theorem witness_StepRunsFrontCommand :
    (match step { sA with pending := [.mul tA 3 1 1, .done tA] } with
      | .next t => decide (t.pending = [.done tA] ∧ tReg 3 (t.tile tA.toNat) = 49) | _ => false) = true := by
  decide +kernel

theorem witness_native : native sA tA := by unfold native; decide +kernel

theorem witness_SequencerRegisterForms : allOf [
    gives (.alu tA 0 6 1 2) 6 5, gives (.alu tA 1 6 1 2) 6 9, gives (.alu tA 2 6 1 2) 6 6, gives (.alu tA 3 6 1 2) 6 0xFFFFFFFF,
    gives (.alu tA 4 6 1 2) 6 0xFFFFFFF9, gives (.alu tA 5 6 1 3) 6 0x700, gives (.alu tA 6 6 2 3) 6 0xFFFFFF, gives (.alu tA 7 6 2 3) 6 0xFFFFFFFF,
    gives (.alu tA 8 6 2 1) 6 1, gives (.alu tA 9 6 2 1) 6 0, gives (.mul tA 6 1 2) 6 0xFFFFFFF2, gives (.addk tA 6 1 0x3FFF) 6 6,
    gives (.ork tA 6 1 0x2000) 6 0x2007, gives (.seth tA 6 0x7FFFF) 6 0xFFFFE000, gives (.ltsk tA 6 2 0x3FFF) 6 1,
    gives (.ltsk tA 6 1 7) 6 0, gives (.alu tA 0 0 1 1) 0 0] = true := by
  decide +kernel

theorem test_open_alu_function : nextIs (.alu tA 10 6 1 2) sA (fun r => decide (r.free = 1 ∧ (r.tile tA.toNat).pc = 101)) = true := by
  decide +kernel

theorem witness_SequencerJumps : allOf [
    goes (.jeq tA 1 1 0x3FFF) 99, goes (.jeq tA 1 2 5) 101, goes (.jne tA 1 2 5) 105, goes (.jlt tA 2 1 5) 105, goes (.jlt tA 1 1 5) 101,
    goes (.jge tA 1 1 5) 105, goes (.jge tA 2 1 5) 101, goes (.call tA 0xFFFFFF) 99, goes (.ret tA) 0x1234, goes (.jmp tA 3) 40,
    nextIs (.call tA 3) sA fun r => decide ((r.tile tA.toNat).lk = 101)] = true := by
  decide +kernel

theorem witness_SequencerMemory :
    (tReg 3 uA + (2521 : BitVec 14).signExtend 32).toNat < 0x30000 ∧ (tReg 4 uA + (3 : BitVec 14).signExtend 32).toNat < 0x30000 ∧
    tBusyLine [2561 / 64] uA = false ∧ sA.injHas 2 tA.toNat = false ∧ uA.staged = [] ∧ uA.accesses = [] ∧ allOf [
      gives (.ldw tA 6 3 2521 0) 6 0x92345678, gives (.ldb tA 6 3 2521 0) 6 0x56, gives (.ldb tA 6 4 3 0) 6 0x80,
      gives (.ldw tA 6 4 3 0) 6 0x80000001,
      nextIs (.stw tA 1 4 3) sA fun r => decide ((r.tile tA.toNat).staged = [⟨6, 0x2FFFC, [7, 0, 0, 0]⟩]),
      nextIs (.stb tA 2 4 3) sA fun r => decide ((r.tile tA.toNat).staged = [⟨6, 0x2FFFF, [0xFE]⟩]),
      gives (.ldw tA 6 3 2521 0) 6 7 (match exec (.stw tA 1 3 2521) sA with
        | .next r => r.setTile tA.toNat { r.tile tA.toNat with pc := 100 } | _ => sA)] = true := by
  decide +kernel

theorem witness_SequencerBitErrors : allOf [
    gives (.ldw tA 6 3 2521 1) 6 0x92345678,
    nextIs (.ldw tA 6 3 2521 1) sA fun r => decide (tGet F.TIL_SP_ERR_CE_COUNT (r.tile tA.toNat) = 1 ∧ (r.tile tA.toNat).poison = false),
    nextIs (.ldw tA 6 3 2521 2) sA fun r => decide (tGet F.TIL_SP_ERR_UE_COUNT (r.tile tA.toNat) = 1 ∧ (r.tile tA.toNat).poison = true ∧
      (r.tile tA.toNat).st = 6),
    nextIs (.ldw tA 6 4 0 2) sA fun r => decide ((r.tile tA.toNat).st = 3 ∧ (r.tile tA.toNat).poison = true)] = true := by
  decide +kernel

theorem witness_SequencerControl : uA.pendRes = [] ∧ uA.pendAcc = [] ∧ uA.pendWrite = [] ∧ uA.pendSet = [] ∧ allOf [
    goes (.wait tA 1 2) 101,
    nextIs (.wait tA 3 2) sA fun r => decide ((r.tile tA.toNat).pc = 100 ∧ tGet F.TIL_SEQ_WAIT (r.tile tA.toNat) = 2),
    nextIs (.clrc tA 2) sA fun r => decide ((r.tile tA.toNat).arr = []),
    goes (.reservedOpcode tA 0xFF) 101,
    nextIs (.done tA) sA fun r => decide ((r.tile tA.toNat).active = false ∧ (r.tile tA.toNat).doneExec = true ∧ (r.tile tA.toNat).st = 3 ∧
      tGet F.TIL_SEQ_WAIT (r.tile tA.toNat) = 1),
    nextIs (.done tA) (sA.setTile tA.toNat { uA with haltReq := true }) fun r => decide ((r.tile tA.toNat).st = 4),
    nextIs (.done tA) (sA.setTile tA.toNat { uA with strobeHeld := true }) fun r => decide ((r.tile tA.toNat).active = true ∧
      (r.tile tA.toNat).pc = 9 ∧ (r.tile tA.toNat).strobeHeld = false)] = true := by
  decide +kernel

/-! ### The units of a tile -/

/-- Bytes put into a tile's scratchpad at a line: a number of `n` bytes. -/
def atLine (line n v : Nat) (u : Tile) : Tile := { u with scratch := smSetBytes (64 * line) (leBytes n v) u.scratch }

/-- The device with another tile at `tA`, and the tile after a command. -/
def sT (u : Tile) (s : State := dev0) : State := s.setTile tA.toNat u
def tileIs (c : Instr) (u : Tile) (p : Tile → Bool) (s : State := dev0) : Bool := nextIs c (sT u s) fun r => p (r.tile tA.toNat)

/-- The tile `uA` with g7 = 3071, g8 = 3039, g9 = 10, g10 = 11, g11 = 12, g12 = 13, g13 = 3070, and descriptors: line 10 a FIXED slice beyond the
weight rows, line 11 a drain to line 50 as A8, line 12 a drain to fold group 5 as a sum, line 13 a spool write of 64 units from line 3008,
line 3070 a header of a shuttle with 32 bytes of payload. -/
def uB : Tile :=
  atLine 10 8 (61440 + 2 ^ 16) (atLine 11 8 (50 * 2 + 0x81 * 2 ^ 13) (atLine 12 8 (1 + 5 * 2 + 0xF0 * 2 ^ 13)
    (atLine 13 16 (1 + 0x1000 * 2 + 3008 * 2 ^ 46 + 64 * 2 ^ 64) (atLine 3070 32 (1 + 32 * 2 ^ 20)
      { uA with g := [(1, 7), (7, 3071), (8, 3039), (9, 10), (10, 11), (11, 12), (12, 13), (13, 3070)],
                acc0 := { AccSet.empty with vals := [(0, 100), (33, -7)] } }))))

theorem witness_SequencerUnits : native (sT uB) tA ∧ (sT uB).injHas 3 tA.toNat = false ∧
    3039 * 64 + 2060 ≤ 0x30000 ∧ tBusyLine (linesOf (3039 * 64) 2060) uB = false ∧ tBusyLine [3071] uB = false ∧
    (sliceAt (64 * 3071) uB).ok = true ∧ (sliceAt (64 * 10) uB).ok = false ∧
    drainOk ((sT uB).ctx tA.toNat) 0 11 .acc uB = true ∧ (drainDesc 11 uB).fold = false ∧
    drainOk ((sT uB).ctx tA.toNat) 1 12 .acc uB = true ∧ (drainDesc 12 uB).fold = true ∧
    spoolDesc 13 uB = (true, 0x1000, 3008, 64, 0) ∧ 3008 + 64 ≤ 3072 ∧ tBusyLine (rangeFrom 3008 64) uB = false ∧
    64 * 3070 + 32 + hLen (tNum (64 * 3070) 32 uB) ≤ 0x30000 := by unfold native; decide +kernel

theorem witness_drain_jobs : uB.drain = none ∧ ∀ job ∈ ([.collect 100 1 (-3) true 120 0x81 1, .sums 100 4, .best 100 2, .gated 200] : List DrainJob),
    drainOk ((sT uB).ctx tA.toNat) 0 11 job uB = true ∧ tBusyLine (spanLines (jobSpans job)) uB = false := by
  decide +kernel

theorem test_units : allOf [
    tileIs (.tfn tA 6 8 1 []) uB fun v => decide (tReg 6 v = 0 ∧ v.pc = 101),
    tileIs (.stream tA 7 0 0 0 []) uB fun v => decide (v.queue = [⟨0, 3071, 0, 0, 0⟩] ∧ v.pc = 101),
    tileIs (.stream tA 7 2 7 31 []) uB fun v => decide (v.queue = [⟨2, 3071, 7, 31, 0⟩] ∧ v.pc = 101),
    tileIs (.stream tA 7 0 0 0 []) { uB with queue := List.replicate 4 ⟨0, 1, 0, 0, 0⟩ } fun v =>
      decide (v.queue.length = 4 ∧ v.pc = 100 ∧ tGet F.TIL_SEQ_WAIT v = 5),
    tileIs (.stream tA 9 0 0 0 []) uB fun v => decide (v.queue = [] ∧ v.pc = 101 ∧ v.poison = true ∧ tGet F.TIL_HAZ_STREAM v = 1),
    tileIs (.drain tA 10 0 .acc []) uB fun v => decide ((v.drain.map fun w => (w.sets, w.left, w.addr, w.data.length)) =
      some ([0], 5, 3200, 1056) ∧ v.pc = 101),
    tileIs (.drain tA 11 0 .acc []) uB fun v => decide ((v.drain.map fun w => w.shs.map fun h => hFirstBlk h.hdr) = some [0, 6, 12, 18, 24, 30] ∧
      (v.drain.map fun w => ((w.shs.headD ⟨0, []⟩).payload.take 5)) = some [100, 0, 0, 0, 0] ∧ v.staged = []),
    tileIs (.drain tA 11 0 .acc []) { uB with drain := some ⟨[1], 2, 0, [], []⟩ } fun v => decide (v.pc = 100 ∧ tGet F.TIL_SEQ_WAIT v = 4),
    tileIs (.spool tA 12 []) uB fun v => decide ((v.spReqs.map fun q => (q.write, q.sva, q.line, q.units, q.data.length)) =
      [(true, 0x1000, 3008, 64, 4096)] ∧ v.spWrites = 1 ∧ v.spReads = 0),
    tileIs (.spool tA 7 []) uB fun v => decide (v.spReqs = [] ∧ v.poison = true ∧ v.pc = 101),
    tileIs (.send tA 13 []) uB fun v => decide ((v.outbox.map fun h => (hKind h.hdr, hLen h.hdr, hSrc h.hdr, h.payload.length)) =
      [(1, 32, tA.toNat, 32)] ∧ v.pc = 101)] = true := by
  decide +kernel

theorem witness_FixedSlotResults : allOf [
    decide (tileOk tA.toNat = true ∧ issuing uA = true ∧ uA.delay = none ∧ uA.pendRes = [] ∧ uA.pendAcc = [] ∧ uA.pendWrite = [] ∧ uA.pendSet = []),
    tileIs (.alu tA 0 6 1 1) uA (fun v => decide (tReg 6 v = 14 ∧ v.p = 1)) { dev0 with pat := { dev0.pat with stepping := 1 } },
    tileIs (.alu tA 0 6 1 1) uA (fun v => decide (tReg 6 v = 0 ∧ v.pendRes = [⟨3, 0, 6, 14⟩]))
      { dev0 with pat := { dev0.pat with stepping := 1, timing := [(1, 3)] } }] = true := by
  decide +kernel

/-- Addresses that name no tile: row 72, field 60. -/
def tBad : TileAddr := 72
def tBad2 : TileAddr := BitVec.ofNat 19 (60 * 8192)

theorem witness_SequencerStops : allOf [
    faults .noTile (.mul tBad 1 1 1) sA, faults .noTile (.pass tBad2 1 .mac []) sA, faults .noTile (.spool tBad2 1 []) sA,
    keeps (.mul tA 1 1 1) dev0, keeps (.done tA) (sT { uA with active := false }), keeps (.drain tA 1 0 .acc []) dev0,
    faults .scratchAddr (.ldw tA 6 4 4 0) sA, faults .scratchAddr (.stb tA 6 4 4) sA,
    gives (.ldb tA 6 4 3 0) 6 0x80] = true := by
  decide +kernel

/-- A shuttle of 64 bytes for line 5 in lane 3, and the selection words of one lane. -/
def shA (poison : Bool) : Shuttle := ⟨(if poison then 64 else 0) + 64 * 2 ^ 20 + 5 * 2 ^ 172 + 3 * 2 ^ 208, zeroBytes 63 ++ [9]⟩
def shSel : Shuttle := ⟨64 + 8 * 2 ^ 20, leBytes 8 (2 ^ 63 + 2 * 2 ^ 50 + 4 + 7 * 2 ^ 10)⟩

/-- The windows of `uA`: the weft may write lines 5 to 6, the spool lines 7 to 7. -/
def uW : Tile := { uA with regs := bankPut R.TIL_WIN_WEFT 0x60005 (bankPut R.TIL_WIN_SPOOL 0x70007 []) }

theorem witness_TileInput : allOf [
    keeps (.selectionWordArrival tA) sA, keeps (.weftInWrite tA) sA, keeps (.spoolInWrite tA) sA,
    tileIs (.selectionWordArrival tA) { uW with inbox := [shSel] } fun v => decide (v.sel = [(0, 2 ^ 63 + 2 * 2 ^ 50 + 4 + 7 * 2 ^ 10)] ∧
      v.selHere = true ∧ v.poison = true ∧ v.inbox = []),
    tileIs (.weftInWrite tA) { uW with inbox := [shA true] } fun v => decide ((v.staged.map Staged.addr) = [320] ∧ v.lanePoison = [3] ∧
      v.poison = false),
    tileIs (.weftInWrite tA) { uA with inbox := [shA false], regs := bankPut R.TIL_WIN_WEFT 0x40004 [] } fun v => decide (v.staged = [] ∧
      v.poison = true ∧ tGet F.TIL_HAZ_WINDOW v = 1),
    tileIs (.spoolInWrite tA) { uW with spIn := [⟨0, false, 7, true, [], 0, 0⟩] } fun v => decide (v.poison = true ∧ tGet F.TIL_HAZ_SPOOL v = 1),
    tileIs (.spoolInWrite tA) { uW with spIn := [⟨0, true, 7, false, [], 0, 0⟩] } fun v => decide (v = uW),
    tileIs (.spoolInWrite tA) { uW with spIn := [⟨0, false, 7, false, zeroBytes 64, 0, 0⟩] } fun v => decide ((v.staged.map Staged.slot) = [1] ∧
      v.poison = false),
    tileIs (.spoolInWrite tA) { uW with spIn := [⟨0, false, 7, false, zeroBytes 65, 0, 0⟩] } fun v => decide (v.staged = [] ∧ v.poison = true),
    decide (tExcl 40 { uA with excl := [(1, 0x100)] } = true),
    tileIs (.turnEnd tA) { uA with excl := [(1, 0x100)], accesses := [⟨6, 40, true⟩, ⟨0, 40, false⟩] } fun v =>
      decide (tGet F.TIL_HAZ_EXCL v = 1 ∧ v.poison = true ∧ tGet F.TIL_HAZ_COUNT_COUNT v = 1)] = true := by
  decide +kernel

theorem witness_TurnEndWrites :
    hazardsOf { uA with staged := [⟨6, 100, [1, 2, 3]⟩, ⟨2, 101, [7, 8]⟩] } = [] ∧
    (([⟨6, 100, [1, 2, 3]⟩, ⟨2, 101, [7, 8, 9]⟩] : List Staged).map Staged.slot).Nodup ∧
    tileIs (.turnEnd tA) { uA with staged := [⟨6, 100, [1, 2, 3]⟩, ⟨2, 101, [7, 8, 9]⟩] } (fun v =>
      decide (smGetBytes 99 6 v.scratch = [0, 1, 2, 3, 9, 0] ∧ v.staged = [])) = true ∧
    tileIs (.turnEnd tA) { uA with drain := some ⟨[0], 1, 640, [5, 6], [shA false]⟩ } (fun v =>
      decide (v.staged = [⟨2, 640, [5, 6]⟩] ∧ v.drain = none ∧ v.outbox.length = 1)) = true := by
  decide +kernel

/-- VL on in the region of `tA`. -/
def sV : State := st [(F.VPA_DOM_STAT_STATE, regionOf 2, 3)]

theorem witness_TileLife : sV.vlOn (fieldOf tA.toNat) = true ∧ sV.injHas 6 tA.toNat = false ∧ allOf [
    tileIs (.tileLoadCommand tA) { uA with st := 0 } (fun v => decide (v.st = 1 ∧ v.slot = 0)) sV,
    tileIs (.tileLoadCommand tA) { uA with st := 0 } (fun v => decide (v.st = 0)),
    tileIs (.tilLoad tA) { uA with st := 5 } (fun v => decide (v.st = 1)) sV,
    tileIs (.tilLoad tA) { uA with st := 3 } (fun v => decide (v.st = 3)) sV,
    tileIs (.tilHaltReq tA) uA (fun v => decide (v.haltReq = true ∧ v.st = 3)) sV,
    tileIs (.tilHaltReq tA) { uA with st := 2 } (fun v => decide (v.st = 4 ∧ v.reported = true)) sV,
    tileIs (.tilDarn tA) uA (fun v => decide (v.st = 5 ∧ v.active = false)) sV,
    tileIs (.tileDone tA 1 2 3) { uA with doneExec := true } fun v => decide (v.reported = true ∧ bankReg R.TIL_PERF_MAC v.regs = 1 ∧
      bankReg R.TIL_PERF_NVW_IDLE v.regs = 2 ∧ bankReg R.TIL_PERF_STALL v.regs = 3),
    tileIs (.tileDone tA 1 2 3) { uA with st := 4, doneExec := true } (fun v => decide (v.reported = true)),
    keeps (.tileDone tA 1 2 3) (sT { uA with doneExec := true, building := [shSel] }),
    keeps (.tileDone tA 1 2 3) (sT { uA with doneExec := true, outbox := [shSel] })] = true := by
  decide +kernel

theorem witness_TileControl : (sV.vlOn (fieldOf tA.toNat) = true ∧ uA.st ≠ 5) ∧ allOf [
    tileIs (.tilEnable tA false) uA (fun v => decide (tGet F.TIL_CTRL_ENABLE v = 0)) sV,
    tileIs (.tilEnable tA true) uA (fun v => decide (tGet F.TIL_CTRL_ENABLE v = 1)) sV,
    tileIs (.tilClrCounts tA) { uA with regs := bankPut R.TIL_SP_ERR 0xFFFFFFFF [] } (fun v =>
      decide (tGet F.TIL_SP_ERR_CE_COUNT v = 0 ∧ tGet F.TIL_SP_ERR_UE_COUNT v = 0 ∧ tGet F.TIL_SP_ERR_UE v = 1)) sV,
    tileIs (.tilNvwLogRead tA) { uA with regs := bankPut R.TIL_NVW_LOG 0xFFFFFFFF [] } (fun v =>
      decide (tGet F.TIL_NVW_LOG_ROW v = 0 ∧ tGet F.TIL_NVW_LOG_BITS v = 0)) sV,
    keeps (.tilEnable tA false) (sT { uA with st := 5 } sV), keeps (.tilClrCounts tA) (sT { uA with regs := bankPut R.TIL_SP_ERR 1 [] })] = true := by
  decide +kernel

/-- A column with one weight block of W4 elements: element 0 is 3, scale 2; an activation block at line 60 whose element 0 is 5,
exponent 1; a pass descriptor at line 61 and a FIXED stream of 136 rows. -/
def uP : Tile :=
  atLine 60 2 0x0501 (atLine 61 16 (60 + 1 * 2 ^ 12 + 0x01 * 2 ^ 26 + 0x81 * 2 ^ 34) (atLine 62 8 (136 * 2 ^ 16)
    { uA with g := [(1, 61)], nvw := [(0, 2), (1, 3)], queue := [⟨0, 62, 0, 0, 0⟩] }))

def cP : StreamCmd := ⟨0, 62, 0, 0, 0⟩
def wT : PassWork := .transposed 4096 5

/-- The hypotheses of the clauses on MAC passes. -/
theorem witness_Passes : native (sT uP) tA ∧ (sT uP).injHas 2 tA.toNat = false ∧ macWork .mac = true ∧ macWork wT = true ∧
    (tReg 1 uP).toNat = 61 ∧ tBusyLine [61] uP = false ∧ uP.queue = [cP] ∧ headRead cP uP = .read (some (sliceAt (64 * 62) uP)) none ∧
    spansOk [inputSpan (passOf 61 none uP) none] = true ∧ spansOk (inputSpan (passOf 61 none uP) none :: specialSpans wT) = true ∧
    tBusyLine (spanLines (inputSpan (passOf 61 none uP) none :: specialSpans wT)) uP = false ∧
    tDraining (passOf 61 none uP).set uP = false ∧ tDraining 0 { uP with drain := some ⟨[0], 5, 0, [], []⟩ } = true ∧
    (sliceAt (64 * 62) uP).ok = true ∧ (sliceAt (64 * 10) uB).ok = false ∧
    headRead { cP with line := 10 } uB = .read (some (sliceAt (64 * 10) uB)) none ∧ headRead { cP with kind := 1 } uP = .wait ∧
    headRead { cP with kind := 1 } { uP with selHere := true } = .read none none ∧ allOf [
    tileIs (.pass tA 1 .mac []) { uP with queue := [] } fun v => decide (v.pc = 100 ∧ tGet F.TIL_SEQ_WAIT v = 5),
    tileIs (.pass tA 1 wT []) { uP with queue := [] } fun v => decide (v.pc = 100 ∧ tGet F.TIL_SEQ_WAIT v = 5),
    tileIs (.pass tA 1 .mac []) { uP with queue := [{ cP with kind := 1 }] } fun v => decide (v.pc = 100 ∧ tGet F.TIL_SEQ_WAIT v = 3),
    tileIs (.pass tA 1 .mac []) { uP with drain := some ⟨[0], 5, 0, [], []⟩ } fun v =>
      decide (v.pc = 100 ∧ tGet F.TIL_SEQ_WAIT v = 4 ∧ v.queue = [cP])] = true := by
  unfold native; decide +kernel

theorem witness_pass_works : ∀ w ∈ ([.score 100 102 40 2 0 110, .select 198 3 4 120 0 121 0 122 123, .zScore 5 130 140 160 0 0 0 180,
    .weigh 120 160 170 171 0 180] : List PassWork),
    macWork w = false ∧ passOk w 61 uP = true ∧ tBusyLine (spanLines (workSpans w)) uP = false := by
  decide +kernel

theorem witness_RowReads : tileOk tA.toNat = true ∧ (sT uP).injHas 1 tA.toNat = false ∧ uP.st ≠ 0 ∧ uP.st ≠ 1 ∧ uP.programming = false ∧ allOf [
    tileIs (.nvwRowRead tA 65535 0) uP fun v => decide (v = uP),
    tileIs (.nvwRowRead tA 0 6) uP fun v => decide (tGet F.TIL_NVW_ERR_CE_COUNT v = 1 ∧ v.rowOvr = [] ∧ v.poison = false),
    tileIs (.nvwRowRead tA 0 7) uP fun v => decide (tGet F.TIL_NVW_ERR_UE v = 1 ∧ v.rowOvr = [(0, zeroBytes 128)] ∧ v.poison = true ∧ v.ueRows = [(0, true)]),
    tileIs (.nvwRowRead tA 0 7) { uP with staging := [⟨0, [], false⟩] } fun v => decide (v.staging = [⟨0, zeroBytes 128, true⟩] ∧ v.poison = false),
    tileIs (.nvwScrub tA 0 0 (some 7)) { uP with ueRows := [(0, true)] } (fun v => decide (v = uP)) (st [(F.NVW_CTRL_SCRUB_EN, 0, 1)]),
    tileIs (.nvwScrub tA 0 1 none) uP (fun v => decide (tGet F.TIL_NVW_ERR_CE_COUNT v = 1 ∧ v.ueRows = [])) (st [(F.NVW_CTRL_SCRUB_EN, 0, 1)]),
    keeps (.nvwRowRead tA 65536 7) (sT uP), keeps (.nvwRowRead tA 0 7) (sT { uP with st := 0 }),
    keeps (.nvwScrub tA 0 7 none) (sT { uP with st := 1 } (st [(F.NVW_CTRL_SCRUB_EN, 0, 1)])),
    nextIs (.nvwScrub tA 0 7 (some 9)) (sT { uP with st := 1 } (st [(F.NVW_CTRL_SCRUB_EN, 0, 1)])) (fun r => decide
      (r.get F.NVW_SCRUB_STAT_SWEEP_H = 9)),
    tileIs (.nvwScrub tA 0 7 none) uP (fun v => decide (v.rowOvr = [] ∧ v.ueRows = [(0, true)] ∧ v.poison = false)) (st [(F.NVW_CTRL_SCRUB_EN, 0, 1)]),
    keeps (.nvwScrub tA 0 7 none) (sT uP (st [(F.NVW_CTRL_SCRUB_EN, 0, 0)]))] = true := by
  decide +kernel

theorem test_pass_lane : macLane false (passDesc 61 uP) (sliceAt (64 * 62) uP) ((rangeFrom 0 1).map fun b =>
    inputBlock (passDesc 61 uP) (64 * 60) b (inputEntries (passDesc 61 uP) (64 * 60) uP) uP) 0 1024 uP 0 = (120, 0) := by
  decide +kernel

/-- A tile with a summary query at line 100 (element 0 of block 0 is 5, exponent 1) and two summaries at line 102: element 0 of the first is
3, of the second 7. -/
def uQ : Tile :=
  atLine 100 2 0x0501 (atLine 102 2 0x0300 (atLine 104 2 0x0700 uA))

/-- R206: 5 × 2 × 3 and 5 × 2 × 7 at FS = 0; the list goes out in MAC-feed slot 0. -/
theorem test_score : tileIs (.pass tA 1 (.score 100 102 40 2 0 110) []) uQ (fun v =>
    decide (v.staged = [⟨2, 7040, leBytes 8 30 ++ leBytes 8 40 ++ leBytes 8 70 ++ leBytes 8 41⟩] ∧ v.pc = 101)) = true := by
  decide +kernel

/-- R207, R205: at position 198 page 1 is the one candidate; above 32 candidates the highest scores win, ties to the lower page. The ring
place of rec(200) is 128 × 200, and rec(4160) stands in the block record array. -/
theorem test_selection : chosenPages 198 [] [] = [1] ∧ candPages 198 (openShelves 198 []) = [1] ∧
    (candPages (64 * 40) []).length = 38 ∧
    chosenPages (64 * 40) [] ((rangeFrom 1 38).map fun g => (if g = 38 then (9 : Int) else 4, g)) = rangeFrom 1 31 ++ [38] ∧
    topScores 2 [(3, 7), (5, 9), (5, 8)] = [8, 9] ∧ recordAt 200 = 25600 ∧ recordAt 4160 = 32768 + 256 * 65 := by
  decide +kernel

/-- R208: position 200 attends itself, page 0, pages 2 and 3, and the pages of its record. -/
theorem test_attends : (attends 200 [] 200, attends 200 [] 63, attends 200 [] 64, attends 200 [1] 64, attends 200 [] 128, attends 200 [] 201) =
    (true, true, false, true, true, false) := by
  decide +kernel

/-- R210: with one position the weight is 1, and 3 × 2^8 × 65536 / 65536 at exponent Emax - 8 is the result. -/
theorem test_attention : attnWeight 7 7 = 65536 ∧
    ((attnY [0] [(65536, [0, 3])]).headD 0 = 3 * 65536) ∧
    (((attnOut (fun _ => 0) [0] [3 * 65536] 65536).headD (0, [])).1, (((attnOut (fun _ => 0) [0] [3 * 65536] 65536).headD (0, [])).2).headD 0) =
      (-8, 768) := by
  decide +kernel

/-! ### The pick master -/

/-- A loaded device in a state of the pick master (1 RUN, 2 DRAIN, 3 SWITCH, 4 HALT), with a pattern that has schedules for the modes of a mask. -/
def sPick (state : Nat) (running allDone : Bool) (modes : Nat := 7) (l : List (Fld × Nat × Nat) := []) : State :=
  let s := st ([(F.PCK_STATUS_STATE, 0, state), (F.WRP_STATUS_LOADED, 0, 1), (F.SNT_STATUS_REF_VALID, 0, 1)] ++ l)
  { s with pat := { s.pat with modes := modes },
           pm := { s.pm with pick := 7, strobed := true, running := running, allDone := allDone, reedDone := true } }

theorem witness_PickMasterRunAndHalt : allOf [
    nextIs .pckRun (sPick 0 false false) fun t => decide (t.pickState = 1 ∧ t.pm.pick = 8 ∧ t.pm.running = true ∧ t.held = []),
    nextIs .pckRun { sPick 0 false false with pm := { dev0.pm with strobed := false } } fun t => decide (t.pm.pick = 0 ∧ t.pm.strobed = true),
    keeps .pckRun (sPick 0 false false 7 [(F.VPA_DOM_STAT_STATE, 51, 6)]), keeps .pckRun dev0,
    nextIs .pckRunClear (sPick 4 false false) fun t => decide (t.pickState = 0), keeps .pckRunClear (sPick 1 true false),
    nextIs .pckHalt { sPick 1 true false with weft := { dev0.weft with bufs := [(4, [shSel]), (6, [shSel])] } } fun t =>
      decide (t.pickState = 4 ∧ t.pm.running = false ∧ t.weft.bufs = [(6, [shSel])]),
    keeps .pckHalt dev0,
    nextIs .resumeAdmit (st [(F.PCK_STATUS_FLOOR, 0, 1)]) fun t => decide (t = dev0),
    nextIs .clrStats (st [(F.PCK_MAX_CY_MAX, 0, 5), (F.PCK_LAG_CY_LAG, 0, 6)]) fun t => decide (t = st [(F.PCK_LAG_CY_LAG, 0, 6)]),
    nextIs .clrAll (st [(F.PCK_ARITH_CLAMP_CLAMP_PICKS, 129, 5), (F.PCK_ARITH_MAP_POS_BITS.nth 4, 0, 2)]) fun t => decide (t = dev0),
    nextIs .clrSel (st [(F.PCK_ARITH_SEL_POS, 0, 129), (F.PCK_ARITH_CLAMP_CLAMP_PICKS, 129, 5), (F.PCK_ARITH_MAP_POS_BITS.nth 4, 0, 3)]) fun t =>
      decide (t = st [(F.PCK_ARITH_SEL_POS, 0, 129), (F.PCK_ARITH_MAP_POS_BITS.nth 4, 0, 1)]),
    keeps .clrSel (st [(F.PCK_ARITH_SEL_POS, 0, 130)]),
    nextIs .pckPickLoRead { dev0 with pm := { dev0.pm with pick := 2 ^ 40 + 1 } } fun t => decide (smGet none R.PCK_PICK_HI t.latch = some 256)]
    = true := by
  decide +kernel

/-- A good copy of a strobe message. -/
def copyOf (m : Nat) : List Byte := leBytes 8 m ++ leBytes 1 (crc8 (leBytes 8 m))

/-- VS and VL on in the region of field 2, with tiles of that field in several states and a strobe of mode 1 that waits. -/
def sStrobe : State :=
  { st [(F.VPA_DOM_STAT_STATE, regionOf 2, 3), (F.VPA_DOM_STAT_STATE, 32 + regionOf 2, 3)] with
    pm := { dev0.pm with strobeAt := [(2, strobeMsg 9 1 0 false false + 1)] },
    tiles := [(16384, { uA with st := 2, active := false, entry := [(1, 50)], regs := bankSet F.TIL_CTRL_ENABLE 0 1 [] }), (16385, { uA with active := false, entry := [(1, 50)] }),
      (16386, uA), (16387, { uA with st := 6, active := false, reloaded := true, entry := [(1, 50)] }), (24576, uA)] }

theorem witness_Strobes : sStrobe.vsOn 2 = true ∧ sStrobe.vlOn 2 = true ∧ dev0.vsOn 2 = false ∧ canonical sStrobe ∧
    goodCopy (copyOf 77) = true ∧ goodCopy (zeroBytes 8 ++ [1]) = false ∧ allOf [
    nextIs (.strobeReceive 2 [] (copyOf 77) (copyOf 78)) sStrobe fun t => decide (smGet 0 2 t.pm.strobeAt = 78),
    nextIs (.strobeReceive 2 [] (zeroBytes 8 ++ [1]) []) sStrobe fun t => decide (t.get F.WRP_STATUS_STROBE_ERR = 1 ∧ t.pm = sStrobe.pm),
    keeps (.strobeReceive 2 (copyOf 77) [] []) dev0, keeps (.strobeFire 2) dev0,
    nextIs (.strobeFire 2) sStrobe fun t => decide (t.pm.strobeAt = [] ∧
      (t.tiles.map fun kv => (kv.2.st, kv.2.active, kv.2.strobeHeld, kv.2.pc.toNat)) =
        [(3, true, false, 50), (3, true, false, 50), (3, true, true, 100), (3, true, false, 50), (3, true, false, 100)])] = true := by
  unfold canonical; decide +kernel

theorem witness_PickEnd :
    let s := sPick 1 true true 7 [(F.PCK_NOMINAL_CY_NOM, 0, 1824), (F.PCK_MIN_CY_MIN, 0, 1552), (F.PCK_LAG_CY_LAG, 0, 100)]
    max (s.get F.PCK_MIN_CY_MIN) ((s.get F.PCK_NOMINAL_CY_NOM : Int) - s.get F.PCK_LAG_CY_LAG + s.pm.trim).toNat = 1724 ∧
    s.pm.causes = 0 ∧ s.pm.hostStep = none ∧ s.pm.drainStop = false ∧ s.capDeeper = false ∧
    min (2 ^ 32 - 1) (100 + 1800 - 1824) ≤ max 1 (s.cfg F.PCK_LAG_BOUND_BOUND) * 1824 ∧ allOf [
    nextIs (.allDone 5) (sPick 1 true false) fun t => decide (t.pm.allDone = true ∧ t.pm.lastField = 5),
    keeps (.allDone 5) { sPick 1 true false with pm := { (sPick 1 true false).pm with unfired := [59] } },
    nextIs (.pickEnd 1800) s fun t => decide (t.get F.PCK_LAG_CY_LAG = 76 ∧ t.get F.PCK_LAST_CY_LAST = 1800 ∧ t.get F.PCK_MAX_CY_MAX = 1800 ∧
      t.get F.PCK_LATE_COUNT_LATE = 1 ∧ t.pm.pick = 8 ∧ t.pm.running = true ∧ t.pm.allDone = false),
    nextIs (.pickEnd 1724) s fun t => decide (t.get F.PCK_LAG_CY_LAG = 0 ∧ t.get F.PCK_LATE_COUNT_LATE = 0 ∧ t.pickState = 1),
    keeps (.pickEnd 1723) s, keeps (.pickEnd 1800) (sPick 1 true false),
    nextIs .doneLimitExpired { sPick 1 true false with pm := { (sPick 1 true false).pm with unfired := [33] } } fun t =>
      decide (t.get F.PCK_STATUS_DONE_TIMEOUT = 1 ∧ t.get F.PCK_DONE_MISS_LO_FIELDS_LO = 0 ∧ t.get F.PCK_DONE_MISS_HI_FIELDS_HI = 2 ∧
        t.get F.PCK_DONE_MISS_HI_REED = 0 ∧ t.pickState = 4),
    keeps .doneLimitExpired (sPick 1 true true)] = true := by
  decide +kernel

theorem witness_StepsAndModes : allOf [
    decide ((sPick 1 true false).get F.PCK_CHAIN_ROLE ≠ 2 ∧ (sPick 1 true false).modeBusy = false ∧ (sPick 2 true false).modeBusy = true),
    nextIs (.stepRequest 2) (sPick 1 true false) fun t => decide (t.pm.causes = 8 ∧ t.pm.ceilThermal = depthOf (sPick 1 true false).mode 0 + 1 ∧
      t.pm.ceilPower = 0),
    nextIs (.modeRequest 2 0 false) (sPick 2 true false) fun t => decide (t.get F.PCK_MODE_STAT_RESULT = 2),
    nextIs (.modeRequest 2 5 false) (sPick 0 false false) fun t => decide (t.get F.PCK_MODE_STAT_RESULT = 5),
    nextIs (.modeRequest 1 1 false) (sPick 0 false false) fun t => decide (t.get F.PCK_MODE_STAT_RESULT = 5),
    nextIs (.modeRequest 3 0 false) (sPick 0 false false) fun t => decide (t.get F.PCK_MODE_STAT_RESULT = 3),
    nextIs (.modeRequest 0 0 false) (sPick 0 false false 7 [(F.PCK_CEILING_DEPTH, 0, 1)]) fun t => decide (t.get F.PCK_MODE_STAT_RESULT = 4),
    nextIs (.modeRequest 2 4 false) (sPick 0 false false) fun t => decide (t.get F.PCK_MODE_STAT_RESULT = 1 ∧ t.mode = 2 ∧ t.level = 4 ∧
      t.get F.PCK_NOMINAL_CY_NOM = 21888 ∧ t.get F.PCK_MIN_CY_MIN = 18624),
    nextIs (.modeRequest 2 1 false) (sPick 1 true false) fun t => decide (t.pm.hostStep = some (2, 1) ∧ t.mode = (sPick 1 true false).mode),
    nextIs (.drainBegin true) (sPick 1 true false) fun t => decide (t.pickState = 2 ∧ t.pm.drainStop = true ∧ t.pm.drainCount = 0),
    keeps (.drainBegin true) (sPick 4 false false),
    nextIs .drainEnd { sPick 2 false false with pm := { (sPick 2 false false).pm with drainCount := 130, drainStop := true } } fun t =>
      decide (t.pickState = 0 ∧ t.pm.running = false),
    nextIs .drainEnd { sPick 2 false false with pm := { (sPick 2 false false).pm with drainCount := 130 } } fun t =>
      decide (t.pickState = 3 ∧ t.pm.running = true ∧ t.pm.pick = 8),
    keeps .drainEnd { sPick 2 false false with pm := { (sPick 2 false false).pm with drainCount := 129 } },
    keeps .drainEnd (sPick 1 true false)] = true := by
  decide +kernel

/-- A CHAIN port UP at hop 2, on a device with a role in a chain. -/
def sChain (role : Nat) : State :=
  st [(F.HLS_PORT_STAT_STATE, 4, 3), (F.HLS_PORT_STAT_ROLE, 4, 3), (F.HLS_PORT_STAT_HOP, 4, 2), (F.PCK_CHAIN_ROLE, 0, role),
    (F.HLS_PORT_STAT_STATE, 0, 3)] (sPick 1 true false)

theorem witness_Chains : allOf [
    keeps (.chainTiming 5 [] 1 2 3 true) (sChain 2), keeps (.handoff 5 1 2 [] 0) (sChain 2),
    nextIs (.chainTiming 0 [] 1 2 3 true) (sChain 2) fun t => decide (t.get F.HLS_PORT_CRC_BAD_TXN 0 = 1),
    nextIs (.handoff 0 1 2 [] 0) (sChain 2) fun t => decide (t.get F.HLS_PORT_CRC_BAD_TXN 0 = 1),
    nextIs (.chainTiming 4 [] 1 2 16 true) (sChain 2) fun t => decide (t.get F.PCK_SKEW_SKEW_PICKS = 1 ∧ t.get F.PCK_SKEW_SKEW_CY = 2 ∧
      t.pm.chainFull = true ∧ t.pm.chainHeld = true ∧ t.get F.PCK_SKEW_MAX_EXCEEDED = 1 ∧ t.pm.trim = 8),
    nextIs (.chainTiming 4 [] 1 2 0 false) (sChain 1) fun t => decide (t.pm.chainFull = false ∧ t.pm = (sChain 1).pm),
    nextIs (.handoff 4 9 3 [1, 2] 7) (sChain 2) fun t => decide (t.host.chainBuf = [(2, 9, 3, 7, [1, 2])]),
    nextIs .chainChangeEffective { sChain 1 with pm := { (sChain 1).pm with running := false, chainChange := some (8, 2, 1, 4) } } fun t =>
      decide (t.mode = 2 ∧ t.level = 1 ∧ t.get F.PCK_LAG_CY_LAG = 0 ∧ t.get F.PCK_STEP_COUNT_STEPS = 1 ∧ t.pm.chainChange = none),
    keeps .chainChangeEffective (sChain 1)] = true := by
  decide +kernel

/-! ### The weft -/

/-- Field 2 powered, tile `tA` in RUN. -/
def sW (l : List (Fld × Nat × Nat) := []) : State :=
  (st ([(F.VPA_DOM_STAT_STATE, regionOf 2, 3), (F.VPA_DOM_STAT_STATE, 32 + regionOf 2, 3)] ++ l)).setTile tA.toNat uA

/-- A shuttle of a kind on its virtual channel, with HOPS and destination, and the device with it at the head of the north buffer. -/
def shOf (kind vc hops dest : Nat) : Shuttle := ⟨mkHdr kind vc false hops 0 dest 0 0 0 0 0 0 0 0 0 0, []⟩
def withBuf (vc : Nat) (sh : Shuttle) (s : State) : State :=
  { s with weft := { s.weft with bufs := [(bufKey tA.toNat 0 vc, [sh, shSel])] } }

/-- The router of row 36 in a column. -/
def tC : TileAddr := BitVec.ofNat 19 (ctrlRouter tA.toNat)

theorem witness_ShuttleRouting :
    sW.spoolTakes tC.toNat = true ∧ sW.unicastPort tC.toNat (shOf 4 3 3 tC.toNat) = some 5 ∧ sW.spoolTakes tA.toNat = false ∧
    sW.vsOn (fieldOf tA.toNat) = true ∧ sW.deaf tA.toNat = false ∧ sW.unicastPort tA.toNat (shOf 0 1 3 tA.toNat) = some 4 ∧
    sW.unicastPort tA.toNat (shOf 0 1 3 (tA.toNat + 1)) = some 2 ∧ sW.canLeave tA.toNat 2 (shOf 0 1 3 (tA.toNat + 1)) = true ∧
    neigh tA.toNat 2 = .mesh (tA.toNat + 1) 0 ∧ (sW.setTile tA.toNat { uA with st := 5 }).deaf tA.toNat = true ∧
    ({ sW.weft with mcast := [(tA.toNat * 64, 2 ^ 31 + 16 * 2 ^ 24 + 7)] } : Weft).mcastMask tA.toNat 7 = some 16 ∧
    sW.unicastPort tA.toNat (shOf 0 1 3 0) = some 0 ∧
    ({ sW with weft := { sW.weft with field := [(tA.toNat * 64, 7)] } } : State).unicastPort tA.toNat (shOf 0 1 3 0) = none ∧ allOf [
    keeps (.shuttleRoute tA 0 1 0) sW, keeps (.shuttleRoute tA 0 1 0) (withBuf 1 (shOf 0 1 3 tA.toNat) sA),
    nextIs (.shuttleRoute tA 0 1 0) (withBuf 1 (shOf 5 1 3 tA.toNat) sW) fun t => decide (t.get F.WFT_STATUS_KIND = 1 ∧
      t.get F.WFT_DROP_COUNT_DROPS = 1 ∧ t.buf tA.toNat 0 1 = [shSel]),
    nextIs (.shuttleRoute tA 0 1 0) (withBuf 1 (shOf 0 1 3 tA.toNat) sW) fun t => decide ((t.tile tA.toNat).inbox = [shOf 0 1 3 tA.toNat]),
    nextIs (.shuttleRoute tA 0 1 2) (withBuf 1 (shOf 0 1 3 tA.toNat) sW) fun t =>
      decide ((t.tile tA.toNat).inbox = [poisoned (shOf 0 1 3 tA.toNat)] ∧ t.get F.WFT_STATUS_BUF_UE = 1),
    nextIs (.shuttleRoute tA 0 1 0) ((withBuf 1 (shOf 0 1 3 tA.toNat) sW).setTile tA.toNat { uA with st := 5 }) fun t =>
      decide (t.get F.WFT_STATUS_DEST_OFF = 1 ∧ (t.tile tA.toNat).inbox = []),
    nextIs (.shuttleRoute tA 0 1 0) (withBuf 1 (shOf 0 1 0 (tA.toNat + 1)) sW) fun t => decide (t.get F.WFT_STATUS_HOP = 1 ∧
      t.get F.WFT_HOP_COUNT_HOPS = 1),
    nextIs (.shuttleRoute tA 0 1 1) (withBuf 1 (shOf 0 1 3 (tA.toNat + 1)) sW) fun t =>
      decide ((t.weft.txAt (linkKey tA.toNat 2)).keep.map (fun f => (f.seq, f.type, f.single, hHops (leNat (f.data.take 32)))) =
        [(0, 1, true, 2)] ∧ t.get F.WFT_RTR_RETRY_CE tA.toNat = 1),
    nextIs (.shuttleRoute tC 0 3 0) { sW with weft := { sW.weft with bufs := [(bufKey tC.toNat 0 3, [shOf 4 3 3 tC.toNat])] } } fun t =>
      decide (t.buf tC.toNat 0 3 = [] ∧ t.out = []),
    nextIs (.shuttleRoute tA 0 1 0) (withBuf 1 (shOf 1 1 0 7)
        { sW with weft := { sW.weft with mcast := [(tA.toNat * 64, 2 ^ 31 + 16 * 2 ^ 24 + 7)] } }) fun t =>
      decide ((t.tile tA.toNat).inbox = [shOf 1 1 0 7])] = true := by
  decide +kernel

/-- A fold shuttle of one value for group 7, and a router whose entry for the group collects ports 0 and 1 with a count of 2. -/
def shFold (v : Nat) : Shuttle := ⟨mkHdr 2 0 false 9 5 7 0 3 1 0xF0 1 0 0 0 5 0, leBytes 5 v⟩
def slotF (ports : List Nat) (v : Int) (n : Nat) : CombSlot := ⟨tA.toNat, 7, 3, 5, 2, 0xF0, 1, ports, [(v, 0)], n, 9, false, (shFold 40).hdr⟩
def sFold : State := { sW with weft := { sW.weft with
  fold := [(tA.toNat * 128, 2 ^ 31 + 2 ^ 30 + 3 * 2 ^ 24 + 7), (tA.toNat * 128 + 1, 2)] } }

/-- A shuttle crosses a mesh link: its one flit, with its sideband, reaches the next router's input buffer and is acknowledged. -/
theorem test_hop : allOf [
    nextIs (.shuttleRoute tA 0 1 0) (withBuf 1 (shOf 0 1 3 (tA.toNat + 1)) sW) fun t =>
      match (t.weft.txAt (linkKey tA.toNat 2)).keep with
      | [f] => nextIs (.flitReceive (tA + 1) 0 f.data (BitVec.ofNat 32 f.side)) t fun u =>
          decide ((u.buf (tA.toNat + 1) 0 1).map (fun x => hHops x.hdr) = [2] ∧ (u.weft.txAt (linkKey tA.toNat 2)).keep = [])
      | _ => false] = true := by
  decide +kernel

theorem witness_Folds : allOf [
    decide (sFold.weft.foldEntry tA.toNat 7 = some (true, 3, 0, 2) ∧ sFold.deaf tA.toNat = false),
    keeps (.foldArrival tA 0) sFold,
    nextIs (.foldArrival tA 0) (withBuf 0 (shFold 40) sFold) fun t => decide (t.weft.slots = [slotF [0] 40 1]),
    nextIs (.foldArrival tA 0) (let s := withBuf 0 (shFold 40) sFold; { s with weft := { s.weft with slots := [slotF [1] 2 1] } }) fun t =>
      decide (t.weft.slots = [slotF [1, 0] 42 2]),
    keeps (.foldArrival tA 0) (let s := withBuf 0 (shFold 40) sFold; { s with weft := { s.weft with
      slots := List.replicate 8 { slotF [1] 2 1 with chunk := 9 } } }),
    keeps (.foldCombineComplete tA 7 3 5) { sFold with weft := { sFold.weft with slots := [slotF [1] 2 1] } },
    nextIs (.foldCombineComplete tA 7 3 5) { sFold with weft := { sFold.weft with slots := [slotF [1, 0] 42 2] } } fun t =>
      decide (t.weft.slots = [] ∧ (t.tile tA.toNat).inbox.map (fun x => (hPoison x.hdr, x.payload)) = [(false, [42, 0, 0, 0, 0])]),
    nextIs (.foldCombineComplete tA 7 3 5) { sFold with weft := { sFold.weft with slots := [slotF [1, 0] 42 3] } } fun t =>
      decide (t.get F.WFT_STATUS_FOLD_COUNT = 1 ∧ (t.tile tA.toNat).inbox.map (fun x => hPoison x.hdr) = [true])] = true := by
  decide +kernel

/-- A flit with its sideband, of sequence number `n`. -/
def sideOf (flit : List Byte) (n : Nat) : BitVec 32 := BitVec.ofNat 32 (n * 2 ^ 21 + crc16 (flit ++ leBytes 2 (n * 32)))

/-- All fields powered: VS of every region on. -/
def sAll : State := st ((rangeFrom 0 16).map fun r => (F.VPA_DOM_STAT_STATE, 32 + r, 3)) sW

def wf (n : Nat) : WFlit := ⟨n, 1, 2, false, []⟩

theorem witness_WeftLinks : allOf [
    decide (sW.linkState tA.toNat 0 = 3 ∧ dev0.linkState tA.toNat 0 = 1 ∧ sAll.linkState (seamPort 0 5).1 (seamPort 0 5).2 = 2 ∧
      (portSeam (mkTile 0 63 5) 1).isSome = true),
    keeps (.flitReceive tA 0 [1] (sideOf [1] 0)) sA, keeps (.nakReceived tA 0 1) sA, keeps (.linkRetrain tA 0) sW,
    nextIs (.flitReceive tA 0 [1] (sideOf [1] 0)) sW fun t => decide (smGet 0 (linkKey tA.toNat 0) t.weft.rxSeq = 1 ∧ t.out = []),
    nextIs (.flitReceive tA 0 [2] (sideOf [1] 0)) sW fun t => decide (t.get F.WFT_CRC_COUNT_CRC = 1 ∧ t.out = [.weftNak tA.toNat 0 0]),
    nextIs (.flitReceive tA 0 [1] (sideOf [1] 63)) sW fun t => decide (t.out = [.weftNak tA.toNat 0 0] ∧ t.bank = sW.bank),
    keeps (.flitReceive tA 0 [1] (sideOf [1] 63)) { sW with weft := { sW.weft with nak := [(linkKey tA.toNat 0, true)] } },
    nextIs (.nakReceived tA 0 1) { sW with weft := { sW.weft with tx := [(linkKey tA.toNat 0, ⟨3, [wf 0, wf 1, wf 2], []⟩)] } } fun t =>
      decide (t.out = [.weftResend tA.toNat 0 1 2] ∧ t.get F.WFT_RTR_RETRY_RETRIES tA.toNat = 2 ∧
        (t.weft.txAt (linkKey tA.toNat 0)).keep = [wf 1, wf 2]),
    keeps (.nakReceived tA 0 7) { sW with weft := { sW.weft with tx := [(linkKey tA.toNat 0, ⟨3, [wf 0, wf 1, wf 2], []⟩)] } },
    nextIs (.linkRetrain tA 0) { sW with weft := { sW.weft with resent := [(linkKey tA.toNat 0, (3, 8))] } } fun t =>
      decide (smGet 0 (linkKey tA.toNat 0) t.weft.links = 4 ∧ t.get F.WFT_STATUS_LINK_FAIL = 1),
    faults .noTile (.seamTrainingComplete 119 8 true) dev0, keeps (.seamTrainingComplete 119 7 true) dev0,
    nextIs (.seamTrainingComplete 0 5 true) sAll fun t => decide (t.linkState (mkTile 0 63 5) 1 = 3 ∧ t.get F.CLK_SEAM_FILL_NOW 5 = 4),
    nextIs (.seamTrainingComplete 0 5 false) sAll fun t => decide (t.linkState (mkTile 0 63 5) 1 = 4 ∧ t.get F.WFT_STATUS_LINK_FAIL = 1)]
    = true := by
  decide +kernel

theorem witness_WatchdogMapAndCounts : allOf [
    nextIs (.weftWatchdog tA 0 1) (withBuf 1 (shOf 0 1 3 0) (sW [(F.WFT_CTRL_WDOG_EN, 0, 1)])) fun t => decide (t.get F.WFT_STATUS_WDOG = 1 ∧
      t.weft.wdog = [bufKey tA.toNat 0 1]),
    keeps (.weftWatchdog tA 0 1) (sW [(F.WFT_CTRL_WDOG_EN, 0, 1)]),
    keeps (.weftWatchdog tA 0 1) (withBuf 1 (shOf 0 1 3 0) (sW [(F.WFT_CTRL_WDOG_EN, 0, 0)])),
    nextIs (.congestionMap [(tA, 64)]) (st [(F.WFT_CTRL_CMAP_EN, 0, 0)]) fun t => decide (t.out = [] ∧ smGet 0 2 t.weft.cmapCodes = 1),
    nextIs (.congestionMap []) (st [(F.WFT_CTRL_CMAP_EN, 0, 1)]) fun t => decide (t.get F.WFT_STATUS_CMAP_LATE = 1),
    nextIs .wftClrCounts (st [(F.WFT_HOP_COUNT_HOPS, 0, 3), (F.WFT_RTR_RETRY_RETRIES, 7, 4)]) fun t => decide (t = dev0)] = true := by
  decide +kernel

theorem witness_SeamTests : allOf [
    decide (sAll.seamPower 0 = true ∧ dev0.seamPower 0 = false),
    nextIs (.wftSwatchStart 1 120 0 1) sAll fun t => decide (t.get F.WFT_SWATCH_STAT_RESULT = 6),
    nextIs (.wftSwatchStart 1 119 8 1) sAll fun t => decide (t.get F.WFT_SWATCH_STAT_RESULT = 6),
    nextIs (.wftSwatchStart 1 0 5 1) dev0 fun t => decide (t.get F.WFT_SWATCH_STAT_RESULT = 5),
    nextIs (.wftSwatchStart 1 0 5 1) { sAll with weft := { sAll.weft with swatch := some (0, []) } } fun t => decide (t.get F.WFT_SWATCH_STAT_RESULT = 4),
    nextIs (.wftSwatchStart 1 0 5 1) (st [(F.PCK_STATUS_STATE, 0, 1), (F.WRP_STATUS_LOADED, 0, 1)]
      { sAll with weft := { sAll.weft with field := [(mkTile 0 63 5 * 64 + 1, 1)] } }) fun t => decide (t.get F.WFT_SWATCH_STAT_RESULT = 4),
    nextIs (.wftSwatchStart 1 0 5 1) sAll fun t => decide (t.get F.WFT_SWATCH_STAT_RESULT = 4),
    nextIs (.wftSwatchStart 1 0 5 1) { sAll with weft := sAll.weft.setLink (mkTile 0 63 5) 1 3 } fun t =>
      decide (t.get F.WFT_SWATCH_STAT_RESULT = 1 ∧ t.weft.swatch = some (0, [(5, 3)])),
    keeps (.wftSwatchComplete 1 5) sAll,
    nextIs (.wftSwatchComplete 1 5) { sAll with weft := { sAll.weft with swatch := some (0, [(5, 4)]) } } fun t =>
      decide (t.get F.WFT_SWATCH_STAT_RESULT = 3 ∧ t.get F.WFT_SWATCH_CH_CH = 5 ∧ t.weft.swatch = none ∧ t.linkState (mkTile 0 63 5) 1 = 2)]
    = true := by
  decide +kernel

/-! ### The spool -/

/-- A pattern whose band 0 lives in channels 0 to 26 of field 2, with those channels up. -/
def patS : Pattern := { dev0.pat with variants := [⟨0, [(rangeFrom 0 27).map fun k => (2, k)], [], [], []⟩], variant := 0 }
def sSp (chState : Nat := 2) (l : List (Fld × Nat × Nat) := []) : State :=
  { st ([(F.SPL_CH_STATE_STATE, 128, chState), (F.VPA_DOM_STAT_STATE, 48 + quadOf (regionOf 2), 3)] ++ l) with pat := patS }

/-- A write of 64 bytes and a read of 64 bytes at an SVA, with a translation. -/
def wrReq (x : Option (Option Nat)) : SpoolReq := ⟨3, true, 0, 9, 1, 0, zeroBytes 63 ++ [5], x, false, 16420, 0⟩
def rdReq (sva : Nat) (x : Option (Option Nat)) : SpoolReq := ⟨4, false, sva, 9, 1, 0, [], x, false, 16420, 0⟩

/-- The response of `tA` after a command on a tile that holds one request. -/
def spTest (c : Instr) (q : SpoolReq) (s : State) (p : State → Tile → Bool) : Bool :=
  nextIs c (sT { uA with spReqs := [q] } s) fun r => p r (r.tile tA.toNat)

theorem witness_SpoolWrites :
    (sSp 2).pat.bsaAt 0 0 = some (128, 0) ∧ (sSp 2).chDown 0 0 64 = false ∧ (sSp 3).chDown 0 0 64 = true ∧
    (sSp 2).spool.xcFind 2 7 0 = none ∧ (wrReq none).data ≠ [] ∧ allOf [
    keeps (.spoolWriteAccept tA 7 2 0) (sT { uA with spReqs := [rdReq 0 none] } (sSp 2)),
    keeps (.spoolWriteAccept tA 7 2 0) (sT { uA with spReqs := [wrReq none] } (sSp 2)),
    spTest (.spoolWriteAccept tA 7 2 64) (wrReq (some (some 0))) { sSp 2 with spool := { dev0.spool with wbuf := [(128, 64)] } } fun r u => decide (r.get F.SPL_STATUS_WBUF_STALL = 1 ∧ u.spReqs.length = 1),
    spTest (.spoolWriteAccept tA 7 2 63) (wrReq (some (some 0))) (sSp 3) fun r u => decide (u.spOut = [⟨3, true, 9, true, [], 16420, 1⟩] ∧
      r.get F.SPL_STATUS_XLAT = 1 ∧ r.get F.SPL_XLAT_COUNT_FAULTS = 1 ∧ r.reg R.SPL_FAULT_CAP0 = 0x70800007),
    spTest (.spoolWriteAccept tA 7 2 63) (wrReq (some (some 0))) (sSp 2) fun r u => decide (u.spOut = [⟨3, true, 9, false, [], 16420, 1⟩] ∧
      r.spool.dram = [(dramKey 128 63, 5)] ∧ u.spReqs = [])] = true := by
  decide +kernel

/-- Tables with one leaf: frame 9 of the page at SVA 0, from the root 2. -/
def sTbl (leaf : Nat) : State :=
  let s := sSp 2
  { s with spool := { s.spool with tbl := [(tblKey 2 0, mkTable 4), (tblKey 4 0, mkTable 6), (tblKey 6 0, leaf)] } }

/-- The entry of frame 0 written. -/
def sWr : State := { sSp 2 with spool := { dev0.spool with dram := [(dramKey 128 1023, 1)] } }

theorem witness_SpoolReadsAndWalks :
    (sTbl (mkLeaf 9)).spool.walk 2 0 = .leaf (tblKey 6 0) (mkLeaf 9) ∧ (sTbl (mkLeaf 9)).spool.walk 2 65536 = .missing ∧
    (sTbl (mkLeaf 9)).spool.walk 0 0 = .fault 3 ∧ eSwapped (mkSwapped 65536) = true ∧
    sWr.dataFaults 0 0 0 0 0 64 = [] ∧ (sSp 2).dataFaults 0 0 0 0 0 64 = [8] ∧ (sSp 2).dataFaults 0 3 0 0 0 64 = [8, 9] ∧
    sWr.ctrlOf 0 0 = 16420 ∧ (sSp 2).ctrlOf 0 1024 = 16548 ∧
    (sSp 2).injHas 5 ((sSp 2).chanAt 0 0) = false ∧ (sSp 2).chDown 0 0 64 = false ∧ (sSp 3).chDown 0 0 64 = true ∧ allOf [
    keeps (.spoolRead tA 7 2 0 0 []) (sT { uA with spReqs := [wrReq none] } (sSp 2)),
    spTest (.spoolRead tA 7 2 0 0 []) (rdReq 0 (some none)) (sSp 2) fun _ u => decide (u.spOut = [⟨4, false, 9, true, [], 16420, 1⟩]),
    spTest (.spoolRead tA 7 2 0 0 []) (rdReq 0 (some (some 0))) (sSp 3) fun _ u => decide (u.spOut = [⟨4, false, 9, true, [], 16420, 1⟩]),
    spTest (.spoolRead tA 7 2 0 0 [0]) (rdReq 0 (some (some 0))) (sSp 2) fun r u => decide (u.spOut = [⟨4, false, 9, true, [], 16420, 1⟩] ∧
      r.get F.SPL_STATUS_ECC_UE = 1 ∧ r.get F.SPL_ECC_LOG0_VALID = 1 ∧ r.get F.SPL_ECC_LOG0_OVF = 0),
    spTest (.spoolRead tA 7 2 0 0 []) (rdReq 0 (some (some 0))) sWr fun r u => decide (u.spOut = [⟨4, false, 9, false, zeroBytes 64, 16420, 1⟩] ∧
      (r.buf 16420 5 2).map (fun x => (hKind x.hdr, hDest x.hdr, x.payload)) = [(5, tA.toNat, zeroBytes 64)]),
    spTest (.spoolRead tA 7 2 0 0 []) (rdReq 1024 (some (some 0))) sWr fun r u => decide (u.spOut = [] ∧
      u.spReqs.map (fun q => (q.ctrl, q.away)) = [(16548, 1)] ∧ (r.buf 16420 5 3).length = 1),
    spTest (.spoolRead tA 7 2 0 0 []) (rdReq 0 (some (some 0))) (sSp 2) fun _ u => decide (u.spOut = [⟨4, false, 9, true, [], 16420, 1⟩]),
    spTest (.translationWalk tA 7 2 none) (rdReq 0 none) (sTbl (mkLeaf 9)) fun r u => decide (u.spReqs = [rdReq 0 (some (some 9))] ∧
      r.spool.xcFind 2 7 0 = some 9 ∧ r.get F.SPL_XC_MISS_MISSES 2 = 1),
    spTest (.translationWalk tA 7 2 none) (rdReq 0 none) (sTbl (mkSwapped 65536)) fun _ u => decide (u.spOut.map SpoolRsp.fault = [true]),
    spTest (.translationWalk tA 7 2 (some 0)) (rdReq 0 none) (sTbl (mkLeaf 9)) fun _ u => decide (u.spOut.map SpoolRsp.fault = [true]),
    spTest (.translationWalk tA 7 0 none) (rdReq 0 none) (sTbl (mkLeaf 9)) fun _ u => decide (u.spOut.map SpoolRsp.fault = [true]),
    spTest (.translationWalk tA 7 2 none) (wrReq none) (sSp 2) fun _ u => decide (u.spReqs = [wrReq (some none)]),
    spTest (.translationWalk tA 7 2 none) (rdReq 0 none) (sSp 2) fun _ u => decide (u.spOut.map SpoolRsp.fault = [true]),
    tileIs (.spoolResponse tA) { uA with spOut := [⟨4, false, 9, true, [], 16420, 0⟩], spReads := 2 } fun u => decide (u.spOut = [] ∧ u.spReads = 1 ∧
      u.spIn = [⟨4, false, 9, true, [], 16420, 0⟩])] = true := by
  decide +kernel

theorem witness_SpoolMaintenance : canonical (sSp 2) ∧ allOf [
    nextIs (.dramRefresh 2 0 77) (sSp 2) fun t => decide (t = sSp 2 [(F.SPL_CH_STATE_TEMP, 128, 77)]),
    keeps (.spoolScrub 2 0 5 2) (sSp 2 [(F.SPL_CTRL_SCRUB_EN, 0, 0)]), keeps (.spoolScrub 2 1 5 2) (sSp 2 [(F.SPL_CTRL_SCRUB_EN, 0, 1)]),
    nextIs (.spoolScrub 2 0 5 1) (sSp 2 [(F.SPL_CTRL_SCRUB_EN, 0, 1)]) fun t => decide (t.get F.SPL_ECC_CE_CE = 1),
    nextIs (.spoolScrub 2 0 5 2) (sSp 2 [(F.SPL_CTRL_SCRUB_EN, 0, 1)]) fun t => decide (t.get F.SPL_STATUS_SCRUB_UE = 1 ∧
      t.get F.SPL_ECC_LOG1_LINE = 5 ∧ t.get F.SPL_ECC_LOG0_FIELD = 2 ∧ t.get F.SPL_ECC_LOG0_SCRUB = 1),
    keeps (.spoolChannelFail 2 1) (sSp 2), nextIs (.spoolChannelFail 2 0) (sSp 2) fun t => decide (t.chState 128 = 3 ∧
      t.get F.SPL_STATUS_CH_FAIL = 1),
    nextIs (.splSwatchStart 60 0 0) (sSp 2) fun t => decide (t.get F.SPL_SWATCH_STAT_RESULT = 6),
    nextIs (.splSwatchStart 2 0 0) dev0 fun t => decide (t.get F.SPL_SWATCH_STAT_RESULT = 5),
    nextIs (.splSwatchStart 2 1 0) (sSp 2) fun t => decide (t.get F.SPL_SWATCH_STAT_RESULT = 4),
    nextIs (.splSwatchStart 2 0 0) (sSp 2) fun t => decide (t.get F.SPL_SWATCH_STAT_RESULT = 1 ∧ t.chState 128 = 4 ∧
      t.spool.swatch = some (128, 2)),
    keeps (.splSwatchComplete 0) (sSp 2),
    nextIs (.splSwatchComplete 9) { sSp 4 with spool := { dev0.spool with swatch := some (128, 2) } } fun t => decide (t.chState 128 = 2 ∧
      t.get F.SPL_SWATCH_STAT_RESULT = 3 ∧ t.get F.SPL_SWATCH_STAT_ERR_WORDS = 9 ∧ t.get F.SPL_STATUS_SWATCH_DONE = 1),
    nextIs .xcFlush { dev0 with spool := { dev0.spool with xc := [(1, [(2, 3)])] } } fun t => decide (t = dev0),
    nextIs .splClrCounts (sSp 2 [(F.SPL_ECC_CE_CE, 0, 3), (F.SPL_CH_STATE_WBUF_MAX, 128, 9), (F.SPL_POOL_FREE_FREE, 1, 7)]) fun t =>
      decide (t.get F.SPL_ECC_CE_CE = 0 ∧ t.get F.SPL_CH_STATE_WBUF_MAX 128 = 0 ∧ t.chState 128 = 2 ∧ t.get F.SPL_POOL_MIN_MIN 1 = 7),
    nextIs .splEccLog1Read (st [(F.SPL_ECC_LOG0_VALID, 0, 1), (F.SPL_ECC_LOG0_OVF, 0, 1), (F.SPL_ECC_LOG1_LINE, 0, 5)]) fun t =>
      decide (t = st [(F.SPL_ECC_LOG0_OVF, 0, 1)])] = true := by
  unfold canonical; decide +kernel

/-! ### Skeins -/

/-- One HOST port UP, submission ring 0 of 64 entries, partition 1 present and enabled; skein 5 as given. -/
def sSk (k : Skein) (l : List (Fld × Nat × Nat) := []) : State :=
  let s := st ([(F.HLS_PORT_STAT_STATE, 0, 3), (F.HLS_PORT_STAT_ROLE, 0, 1), (F.HLS_SQ_LO_LOG2, 0, 6),
    (F.SKN_PART_STAT_PRESENT.nth 1, 0, 1), (F.SKN_PART_STAT_ENABLED.nth 1, 0, 1)] ++ l)
  { s with reed := { s.reed with skeins := smSet Skein.empty 5 k [], sampler := [(4, 0x800000)] } }

/-- A queued skein of partition 1 with a prompt of 600 tokens. -/
def kQ : Skein := { Skein.empty with state := 1, part := 1, prio := 3, promptLen := 600, limit := 700, ringLog2 := 6, sampler := 1, ptRoot := 2 }

/-- The completion of a command: status of its record. -/
def status (t : State) : Option Nat :=
  match t.out.getLast? with
  | some (.memWr _ _ _ d) => (d[1]?).map BitVec.toNat
  | _ => none

/-- ADMIT on ring 0 with a few operands. -/
def admit5 (id : BitVec 16) (part : BitVec 3) (sampler : BitVec 8) (log2 : BitVec 5) (len limit : BitVec 40) : Instr :=
  .admitSeq 0 77 id part 3 sampler false true false 9 limit 1 0x12345 0x1003 log2 len

theorem witness_Admission : allOf [
    nextIs (admit5 4096 1 1 6 10 20) (sSk Skein.empty) fun t => decide (status t = some 1),
    nextIs (admit5 5 1 1 6 10 20) (sSk kQ) fun t => decide (status t = some 2 ∧ t.sk 5 = kQ),
    nextIs (admit5 5 0 1 6 10 20) (sSk Skein.empty) fun t => decide (status t = some 4),
    nextIs (admit5 5 1 1 5 10 20) (sSk Skein.empty) fun t => decide (status t = some 5),
    nextIs (admit5 5 1 1 20 10 20) (sSk Skein.empty) fun t => decide (status t = some 5),
    nextIs (admit5 5 1 1 19 0 20) (sSk Skein.empty) fun t => decide (status t = some 6),
    nextIs (admit5 5 1 1 19 21 20) (sSk Skein.empty) fun t => decide (status t = some 6),
    nextIs (admit5 5 1 1 19 10 0xFFFFFFFFFF) (sSk Skein.empty) fun t => decide (status t = some 6),
    nextIs (admit5 5 1 2 19 10 20) (sSk Skein.empty) fun t => decide (status t = some 7),
    decide ((sSk Skein.empty).spool.newBlock.map Prod.fst = some 1),
    nextIs (admit5 5 1 1 19 20 20) (let s := sSk Skein.empty; { s with spool := { s.spool with blocks := rangeFrom 1 40 } }) fun t =>
      decide ((t.sk 5).ptRoot = 82),
    nextIs (admit5 5 1 1 19 20 20) (sSk Skein.empty) fun t => decide (status t = some 0 ∧ (t.sk 5).state = 1 ∧ (t.sk 5).ptRoot = 2 ∧
      (t.sk 5).ringBase = 0x12000 ∧ (t.sk 5).promptBase = 0x1000 ∧ (t.sk 5).pfxPub = true ∧ smGet 0 0 t.host.compWr = 1)] = true := by
  decide +kernel

theorem witness_SkeinCommands : allOf [
    nextIs (.cancel 0 7 4096) (sSk kQ) fun t => decide (status t = some 1), nextIs (.cancel 0 7 6) (sSk kQ) fun t => decide (status t = some 3),
    nextIs (.cancel 0 7 5) (sSk kQ) fun t => decide (status t = some 0 ∧ (t.sk 5).state = 6 ∧ (t.sk 5).reason = 3),
    nextIs (.park 0 7 5) (sSk kQ) fun t => decide (status t = some 0 ∧ t.sk 5 = { kQ with hold := true }),
    nextIs (.park 0 7 5) (sSk { kQ with state := 2 }) fun t => decide ((t.sk 5).state = 4 ∧ (t.sk 5).hold = true),
    nextIs (.park 0 7 5) (let s := sSk { kQ with state := 2 }; { s with reed := { s.reed with lanes := [(9, ⟨some 5, none⟩)] } }) fun t =>
      decide ((t.sk 5).state = 2 ∧ (t.sk 5).parkPend = true),
    nextIs (.resume 0 7 5) (sSk { kQ with hold := true }) fun t => decide (status t = some 0 ∧ t.sk 5 = kQ),
    nextIs (.release 0 7 5) (sSk { kQ with state := 7 }) fun t => decide ((t.sk 5).releasing = some (0, 7) ∧ t.out = []),
    nextIs (.release 0 7 5) (sSk kQ) fun t => decide (status t = some 3),
    nextIs (.set 0 7 6 1 2) (sSk kQ) fun t => decide (status t = some 3),
    nextIs (.set 0 7 5 1 2) (sSk { kQ with missed := true }) fun t => decide (status t = some 0 ∧ t.sk 5 = { kQ with prio := 1, deadline := 2 })]
    = true := by
  decide +kernel

theorem witness_Partitions : allOf [
    nextIs (.partEnable 0 7 2) (sSk kQ) fun t => decide (status t = some 4), nextIs (.partDisable 0 7 2) (sSk kQ) fun t => decide (status t = some 4),
    nextIs (.partEnable 0 7 1) (sSk kQ [(F.SKN_PART_STAT_STOPPING.nth 1, 0, 1)]) fun t => decide (status t = some 0 ∧
      t.get (F.SKN_PART_STAT_STOPPING.nth 1) = 0 ∧ t.get (F.SKN_PART_STAT_ENABLED.nth 1) = 1),
    nextIs (.partDisable 0 7 1) (sSk kQ [(F.SKN_PART_STAT_STOPPING.nth 1, 0, 1)]) fun t => decide (status t = some 0 ∧
      t.get (F.SKN_PART_STAT_STOPPING.nth 1) = 1),
    nextIs (.partDisable 0 7 1) (sSk kQ) fun t => decide (status t = some 0 ∧ t.get (F.SKN_PART_STAT_ENABLED.nth 1) = 0),
    nextIs (.partDisable 0 7 1) (sSk { kQ with state := 2 }) fun t => decide (status t = some 0 ∧ t.get (F.SKN_PART_STAT_ENABLED.nth 1) = 0 ∧
      (t.sk 5).state = 4),
    nextIs (.partDisable 0 7 1) (let s := sSk { kQ with state := 2 }; { s with reed := { s.reed with lanes := [(9, ⟨some 5, none⟩)] } }) fun t =>
      decide (status t = some 0 ∧ t.get (F.SKN_PART_STAT_ENABLED.nth 1) = 1 ∧ t.get (F.SKN_PART_STAT_STOPPING.nth 1) = 1 ∧ (t.sk 5).parkPend = true),
    nextIs .stopService (let s := sPick 1 true false; { s with reed := { s.reed with
        skeins := [(5, { kQ with state := 2 }), (6, { kQ with state := 3 }), (7, kQ)], lanes := [(9, ⟨some 5, none⟩)] } }) fun t =>
      decide (t.pickState = 2 ∧ t.pm.drainStop = true ∧ t.sk 5 = { kQ with state := 2, parkPend := true } ∧ (t.sk 6).state = 4 ∧ t.sk 7 = kQ),
    nextIs .stopService (sSk { kQ with state := 2 }) fun t => decide (t.pickState = 0 ∧ (t.sk 5).state = 4),
    nextIs .stopService (sPick 1 true false) fun t => decide (t.pickState = 2 ∧ t.pm.drainStop = true)] = true := by
  decide +kernel

/-- One prefill step at the reed: skein 5 at position 9, in lane 0 of the slot that the reed handles. -/
def kR : Skein := { kQ with state := 2, committed := 9, next := 10, ringRd := 0 }
def sReed : State :=
  let s := st [(F.PCK_STATUS_STATE, 0, 1), (F.SKN_CTRL_ADMIT_EN, 0, 0), (F.HLS_PORT_STAT_STATE, 0, 3), (F.HLS_PORT_STAT_ROLE, 0, 1)]
  { s with pm := { s.pm with running := true, strobed := true },
           reed := { s.reed with lanes := [(laneKey s.reedSlot 0, ⟨none, some ⟨5, 9, 1⟩⟩)], skeins := [(5, kR)] } }

/-- The head's result of a lane in the current pick: one pair of value 5 and token 7. -/
def shHead (poison : Bool) : Shuttle := ⟨mkHdr 3 0 poison 9 8 0 0 0 1 0xF1 1 0 0 0 0 0, leBytes 5 5 ++ leBytes 3 7⟩
def headAt (sh : Shuttle) (s : State) : State := { s with weft := { s.weft with reed := [sh] } }

/-- The last prompt step of skein 5, in its lane-slot. -/
def kS : Skein := { kQ with state := 2, committed := 599, next := 600 }
def sLast : State := { sReed with reed := { sReed.reed with
  lanes := [(laneKey sReed.reedSlot 0, ⟨some 5, some ⟨5, 599, 1⟩⟩)], skeins := [(5, kS)], sampler := [(4, 0x800000)] } }

theorem witness_ReedPosition :
    sReed.pm.running = true ∧ sReed.pm.reedDone = false ∧ sReed.get F.PCK_CHAIN_ROLE ≠ 2 ∧
    sReed.get F.SKN_CTRL_ADMIT_EN = 0 ∧ sReed.reed.capture = none ∧ kR ≠ Skein.empty ∧ kR.parkPend = false ∧ 9 + 1 < kR.promptLen ∧
    (∀ q : Fin 8, sReed.get (F.SKN_PART_STAT_STOPPING.nth q.val) = 0) ∧ (sReed.reed.skeins.map Prod.fst).Nodup ∧
    laneBad [shHead false] 0 = false ∧ laneBad [shHead true] 0 = true ∧ laneBad [] 0 = true ∧ kS.limit ≠ 600 ∧ sLast.strobeDrains = false ∧
    sLast.hostPorts ≠ [] ∧ topCands (lanePairs [shHead false] 0) = [(5, 7)] ∧ allOf [
    nextIs (.reedPosition [] []) (headAt (shHead false) sReed) fun t => decide ((t.sk 5).committed = 10 ∧ t.reed.commits = 1 ∧ t.reed.lanes = [] ∧
      t.pm.reedDone = true ∧ t.weft.reed = []),
    nextIs (.reedPosition [] []) (headAt (shHead true) sReed) fun t => decide ((t.sk 5).committed = 9 ∧ t.get F.SKN_VOIDS_VOIDS = 1 ∧ t.reed.commits = 0),
    nextIs (.reedPosition [] []) sReed fun t => decide ((t.sk 5).committed = 9 ∧ t.get F.SKN_VOIDS_VOIDS = 1),
    nextIs (.reedPosition [] []) (headAt (shHead false) sLast) fun t => decide (t.lane (laneKey sReed.reedSlot 0) = ⟨some 5, some ⟨5, 600, 7⟩⟩ ∧
      (t.sk 5).state = 3 ∧ (t.sk 5).held = 7 ∧ (t.sk 5).ringWr = 1 ∧ (t.sk 5).slot = sReed.reedSlot ∧ t.reed.mask = 1),
    keeps (.reedPosition [] []) dev0] = true := by
  decide +kernel

theorem witness_FetchesAndDeadlines : allOf [
    nextIs (.ringCountFetch 5 0x100003) (sSk kQ) fun t => decide (t.sk 5 = { kQ with ringRd := 3 }), keeps (.ringCountFetch 6 3) (sSk kQ),
    keeps (.promptUnitArrival 5 0 []) (sSk kQ),
    nextIs .deadlineCheck (let s := sSk { kQ with deadline := 3 }; { s with pm := { s.pm with pick := 4 } }) fun t => decide ((t.sk 5).missed = true),
    nextIs .deadlineCheck (let s := sSk { kQ with deadline := 4 }; { s with pm := { s.pm with pick := 4 } }) fun t => decide ((t.sk 5).missed = false)]
    = true := by
  decide +kernel

theorem witness_prompt_unit : 0 ∈ ({ kQ with unitsAsked := [0] } : Skein).unitsAsked ∧
    (∀ x ∈ (([] : List Nat).take 3).map fun t => t % 2 ^ 18, x < Config.vocabSize 0) ∧
    nextIs (.promptUnitArrival 5 0 []) (sSk { kQ with unitsAsked := [0] }) (fun t => decide ((t.sk 5).unitsAsked = [] ∧
      smGet [] 0 (t.sk 5).units = [])) = true :=
  ⟨by decide, by simp, by decide +kernel⟩

/-- Skein 5 with a copy of page 0 of skein 6, which decodes and holds it in frame 9 of band 0. -/
def sCopy (chState : Nat := 2) (l : List (Fld × Nat × Nat) := []) : State :=
  let s := sSk kQ (((rangeFrom 0 27).map fun k => (F.SPL_CH_STATE_STATE, 128 + k, chState)) ++ l)
  { s with pat := patS
           reed := { s.reed with skeins := [(5, { kQ with copies := [(0, 6)], ptRoot := 20 }), (6, { kQ with state := 3, committed := 64 })] }
           spool := { s.spool with tbl := (sTbl (mkLeaf 9)).spool.tbl, frames := [(0, [9])], blocks := [1, 2, 3, 10] } }

theorem witness_PrefixCopies : allOf [
    keeps (.frameRelease 5) (sSk kQ), keeps (.prefixCopy 5) (sSk kQ), keeps (.prefixCopyComplete 5) (sSk kQ),
    decide ((sSk { kQ with state := 6, releasing := some (0, 7) }).copiedFrom 5 = false),
    nextIs (.frameRelease 5) (sSk { kQ with state := 6, releasing := some (0, 7) }) fun t => decide (t.sk 5 = Skein.empty ∧ status t = some 0),
    nextIs (.prefixCopyComplete 5) (sSk { kQ with pfxRun := true }) fun t => decide ((t.sk 5).committed = 0 ∧ (t.sk 5).pfxRun = false),
    decide (sCopy.copyFits 2 20 0 = true ∧ (sCopy.sk 6).sourceOk 0 = true ∧ sCopy.spool.copySource 2 0 = true ∧ sCopy.copyDown 2 0 = false ∧
      (sCopy 3).copyDown 2 0 = true ∧ (sCopy 2 [(F.SPL_POOL_LOW_LOW, 0, 655361)]).copyFits 2 20 0 = false),
    nextIs (.prefixCopy 5) (sCopy 2 [(F.SPL_POOL_LOW_LOW, 0, 655361)]) fun t => decide (t.sk 5 = { kQ with ptRoot := 20 }),
    nextIs (.prefixCopy 5) (sSk { kQ with copies := [(0, 6)] }) fun t => decide (t.sk 5 = kQ),
    nextIs (.prefixCopy 5) (sCopy 3) fun t => decide (t.sk 5 = { kQ with ptRoot := 20 } ∧ t.get F.SPL_STATUS_COPY_ERR = 1)] = true := by
  decide +kernel

/-- Skein 5 parked and chosen, with one leaf of its tables in frame 9 or in host memory at 0x10000. -/
def sSwap (k : Skein) (leaf : Nat) (l : List (Fld × Nat × Nat)) (target : Option Nat := some 5) : State :=
  let s := sSk k ([(F.SPL_SWAP_BASE_LO_ADDR_LO, 0, 1)] ++ l)
  { s with reed := { s.reed with target := target },
           spool := { s.spool with tbl := (sTbl leaf).spool.tbl, frames := [(0, [9])], owned := [(5 * 128, 1)], blocks := [1, 2, 3] } }

theorem witness_SwapAndRestore : allOf [
    keeps .preempt (sSk kQ), keeps (.swapOut 5) (sSk kQ), keeps (.swapOutComplete 5) (sSk kQ), keeps .restoreStart (sSk kQ),
    keeps (.restore 5) (sSk kQ),
    nextIs .preempt (sSk { kQ with state := 2 } [(F.SPL_STATUS_FREE_LOW, 0, 1)]) fun t => decide (t.reed.target = some 5 ∧ (t.sk 5).state = 4),
    nextIs (.swapOut 5) (sSwap { kQ with state := 4 } (mkLeaf 9) [(F.SPL_STATUS_FREE_LOW, 0, 1)]) fun t => decide ((t.sk 5).state = 4 ∧
      (t.sk 5).reason = 0 ∧ t.get F.SPL_STATUS_COPY_ERR = 1 ∧ t.reed.target = none),
    (let s := sSwap { kQ with state := 4 } (mkLeaf 9) [(F.SPL_STATUS_FREE_LOW, 0, 1), (F.SPL_SWAP_SIZE_SIZE, 0, 1)]
     decide (s.hostPorts ≠ [] ∧ s.swapRuns = false ∧ s.spool.framesAll 5 = 1 ∧ s.slotsFree = 1)),
    nextIs (.swapOutComplete 5) (sSk { kQ with state := 4, swapOut := true }) fun t => decide ((t.sk 5).swapped = true ∧ t.get F.SKN_SWAPS_OUT = 1),
    nextIs .restoreStart (sSk { kQ with state := 4, swapped := true }) fun t => decide ((t.sk 5).restore = true),
    keeps .restoreStart (sSk { kQ with state := 4, swapped := true } [(F.SPL_STATUS_FREE_LOW, 0, 1)]),
    decide ((sSwap kQ (mkSwapped 0x10000) []).spool.leaves 2 = [(0, tblKey 6 0, mkSwapped 0x10000)]),
    nextIs (.restore 5) (sSwap { kQ with state := 4, restore := true } (mkSwapped 0x10000) []) fun t => decide ((t.sk 5).reason = 6 ∧
      (t.sk 5).restore = false ∧ t.get F.SPL_STATUS_COPY_ERR = 1),
    (let s := sSwap { kQ with state := 4, restore := true } (mkSwapped 0x10000) [(F.SPL_SWAP_SIZE_SIZE, 0, 1)]
     decide (s.inWindow (eHost (mkSwapped 0x10000)) = true ∧ s.inWindow 0x20000 = false ∧ 0 < s.spool.free 0)),
    nextIs (.restoreComplete 5) (sSk { kQ with state := 4, restore := true, swapped := true }) fun t => decide ((t.sk 5).swapped = false ∧
      (t.sk 5).resumed = true ∧ t.get F.SKN_SWAPS_IN = 1)] = true := by
  decide +kernel

theorem witness_SkeinRegisters : allOf [
    nextIs .sknClrCounts (let s := st [(F.SKN_VOIDS_VOIDS, 0, 3)]; { s with reed := { s.reed with commits := 9 } }) fun t => decide (t = dev0),
    nextIs (.sknEntSelWrite 0x00030005) (sSk kQ) fun t => decide (t.get F.SKN_ENT_SEL_ID = 5 ∧ t.get F.SKN_ENT_SEL_WORD = 3 ∧
      t.reed.entry.getD 9 0 = 600),
    keeps (.sknSampDataWrite 9) dev0,
    nextIs (.sknSampDataWrite 9) (st [(F.SKN_SAMP_ADDR_ENTRY, 0, 2), (F.SKN_SAMP_ADDR_WORD, 0, 3)]) fun t =>
      decide (smGet none 11 t.reed.samplerNext = some 9 ∧ t.reed.sampler = []),
    nextIs .sknCommitsLoRead { dev0 with reed := { dev0.reed with commits := 2 ^ 33 } } fun t =>
      decide (smGet none R.SKN_COMMITS_HI t.latch = some 2)] = true := by
  decide +kernel

/-! ### The weight store -/

/-- The byte of a slot image that gives the ring position. -/
theorem smGetBytes_take_drop (n : Nat) (m : SMap Byte) : ∀ k i : Nat, i < n → ((smGetBytes k n m).drop i).take 1 = [smGet 0 (k + i) m] := by
  induction n with
  | zero => intro k i h; omega
  | succ n ih =>
    intro k i h
    cases i with
    | zero => simp [smGetBytes]
    | succ i => simpa [smGetBytes, Nat.add_assoc, Nat.add_comm, Nat.add_left_comm] using ih (k + 1) i (by omega)

theorem imageRing_eq (n : Nat) (t : Tile) : imageRing (tImage n t) = (smGet 0 (slotAt n + (trailerAt + 464)) t.nvw).toNat := by
  simp only [imageRing, sliceB, tImage]
  rw [smGetBytes_take_drop _ _ _ _ (by decide)]
  simp [leNat]

/-- The factory's map given as digest bytes. -/
def noBytes : List Byte := zeroBytes 48

/-- A stored pattern record in slot 1, nothing running. -/
def sSlot (l : List (Fld × Nat × Nat) := []) : State := st ([(F.WRP_SLOT_STATE.nth 1, 0, 2)] ++ l)

/-- An LWI of one section of one row, fetched whole: the chunk is 128 bytes. -/
def lwiHdr : List Byte := zeroBytes 78 ++ leBytes 4 1 ++ zeroBytes 2 ++ leBytes 4 1 ++ leBytes 8 128 ++ zeroBytes 416
def lwiBuf : List Byte := 7 :: zeroBytes 126 ++ [9]
def secA : Section := ⟨tA.toNat, 1, 0, crc64 lwiBuf⟩
def sLwi (retried : Bool) (sum : List Byte) : State :=
  let s := sT { uA with st := 2 }
  { s with nvw := { s.nvw with op := 1, stage := 2, hdr := lwiHdr, tables := zeroBytes 32 ++ sum, secs := [secA], retried := retried,
                               fetch := some ⟨1, 1, 0, 720, 0, lwiBuf⟩ } }

theorem witness_ProgramAndVerify : allOf [
    nextIs (.programAll 1) (sPick 1 true false) fun t => decide (t.get F.NVW_OP_STAT_RESULT = 3),
    nextIs (.programAll 0) sSlot fun t => decide (t.get F.NVW_OP_STAT_RESULT = 15),
    nextIs (.programAll 1) sSlot fun t => decide (t.get F.NVW_OP_STAT_RESULT = 1 ∧ t.nvw.op = 1 ∧ t.nvw.slot = 1 ∧ t.host.objs.length = 1 ∧
      t.nvw.fetch = some ⟨1, 1, 0, 0, 512, []⟩ ∧ t.get F.NVW_STATUS_OP_BUSY = 1),
    nextIs (.programAll 1) (sSlot [(F.WRP_STATUS_LOADED, 0, 1), (F.NVW_STATUS_PROGRAMMED, 0, 1)]) fun t => decide (t.get F.WRP_STATUS_LOADED = 0 ∧
      t.get F.NVW_STATUS_PROGRAMMED = 0),
    nextIs (.verifyAll 0 none) (sPick 1 true false) fun t => decide (t.get F.NVW_OP_STAT_RESULT = 3),
    nextIs (.verifyAll 0 none) (sT { uA with secRows := 1, secCrc := crc64 (zeroBytes 128) }) fun t => decide (t.get F.NVW_OP_STAT_RESULT = 2 ∧
      t.get F.NVW_OP_STAT_DONE = 1),
    nextIs (.verifyAll 0 none) (sT { uA with secRows := 1, secCrc := 1 }) fun t => decide (t.get F.NVW_OP_STAT_RESULT = 9 ∧
      t.get F.NVW_OP_INFO_TILE = tA.toNat ∧ t.get F.NVW_STATUS_VERIFY_FAIL = 1),
    nextIs (.verifyAll 0 (some 5)) dev0 fun t => decide (t.get F.NVW_OP_STAT_RESULT = 9 ∧ t.get F.NVW_OP_INFO_TILE = 5),
    keeps .lwiChunkArrival dev0, keeps (.sectionProgramComplete tA true) sA, keeps .nvwAbort dev0,
    keeps .lwiChunkArrival { sLwi false [] with nvw := { (sLwi false []).nvw with stage := 1 } },
    nextIs .lwiChunkArrival (sLwi false (zeroBytes 48)) fun t => decide (t.nvw.retried = true ∧ t.nvw.chunk = 0 ∧ t.nvw.op = 1),
    nextIs .lwiChunkArrival (sLwi true (zeroBytes 48)) fun t => decide (t.get F.NVW_OP_STAT_RESULT = 8 ∧ t.nvw.op = 0),
    nextIs .lwiChunkArrival (sLwi false (sha384 lwiBuf)) fun t => decide (t.nvw.chunk = 1 ∧ (t.tile tA.toNat).programming = true ∧
      smGetBytes 0 129 (t.tile tA.toNat).nvw = lwiBuf ++ [0]),
    decide ((sLwi false []).programs < max 1 ((sLwi false []).get F.NVW_PROG_CFG_ACTIVE_MAX)),
    nextIs .lwiChunkArrival (let s := sLwi false (sha384 lwiBuf); (st [(F.NVW_PROG_CFG_ACTIVE_MAX, 0, 0)] s).setTile 5 { uA with programming := true }) fun t =>
      decide (t.nvw.chunk = 1 ∧ t.nvw.backlog = [(secA, 0, lwiBuf)] ∧ (t.tile tA.toNat).programming = false),
    decide (columnCrc 1 { uA with nvw := smSetBytes 0 lwiBuf [] } = secA.crc),
    nextIs (.sectionProgramComplete tA true) ((sLwi false []).setTile tA.toNat { uA with programming := true, nvw := smSetBytes 0 lwiBuf [] }) fun t =>
      decide (t.get F.NVW_OP_STAT_DONE = 1 ∧ (t.tile tA.toNat).secRows = 1 ∧ (t.tile tA.toNat).programs = 1),
    nextIs (.sectionProgramComplete tA false) ((sLwi false []).setTile tA.toNat { uA with programming := true, nvw := smSetBytes 0 lwiBuf [] }) fun t =>
      decide (t.get F.NVW_OP_STAT_RESULT = 9 ∧ t.get F.NVW_OP_INFO_TILE = tA.toNat ∧ t.get F.NVW_STATUS_VERIFY_FAIL = 1),
    nextIs .nvwAbort (sLwi false []) fun t => decide (t.get F.NVW_OP_STAT_RESULT = 14 ∧ t.nvw.op = 0 ∧ t.nvw.fetch = none),
    nextIs .nvwClrCounts (st [(F.NVW_COUNTS_DARNS, 0, 5)]) fun t => decide (t = dev0)] = true := by
  decide +kernel

/-- A tile that bears a role in ring position 7, and a READY darn tile beside it that was returned to that position. -/
def uRole : Tile := { uA with ringPos := 7, secRows := 1 }
def dD : Nat := tA.toNat + 1
def uIdle : Tile := { Tile.empty with st := 2, ringPos := 255, nvw := [(slotAt 0 + (trailerAt + 464), 255)] }
def reqA : DarnReq := ⟨tA.toNat, false, 5, 2, true⟩

/-- The byte map of TILE_MAP that names one tile. -/
def mapOf (a : Nat) : List Byte := List.replicate (tileIndex a / 8) 0 ++ [BitVec.ofNat 8 (2 ^ (tileIndex a % 8))]

def sDarn (queue : List DarnReq) (run : Option DarnRun := none) (loaded : Nat := 1) : State :=
  let s := ((st [(F.WRP_STATUS_LOADED, 0, loaded)]).setTile tA.toNat uRole).setTile dD uIdle
  { s with pat := { s.pat with tileMap := mapOf dD }, nvw := { s.nvw with queue := queue, run := run, returned := [(dD, 8)] } }

theorem witness_Darns : allOf [
    decide ((sDarn []).bearsRole tA.toNat = true ∧ (sDarn []).bearsRole dD = false ∧ (sDarn [reqA]).darnPick = some reqA ∧
      (sDarn []).logFull = false ∧ (sDarn []).detourTo tA.toNat dD = some (sDarn []).weft ∧ (sDarn []).chainLen ≤ 1),
    nextIs (.darn tA) { sDarn [] with ld := { dev0.ld with load := some (0, 0) }, nvw := { dev0.nvw with op := 1 } } fun t =>
      decide (t.get F.NVW_OP_STAT_RESULT = 3),
    nextIs (.darn (BitVec.ofNat 19 dD)) (sDarn []) fun t => decide (t.get F.NVW_OP_STAT_RESULT = 15),
    nextIs (.darn tA) (sDarn []) fun t => decide (t.nvw.queue = [reqA] ∧ t.nvw.op = 3 ∧ t.get F.NVW_OP_STAT_RESULT = 1),
    keeps .darnStart (sDarn [reqA] none 0), keeps .darnStart (sDarn []), keeps .darnSwitch (sDarn []), keeps .darnComplete (sDarn []),
    keeps (.rotationReturn true) (sDarn []),
    nextIs .darnStart (sDarn [{ reqA with tile := dD }]) fun t => decide (t.nvw.queue = [] ∧ t.get F.NVW_OP_STAT_RESULT = 15),
    nextIs .darnStart { (sDarn [reqA]).setTile dD Tile.empty with pat := dev0.pat } fun t => decide (t.nvw.queue = [] ∧ t.get F.NVW_OP_STAT_RESULT = 11 ∧
      t.get F.NVW_STATUS_RESERVE_OUT = 1),
    keeps .darnSwitch (sDarn [] (some ⟨reqA, dD, [dD], true, []⟩)), keeps .darnComplete (sDarn [] (some ⟨reqA, dD, [dD], false, []⟩)),
    nextIs .darnSwitch ((sDarn [] (some ⟨reqA, dD, [dD], false, []⟩)).setTile dD { uIdle with ringPos := 7 }) fun t =>
      decide ((t.tile tA.toNat).st = 5 ∧ tGet F.TIL_CTRL_ENABLE (t.tile dD) = 1 ∧ (t.tile dD).poisonNext = true ∧
        (t.nvw.run.map DarnRun.switched) = some true),
    nextIs .darnComplete (sDarn [] (some ⟨reqA, dD, [dD], true, []⟩)) fun t => decide (t.nvw.log = [⟨tA.toNat, dD, 1, 5, 0, 0⟩] ∧ t.nvw.run = none ∧
      t.get F.NVW_OP_STAT_RESULT = 2 ∧ t.get F.NVW_COUNTS_DARNS = 1),
    nextIs .darnComplete (sDarn [] (some ⟨{ reqA with rotation := true }, dD, [dD], true, [3]⟩)) fun t =>
      decide ((t.nvw.log.map DarnEntry.kind) = [2] ∧ t.nvw.rot = some (tA.toNat, 255, [3]) ∧ (t.tile tA.toNat).programming = true),
    nextIs (.rotationReturn false) { sDarn [] with nvw := { (sDarn []).nvw with rot := some (tA.toNat, 7, []) } } fun t =>
      decide (t.nvw.removed = [tA.toNat] ∧ t.get F.NVW_OP_STAT_RESULT = 9 ∧ t.get F.NVW_OP_INFO_TILE = tA.toNat),
    nextIs (.rotationReturn true) ({ sDarn [] with nvw := { (sDarn []).nvw with rot := some (tA.toNat, 7, []) } }.setTile tA.toNat
        { uRole with secCrc := crc64 (zeroBytes 128) }) fun t =>
      decide (t.nvw.rot = none ∧ t.get F.NVW_OP_STAT_RESULT = 2 ∧ t.get F.NVW_COUNTS_ROTATIONS = 1 ∧ (t.nvw.log.map DarnEntry.kind) = [3])]
    = true := by
  decide +kernel

/-- The clause of DARN_START that takes a darn tile has a state: `dD` is the nearest eligible one. -/
theorem witness_darn_taken : (sDarn [reqA]).nearest tA.toNat [] = some dD := by
  have ht : (sDarn [reqA]).tiles = [(tA.toNat, uRole), (dD, uIdle)] := by decide +kernel
  have hr : imageRing (tImage ((sDarn [reqA]).get F.WRP_STATUS_ACTIVE_SLOT) ((sDarn [reqA]).tile dD)) = 255 := by
    rw [imageRing_eq]; decide +kernel
  have hi : (sDarn [reqA]).idleIn dD = true := by
    unfold State.idleIn; rw [hr]; decide +kernel
  have h : (sDarn [reqA]).darnTiles tA.toNat [] = [dD] := by
    unfold State.darnTiles
    rw [ht, List.filter_cons_of_neg (by decide +kernel), List.filter_cons_of_pos]
    · rfl
    · rw [hi]; decide +kernel
  unfold State.nearest; rw [h]; rfl

/-- A pattern that uses region `r` with a variant for it, under variant 0; spare region 15. -/
def patW : Pattern := { dev0.pat with spare := 15, tileMap := mapOf tA.toNat, variants := [⟨16, [], [], [], []⟩, ⟨regionOf 2, [], [], [], []⟩] }
def sWeave (l : List (Fld × Nat × Nat) := []) (weave : Option Nat := none) : State :=
  let s := sPick 1 true false 7 ([(F.WRP_STATUS_LOADED, 0, 1)] ++ l)
  { s with pat := patW, nvw := { s.nvw with weave := weave } }

theorem witness_Reweaves : allOf [
    decide (regionOf 2 ≠ 15 ∧ sWeave.patUses (regionOf 2) = true ∧ sWeave.spareFree = true ∧ sWeave.patUses 7 = false),
    nextIs (.reweave 0 true) { sWeave with nvw := { dev0.nvw with op := 1 } } fun t => decide (t.get F.NVW_OP_STAT_RESULT = 3),
    nextIs (.reweave 15 true) sWeave fun t => decide (t.get F.NVW_OP_STAT_RESULT = 15),
    nextIs (.reweave 7 true) sWeave fun t => decide (t.get F.NVW_OP_STAT_RESULT = 15),
    nextIs (.reweave (BitVec.ofNat 19 (regionOf 2)) true) (sWeave [(F.NVW_STATUS_NO_COVER, 0, 1)]) fun t => decide (t.get F.NVW_OP_STAT_RESULT = 12),
    keeps (.reweave 1 false) dev0, keeps .reweaveComplete dev0, keeps .lwsLost dev0,
    nextIs .lwsLost (sWeave [] (some 7)) fun t => decide (t.nvw.weave = none ∧ t.get F.NVW_OP_STAT_RESULT = 10),
    nextIs .reweaveComplete (sWeave [] (some 7)) fun t => decide (t.nvw.weave = none ∧ t.get F.NVW_OP_STAT_RESULT = 12),
    decide (patW.variantFor (regionOf 2) = some ⟨regionOf 2, [], [], [], []⟩ ∧ sWeave.weaveLoaded ⟨regionOf 2, [], [], [], []⟩ = false),
    keeps .reweaveComplete (sWeave [] (some (regionOf 2))),
    nextIs .lwsLost (sLwi false []) fun t => decide (t.get F.NVW_STATUS_LWS_LOST = 1 ∧ t.get F.NVW_OP_STAT_RESULT = 10 ∧ t.nvw.op = 0)] = true := by
  decide +kernel

/-! ### The loader and the warp -/

theorem mapBit_nil (i : Nat) : mapBit [] i = false := by simp [mapBit]

theorem mapTilesOf_nil : mapTilesOf [] = [] := by
  unfold mapTilesOf
  refine List.flatMap_eq_nil_iff.mpr fun i _ => ?_
  refine List.filterMap_eq_nil_iff.mpr fun b _ => ?_
  simp

/-- A pattern without a tile: nothing to load, spare region none of the 16. -/
def patNone : Pattern := { dev0.pat with spare := 16 }

theorem patNone_uses (r : Nat) : patNone.uses r = false := by
  have h : patNone.mapsField = fun _ => false := by
    funext f
    unfold Pattern.mapsField
    rw [show patNone.tileMap = [] from rfl]
    simp
  unfold Pattern.uses
  rw [h, show patNone.spare = 16 from rfl, show patNone.variant = 0 from rfl]
  split <;> simp

theorem patNone_imageTiles : patNone.imageTiles = [] := by
  unfold Pattern.imageTiles
  rw [show patNone.tileMap = [] from rfl, mapTilesOf_nil]
  rfl

/-- A load of that pattern that waits for its end. -/
def sLoad (tiles : SMap Tile := []) : State := { dev0 with pat := patNone, tiles := tiles, ld := { dev0.ld with load := some (1, 0) } }

theorem sLoad_ready (m : SMap Tile) : (sLoad m).loadReady = true := by
  unfold State.loadReady
  rw [show (sLoad m).pat = patNone from rfl, patNone_imageTiles,
    show patNone.regions = [] from List.filter_eq_nil_iff.mpr fun r _ => by simp [patNone_uses]]
  rfl

theorem sLoad_tables (m : SMap Tile) : (sLoad m).writeTables 1 = sLoad m := by
  unfold State.writeTables
  rw [show (sLoad m).pat = patNone from rfl, patNone_imageTiles]
  rw [show regionTiles patNone.spare = [] from rfl]
  rfl

theorem sLoad_digest (m : SMap Tile) : (sLoad m).badDigest 1 = none := by
  unfold State.badDigest
  rw [List.find?_eq_none]
  intro f _
  rw [show (sLoad m).pat = patNone from rfl, patNone_uses]
  simp

theorem check_limits (s : State) (n f : Nat) (l : List Nat) (hi : s.pat.imageTiles = []) (hd : s.badDigest n = none)
    (hc : s.weft.cyclic 0 [] = [])
    (h : (rangeFrom 0 60).find? (fun f => decide (8 < (s.fieldRings f).length)) = some f) : s.routeCheck n l = some (22, 0, f) := by
  unfold State.routeCheck
  simp only [hd, hi, List.find?_nil, List.flatMap_nil, List.length_nil, hc, ne_eq, not_true_eq_false, if_false, h]

theorem check_passes (s : State) (n : Nat) (l : List Nat) (hi : s.pat.imageTiles = []) (hd : s.badDigest n = none)
    (hc : s.weft.cyclic 0 [] = []) (h : (rangeFrom 0 60).find? (fun f => decide (8 < (s.fieldRings f).length)) = none)
    (h1 : ∀ f ∈ rangeFrom 0 60, (s.vsOn f && !(delayOk (((s.pat.inEffect.map Variant.delays).getD []).getD f 0) (l.getD f 0))) = false) :
    s.routeCheck n l = none := by
  unfold State.routeCheck
  simp only [hd, hi, List.find?_nil, List.flatMap_nil, List.length_nil, hc, ne_eq, not_true_eq_false, if_false, h]
  rw [List.find?_eq_none.mpr fun f hf => by rw [h1 f hf]; exact Bool.false_ne_true]
  rfl

/-- Nine tiles of one field in nine ring positions. -/
def ninePos : SMap Tile := (rangeFrom 0 9).map fun i => (i, { Tile.empty with ringPos := i })

/-- A load that fits ends so; one with nine ring positions in a field ends with the limit's code. -/
theorem witness_load_ends : (sLoad []).routeCheck 1 [] = none ∧ (sLoad []).reapplyAll.isSome = true ∧
    (sLoad ninePos).routeCheck 1 [] = some (22, 0, 0) := by
  exact ⟨check_passes _ _ _ patNone_imageTiles (sLoad_digest []) rfl (by decide +kernel) (by decide +kernel), by decide +kernel,
    check_limits _ _ 0 _ patNone_imageTiles (sLoad_digest ninePos) rfl (by decide +kernel)⟩

/-- A pattern without a tile and a variant for region 0 that maps nothing, its strobe delays at 20. -/
def patV : Pattern := { patNone with variants := [⟨16, [], [], [], []⟩, ⟨0, [], [], List.replicate 60 20, []⟩] }

/-- Under a variant a pattern without a tile has no image either, and its digests agree. -/
theorem patV_none (p : Pattern) (hp : p = { patV with variant := 1 }) : p.imageTiles = [] ∧ ∀ r, r ≠ 16 → p.uses r = false := by
  subst hp
  constructor
  · unfold Pattern.imageTiles
    rw [show ({ patV with variant := 1 } : Pattern).tileMap = [] from rfl, mapTilesOf_nil]
    rw [show ({ patV with variant := 1 } : Pattern).inEffect = some ⟨0, [], [], List.replicate 60 20, []⟩ from rfl]
    simp [sortAsc]
  · intro r hr
    unfold Pattern.uses
    rw [show ({ patV with variant := 1 } : Pattern).spare = 16 from rfl, if_neg hr]
    have h : ({ patV with variant := 1 } : Pattern).mapsField = fun _ => false := by
      funext f
      unfold Pattern.mapsField
      rw [show ({ patV with variant := 1 } : Pattern).tileMap = [] from rfl]
      simp
    rw [h]; simp

/-- A re-weave of region 0 that waits for its end, and the state under the variant. -/
def sWeaveEnd : State :=
  let s := st [(F.VPA_DOM_STAT_STATE, 16, 3), (F.VPA_DOM_STAT_STATE, 32, 3)]
  { s with pat := patV, nvw := { s.nvw with weave := some 0, op := 4 } }
def sWoven : State := { sWeaveEnd with pat := { patV with variant := 1 } }.sntDrop

theorem sWoven_tables : sWoven.writeTables 0 = sWoven := by
  unfold State.writeTables
  rw [show sWoven.pat = { patV with variant := 1 } from rfl, (patV_none _ rfl).1]
  rw [show regionTiles ({ patV with variant := 1 } : Pattern).spare = [] from rfl]
  rfl

/-- The clause of REWEAVE_COMPLETE that ends well has a state. -/
theorem witness_reweave_ends : sWeaveEnd.pat.variantFor 0 = some ⟨0, [], [], List.replicate 60 20, []⟩ ∧
    sWeaveEnd.weaveLoaded ⟨0, [], [], List.replicate 60 20, []⟩ = true ∧ sWeaveEnd.logFull = false ∧
    idxOf 0 (sWeaveEnd.pat.variants.map Variant.dark |>.set 0 16) = 1 ∧
    (sWoven.writeTables 0).routeCheck 0 ((rangeFrom 0 60).map fun f => sWeaveEnd.get (F.PCK_STROBE_CAL_RTT.nth f)) = none ∧
    (sWoven.writeTables 0).reapplyAll.isSome = true := by
  rw [sWoven_tables]
  refine ⟨by decide +kernel, by decide +kernel, by decide +kernel, by decide +kernel, ?_, by decide +kernel⟩
  have hi : sWoven.pat.imageTiles = [] := (patV_none _ rfl).1
  have hd : sWoven.badDigest 0 = none := by
    unfold State.badDigest
    rw [List.find?_eq_none]
    intro f hf
    have : regionOf f ≠ 16 := by
      revert f; decide +kernel
    rw [(patV_none sWoven.pat rfl).2 _ this]
    simp
  exact check_passes _ _ _ hi hd rfl (by decide +kernel) (by decide +kernel)

/-- An installation of an empty map in its third stage. -/
def sInst (stage : Nat) : State := { dev0 with ld := { dev0.ld with install := some ⟨1, ⟨0, 2, 0, 0, 0, []⟩, stage, [], []⟩ } }

theorem witness_install_whole :
    (mapTilesOf (recSec [] 1)).all (fun a => imageWhole (tImage 1 ((sInst 2).tile a))) = true := by
  rw [show recSec [] 1 = [] from rfl, mapTilesOf_nil]; rfl

/-- The checks of LOAD let a record pass wherever the code whose format the spec leaves open finds it in order: its header is as
chapter 9 wants it, the signatures verify and the parsed sections are well formed. -/
theorem witness_record_accepted (s : State) (n : Nat) (r : List Byte) (p : Pattern) (h1 : recVersionOk r = true) (h2 : s.recSigned r = true)
    (h3 : p.darnDigest = s.nvw.mapDigest) (h4 : s.nvw.log = [] ∧ n ∉ s.nvw.stale) (h5 : s.get F.NVW_STATUS_PROGRAMMED ≠ 0)
    (h6 : p.lwiDigest = s.digestShown F.NVW_LWI_DIGEST_DIGEST) (h7 : p.chainId = recN s.nvw.hdr 56 16) (h8 : p.chainIndex = recN s.nvw.hdr 72 1)
    (h9 : p.chainLength = recN s.nvw.hdr 73 1) (h10 : timingBad p.stepping (recTiming (recSec r 6)) = none) (h11 : recN r 122 1 = 1)
    (h12 : bitAt p.modes 0 = true) (h13 : p.formats.all wfmtOk = true) (h14 : p.badFold = none) : s.recordCheck n r p = none := by
  simp [State.recordCheck, h1, h2, h3, h4, h5, h6, h7, h8, h9, h10, h11, h12, h13, h14]

/-- Step 2 of a load asks only that the regions used have VS and none of VL and VA is TRIPPED. -/
theorem witness_load_power : ∀ q : Fin 16, let s := st ((rangeFrom 0 16).map fun k => (F.VPA_DOM_STAT_STATE, 32 + k, 3))
    s.domOn (32 + q.val) = true ∧ s.get F.VPA_DOM_STAT_STATE q.val ≠ 6 ∧ s.get F.VPA_DOM_STAT_STATE (16 + q.val) ≠ 6 := by
  decide +kernel

theorem witness_Installing : allOf [
    nextIs (.install 1 false) (sPick 1 true false) fun t => decide (t.get F.WRP_INSTALL_STAT_RESULT = 3),
    nextIs (.install 1 true) (st [(F.WRP_STATUS_LOADED, 0, 1), (F.WRP_STATUS_ACTIVE_SLOT, 0, 1)]) fun t => decide (t.get F.WRP_INSTALL_STAT_RESULT = 3),
    nextIs (.install 3 true) dev0 fun t => decide (t.get F.WRP_INSTALL_STAT_RESULT = 1 ∧
      (t.ld.install.map fun i => (i.slot, i.stage, i.fetch.want, i.fetch.src)) = some (3, 0, 1024, 1)),
    keeps (.installComplete none) dev0, keeps .linkLost dev0, keeps .wrpAbort dev0, keeps (.installComplete none) (sInst 1),
    nextIs .linkLost (sInst 1) fun t => decide (t.ld.install = none ∧ t.get F.WRP_INSTALL_STAT_RESULT = 26),
    nextIs .wrpAbort (sInst 1) fun t => decide (t.ld.install = none ∧ t.get F.WRP_INSTALL_STAT_RESULT = 25),
    nextIs (.installComplete (some 5)) (sInst 2) fun t => decide (t.get F.WRP_INSTALL_STAT_RESULT = 16 ∧ t.slotState 1 = 0)] = true := by
  decide +kernel

theorem witness_Loading : allOf [
    nextIs .wrpAbort (let s := st [(F.WRP_STATUS_LOAD_BUSY, 0, 1)]; { s with ld := { s.ld with load := some (1, 0) } }) (fun t =>
      decide (t.ld.load = none ∧ t.get F.WRP_LOAD_STAT_RESULT = 25 ∧ t.get F.WRP_STATUS_LOAD_BUSY = 0)),
    nextIs (.load 1) (sPick 1 true false) fun t => decide (t.get F.WRP_LOAD_STAT_RESULT = 3),
    nextIs (.load 2) sSlot fun t => decide (t.get F.WRP_LOAD_STAT_RESULT = 4),
    nextIs (.load 1) sSlot fun t => decide (t.get F.WRP_LOAD_STAT_RESULT = 5 ∧ t.ld.load = none),
    keeps (.loadComplete []) dev0,
    decide (({ dev0 with pat := { patNone with spare := 0, variant := 1 }, ld := { dev0.ld with load := some (1, 0) } } : State).regionOn 0 = false)]
    = true := by
  decide +kernel

/-- The field of `tA` with VL and VS on, the tile selected in the window. -/
def sTwin (l : List (Fld × Nat × Nat) := []) : State :=
  (st ([(F.VPA_DOM_STAT_STATE, regionOf 2, 3), (F.VPA_DOM_STAT_STATE, 32 + regionOf 2, 3), (F.WRP_TWIN_SEL_ADDR, 0, tA.toNat)] ++ l)).setTile tA.toNat uA

/-- The factory's value of RES-L bits is open, so one of two words differs from it, and a register without such bits takes every word. -/
theorem witness_window_words : sTwin.tileDead tA.toNat = false ∧ sTwin.darnedLoad tA.toNat 0x60 0x04560123 = false ∧
    (sTwin.tilWord tA.toNat 0).isSome = true ∧
    ∃ r q, regRow? R.TIL_WIN_WEFT = some r ∧ reslKept R.TIL_WIN_WEFT r 0x04560123 = true ∧ regRow? R.TIL_CTRL = some q ∧
      (reslKept R.TIL_CTRL q 0 = false ∨ reslKept R.TIL_CTRL q 0xF0000000 = false) := by
  refine ⟨by decide +kernel, by decide +kernel, by decide +kernel, _, _, rfl, ?_, rfl, ?_⟩
  · unfold reslKept reslBits
    exact decide_eq_true ((Nat.and_zero _).trans (Nat.and_zero _).symm)
  · by_contra h
    simp only [reslKept, not_or, Bool.not_eq_false, decide_eq_true_eq] at h
    exact absurd (h.1.trans h.2.symm) (by decide +kernel)

def stall1 (w : Bool) : Stall := ⟨3, 9, w, 5, 0x24⟩

theorem witness_WarpAndWindow : allOf [
    keeps (.warpMessage 2 []) dev0,
    nextIs (.warpMessage 2 (copyOf 5)) { sTwin with ld := { dev0.ld with resends := [(2, 3)] } } fun t => decide (t = sTwin),
    nextIs (.warpMessage 2 []) { sTwin with ld := { dev0.ld with resends := [(2, 2)] } } fun t => decide (smGet 0 2 t.ld.resends = 3 ∧
      t.get F.WRP_EP_STAT_RESENDS 2 = 1 ∧ t.get F.WRP_STATUS_LINK_ERR = 0),
    nextIs (.warpMessage 2 []) { sTwin with ld := { dev0.ld with resends := [(2, 3)] } } fun t => decide (smGet 0 2 t.ld.resends = 0 ∧
      t.get F.WRP_EP_STAT_RESENDS 2 = 0 ∧ t.get F.WRP_STATUS_LINK_ERR = 1),
    decide ((sTwin.tileDead tA.toNat) = false ∧ ((st [(F.WRP_TWIN_SEL_ADDR, 0, tA.toNat)]).tileDead tA.toNat) = true ∧
      (regRow? R.TIL_WIN_WEFT).map (fun r => TilTarget.write 0x60 r 0x04560123) = some (sTwin.tilTarget tA.toNat 0x60 0x04560123)),
    nextIs (.tileWindowAccess 3 9 false 7 0) (st [(F.WRP_TWIN_SEL_ADDR, 0, tA.toNat)]) fun t => decide (t.host.stalls = [⟨3, 9, false, tA.toNat, 4⟩]),
    keeps .bridgeTimeout dev0,
    nextIs .bridgeTimeout { dev0 with host := { dev0.host with stalls := [stall1 true] } } fun t => decide (t.host.stalls = [] ∧
      t.get F.WRP_STATUS_BRIDGE_ERR = 1 ∧ t.get F.WRP_BRIDGE_COUNT_STALLS = 1 ∧ t.get F.WRP_TWIN_CAP1_OFFSET = 0x24 ∧ t.get F.HLS_STATUS_REG_ERR = 1),
    nextIs .bridgeTimeout { dev0 with host := { dev0.host with stalls := [stall1 false, stall1 true] } } fun t => decide (t.host.stalls = [stall1 true] ∧
      t.out = [.regCpl 3 9 1 [255, 255, 255, 255]] ∧ t.get F.HLS_STATUS_REG_ERR = 0),
    nextIs .wrpClrCounts (st [(F.WRP_BRIDGE_COUNT_STALLS, 0, 3), (F.WRP_EP_STAT_RESENDS, 59, 2), (F.WRP_EP_STAT_STATE, 59, 1)]) fun t =>
      decide (t = st [(F.WRP_EP_STAT_STATE, 59, 1)])] = true := by
  decide +kernel

/-! ### The Helsia link and the host interface -/

/-- A flit with a header and its CRC. -/
def flitOf (h : Nat) : List Byte :=
  let b := leBytes 8 h ++ zeroBytes 244
  b ++ leBytes 4 (crc32 b)

/-- Port 2 in a state with a role, VX-0 on, and something said of its link. -/
def sPort (state role : Nat) (l : List (Fld × Nat × Nat) := []) : State :=
  st ([(F.HLS_PORT_STAT_STATE, 2, state), (F.HLS_PORT_STAT_ROLE, 2, role), (F.VPA_DOM_STAT_STATE, 52, 3), (F.HLS_PORT_SEL_PORT, 0, 2)] ++ l)

/-- The next flit expected has number 5. -/
def sLink (nak : Bool := false) : State :=
  let s := sPort 3 1
  { s with host := { s.host with rxSeq := [(2, 5)], nakOut := if nak then [(2, true)] else [] } }

/-- Two echoes sent, none acknowledged; the oldest resent `n` times. -/
def sSent (n : Nat) (state : Nat := 3) : State :=
  let s := sPort state 3
  { s with out := [.echo 2 [1], .echo 2 [2]], host := { s.host with resent := if n = 0 then [] else [(2, 0, n)] } }

theorem witness_HelsiaFlits : allOf [
    keeps (.flit 2 false false 1 (flitOf 1)) (sPort 5 1), keeps (.helsiaNak 2 0) (sPort 2 1), keeps (.helsiaAckTimeout 2) (sPort 2 1),
    keeps (.helsiaRetrain 2) (sPort 1 1),
    nextIs (.flit 2 true false 1 []) sLink fun t => decide (t.out = [.ack 2 4 true 0 0 0] ∧ t.get F.CLK_STATUS_XOVR = 1 ∧
      t.get F.CLK_XCLASS_STAT_OVERRUNS 7 = 1 ∧ smGet 0 2 t.host.rxSeq = 5),
    nextIs (.flit 2 false true 3 []) (sLink true) fun t => decide (t.out = [] ∧ t.get F.HLS_PORT_FEC_CE_CE 2 = 3 ∧ t.get F.HLS_PORT_FEC_UE_UE 2 = 1),
    nextIs (.flit 2 false false 0 (zeroBytes 256)) sLink fun t => decide (t.out = [.ack 2 4 true 0 0 0] ∧ t.get F.HLS_PORT_CRC_CRC 2 = 1),
    nextIs (.flit 2 false false 0 (flitOf (1 + 5 * 256))) (sLink true) fun t => decide (t.out = [.ack 2 5 false 0 0 0] ∧ smGet 0 2 t.host.rxSeq = 6 ∧
      smGet false 2 t.host.nakOut = false),
    nextIs (.flit 2 false false 0 (flitOf (1 + 2 ^ 6 + 5 * 256))) sLink fun t => decide (t.get F.HLS_PORT_CRC_BAD_TXN 2 = 1),
    nextIs (.flit 2 false false 0 (flitOf (1 + 2 ^ 7 + 5 * 256))) { sLink with host := { sLink.host with rxBuf := [(8, 2)] } } fun t =>
      decide (t.out = [.ack 2 5 false 3 0 0] ∧ t.rxHeld 2 0 = 0),
    nextIs (.flit 2 false false 0 (flitOf (1 + 5 * 256))) { sLink with host := { sLink.host with rxBuf := [(8, 2)] } } fun t =>
      decide (t.out = [.ack 2 5 false 0 0 0] ∧ t.rxHeld 2 0 = 3),
    nextIs (.flit 2 false false 0 (flitOf (1 + 5 * 256))) { sLink with host := { sLink.host with rxBuf := [(8, 64)] } } fun t =>
      decide (t.out = [.ack 2 4 true 0 0 0] ∧ smGet 0 2 t.host.rxSeq = 5),
    nextIs (.flit 2 false false 0 (flitOf (1 + 4 * 256))) sLink fun t => decide (t.out = [] ∧ smGet 0 2 t.host.rxSeq = 5),
    nextIs (.flit 2 false false 0 (flitOf (1 + 6 * 256))) sLink fun t => decide (t.out = [.ack 2 4 true 0 0 0]),
    keeps (.helsiaAckTimeout 2) (sPort 3 3),
    nextIs (.helsiaAckTimeout 2) (sSent 1) fun t => decide (t.out.getLast? = some (.resend 2 0 2) ∧ t.get F.HLS_PORT_RETRY_REPLAYS 2 = 1 ∧
      smGet (0, 0) 2 t.host.resent = (0, 2)),
    nextIs (.helsiaNak 2 0) (sSent 0) fun t => decide (t.out.getLast? = some (.resend 2 1 1) ∧ smGet (0, 0) 2 t.host.resent = (1, 1)),
    keeps (.helsiaNak 2 1) { sSent 0 with host := { (sSent 0).host with links := [(2, ⟨2, [], [], 2, [], 0⟩)] } },
    keeps (.helsiaRetrain 2) (sSent 7),
    nextIs (.helsiaRetrain 2) (sSent 8) fun t => decide (t.portState 2 = 2 ∧ t.get F.HLS_STATUS_RETRAIN = 1 ∧ t.get F.HLS_PORT_RETRY_RETRAINS 2 = 1),
    nextIs (.helsiaRetrain 2) (sSent 8 4) fun t => decide (t.portState 2 = 2 ∧ smGet false 2 t.host.disableNext = true)] = true := by
  decide +kernel

def sFails (n : Nat) : State := let s := sPort 2 0; { s with host := { s.host with trainFails := if n = 0 then [] else [(2, n)] } }

theorem witness_HelsiaTraining : allOf [
    keeps (.helsiaTrainingComplete 2 0 5) (sPort 3 1), keeps (.helsiaTrainingComplete 9 0 5) (sPort 3 1),
    nextIs (.helsiaTrainingComplete 2 0 2000) (sFails 2) fun t => decide (t.portState 2 = 3 ∧ t.get F.HLS_PORT_RTT_RTT_NS 2 = 2000 ∧
      t.get F.HLS_PORT_STAT_LANE_LOCK 2 = 255 ∧ smGet 0 2 t.host.trainFails = 0),
    nextIs (.helsiaTrainingComplete 2 0 2001) (sFails 0) fun t => decide (t.portState 2 = 2 ∧ smGet 0 2 t.host.trainFails = 1),
    nextIs (.helsiaTrainingComplete 2 1 0) (sFails 1) fun t => decide (t.portState 2 = 2 ∧ smGet 0 2 t.host.trainFails = 2),
    nextIs (.helsiaTrainingComplete 2 1 0) (sFails 2) fun t => decide (t.portState 2 = 6 ∧ t.get F.HLS_STATUS_PORT_FAIL = 1 ∧
      smGet 0 2 t.host.trainFails = 0),
    nextIs (.helsiaTrainingComplete 2 2 0) (sFails 1) fun t => decide (t.portState 2 = 0),
    nextIs (.partnerLost 2) (sPort 2 1) fun t => decide (t.portState 2 = 1), nextIs (.partnerLost 2) (sPort 3 1) fun t => decide (t.portState 2 = 1),
    nextIs (.partnerLost 2) (sPort 4 1) fun t => decide (t.portState 2 = 5), keeps (.partnerLost 2) (sPort 6 1), keeps (.partnerLost 2) (sPort 0 1),
    nextIs (.hostPortLost 2) (sPort 3 1) fun t => decide (t.portState 2 = 1), keeps (.hostPortLost 2) (sPort 3 2), keeps (.hostPortLost 2) (sPort 1 1)]
    = true := by
  decide +kernel

def sSwatch (old : Nat) (l : List (Fld × Nat × Nat) := []) : State := let s := sPort 7 0 l; { s with host := { s.host with swatch := some (2, old) } }

theorem witness_PortActions : allOf [
    nextIs .portDisable (sSwatch 5) fun t => decide (t.get F.HLS_PORT_STAT_RESULT 2 = 6 ∧ t.portState 2 = 7),
    nextIs .portDisable (sPort 3 1) fun t => decide (t.get F.HLS_PORT_STAT_RESULT 2 = 3 ∧ t.portState 2 = 3),
    nextIs .portDisable (sPort 3 3 [(F.PCK_STATUS_STATE, 0, 1)]) fun t => decide (t.get F.HLS_PORT_STAT_RESULT 2 = 4 ∧ t.portState 2 = 3),
    nextIs .portDisable (sPort 3 3) fun t => decide (t.get F.HLS_PORT_STAT_RESULT 2 = 1 ∧ t.portState 2 = 4),
    nextIs .portDisable (sPort 3 1 [(F.HLS_PORT_STAT_STATE, 0, 3), (F.HLS_PORT_STAT_ROLE, 0, 1)]) fun t => decide (t.portState 2 = 4),
    nextIs .portDisable (sPort 2 1) fun t => decide (t.get F.HLS_PORT_STAT_RESULT 2 = 1 ∧ t.portState 2 = 2 ∧ smGet false 2 t.host.disableNext = true),
    nextIs .portDisable (sPort 5 1) fun t => decide (t.get F.HLS_PORT_STAT_RESULT 2 = 2 ∧ t.portState 2 = 5),
    nextIs .portDisable (sPort 6 1) fun t => decide (t.get F.HLS_PORT_STAT_RESULT 2 = 2 ∧ t.portState 2 = 5),
    nextIs .portEnable (st []) fun t => decide (t.get F.HLS_PORT_STAT_RESULT 0 = 5),
    nextIs .portRetrain (st []) fun t => decide (t.get F.HLS_PORT_STAT_RESULT 0 = 5),
    nextIs .portEnable (sPort 3 1) fun t => decide (t.get F.HLS_PORT_STAT_RESULT 2 = 6 ∧ t.portState 2 = 3),
    nextIs .portEnable (sPort 6 1) fun t => decide (t.get F.HLS_PORT_STAT_RESULT 2 = 1 ∧ t.portState 2 = 2),
    nextIs .portRetrain (sPort 4 1) fun t => decide (t.get F.HLS_PORT_STAT_RESULT 2 = 6 ∧ t.portState 2 = 4),
    nextIs .portRetrain (sPort 3 1) fun t => decide (t.get F.HLS_PORT_STAT_RESULT 2 = 1 ∧ t.portState 2 = 2 ∧ t.get F.HLS_STATUS_RETRAIN = 1),
    nextIs (.portDrainComplete 2) (sPort 4 1) fun t => decide (t.portState 2 = 5 ∧ t.get F.HLS_PORT_STAT_RESULT 2 = 2),
    keeps (.portDrainComplete 2) (sPort 3 1),
    (let s := sPort 4 1; keeps (.portDrainComplete 2) { s with host := { s.host with reads := [⟨1, 2, 0, 4, 0, true, .evRd⟩] } }),
    nextIs (.hlsSwatchStart 0 2 9) (sSwatch 5) fun t => decide (t.get F.HLS_SWATCH_STAT_RESULT = 4 ∧ t.host.swatch = some (2, 5)),
    nextIs (.hlsSwatchStart 0 9 9) (sPort 0 0) fun t => decide (t.get F.HLS_SWATCH_STAT_RESULT = 5 ∧ t.host.swatch = none),
    nextIs (.hlsSwatchStart 1 2 9) (sPort 3 1) fun t => decide (t.get F.HLS_SWATCH_STAT_RESULT = 4 ∧ t.host.swatch = none),
    nextIs (.hlsSwatchStart 7 2 9) (sPort 5 1) fun t => decide (t.get F.HLS_SWATCH_STAT_RESULT = 4),
    nextIs (.hlsSwatchStart 2 2 9) (sPort 5 1) fun t => decide (t.get F.HLS_SWATCH_STAT_RESULT = 1 ∧ t.host.swatch = some (2, 5) ∧ t.portState 2 = 7),
    nextIs (.hlsSwatchStart 4 2 9) (sPort 3 1) fun t => decide (t.get F.HLS_SWATCH_STAT_RESULT = 1 ∧ t.portState 2 = 3),
    keeps (.hlsSwatchComplete 0 true) dev0,
    nextIs (.hlsSwatchComplete 0 true) (sSwatch 5 [(F.HLS_SWATCH_CTRL_DEPTH, 0, 3)]) fun t => decide (t.get F.HLS_SWATCH_STAT_RESULT = 6 ∧ t.portState 2 = 5),
    nextIs (.hlsSwatchComplete 0 true) (sSwatch 5 [(F.HLS_SWATCH_CTRL_DEPTH, 0, 1)]) fun t => decide (t.get F.HLS_SWATCH_STAT_RESULT = 2),
    nextIs (.hlsSwatchComplete (2 ^ 28) false) (sSwatch 5) fun t => decide (t.get F.HLS_SWATCH_STAT_RESULT = 3 ∧
      t.get F.HLS_SWATCH_STAT_ERRORS = 2 ^ 28 - 1 ∧ t.host.swatch = none),
    nextIs .hlsClrCounts (st [(F.HLS_PORT_CRC_CRC, 2, 5), (F.HLS_BEACON_MISSES_MISSES, 0, 1), (F.HLS_PORT_RETRY_REPLAYS, 15, 1)]) fun t =>
      decide (t = dev0)] = true := by
  decide +kernel

/-- Port 2 a HOST port that is UP, with a read of 4 bytes in flight under tag 9. -/
def sRead (why : Purpose) (tries : Nat := 0) (len : Nat := 4) : State :=
  let s := sPort 3 1 [(F.HLS_PORT_STAT_STATE, 4, 3), (F.HLS_PORT_STAT_ROLE, 4, 1)]
  { s with host := { s.host with reads := [⟨9, 2, 0x1000, len, tries, true, why⟩] }, reed := { s.reed with skeins := [(5, kR)] } }

/-- Port 2 an LWS port, a chunk of an LWI asked for under tag 9. -/
def sObj : State :=
  let s := sPort 3 2
  { s with host := { s.host with objs := [(9, 1, 720, 4)], nextTag := 10 },
           nvw := { s.nvw with op := 1, stage := 2, fetch := some ⟨1, 1, 0, 720, 4, [1]⟩ } }

theorem witness_HostCompletions : allOf [
    keeps (.memCpl 2 9 [1]) (sPort 2 1), keeps (.objCpl 2 9 0 [1]) (sPort 5 2),
    nextIs (.memCpl 2 9 [1]) (sPort 3 2) fun t => decide (t.get F.HLS_PORT_CRC_BAD_TXN 2 = 1),
    nextIs (.objCpl 2 9 0 [1]) (sPort 3 1) fun t => decide (t.get F.HLS_PORT_CRC_BAD_TXN 2 = 1),
    keeps (.memCpl 2 8 [1]) (sRead (.ringRd 5)), decide (kR.state ≠ 0),
    nextIs (.memCpl 2 9 [1, 2, 0xFF, 0xFF]) (sRead (.ringRd 5)) fun t => decide ((t.sk 5).ringRd = 0xF0201 ∧ t.host.reads = []),
    keeps (.objCpl 2 8 0 [1]) sObj,
    nextIs (.objCpl 2 9 3 []) sObj fun t => decide (t.host.objs = [(10, 1, 720, 4)]),
    nextIs (.objCpl 2 9 0 [5, 6, 7, 8]) sObj fun t => decide (t.nvw.fetch = some ⟨1, 1, 0, 724, 0, [1, 5, 6, 7, 8]⟩ ∧ t.host.objs = []),
    nextIs (.echo 2 [1, 2]) (sPort 3 0) fun t => decide (t.out = [.echo 2 [1, 2]]), keeps (.echo 2 [1, 2]) (sPort 4 0),
    keeps (.memRdTimeout 8) (sRead .evRd),
    nextIs (.memRdTimeout 9) (sRead .evRd 1) fun t => decide (t.get F.HLS_STATUS_RD_TIMEOUT = 1 ∧ t.out = [.memRd 4 1 9 0x1000 4] ∧
      t.host.reads = [⟨9, 4, 0x1000, 4, 2, true, .evRd⟩]),
    nextIs (.memRdTimeout 9) (sRead (.flush 3) 1 0) fun t => decide (t.out = [.flush 4 1 9 0x1000]),
    nextIs (.memRdTimeout 9) { sRead (.restore 1 0 0) 1 with host := { (sRead (.restore 1 0 0) 1).host with
        reads := (sRead (.restore 1 0 0) 1).host.reads ++ (rangeFrom 10 256).map fun n => ⟨n, 4, 0, 4096, 1, true, .restore 1 0 1⟩ } } fun t =>
      decide (t.out = [] ∧ t.get F.HLS_STATUS_RD_TIMEOUT = 1) &&
        t.host.reads.any fun r => decide (r = ⟨9, 4, 0x1000, 4, 1, false, .restore 1 0 0⟩)] = true := by
  decide +kernel

/-- Ring 3 of 16 entries, open, with HEAD at 10; port 2 is the host's. -/
def sRing (log2 : Nat := 4) (en : Nat := 1) : State :=
  sPort 3 1 [(F.HLS_CTRL_CMD_EN, 0, 1), (F.HLS_SQ_LO_EN.nth 3, 0, en), (F.HLS_SQ_LO_LOG2.nth 3, 0, log2), (F.HLS_SQ_STAT_HEAD.nth 3, 0, 10)]
def sComp (wr : Nat) : State := { sRing with host := { sRing.host with fetched := [(3, [zeroBytes 64])], compWr := [(3, wr)] } }
def sEv (q : List (List Byte)) (wr log2 : Nat) : State :=
  let s := sPort 3 1 [(F.HLS_EVQ_LO_LOG2, 0, log2)]
  { s with host := { s.host with evQueue := q, evWr := wr } }

theorem witness_RingsAndBeacon : allOf [
    nextIs (.sqDoorbell 3 0x50007) (sRing 4 0) fun t => decide (t.get (F.HLS_SQ_TAIL_TAIL.nth 3) = 7 ∧ t.get (F.HLS_SQ_STAT_ERR.nth 3) = 0),
    nextIs (.sqDoorbell 3 27) sRing fun t => decide (t.get (F.HLS_SQ_STAT_ERR.nth 3) = 1 ∧ t.host.reads = []),
    nextIs (.sqDoorbell 3 26) sRing fun t => decide (t.get (F.HLS_SQ_STAT_ERR.nth 3) = 0 ∧ t.sqReading 3 = true ∧ t.host.reads.length = 1),
    keeps .completionCountPoll dev0, keeps .completionCountPoll (sComp 15),
    nextIs .completionCountPoll (sComp 16) fun t => decide (t.reading (.compRd 3) = true),
    keeps .eventRingPoll (sEv [] 0 6), keeps .eventRingPoll (sEv [[1]] 0 5),
    nextIs .eventRingPoll (sEv [[1]] 64 6) fun t => decide (t.reading .evRd = true ∧ t.host.evQueue = [[1]]),
    nextIs .eventRingPoll (sEv [[1]] 63 6) fun t => decide (t.host.evQueue = [] ∧ t.host.evWr = 64),
    keeps (.beacon false) dev0,
    nextIs (.beacon false) (st [(F.HLS_CTRL_BEACON_EN, 0, 1)]) fun t => decide (t.get F.HLS_STATUS_BEACON_MISS = 1 ∧ t.get F.HLS_BEACON_MISSES_MISSES = 1),
    (let s := sPort 3 1 [(F.HLS_CTRL_BEACON_EN, 0, 1), (F.BOOT_STATUS_HCA_OK, 0, 1)]
     decide (s.hostPort (s.get F.HLS_BEACON_LO_PORT) = some 2 ∧ s.hcRuns = true) && nextIs (.beacon false) s fun t =>
      decide (t.get F.HLS_BEACON_SEQ_SEQ = 1 ∧ t.out.length = 3 ∧ t.bcn.bseq = 1))] = true := by
  decide +kernel

/-! ### Power, clocks and cooling -/

/-- Samples in a row of the inputs. -/
def sVin (band run stby stbyRun : Nat) (l : List (Fld × Nat × Nat) := []) : State :=
  let s := st l
  { s with pwr := { s.pwr with vinBand := band, vinRun := run, stbyBand := stby, stbyRun := stbyRun } }

/-- An instance at its setpoint with phases in service. -/
def sDom (d stt ok : Nat) (l : List (Fld × Nat × Nat) := []) : State := st ([(F.VPA_DOM_STAT_STATE, d, stt), (F.VPA_DOM_STAT_OK, d, ok)] ++ l)

theorem test_input_bands : [vinBand 3999, vinBand 4000, vinBand 4399, vinBand 4400, vinBand 5600, vinBand 5601, vinBand 6000, vinBand 6001] =
    [2, 1, 1, 0, 0, 3, 3, 4] ∧ bandOut 2 100 = true ∧ bandOut 4 10 = true ∧ bandOut 2 99 = false := by
  decide +kernel

theorem witness_PowerSamples : allOf [
    nextIs (.vinSample 5000) dev0 fun t => decide (t.get F.VPA_INPUT_VIN = 5000 ∧ t.get F.VPA_STATUS_VIN_LOW = 0),
    nextIs (.vinSample 4399) (sVin 1 999 0 0) fun t => decide (t.get F.VPA_STATUS_VIN_LOW = 1 ∧ t.bcn.rseq = dev0.bcn.rseq + 1 ∧ t.pm.causes = 4),
    nextIs (.vinSample 4399) (sVin 1 1999 0 0) fun t => decide (t.pm.causes = 4 ∧ t.get F.VPA_STATUS_VIN_LOW = 0),
    nextIs (.vinSample 6000) (sVin 3 999 0 0) fun t => decide (t.get F.VPA_STATUS_VIN_HIGH = 1),
    nextIs (.vinSample 6001) (sVin 4 9 0 0) fun t => decide (t.get F.VPA_INPUT_VIN = 6001 ∧ t.pwr.vinRun = 10),
    decide ((sVin 2 99 0 0 [(F.BOOT_STATUS_STAGE, 0, 5)]).get F.BOOT_STATUS_STAGE = 5),
    nextIs (.standbySample 4000) dev0 fun t => decide (t.pwr.stbyBand = 1 ∧ t.pwr.stbyRun = 1),
    nextIs (.standbySample 4000) (sVin 0 0 1 999 [(F.VPA_DOM_STAT_STATE, 54, 3)]) fun t => decide (t.get F.VPA_STATUS_STBY_LOW = 1),
    nextIs (.standbySample 5601) (sVin 0 0 3 999 [(F.VPA_DOM_STAT_STATE, 54, 3)]) fun t => decide (t.get F.VPA_STATUS_STBY_HIGH = 1),
    decide ((sVin 0 0 2 99 [(F.VPA_DOM_STAT_STATE, 54, 3)]).domOn 54 = true),
    nextIs (.standbySample 3999) (sVin 0 0 2 99 [(F.VPA_DOM_STAT_STATE, 54, 6)]) fun t => decide (t.get F.VPA_DOM_STAT_STATE 54 = 0),
    nextIs (.inputCurrentSample 9500) (st [(F.VPA_INPUT_VIN, 0, 4600)]) fun t => decide (t.pwr.iinRun = 0 ∧ t.get F.VPA_STATUS_INPUT_LIMIT = 0),
    (let s := st [(F.VPA_INPUT_VIN, 0, 4600)]
     nextIs (.inputCurrentSample 10000) { s with pwr := { s.pwr with iinRun := 99 } } fun t => decide (t.pwr.iinRun = 100 ∧
      t.get F.VPA_STATUS_INPUT_LIMIT = 1 ∧ t.pm.causes = 4)),
    nextIs (.capExceeded 3000) (st [(F.VPA_CAP_CAP_W, 0, 3000)]) fun t => decide (t.get F.VPA_POWER_PIN = 3000 ∧ t.pm.causes = 0),
    nextIs (.capExceeded 4601) (st [(F.VPA_CAP_CAP_W, 0, 8000), (F.PCK_STATUS_FLOOR, 0, 1)]) fun t => decide (t.get F.VPA_POWER_PMAX = 4601 ∧
      t.pm.causes = 4 ∧ t.get F.VPA_STATUS_CAP_EXCEEDED = 1 ∧ t.bcn.rseq = dev0.bcn.rseq + 1),
    keeps (.pathCheck 2 1 1 1) dev0,
    nextIs (.pathCheck 2 800 790 0) (sDom 2 3 16) fun t => decide (t.get F.VPA_DOM_VOLT_SENSE_MV 2 = 790),
    (let s := sDom 18 3 4 [(F.VPA_CTRL_PATH_EN, 0, 1), (F.VPA_DOM_PATH_R_CAL, 18, 20)]
     decide (879 < s.setpoint 18 + 80) && nextIs (.pathCheck 18 879 869 200) { s with pwr := { s.pwr with pathRun := [(18, 99)] } } fun t =>
      decide (t.get F.VPA_DOM_PATH_R_MEAS 18 = 500 ∧ t.get F.VPA_STATUS_PATH = 1))] = true := by
  decide +kernel

theorem test_allowed_depth : [allowedDepth 2 16, allowedDepth 2 10, allowedDepth 2 11, allowedDepth 18 4, allowedDepth 40 1, allowedDepth 40 2] =
    [0, 7, 2, 0, 7, 0] := by
  decide +kernel

theorem witness_PhasesAndTrips : allOf [
    keeps (.phaseShed 2 5 0 9 1) (sDom 2 3 16 [(F.VPA_PHASE_STAT_STATE, 2 * 16 + 5, 2)]), keeps (.phaseShed 40 3 0 9 1) dev0,
    nextIs (.phaseShed 2 5 1 99 7) (sDom 2 0 16) fun t => decide (t.get F.VPA_PHASE_STAT_STATE 37 = 2 ∧ t.get F.VPA_PHASE_STAT_SHED_CAUSE 37 = 2 ∧
      t.domOk 2 = 15 ∧ t.get F.VPA_STATUS_SHED = 1 ∧ t.get F.VPA_SHED_COUNT_SHED = 1),
    decide (allowedDepth 2 11 = 2), nextIs (.phaseShed 2 5 1 99 7) (sDom 2 3 12) fun t => decide (t.get F.VPA_DOM_STAT_STATE 2 = 4 ∧
      t.get F.VPA_DOM_STAT_ALLOWED 2 = 2 ∧ t.pm.ceilPower = 2),
    nextIs (.phaseShed 40 1 2 99 7) (sDom 40 3 2) fun t => decide (t.get F.VPA_DOM_STAT_STATE 40 = 6 ∧ t.get F.VPA_DOM_STAT_CAUSE 40 = 3),
    keeps (.tripped 2 0 1 5) (sDom 2 0 16), keeps (.tripped 2 1 1 5) (sDom 2 3 16), keeps (.tripped 54 2 1 5) (sDom 54 3 4),
    nextIs (.tripped 2 2 1 5) ((sDom 2 3 16).setTile (8192 * 10) uA) fun t => decide (t.get F.VPA_DOM_STAT_STATE 2 = 6 ∧
      t.get F.VPA_DOM_STAT_CAUSE 2 = 4 ∧ t.get F.VPA_STATUS_TRIPPED = 1 ∧ t.get F.VPA_FAULT_CAP0_DOM = 2 ∧ t.get F.VPA_FAULT_CAP0_PHASE = 1 ∧
      t.bcn.rseq = dev0.bcn.rseq + 1)] = true := by
  decide +kernel

def sRamp (wait : List (Nat × Nat)) (ramp : Option (Nat × Nat)) (l : List (Fld × Nat × Nat) := []) : State :=
  let s := st ([(F.VPA_DOM_STAT_OK, 2, 16), (F.VPA_DOM_STAT_OK, 18, 4)] ++ l)
  { s with pwr := { s.pwr with wait := wait, ramp := ramp }, thm := { s.thm with valid := true } }
def coolSet : List (Fld × Nat × Nat) := [(F.THM_FLOW_FLOW, 0, 700), (F.THM_TRAY_INLET, 0, 250)]

theorem witness_PowerDomains : allOf [
    keeps .rampStart dev0, keeps .rampStart (sRamp [(2, 1)] (some (5, 1))), keeps (.rampComplete 9) dev0, keeps (.rampTimeout 2) dev0,
    decide ((sRamp [(2, 1)] none coolSet).rampOk 2 = true),
    nextIs .rampStart (sRamp [(2, 1), (7, 2)] none ([(F.VPA_DOM_STAT_STATE, 2, 1), (F.VPA_DOM_STAT_STATE, 18, 3)] ++ coolSet)) fun t =>
      decide (t.pwr.wait = [(7, 2)] ∧ t.pwr.ramp = some (2, 1) ∧ t.get F.VPA_DOM_STAT_STATE 2 = 2 ∧ t.get F.VPA_DOM_STAT_STATE 18 = 3),
    nextIs (.rampComplete 77) (sRamp [] (some (2, 1)) [(F.VPA_DOM_STAT_STATE, 2, 2), (F.VPA_DOM_STAT_STATE, 18, 2)]) fun t =>
      decide (t.get F.VPA_DOM_STAT_STATE 2 = 3 ∧ t.get F.VPA_DOM_STAT_STATE 18 = 3 ∧ t.get F.VPA_REGION_STAT_RESULT = 2 ∧
        t.get F.VPA_REGION_STAT_TIME = 77 ∧ t.pwr.ramp = none),
    nextIs (.rampTimeout 2) (sRamp [(2, 1)] none [(F.VPA_DOM_STAT_STATE, 2, 1), (F.VPA_DOM_STAT_STATE, 18, 3)]) fun t => decide (t.pwr.wait = [] ∧
      t.get F.VPA_REGION_STAT_RESULT = 5 ∧ t.get F.VPA_DOM_STAT_STATE 2 = 0 ∧ t.get F.VPA_DOM_STAT_STATE 18 = 3),
    nextIs (.regionOff 2) { dev0 with pwr := { dev0.pwr with wait := [(5, 1)] } } fun t => decide (t.get F.VPA_REGION_STAT_RESULT = 3),
    nextIs (.regionOn 2) { dev0 with pwr := { dev0.pwr with wait := [(5, 1)] } } fun t => decide (t.get F.VPA_REGION_STAT_RESULT = 3),
    nextIs (.regionRetain 2) { dev0 with pwr := { dev0.pwr with wait := [(5, 1)] } } fun t => decide (t.get F.VPA_REGION_STAT_RESULT = 3),
    (let s := st [(F.WRP_STATUS_LOADED, 0, 1)]
     let u := { s with pat := { patW with variant := 0 } }
     nextIs (.regionOff (BitVec.ofNat 4 (regionOf 2))) u (fun t => decide (t.get F.VPA_REGION_STAT_RESULT = 4)) &&
      nextIs (.regionRetain (BitVec.ofNat 4 (regionOf 2))) u fun t => decide (t.get F.VPA_REGION_STAT_RESULT = 4)),
    nextIs (.regionOn 2) (sDom 34 6 1) fun t => decide (t.get F.VPA_REGION_STAT_RESULT = 6),
    nextIs (.regionOff 2) (sDom 34 6 1) fun t => decide (t.get F.VPA_REGION_STAT_RESULT = 6),
    nextIs (.regionRetain 2) (sDom 34 6 1) fun t => decide (t.get F.VPA_REGION_STAT_RESULT = 6),
    nextIs (.regionOn 2) (sDom 18 3 4 [(F.VPA_DOM_STAT_STATE, 2, 3)]) fun t => decide (t.get F.VPA_REGION_STAT_RESULT = 2 ∧ t.pwr.wait = []),
    nextIs (.regionOn 2) (sDom 18 5 4) fun t => decide (t.get F.VPA_REGION_STAT_RESULT = 1 ∧ t.pwr.wait = [(2, 1)] ∧
      t.get F.VPA_DOM_STAT_STATE 2 = 1 ∧ t.get F.VPA_DOM_STAT_STATE 18 = 1),
    nextIs (.regionOff (BitVec.ofNat 4 (regionOf 2))) sA fun t => decide (t.get F.VPA_REGION_STAT_RESULT = 2 ∧ t.tile tA.toNat = Tile.empty),
    (let s := (st [(F.VPA_DOM_STAT_STATE, 16 + regionOf 2, 3)]).setTile tA.toNat uA
     nextIs (.regionRetain (BitVec.ofNat 4 (regionOf 2))) s fun t => decide (t.get F.VPA_REGION_STAT_RESULT = 2 ∧
      (t.tile tA.toNat).scratch = uA.scratch ∧ (t.tile tA.toNat).st = 0 ∧ t.get F.VPA_DOM_STAT_STATE (16 + regionOf 2) = 5)),
    keeps (.droopWarning 2) dev0, keeps (.droopReset 2) dev0, keeps (.droopStretchEnd 2 5) dev0,
    (let s := st [(F.VPA_DOM_STAT_STATE, regionOf 2, 3), (F.VPA_DOM_STAT_STATE, 16 + regionOf 2, 3)] (sA.setTile (tA.toNat + 1) { uA with st := 2 })
     nextIs (.droopWarning 2) s (fun t => decide (t.get F.VPA_DROOP_WARN_EVENTS 2 = 1 ∧ t.pwr.stretch = [2])) &&
      nextIs (.droopReset 2) s fun t => decide (t.get F.VPA_DROOP_RESET_RESETS 2 = 1 ∧ (t.tile tA.toNat).st = 6 ∧ (t.tile (tA.toNat + 1)).st = 2)),
    nextIs (.droopStretchEnd 2 5) { dev0 with pwr := { dev0.pwr with stretch := [2] } } fun t => decide (t.pwr.stretch = [] ∧
      t.get F.VPA_DROOP_STRETCH_CYCLES 2 = 5),
    nextIs .vpaClrCounts (st [(F.VPA_POWER_PMAX, 0, 9), (F.VPA_POWER_PIN, 0, 4), (F.VPA_DROOP_WARN_EVENTS, 59, 3)]) fun t =>
      decide (t = st [(F.VPA_POWER_PIN, 0, 4)])] = true := by
  decide +kernel

def sClk (lost : Bool) (ssc : Option Bool) (tries : SMap Nat) (l : List (Fld × Nat × Nat) := []) : State :=
  let s := st l
  { s with clk := { s.clk with lost := lost, ssc := ssc, tries := tries } }

theorem witness_Clocks : allOf [
    nextIs (.refLoss true 500) dev0 fun t => decide (t.clk.lost = false ∧ t.get F.CLK_REF_STAT_PPM = 500 ∧ t.get F.CLK_STATUS_REF_SUB = 0),
    nextIs (.refLoss true 501) dev0 fun t => decide (t.clk.lost = true ∧ t.get F.CLK_STATUS_REF_SUB = 1 ∧ t.get F.CLK_REF_STAT_LOS_COUNT = 1),
    nextIs (.refLoss true (BitVec.ofInt 16 (-501))) dev0 fun t => decide (t.get F.CLK_STATUS_REF_LOS = 1),
    nextIs (.refLoss false 0) (st [(F.CLK_STATUS_REF_SUB, 0, 1)]) fun t => decide (t.clk.lost = true ∧ t.get F.CLK_REF_STAT_LOS_COUNT = 0),
    nextIs .refRestore (st [(F.CLK_STATUS_REF_SUB, 0, 1)]) fun t => decide (t = dev0),
    keeps .refRestore (sClk true none [] [(F.CLK_STATUS_REF_SUB, 0, 1)]), keeps .refRestore (st [(F.PCK_STATUS_STATE, 0, 1), (F.CLK_STATUS_REF_SUB, 0, 1)]),
    nextIs (.sscOff true) (st [(F.TST_STATUS_TEST_MODE, 0, 1), (F.CLK_STATUS_SSC_ON, 0, 1)]) fun t => decide (t.get F.CLK_CTRL_SSC_OFF = 1 ∧
      t.clk.ssc = some false ∧ t.get F.CLK_STATUS_SSC_ON = 1),
    nextIs (.sscOff true) dev0 fun t => decide (t.get F.CLK_STATUS_SSC_REFUSED = 1 ∧ t.get F.CLK_CTRL_SSC_OFF = 0),
    nextIs (.sscOff false) (st [(F.CLK_STATUS_SSC_ON, 0, 0), (F.CLK_CTRL_SSC_OFF, 0, 1)]) fun t => decide (t.clk.ssc = some true ∧ t.get F.CLK_CTRL_SSC_OFF = 0),
    keeps .sscCrest dev0,
    nextIs .sscCrest (sClk false (some false) [] [(F.CLK_STATUS_SSC_ON, 0, 1)]) fun t => decide (t.get F.CLK_STATUS_SSC_ON = 0 ∧ t.clk.ssc = none),
    nextIs .clkClrCounts (st [(F.CLK_REF_STAT_LOS_COUNT, 0, 2), (F.CLK_REF_STAT_PPM, 0, 3), (F.CLK_PLL_STAT_UNLOCKS, 144, 1),
      (F.CLK_PLL_STAT_STATE, 144, 2), (F.CLK_XCLASS_STAT_OVERRUNS, 8, 4), (F.CLK_SEAM_FILL_NOW, 7, 5), (F.CLK_SEAM_FILL_MAX, 7, 9)]) fun t =>
      decide (t.get F.CLK_REF_STAT_LOS_COUNT = 0 ∧ t.get F.CLK_REF_STAT_PPM = 3 ∧ t.get F.CLK_PLL_STAT_UNLOCKS 144 = 0 ∧
        t.get F.CLK_PLL_STAT_STATE 144 = 2 ∧ t.get F.CLK_XCLASS_STAT_OVERRUNS 8 = 0 ∧ t.get F.CLK_SEAM_FILL_MAX 7 = 5 ∧ t.get F.CLK_SEAM_FILL_MIN 7 = 5),
    keeps (.pllUnlock 7 []) (st [(F.CLK_PLL_STAT_STATE, 7, 1)]), keeps (.pllRelock 7 true 5) (st [(F.CLK_PLL_STAT_STATE, 7, 2)]),
    nextIs (.pllUnlock 144 [3]) (st [(F.CLK_PLL_STAT_STATE, 144, 2)]) fun t => decide (t.get F.CLK_PLL_STAT_STATE 144 = 1 ∧
      t.get F.CLK_PLL_STAT_UNLOCKS 144 = 1 ∧ t.get F.CLK_STATUS_UNLOCK = 1 ∧ t.get F.CLK_STATUS_XOVR = 1),
    nextIs (.pllRelock 7 true 99) (st [(F.CLK_PLL_STAT_STATE, 7, 1)]) fun t => decide (t.get F.CLK_PLL_STAT_STATE 7 = 2 ∧
      t.get F.CLK_PLL_STAT_LOCK_TIME 7 = 99),
    nextIs (.pllRelock 7 false 99) (sClk false none [(7, 1)] [(F.CLK_PLL_STAT_STATE, 7, 1)]) fun t => decide (smGet 0 7 t.clk.tries = 2 ∧
      t.get F.CLK_PLL_STAT_STATE 7 = 1),
    nextIs (.pllRelock 7 false 99) (sClk false none [(7, 2)] [(F.CLK_PLL_STAT_STATE, 7, 1)]) fun t => decide (t.get F.CLK_PLL_STAT_STATE 7 = 3 ∧
      t.clk.stopped = [7] ∧ t.get F.CLK_STATUS_FIELD_FAIL = 1),
    nextIs (.pllRelock 60 false 99) (sClk false none [(60, 2)] [(F.CLK_PLL_STAT_STATE, 60, 1)]) fun t => decide (t.get F.CLK_PLL_STAT_STATE 60 = 3 ∧
      t.clk.stopped = [])] = true := by
  decide +kernel

/-- A reply of the tray: inlet, outlet, flow, status. -/
def tray (inlet outlet flow status : Nat) : List Byte :=
  let b := leBytes 2 inlet ++ leBytes 2 outlet ++ leBytes 2 flow ++ leBytes 1 status
  b ++ leBytes 1 (crc8 b)
def sHc (l : List (Fld × Nat × Nat) := []) : State := st ([(F.BOOT_STATUS_HCA_OK, 0, 1)] ++ l)
/-- A sensor of field 1 that has held its trip value for `n` samples. -/
def sTrip (n : Nat) : State := let s := st [(F.THM_SENS_STAT_TEMP, 37, 1001)]; { s with thm := { s.thm with trip := [(37, n)] } }

theorem witness_Cooling : allOf [
    keeps (.trayRead (tray 1 2 3 0)) dev0,
    nextIs (.trayRead []) sHc fun t => decide (t.get F.THM_COUNTS_TRAY_CRC = 0 ∧ t.thm.valid = false),
    nextIs (.trayRead (zeroBytes 7 ++ [1])) sHc fun t => decide (t.get F.THM_COUNTS_TRAY_CRC = 1),
    nextIs (.trayRead (tray 250 300 700 0)) (sHc [(F.THM_STATUS_STOPPED, 0, 1), (F.THM_STATUS_TRAY_LOST, 0, 1)]) fun t => decide (t.thm.valid = true ∧
      t.get F.THM_TRAY_INLET = 250 ∧ t.get F.THM_TRAY_OUTLET = 300 ∧ t.get F.THM_FLOW_FLOW = 700 ∧ t.get F.THM_STATUS_TRAY_LOST = 0),
    nextIs (.trayRead (tray 250 300 119 0)) sHc fun t => decide (t.thm.stopping = true ∧ t.get F.THM_STATUS_STOPPED = 1),
    keeps .trayLost dev0, keeps .trayLost { st [(F.THM_STATUS_TRAY_LOST, 0, 1)] with timeUs := 60000 },
    nextIs .trayLost { st [(F.THM_CTRL_FORECAST_EN, 0, 1)] with timeUs := 50000 } fun t => decide (t.get F.THM_STATUS_TRAY_LOST = 1 ∧ t.pm.ceilThermal = 2),
    keeps (.sensorSample 1 []) dev0,
    keeps .forecast (st [(F.THM_CTRL_FORECAST_EN, 0, 0)]), decide (dev0.preds = []),
    nextIs .forecast (st [(F.THM_CTRL_FORECAST_EN, 0, 1), (F.THM_STATUS_PARKING, 0, 1)]) fun t => decide (t.get F.THM_STATUS_PARKING = 0),
    decide ((st [(F.VPA_DOM_STAT_STATE, regionOf 0, 3)]).preds.length = 48),
    keeps (.coolantStopDrainEnd true) dev0, keeps (.thermalTrip 1 5) (sTrip 1), keeps .clearStop dev0,
    keeps .clearStop (st [(F.THM_STATUS_STOPPED, 0, 1)]),
    (let s := sRamp [] none ([(F.THM_STATUS_STOPPED, 0, 1)] ++ coolSet); decide (s.coolOk = true))] = true := by
  decide +kernel

/-- A field on, at 100.0 °C with coolant as warm as that and no power: the prediction stands there whatever the resistances are. -/
def sHot (modes : Nat) : State :=
  let s := st [(F.THM_CTRL_FORECAST_EN, 0, 1), (F.VPA_DOM_STAT_STATE, regionOf 0, 3), (F.THM_SENS_STAT_TEMP, 0, 1000), (F.THM_TRAY_INLET, 0, 1000),
    (F.THM_FLOW_FLOW, 0, 600)]
  { s with thm := { s.thm with acted := true }, pat := { s.pat with modes := modes } }

theorem predict_hot (m : Fin 8) : (sHot m).predict 0 false 1 = 100 := by
  have h1 : (sHot m).coolIn = (100, 60) := by decide +kernel +revert
  have h2 : (sHot m).fieldPower 0 = 0 := by decide +kernel +revert
  have h3 : (sHot m).get F.VPA_POWER_PIN = 0 := by decide +kernel +revert
  have h4 : ((sHot m).hotOf 0 false).1 = 1000 := by decide +kernel +revert
  unfold State.predict
  simp only [h1, h2, h3, h4]
  norm_num

theorem witness_hot_prediction : ∀ m : Fin 8, ((sHot m).preds.filter fun p => decide (((sHot m).actOf p.dram : Rat) ≤ p.val)) ≠ [] ∧
    (stepDown 7 (sHot 7).mode (sHot 7).level).isSome = true ∧ stepDown 0 (sHot 0).mode (sHot 0).level = none ∧ (sHot m).reed.skeins = [] ∧
    (sHot m).get F.PCK_CHAIN_ROLE ≠ 2 := by
  intro m
  have hv : (sHot m).vlOn 0 = true := by decide +kernel +revert
  have ha : (sHot m).actOf false = 92 := by decide +kernel +revert
  refine ⟨List.ne_nil_of_mem (a := ⟨(sHot m).predict 0 false 1, 0, false, 1⟩) (List.mem_filter.mpr ⟨?_, ?_⟩), by decide +kernel, by decide +kernel,
    rfl, by decide +kernel +revert⟩
  · refine List.mem_flatMap.mpr ⟨0, by decide +kernel, ?_⟩
    rw [hv]
    exact List.mem_flatMap.mpr ⟨false, by decide, List.mem_map.mpr ⟨1, by decide +kernel, rfl⟩⟩
  · rw [predict_hot, ha]
    decide +kernel

/-! ### Start-up and trust -/

def sVk (l : List (Fld × Nat × Nat) := []) (low : Bool := false) : State :=
  let s := st ([(F.VPA_DOM_STAT_STATE, 54, 3)] ++ l)
  { s with pins := { s.pins with resetLow := low } }
def sDmp : State := { dev0 with dmp := { dev0.dmp with run := some ⟨0, 0, 0, 0, 0⟩ } }

theorem witness_Resets : allOf [
    decide (dev0.dmp.run = none ∧ dev0.spool.swatch = none),
    nextIs .warmReset sDmp fun t => decide (t.trust.resetWait = some (1, 3) ∧ t.get F.BOOT_CTRL_SCOPE = 1),
    keeps .wdog dev0, keeps .wdog { sHc with timeUs := 99999 }, decide (sHc.hcRuns = true ∧ sHc.dmp.run = none ∧ sHc.spool.swatch = none),
    keeps (.resetN false 49) sVk, keeps (.resetN true 50) (sVk [] false),
    nextIs (.resetN false 50) dev0 fun t => decide (t.pins.resetLow = true ∧ t.get F.BOOT_STATUS_STAGE = dev0.get F.BOOT_STATUS_STAGE),
    nextIs (.resetN true 50) (sVk [] true) fun t => decide (t.get F.BOOT_STATUS_STAGE = 1 ∧ t.pins.resetLow = false),
    decide ((sVk [] false).domOn 54 = true), keeps .powerOn sVk, keeps .powerOn (sDom 54 6 0),
    nextIs .powerOn dev0 fun t => decide (t.domOn 54 = true ∧ t.domOk 54 = 4 ∧ t.get F.BOOT_STATUS_LAST_RESET = 0),
    nextIs .powerReset (sDom 54 6 0) fun t => decide (t.get F.VPA_DOM_STAT_STATE 54 = 0), keeps .powerReset dev0,
    keeps .noHc dev0, keeps .noHc (st [(F.BOOT_STATUS_STAGE, 0, 1)]),
    nextIs .noHc (st [(F.BOOT_STATUS_STAGE, 0, 1), (F.BOOT_STATUS_CODE, 0, 3)]) fun t => decide (t.out.length = dev0.out.length + 1)] = true := by
  decide +kernel

/-- Both controllers run, A as the primary; a HOST port is UP. -/
def sTwo (l : List (Fld × Nat × Nat) := []) : State :=
  st ([(F.BOOT_STATUS_HCA_OK, 0, 1), (F.BOOT_STATUS_HCB_OK, 0, 1), (F.BOOT_STATUS_PRIMARY, 0, 0), (F.HLS_PORT_STAT_STATE, 4, 3),
    (F.HLS_PORT_STAT_ROLE, 4, 1)] ++ l)
def stageIs (n : Nat) (l : List (Fld × Nat × Nat) := []) : State := st ([(F.BOOT_STATUS_STAGE, 0, n)] ++ l)

/-- A firmware image of an empty body: its format is right, its keys are not the factory's. -/
def imgA : List Byte := leBytes 4 0x57464348 ++ leBytes 2 1 ++ [3, 1] ++ leBytes 4 0

/-- An image whose keys and digest are right passes wherever both signatures verify. -/
theorem witness_image_accepted (s : State) (img : List Byte) (h1 : fwFormat img = true) (h2 : sha384 (sliceB img 60 97) = s.trust.fwEcdsa)
    (h3 : sha384 (sliceB img 157 60) = s.trust.fwHss) (h4 : sha384 ((img.drop 8192).take (fwLen img)) = sliceB img 12 48)
    (h5 : Config.ecdsaOk (sliceB img 60 97) (fwDigest img) (sliceB img 256 96) = true)
    (h6 : Config.hssOk (sliceB img 157 60) (fwDigest img) (sliceB img 352 3604) = true) (h7 : s.get F.BOOT_SVN_FW_SVN ≤ fwSvn img) :
    s.fwCheck img = 0 := by
  simp [State.fwCheck, h1, h2, h3, h4, h5, h6, Nat.not_lt.mpr h7]

theorem witness_Controllers : allOf [
    keeps (.bootStage [] false) (stageIs 0), keeps (.bootStage [] false) (stageIs 11), keeps (.bootStage [] false) (stageIs 2),
    nextIs (.bootStage [] false) (stageIs 2 [(F.BOOT_STATUS_HCA_OK, 0, 1)]) fun t => decide (t.get F.BOOT_STATUS_STAGE = 3),
    nextIs (.bootStage [] false) (stageIs 4 [(F.VPA_INPUT_VIN, 0, 4400)]) fun t => decide (t.get F.BOOT_STATUS_STAGE = 5),
    keeps (.bootStage [] false) (stageIs 4 [(F.VPA_INPUT_VIN, 0, 4399)]),
    keeps (.bootStage [] false) (stageIs 6 [(F.HLS_PORT_STAT_STATE, 15, 2)]), keeps (.bootStage [] false) (stageIs 7),
    decide ((stageIs 10).ld.load = none),
    (let s := stageIs 10; keeps (.bootStage [] false) { s with ld := { s.ld with load := some (1, 0) } }),
    nextIs (.bootStage [0, 1, 2, 3] false) (stageIs 1) fun t => decide (t.get F.BOOT_STATUS_STAGE = 1 ∧ t.get F.BOOT_STATUS_CODE = 1 ∧
      t.get F.BOOT_STATUS_HCA_OK = 0),
    keeps (.stateMirror true) dev0,
    nextIs (.stateMirror true) { sTwo with timeUs := 7 } fun t => decide (t.trust.beat = 7 ∧ t.trust.mirror = some ([], 0, 0)),
    nextIs (.stateMirror false) sTwo fun t => decide (t.trust.retried = true ∧ t.hcUp 1 = true),
    nextIs (.stateMirror false) { sTwo with trust := { sTwo.trust with retried := true } } fun t => decide (t.hcUp 1 = false ∧ t.primary = 0),
    keeps .takeover dev0, keeps .takeover { sTwo with timeUs := 999 },
    nextIs .takeover { sTwo with timeUs := sTwo.beatLimit, trust := { sTwo.trust with mirror := some ([reqA], 5, 6) } } fun t =>
      decide (t.primary = 1 ∧ t.get F.BOOT_STATUS_TAKEOVER = 1 ∧ t.hcUp 0 = false ∧ t.nvw.queue = [reqA] ∧ t.bcn.bseq = 5),
    keeps (.fwImageWrite true imgA false false) dev0,
    nextIs (.fwImageWrite false imgA false false) sTwo fun t => decide (t.get F.BOOT_FW_STAT_RESULT = 4),
    nextIs (.fwImageWrite true imgA true false) sTwo fun t => decide (t.get F.BOOT_FW_STAT_RESULT = 8),
    nextIs (.fwImageWrite true imgA false false) (st [] sHc) fun t => decide (t.get F.BOOT_FW_STAT_RESULT = 8),
    nextIs (.fwImageWrite true [1] false false) sTwo fun t => decide (t.get F.BOOT_FW_STAT_RESULT = 5),
    nextIs (.fwImageWrite true imgA false true) sTwo fun t => decide (t.get F.BOOT_FW_STAT_RESULT = 9 ∧ smGet [] 3 t.trust.banks = imgA),
    nextIs (.fwImageWrite true imgA false false) sTwo fun t => decide (t.get F.BOOT_FW_STAT_RESULT = 6 ∧ smGet [] 3 t.trust.banks = imgA),
    keeps (.restartStby []) dev0, keeps .swapRoles dev0,
    nextIs .swapRoles sHc fun t => decide (t.get F.BOOT_FW_STAT_RESULT = 4),
    nextIs .swapRoles { sTwo with trust := { sTwo.trust with handoff := [(1, 2)] } } fun t => decide (t.get F.BOOT_FW_STAT_RESULT = 11),
    nextIs .swapRoles { sTwo with trust := { sTwo.trust with report := true } } fun t => decide (t.get F.BOOT_FW_STAT_RESULT = 3),
    nextIs .swapRoles sTwo fun t => decide (t.primary = 1 ∧ t.get F.WRP_STATUS_PRIMARY = 1 ∧ t.get F.BOOT_FW_STAT_RESULT = 2),
    nextIs .commitSvn (sTwo [(F.BOOT_SVN_RUN_A, 0, 4), (F.BOOT_SVN_RUN_B, 0, 3)]) fun t => decide (t.get F.BOOT_FW_STAT_RESULT = 12),
    nextIs .commitSvn (sTwo [(F.BOOT_SVN_RUN_A, 0, 4), (F.BOOT_SVN_RUN_B, 0, 4)]) fun t => decide (t.get F.BOOT_SVN_FW_SVN = 4 ∧
      t.get F.BOOT_FW_STAT_RESULT = 2)] = true := by
  decide +kernel

/-- An index of the signing key. -/
def sLms (next : Nat) (trees : Nat) (l : List (Fld × Nat × Nat) := []) : State :=
  let s := sTwo l
  { s with trust := { s.trust with lmsNext := next, lmsEnd := next, trees := trees } }
def keyA : List Byte := 4 :: List.replicate 156 7
def sKeyed : State := { sTwo with trust := { sTwo.trust with patKey := keyA } }

/-- A new key is taken wherever its signatures verify under the old one. -/
theorem witness_key_accepted (s : State) (r : List Byte) (h1 : 3858 ≤ r.length) (h2 : s.get F.BOOT_SVN_KEY_EPOCH < 15)
    (h3 : recN r 157 1 = s.get F.BOOT_SVN_KEY_EPOCH + 1) (h4 : Config.ecdsaOk (s.trust.patKey.take 97) (sha384 (r.take 158)) (sliceB r 158 96) = true)
    (h5 : Config.hssOk (s.trust.patKey.drop 97) (sha384 (r.take 158)) (sliceB r 254 3604) = true) : s.enrollChecked r = 2 := by
  simp [State.enrollChecked, h3, h4, h5, Nat.not_lt.mpr h1, Nat.not_le.mpr h2]

theorem witness_Attestation : allOf [
    keeps .report dev0, keeps (.enroll keyA) dev0, keeps .rekey dev0, keeps .cert dev0, keeps .rekeyComplete dev0, keeps .lmsTreeBuildComplete dev0,
    nextIs .report { sTwo with trust := { sTwo.trust with report := true } } fun t => decide (t.get F.ATT_STATUS_RESULT = 3),
    nextIs .report (sLms 0 0) fun t => decide (t.get F.ATT_STATUS_RESULT = 3 ∧ t.trust.report = false),
    nextIs .report (sLms lmsTop 1048576) fun t => decide (t.get F.ATT_STATUS_RESULT = 4),
    nextIs .report (let s := sLms 0 1; s.set F.HLS_PORT_STAT_STATE 1 4) fun t => decide (t.get F.ATT_STATUS_RESULT = 5),
    nextIs .report (sLms 0 1) fun t => decide (t.get F.ATT_STATUS_RESULT = 1 ∧ t.trust.report = true ∧ t.trust.lmsNext = 1 ∧ t.trust.lmsEnd = 4096 ∧
      t.get F.ATT_COUNT_REPORTS = 1 ∧ t.out.length = 3),
    nextIs (.enroll keyA) (sTwo [(F.PCK_STATUS_STATE, 0, 1)]) fun t => decide (t.get F.ATT_STATUS_RESULT = 3),
    nextIs (.enroll keyA) sHc fun t => decide (t.get F.ATT_STATUS_RESULT = 5),
    nextIs (.enroll [5]) sTwo fun t => decide (t.get F.ATT_STATUS_RESULT = 8),
    nextIs (.enroll (keyA ++ [9])) sTwo fun t => decide (t.get F.ATT_STATUS_RESULT = 2 ∧ t.trust.patKey = keyA),
    nextIs (.enroll keyA) sKeyed fun t => decide (t.get F.ATT_STATUS_RESULT = 8 ∧ t.trust = sKeyed.trust),
    nextIs (.enroll (keyA ++ List.replicate 3701 2)) sKeyed fun t => decide (t.get F.ATT_STATUS_RESULT = 7),
    nextIs .rekey { sTwo with trust := { sTwo.trust with report := true } } fun t => decide (t.get F.ATT_STATUS_RESULT = 3),
    nextIs .rekey sTwo fun t => decide (t.get F.ATT_STATUS_RESULT = 11),
    nextIs .rekey (sLms lmsTop 0 [(F.ATT_STATUS_REKEYS, 0, 15)]) fun t => decide (t.get F.ATT_STATUS_RESULT = 9),
    nextIs .rekey (let s := sLms lmsTop 0; s.set F.HLS_PORT_STAT_STATE 1 4) fun t => decide (t.get F.ATT_STATUS_RESULT = 5),
    nextIs .rekey (sLms lmsTop 0) fun t => decide (t.get F.ATT_STATUS_REKEY_BUSY = 1 ∧ t.get F.ATT_STATUS_RESULT = 1),
    keeps .rekeyComplete sTwo,
    nextIs .rekeyComplete (sTwo [(F.ATT_STATUS_REKEY_BUSY, 0, 1)]) fun t => decide (t.get F.ATT_STATUS_REKEYS = 1 ∧ t.get F.ATT_STATUS_REKEY_BUSY = 0 ∧
      t.trust.keys = sTwo.trust.keys + 1 ∧ t.out.length = 1),
    nextIs .cert sTwo fun t => decide (t.get F.ATT_STATUS_RESULT = 8),
    nextIs .cert (sTwo [(F.ATT_CERT_SEL_INDEX, 0, 2), (F.ATT_STATUS_REKEYS, 0, 1)]) fun t => decide (t.get F.ATT_STATUS_RESULT = 8),
    nextIs .cert (sHc [(F.ATT_CERT_SEL_INDEX, 0, 1), (F.ATT_STATUS_REKEYS, 0, 1)]) fun t => decide (t.get F.ATT_STATUS_RESULT = 5),
    (let s := sTwo [(F.ATT_CERT_SEL_INDEX, 0, 1), (F.ATT_STATUS_REKEYS, 0, 1)]
     nextIs .cert { s with trust := { s.trust with certs := [[7, 8]] } } fun t => decide (t.get F.ATT_STATUS_RESULT = 2 ∧ t.out = [.memWr 4 2 0 [7, 8]])),
    keeps .lmsTreeBuildComplete (sLms (2 ^ 19 - 1) 1),
    nextIs .lmsTreeBuildComplete (sLms (2 ^ 19) 1) fun t => decide (t.trust.trees = 2)] = true := by
  decide +kernel

/-! ### The register path, the sentinel and the check values -/

/-- The worked example that follows R549: the check values of "123456789" in the five settings. -/
theorem test_check_values :
    let m : List Byte := [0x31, 0x32, 0x33, 0x34, 0x35, 0x36, 0x37, 0x38, 0x39]
    crc32c m = 0xE3069283 ∧ crc32 m = 0xCBF43926 ∧ crc16 m = 0x29B1 ∧ crc8 m = 0xF4 ∧ crc64 m = 0x6C40DF5F0B497347 := by
  decide +kernel

/-- The alias addresses that chapter 16 works out: SKN_CTRL.ADMIT_EN and PCK_STATUS.DONE_TIMEOUT. -/
theorem test_alias_addresses : placeOf 0x02600080 = .bits F.SKN_CTRL_ADMIT_EN.reg F.SKN_CTRL_ADMIT_EN.lo ∧
    placeOf 0x02400038 = .bits F.PCK_STATUS_DONE_TIMEOUT.reg F.PCK_STATUS_DONE_TIMEOUT.lo := by
  decide +kernel

/-- The lists of addresses in the statement name registers, and the clauses about RES-L bits have a word each way. -/
theorem witness_register_rows : allOf [
    [R.HC_SCRATCH, R.ATT_NONCE, R.TST_CAP_ADDR_HI, R.PCK_STATUS, R.DMP_STATUS, R.PCK_LAG_BOUND, R.NVW_THRESH].all fun a => (regRow? a).isSome,
    decide (regRow? 2 = none ∧ regRow? 0x93FFC = none ∧ cvuFirmAt R.PCK_LAG_BOUND = false ∧ R.PCK_LAG_BOUND < 0x110000),
    decide (dev0.latch = []), (regRow? R.HC_SCRATCH).any fun r => bitAt r.rw 31,
    (regRow? R.ATT_CERT_SEL).any fun r => bitAt r.rw 0 && !(bitAt r.rw 31)] = true := by
  decide +kernel

theorem witness_resl_fault : ∃ a r, a % 4 = 0 ∧ a < 0x94000 ∧ regRow? a = some r ∧ cvuFirmAt a = false ∧
    (Nat.land 0 r.resl ≠ reslBits a r ∨ Nat.land 0xFFFFFFFF r.resl ≠ reslBits a r) ∧
    ∃ b q, b ∈ [R.PCK_LAG_BOUND, R.PCK_DONE_LIMIT, R.WFT_WDOG, R.NVW_THRESH] ∧ regRow? b = some q ∧ Nat.land 5 q.resl = reslBits b q := by
  refine ⟨R.SNT_CTRL, _, by decide, by decide, rfl, by decide, ?_, R.PCK_LAG_BOUND, _, by decide, rfl, ?_⟩
  · by_contra h
    simp only [ne_eq, not_or, not_not] at h
    exact absurd (h.1.trans h.2.symm) (by decide +kernel)
  · unfold reslBits
    exact (Nat.and_zero _).trans (Nat.and_zero _).symm

theorem witness_RegisterAccess : allOf [
    nextIs (.registerWrite 6 [1, 2, 3, 4]) dev0 fun t => decide (t.get F.HC_ACC_PARTIAL = 1 ∧ t.get F.HC_ACC_CAP_ADDR = 6 ∧ t.get F.HC_ACC_CAP_WRITE = 1),
    nextIs (.registerWrite 4 [1, 2, 3, 4, 5]) dev0 fun t => decide (t.get F.HC_ACC_PARTIAL = 1),
    nextIs (.registerWrite 0x93FFC [1, 2, 3, 4]) dev0 fun t => decide (t.get F.HC_ACC_UNMAPPED = 1 ∧ t.get F.HC_ACC_CAP_ADDR = 0x93FFC),
    keeps (.regWr 2 0 [1]) (sPort 4 1), keeps (.regRd 2 9 0 3) (sPort 1 1),
    nextIs (.regWr 2 0 [1]) (sPort 3 2) fun t => decide (t.get F.HLS_STATUS_REG_ERR = 1),
    nextIs (.regRd 2 9 0 3) (sPort 3 2) fun t => decide (t.out = [.regCpl 2 9 3 [255, 255, 255, 255]]),
    nextIs (.regWr 2 2 [1]) (sPort 3 1) fun t => decide (t.get F.HC_ACC_PARTIAL = 1),
    decide ((sPort 3 1).portState 2 = 3 ∧ (sPort 3 1).portRole 2 = 1),
    nextIs .hcClrCounts (st [(F.HC_ACC_PARTIAL, 0, 4), (F.HC_ACC_CAP_VALID, 0, 1)]) fun t => decide (t = dev0),
    nextIs .hcTimeLoRead { dev0 with timeUs := 2 ^ 33 + 5 } fun t => decide (t.latch = [(R.HC_TIME_HI, some 2)])] = true := by
  decide +kernel

/-- Blocks 1 and 2 in a sweep, a reference in force for the first. -/
def idA : Nat := segBlock 1
def sSnt (sweep : List Nat) (ref : Nat) (capture fresh : List Nat) (l : List (Fld × Nat × Nat) := []) : State :=
  let s := st ([(F.SNT_CTRL_EN, 0, 1), (F.BOOT_STATUS_HCA_OK, 0, 1)] ++ l)
  { s with snt := { s.snt with sweep := sweep, round := sweep, refs := if ref = 0 then [] else [(idA, ref)], capture := capture, fresh := fresh } }
def crcA : Nat := (sSnt [] 0 [] [] [(F.SNT_STATUS_REF_VALID, 0, 1)]).segCrc idA

theorem witness_Sentinel : allOf [
    keeps (.sentinelSweep []) dev0, keeps (.sentinelSweep []) (st [(F.SNT_CTRL_EN, 0, 0), (F.BOOT_STATUS_HCA_OK, 0, 1)]),
    decide ((sSnt [] 0 [idA] []).segments.Nodup ∧ idA ∈ (sSnt [] 0 [idA] []).segments ∧ (sSnt [] 0 [idA] []).segOn idA = true),
    nextIs (.sentinelSweep []) (sSnt [] 0 [idA] []) fun t => decide (t.snt.fresh = [idA] ∧ t.snt.sweep = (sSnt [] 0 [idA] []).segments),
    keeps (.segmentSweepEnd 5) dev0,
    keeps (.segmentSweepEnd 5) { (sSnt [5] 0 [] []).setTile 5 { uA with st := 6 } with timeUs := 0 },
    nextIs (.segmentSweepEnd (BitVec.ofNat 24 idA)) (sSnt [idA, segBlock 2] (crcA + 1) [] [] [(F.SNT_STATUS_REF_VALID, 0, 1)]) fun t =>
      decide (t.snt.sweep = [segBlock 2] ∧ smGet 0 idA t.snt.vals = crcA + 1 ∧ t.get F.SNT_STATUS_MISMATCH = 0),
    nextIs (.segmentSweepEnd (BitVec.ofNat 24 idA)) (sSnt [idA, segBlock 2] (crcA + 2) [] [] [(F.SNT_STATUS_REF_VALID, 0, 1), (F.SKN_CTRL_ADMIT_EN, 0, 1)])
      fun t => decide (t.get F.SNT_STATUS_MISMATCH = 1 ∧ t.get F.SKN_CTRL_ADMIT_EN = 0 ∧ t.get F.SNT_CAP0_SEGMENT = idA ∧ t.get F.SNT_CAP1_CRC = crcA),
    nextIs (.segmentSweepEnd (BitVec.ofNat 24 idA)) (sSnt [idA, segBlock 2] (crcA + 2) [] [] [(F.SNT_STATUS_REF_VALID, 0, 1), (F.SNT_CAP0_VALID, 0, 1)])
      fun t => decide (t.get F.SNT_MISMATCHES_COUNT = 1 ∧ t.get F.SNT_CAP0_SEGMENT = 0),
    nextIs (.segmentSweepEnd (BitVec.ofNat 24 idA)) (sSnt [idA] (crcA + 1) [] [] [(F.SNT_STATUS_REF_VALID, 0, 1), (F.SNT_STATUS_MISMATCH, 0, 1)])
      fun t => decide (t.snt.sweep = [] ∧ t.get F.SNT_STATUS_MISMATCH = 0 ∧ t.get F.SNT_SWEEPS_SWEEPS = 1),
    nextIs (.segmentSweepEnd (BitVec.ofNat 24 idA)) (sSnt [idA] 0 [idA] [idA] [(F.SNT_STATUS_CAPTURING, 0, 1)]) fun t =>
      decide (t.get F.SNT_STATUS_REF_VALID = 1 ∧ t.get F.SNT_STATUS_CAPTURING = 0 ∧ t.snt.capture = [] ∧ (smGet 0 idA t.snt.refs) ≠ 0),
    nextIs .commitReference dev0 fun t => decide (t.get F.SNT_STATUS_CAPTURING = 1 ∧ t.snt.capture = dev0.segments),
    nextIs (.sntEn true) (st [(F.SNT_CTRL_EN, 0, 0)]) fun t => decide (t.get F.SNT_CTRL_EN = 1),
    keeps (.sntEn false) dev0,
    nextIs (.sntEn false) (st [(F.SNT_CTRL_EN, 0, 1), (F.TST_STATUS_TEST_MODE, 0, 1)]) fun t => decide (t.get F.SNT_CTRL_EN = 0),
    nextIs .sntClrCounts (st [(F.SNT_SWEEPS_SWEEPS, 0, 4), (F.SNT_CAP0_VALID, 0, 1), (F.SNT_CAP1_CRC, 0, 9)]) fun t => decide (t = dev0),
    nextIs (.sntSegSelWrite (BitVec.ofNat 32 idA)) (sSnt [] 8 [] []) fun t => decide (t.get F.SNT_SEG_SEL_SEGMENT = idA ∧ t.get F.SNT_SEG_REF_REF = 7)]
    = true := by
  decide +kernel

/-- Channel 0 as the reset leaves it computes CRC-32C: nine bytes by one, two, four and two. -/
theorem test_cvu_channel :
    (let s1 := run (.cvuCfgWrite 0 0x80000720) dev0
     let s2 := run (.cvuData8 0 0x31) s1
     let s3 := run (.cvuData32 0 0x35343332) s2
     let s4 := run (.cvuData16 0 0x3736) s3
     let s5 := run (.cvuData16 0 0x3938) s4
     decide (s5.get F.CVU_RESULT_LO_RESULT_LO = 0xE3069283 ∧ s5.get F.CVU_COUNT_BYTES = 9)) = true := by
  decide +kernel

theorem witness_CheckValues : allOf [
    decide ((0 : Fin 64).val % 16 < 12 ∧ 12 ≤ (60 : Fin 64).val % 16),
    nextIs (.cvuCfgWrite 59 0x80000000) dev0 fun t => decide (t.get (F.CVU_CFG_WIDTH.nth 59) = 0 ∧ t.get (F.CVU_COUNT_BYTES.nth 59) = 0),
    nextIs (.cvuCfgWrite 60 0) dev0 fun t => decide (t.get F.HC_ACC_UNMAPPED = 1), nextIs (.cvuData8 63 1) dev0 fun t => decide (t.get F.HC_ACC_UNMAPPED = 1),
    nextIs (.cvuResultLoRead 3) dev0 fun t => decide (t.latch = [(R.CVU_RESULT_HI + 192, some (dev0.reg (R.CVU_RESULT_HI + 192)))])] = true := by
  decide +kernel

/-! ### Faults, dumps and test mode -/

def msgA : FaultMsg := ⟨14, 6, 4, 2, 0, 0, 0, false, false⟩
def sTelem (l : List FaultMsg) : State := { sHc with flt := { sHc.flt with telem := l } }

/-- A dump of 5 bytes in segment 3 of the pen, selected; the host's buffer holds one page. -/
def sPen (l : List (Fld × Nat × Nat) := []) : State :=
  let s := sPort 3 1 ([(F.DMP_PEN_SEL_SEG, 0, 3), (F.HLS_DUMP_SIZE_SIZE, 0, 1)] ++ l)
  { s with dmp := { s.dmp with pen := [(3, some (false, [1, 2, 3, 4, 5]))] } }

theorem witness_FaultsAndDumps : allOf [
    (let t := dev0.raise 14 6 4 2 0 false
     let u := t.raise 14 6 4 2 0 false
     decide (t.flt.telem = [msgA] ∧ u.flt.telem = [msgA] ∧ u.get F.DMP_SUPPRESSED_COUNT = 1 ∧ u.get F.DMP_STATUS_SUPPRESSED = 1)),
    keeps .faultRecord dev0, keeps .faultRecord sHc, keeps .faultRecord { sTelem [msgA] with bank := dev0.bank },
    nextIs .faultRecord (sTelem [msgA, msgA]) fun t => decide (t.flt.telem = [msgA] ∧ t.flt.log = [(1, msgA)] ∧ t.get F.DMP_FSEQ_FSEQ = 1),
    keeps (.fatalHalt 0 none) dev0, keeps (.fatalHalt 0 none) { sDmp with timeUs := 4 }, keeps (.dmpFatal none) dev0,
    decide ((sTwo [(F.HLS_DUMP_SIZE_SIZE, 0, 1), (F.TST_STATUS_TEST_MODE, 0, 1)]).hostPorts ≠ [] ∧
      (sTwo [(F.HLS_DUMP_SIZE_SIZE, 0, 1), (F.TST_STATUS_TEST_MODE, 0, 1)]).testMode = true ∧ sTwo.hcRuns = true ∧ sTwo.dmp.run = none),
    keeps (.dumpTimeout 5) dev0, decide (sDmp.dmp.run ≠ none ∧ sDmp.trust.resetWait = none),
    nextIs (.fetch []) sDmp fun t => decide (t.get F.DMP_STATUS_RESULT = 3), nextIs .erase sDmp fun t => decide (t.get F.DMP_STATUS_RESULT = 3),
    nextIs (.fetch []) dev0 fun t => decide (t.get F.DMP_STATUS_RESULT = 4), nextIs .erase dev0 fun t => decide (t.get F.DMP_STATUS_RESULT = 4),
    nextIs .erase sPen fun t => decide (t.get F.DMP_STATUS_RESULT = 2 ∧ t.dmp.pen = []),
    nextIs (.fetch []) (sPen [(F.HLS_PORT_STAT_STATE, 2, 1)]) fun t => decide (t.get F.DMP_STATUS_RESULT = 5),
    nextIs (.fetch []) (sPen [(F.HLS_DUMP_SIZE_SIZE, 0, 0)]) fun t => decide (t.get F.DMP_STATUS_RESULT = 5),
    nextIs (.fetch []) sPen fun t => decide (t.dmp.fetch = some 2 ∧ t.out = [.memWr 2 2 0 [1, 2, 3, 4, 5], .flush 2 2 0 0]),
    nextIs (.fetch [0]) sPen fun t => decide (t.dmp.fetch = some 7 ∧ t.out = [.memWr 2 2 0 [0, 0, 0, 0, 0], .flush 2 2 0 0]),
    decide (sPen.penPower 3 = true),
    nextIs .dmpClrCounts (st [(F.DMP_SUPPRESSED_COUNT, 0, 3)]) fun t => decide (t = dev0)] = true := by
  decide +kernel

/-- A home channel of segment 3 in the pattern: VM off there stops a fetch. -/
theorem witness_pen_power (s : State) (fc : Nat × Nat) (h : fc ∈ s.pat.homes 3) (hm : s.vmOn fc.1 = false) : s.penPower 3 = false := by
  unfold State.penPower
  exact List.all_eq_false.mpr ⟨fc, h, by simp [hm]⟩

def sTst (l : List (Fld × Nat × Nat) := []) (armed : Option (Inj × Nat) := none) : State :=
  let s := sTwin ([(F.TST_STATUS_TEST_MODE, 0, 1)] ++ l)
  { s with flt := { s.flt with armed := armed } }
def sBist (tiles : SMap Tile) (run : Option Nat := none) : State :=
  let s := st [(F.VPA_DOM_STAT_STATE, regionOf 2, 3), (F.VPA_DOM_STAT_STATE, 16 + regionOf 2, 3)]
  { s with tiles := tiles, dmp := { s.dmp with bist := run } }
def r2 : BitVec 4 := BitVec.ofNat 4 (regionOf 2)

theorem witness_TestMode : allOf [
    nextIs (.testMode true) dev0 fun t => decide (t.get F.TST_STATUS_TEST_MODE = 1 ∧ t.get F.TST_STATUS_RESULT = 2),
    nextIs (.testMode true) (st [(F.PCK_STATUS_STATE, 0, 1)]) fun t => decide (t.get F.TST_STATUS_TEST_MODE = 0 ∧ t.get F.TST_STATUS_RESULT = 4),
    nextIs (.testMode false) (st [(F.TST_STATUS_TEST_MODE, 0, 1), (F.TST_CTRL_TEST_MODE, 0, 1), (F.SNT_CTRL_EN, 0, 0)]) fun t =>
      decide (t.get F.TST_STATUS_TEST_MODE = 0 ∧ t.get F.SNT_CTRL_EN = 1 ∧ t.get F.CLK_STATUS_SSC_ON = 1),
    keeps (.mgmtRx [1]) dev0, nextIs (.mgmtRx [1]) (sTst []) fun t => decide (t.pins.mgmtIn = [1]),
    nextIs (.injectionArm 1 1 tA) sTwin fun t => decide (t.get F.TST_INJ_STAT_RESULT = 6 ∧ t.flt.armed = none),
    nextIs (.injectionArm 7 1 tA) sTst fun t => decide (t.get F.TST_INJ_STAT_RESULT = 7),
    nextIs (.injectionArm 4 1 0x78000) sTst fun t => decide (t.get F.TST_INJ_STAT_RESULT = 7),
    nextIs (.injectionArm 1 1 tA) (sTst [] (some (⟨1, 1, 1⟩, 0))) fun t => decide (t.get F.TST_INJ_STAT_RESULT = 4),
    nextIs (.injectionArm 5 1 0) sTst fun t => decide (t.get F.TST_INJ_STAT_RESULT = 5),
    nextIs (.injectionArm 1 0 tA) (sTst [(F.TST_INJ_PICK_PICK_LO, 0, 9)]) fun t => decide (t.get F.TST_INJ_STAT_RESULT = 1 ∧
      t.flt.armed = some (⟨1, tA.toNat, 1⟩, 9)),
    nextIs (.captureArm 7) { sTwo with reed := { sTwo.reed with capture := some (1, 1) } } fun t => decide (t.get F.TST_CAP_STAT_RESULT = 4),
    nextIs (.captureArm 7) dev0 fun t => decide (t.get F.TST_CAP_STAT_RESULT = 8),
    nextIs (.captureArm 7) (sTwo [(F.TST_CAP_POS_POS, 0, 5)]) fun t => decide (t.get F.TST_CAP_STAT_RESULT = 1 ∧ t.reed.capture = some (7, 5)),
    nextIs (.bist r2) (sBist [] (some 1)) fun t => decide (t.get F.TST_BIST_STAT_RESULT = 4),
    nextIs (.bist r2) dev0 fun t => decide (t.get F.TST_BIST_STAT_RESULT = 5),
    nextIs (.bist r2) (sBist [(tA.toNat, uA)]) fun t => decide (t.get F.TST_BIST_STAT_RESULT = 7),
    nextIs (.bist r2) (sBist [(tA.toNat, { uA with st := 0 })]) fun t => decide (t.get F.TST_BIST_STAT_RESULT = 1 ∧ t.dmp.bist = some (regionOf 2)),
    keeps (.bistComplete [tA]) dev0,
    nextIs (.bistComplete [0, tA]) (sBist [(tA.toNat, { uA with st := 0 })] (some (regionOf 2))) fun t => decide (t.get F.TST_BIST_STAT_RESULT = 3 ∧
      t.get F.TST_BIST_STAT_FIRST_FAIL = tA.toNat ∧ t.get F.TST_BIST_COUNT_FAILED = 1 ∧ t.get F.TST_BIST_COUNT_TESTED = 18432 ∧
      (t.tile tA.toNat).scratch = [] ∧ t.dmp.bist = none)] = true := by
  decide +kernel

/-! ### The whole machine -/

theorem witness_CanonicalKept : canonical State.reset ∧ canonical sA ∧
    (match step { sA with pending := [.mul tA 3 1 1] } with | .next _ => true | _ => false) = true := by
  unfold canonical; decide +kernel

theorem witness_NoRefusals : (Instr.mul tA 3 1 1).wf = true ∧ faults .noTile (.mul 0x7FFFF 3 1 1) dev0 = true := by
  decide +kernel

/-! ### Worked examples of the spec -/

/-- The block of the narrowing example of chapter 3. -/
def exBlock : List Int :=
  (rangeFrom 0 32).map fun i => if i = 5 then 80000 else if i = 12 then -76000 else if i = 20 then 70000 else if i % 2 = 0 then 600 else -600

/-- Chapter 3, narrowing a block with three large values. -/
theorem test_narrow_example :
    let n := narrow 0x81 2 4 (-20) exBlock
    n.e = -11 ∧ n.clamps = 1 ∧ n.outliers = [(5, 156), (12, -148)] ∧ (n.outliers.map fun o => outlierWord 0 o.1 o.2) = [0x0005009C, 0x000CFF6C] ∧
      (narrowBytes 0x81 n).take 7 = [0xF5, 0x01, 0xFF, 0x01, 0xFF, 0x01, 0x80] ∧ ((narrowBytes 0x81 n).drop 13).take 1 = [0x80] ∧
      ((narrowBytes 0x81 n).drop 21).take 1 = [0x7F] := by
  decide +kernel

/-- Chapter 3, one LINEN output: the pass, the fold in two orders, the residual and the narrowing. -/
theorem test_linen_example :
    let p := blockSum ((rangeFrom 0 32).map fun i => (i, if i % 2 = 0 then (3 : Int) else -2)) fun i => 1000 + (i : Int)
    p = 16208 ∧ scaledSum p (-18) (-20) = 64832 ∧ foldValue 64832 4 = 1037312 ∧ foldAdd (foldAdd 1037312 (-2500000)) 1750000 = 287312 ∧
      foldAdd (foldAdd 1750000 (-2500000)) 1037312 = 287312 ∧ residualAdd 287312 2000 (-19) (-24) = (351312, false) ∧
      (narrow 0x83 0 0 (-24) [351312, 1200000]).e = -18 ∧ (narrow 0x83 0 0 (-24) [351312, 1200000]).m = [0x1571, 18750] := by
  decide +kernel

/-- Chapter 7, one sampled token: the weights of the three candidates. -/
theorem test_sampling_example : expNat exp2Table 0 = 65536 ∧ expNat exp2Table (-45426) = 32768 ∧ expNat exp2Table (-90852) = 16384 := by
  decide +kernel

/-- Chapter 10, the A0 fragment's table: the loader takes it, and refuses one that declares MUL at 2. -/
theorem test_timing_example : timingBad 1 [(1, 1), (2, 4), (3, 2), (4, 3)] = none ∧ timingBad 3 [(1, 1), (2, 2)] = some 2 ∧
    timingBad 1 [(4, 3), (4, 3)] = some 4 := by
  decide +kernel

/-- The fixed-slot clock of that fragment: an A0 part's MUL of 5 and 6 issued at P 1 is due at P 5. -/
theorem test_fixed_slot_mul :
    tileIs (.mul tA 6 2 3) { uA with g := [(2, 5), (3, 6), (6, 9)], p := 1 } (fun v => decide (tReg 6 v = 9 ∧ v.pendRes = [⟨5, 1, 6, 30⟩] ∧ v.p = 2))
      { dev0 with pat := { dev0.pat with stepping := 1, timing := [(1, 1), (2, 4), (3, 2), (4, 3)] } } = true := by
  decide +kernel

/-- Chapter 12, a third phase of a region of four fields: 13 phases allow depth 1. -/
theorem test_phase_example : domFields 6 = 4 ∧ allowedDepth 6 13 = 1 ∧ allowedDepth 6 14 = 0 := by
  decide +kernel

/-! ### Ill-formed commands -/

/-- A term that each check of `Instr.wf` refuses, and one that it lets pass. -/
theorem test_wf_refuses : [
    (Instr.mul tBad 1 1 1).wf, (Instr.turnEnd tBad2).wf, (Instr.linkRetrain tBad 0).wf, (Instr.regWr 0 0 []).wf, (Instr.registerWrite 0 []).wf,
    (Instr.pass tA 1 .mac [(0x30000, 1)]).wf, (Instr.strobeReceive 0 (copyOf 1) [] (copyOf 1)).wf, (Instr.chainTiming 0 [] 0 0 0 false).wf,
    (Instr.handoff 0 0 0 (zeroBytes 1057) 0).wf, (Instr.flitReceive tA 0 (zeroBytes 127) 0).wf, (Instr.flitReceive tBad 0 (zeroBytes 128) 0).wf,
    (Instr.seamTrainingComplete 0 127 true).wf, (Instr.congestionMap [(tA, 0), (tBad, 0)]).wf, (Instr.loadComplete []).wf, (Instr.warpMessage 0 []).wf,
    (Instr.sensorSample 0 []).wf, (Instr.enroll (zeroBytes 156)).wf, (Instr.sentinelSweep [(tBad, 0, 0)]).wf, (Instr.bistComplete [tBad2]).wf,
    (Instr.reedPosition (zeroBytes 32769) []).wf, (Instr.reedPosition [] (List.replicate 130 [])).wf].all
      (fun b => !b) = true := by
  decide +kernel

theorem test_wf_accepts : [
    (Instr.mul tA 1 1 1).wf, (Instr.linkRetrain tA 0).wf, (Instr.regWr 0 0 [0]).wf, (Instr.pass tA 1 .mac [(0x2FFFF, 1)]).wf,
    (Instr.strobeReceive 0 (copyOf 1) (copyOf 2) (copyOf 1)).wf, (Instr.chainTiming 0 (zeroBytes 32) 0 0 0 false).wf,
    (Instr.handoff 0 0 0 (zeroBytes 1056) 0).wf, (Instr.flitReceive tA 0 (zeroBytes 128) 0).wf, (Instr.reedPosition [] []).wf, (Instr.seamTrainingComplete 0 0 true).wf,
    (Instr.congestionMap [(tA, 0)]).wf, (Instr.loadComplete (zeroBytes 60)).wf, (Instr.warpMessage 0 (copyOf 1)).wf,
    (Instr.sensorSample 0 (List.replicate 26 0)).wf, (Instr.enroll (zeroBytes 157)).wf, (Instr.sentinelSweep [(tA, 0, 0)]).wf,
    (Instr.bistComplete [tA]).wf, Instr.pckRun.wf].all id = true := by
  decide +kernel

/-- The statement about reset speaks of states without a command waiting. -/
theorem witness_StateAfterReset : dev0.pending = [] := rfl

end Sys2Proof.Tests
end

section
/-!
PROOFS. How a command can end: a next state, or a fault of a short list. The shared operations say once which faults they raise
(`onTile`, `seqRun`, `seqMeet`, `State.blockWrite`, `State.twinWrite`); every command follows from the operation that its meaning calls.
-/
namespace Sys2Proof.Machine

/-- The outcome is a next state or one of the faults listed, and so no refusal. -/
def endsIn (fs : List Fault) (r : Res) : Prop := goesOn r ∨ ∃ f ∈ fs, r = .fault f

theorem endsIn_next (fs : List Fault) (s : State) : endsIn fs (.next s) := .inl ⟨s, rfl⟩

theorem endsIn_fault {fs : List Fault} {f : Fault} (h : f ∈ fs) : endsIn fs (.fault f) := .inr ⟨f, h, rfl⟩

theorem endsIn_mono {fs gs : List Fault} {r : Res} (hs : fs ⊆ gs) (h : endsIn fs r) : endsIn gs r :=
  h.imp_right fun ⟨f, hf, e⟩ => ⟨f, hs hf, e⟩

theorem ne_refused_of_endsIn {fs : List Fault} {r : Res} (h : endsIn fs r) (x : Refusal) : r ≠ .refused x := by
  rintro rfl
  rcases h with ⟨_, h⟩ | ⟨_, _, h⟩ <;> cases h

theorem mem_of_endsIn_fault {fs : List Fault} {f : Fault} (h : endsIn fs (.fault f)) : f ∈ fs := by
  rcases h with ⟨_, h⟩ | ⟨_, hf, h⟩
  · cases h
  · cases h
    exact hf

/-! ### Commands on a tile -/

/-- The faults of a sequencer command: the tile does not exist, or a scratchpad address does not. -/
def tileFaults (a : TileAddr) : List Fault := .scratchAddr :: if tileOk a.toNat then [] else [.noTile]

theorem noTile_mem_tileFaults {a : TileAddr} (h : ¬ tileOk a.toNat = true) : Fault.noTile ∈ tileFaults a := by
  simp [tileFaults, h]

theorem onTile_endsIn (a : TileAddr) (s : State) (f : Tile → State) : endsIn (tileFaults a) (onTile a s f) := by
  unfold onTile
  split
  · exact endsIn_next _ _
  · next h => exact endsIn_fault (noTile_mem_tileFaults h)

theorem seqRun_endsIn (a : TileAddr) (s : State) (ok : Ctx → Tile → Bool) (f : Ctx → Tile → Tile) :
    endsIn (tileFaults a) (seqRun a s ok f) := by
  unfold seqRun
  split
  · dsimp only
    split
    · split
      · exact endsIn_next _ _
      · exact endsIn_fault List.mem_cons_self
    · exact endsIn_next _ _
  · next h => exact endsIn_fault (noTile_mem_tileFaults h)

theorem seqPlain_endsIn (a : TileAddr) (s : State) (f : Ctx → Tile → Tile) : endsIn (tileFaults a) (seqPlain a s f) :=
  seqRun_endsIn ..

theorem jumpIf_endsIn (t : TileAddr) (d a : BitVec 5) (k : BitVec 14) (p : Word → Word → Bool) (s : State) :
    endsIn (tileFaults t) (jumpIf t d a k p s) :=
  seqPlain_endsIn ..

theorem seqMeet_endsIn (on : Tile → Bool) (a : TileAddr) (e : List (Nat × Nat)) (first : Tile → Nat) (ok haz : Ctx → Tile → Bool)
    (f : Ctx → Tile → Tile) (s : State) (nf : Nat) : endsIn (tileFaults a) (seqMeet on a e first ok haz f s nf) := by
  unfold seqMeet
  split
  · dsimp only
    split
    · split
      · exact endsIn_next _ _
      · exact endsIn_fault List.mem_cons_self
    · exact endsIn_next _ _
  · next h => exact endsIn_fault (noTile_mem_tileFaults h)

theorem seqLoad_endsIn (byte : Bool) (t : TileAddr) (d a : BitVec 5) (k : BitVec 14) (e : Nat) (s : State) :
    endsIn (tileFaults t) (seqLoad byte t d a k e s) := by
  unfold seqLoad
  exact seqMeet_endsIn ..

theorem execStream_endsIn (t : TileAddr) (a : BitVec 5) (kind : Fin 3) (j : BitVec 3) (lane : BitVec 5) (s : State)
    (e : List (BitVec 18 × Nat)) : endsIn (tileFaults t) (execStream t a kind j lane s e) := by
  unfold execStream
  split
  · exact endsIn_next _ _
  · next f h => exact h ▸ seqMeet_endsIn ..
  · next x h => exact absurd h (ne_refused_of_endsIn (seqMeet_endsIn ..) x)

theorem execSend_endsIn (t : TileAddr) (a : BitVec 5) (s : State) (e : List (BitVec 18 × Nat)) :
    endsIn (tileFaults t) (execSend t a s e) := by
  unfold execSend
  split
  · exact endsIn_next _ _
  · next f h => exact h ▸ seqMeet_endsIn ..
  · next x h => exact absurd h (ne_refused_of_endsIn (seqMeet_endsIn ..) x)

/-! ### Register accesses -/

theorem blockWrite_endsIn (s : State) (a : Nat) (v : Word) (lvl : Bool) : endsIn [.reslWrite] (s.blockWrite a v lvl) := by
  unfold State.blockWrite
  split
  · exact endsIn_next _ _
  · split
    · exact endsIn_next _ _
    · split
      · exact endsIn_fault List.mem_cons_self
      · exact endsIn_next _ _

theorem aliasWrite_endsIn (s : State) (a n : Nat) (d : Bool) (addr : Nat) : endsIn [.reslWrite] (s.aliasWrite a n d addr) := by
  unfold State.aliasWrite
  split
  · exact endsIn_next _ _
  · split
    · exact endsIn_next _ _
    · exact blockWrite_endsIn ..

theorem twinWrite_endsIn (s : State) (port off : Nat) (v : Word) : endsIn [.reslWrite] (s.twinWrite port off v) := by
  unfold State.twinWrite
  dsimp only
  split
  · exact endsIn_next _ _
  · split
    · exact endsIn_next _ _
    · split
      · exact endsIn_fault List.mem_cons_self
      · split <;> exact endsIn_next _ _

theorem wordWrite_endsIn (s : State) (port a : Nat) (v : Word) : endsIn [.reslWrite] (s.wordWrite port a v) := by
  unfold State.wordWrite
  split
  · exact twinWrite_endsIn ..
  · split
    · exact endsIn_next _ _
    · exact blockWrite_endsIn ..
  · exact aliasWrite_endsIn ..
  · exact endsIn_next _ _

theorem regWrite_endsIn (s : State) (port a : Nat) (data : List Byte) : endsIn [.reslWrite] (s.regWrite port a data) := by
  unfold State.regWrite
  split
  · exact wordWrite_endsIn ..
  · split
    · split
      · exact wordWrite_endsIn ..
      · exact wordWrite_endsIn ..
    · exact endsIn_next _ _

theorem execRegWr_endsIn (port : Fin 16) (addr : BitVec 32) (data : List (BitVec 8)) (s : State) :
    endsIn [.reslWrite] (execRegWr port addr data s) := by
  unfold execRegWr
  split
  · exact endsIn_next _ _
  · split
    · exact endsIn_next _ _
    · exact regWrite_endsIn ..

theorem execTileWindowAccess_endsIn (port : Fin 16) (tag : BitVec 12) (write : Bool) (off : BitVec 14) (data : BitVec 32) (s : State) :
    endsIn [.reslWrite] (execTileWindowAccess port tag write off data s) := by
  unfold execTileWindowAccess
  dsimp only
  split
  · exact twinWrite_endsIn ..
  · exact endsIn_next _ _

/-! ### Every command -/

/-- The commands that write registers by address. -/
def writesRegister (c : Instr) : Bool :=
  match c with
  | .registerWrite _ _ | .aliasWrite _ _ _ _ | .regWr _ _ _ | .tileWindowAccess _ _ _ _ _ => true
  | _ => false

theorem shape_of_writesRegister {c : Instr} (h : writesRegister c = true) :
    (∃ a d, c = .registerWrite a d) ∨ (∃ b o i d, c = .aliasWrite b o i d) ∨ (∃ p a d, c = .regWr p a d) ∨
      ∃ p tag w o d, c = .tileWindowAccess p tag w o d := by
  unfold writesRegister at h
  split at h
  · exact .inl ⟨_, _, rfl⟩
  · exact .inr (.inl ⟨_, _, _, _, rfl⟩)
  · exact .inr (.inr (.inl ⟨_, _, _, rfl⟩))
  · exact .inr (.inr (.inr ⟨_, _, _, _, _, rfl⟩))
  · cases h

/-- The faults that a command can end in: those of a register write, or those of a tile command, `noTile` only where the command is
not well-formed. -/
def faultsOf (c : Instr) : List Fault :=
  if writesRegister c then [.reslWrite] else .scratchAddr :: if c.wf then [] else [.noTile]

theorem noTile_notMem_faultsOf {c : Instr} (h : c.wf = true) : Fault.noTile ∉ faultsOf c := by
  unfold faultsOf
  rw [if_pos h]
  split <;> simp

theorem writesRegister_of_reslWrite {c : Instr} (h : Fault.reslWrite ∈ faultsOf c) : writesRegister c = true := by
  unfold faultsOf at h
  split at h
  · assumption
  · split at h <;> simp at h

theorem endsIn_of_register {c : Instr} {r : Res} (hc : writesRegister c = true) (h : endsIn [.reslWrite] r) : endsIn (faultsOf c) r := by
  unfold faultsOf
  rwa [if_pos hc]

/-- A command that is well-formed only where its tile exists. -/
theorem endsIn_of_tile {c : Instr} {a : TileAddr} {r : Res} (hc : writesRegister c = false) (hw : c.wf = true → tileOk a.toNat = true)
    (h : endsIn (tileFaults a) r) : endsIn (faultsOf c) r := by
  refine endsIn_mono (fun f hf => ?_) h
  unfold faultsOf
  unfold tileFaults at hf
  by_cases hk : c.wf = true
  · simpa [hc, hk, hw hk] using hf
  · cases ht : tileOk a.toNat <;> simp_all

theorem seamTrainingComplete_endsIn (seam : Fin 120) (channel : BitVec 7) (ok : Bool) (s : State) :
    endsIn (faultsOf (.seamTrainingComplete seam channel ok)) (exec (.seamTrainingComplete seam channel ok) s) := by
  show endsIn _ (execSeamTrainingComplete seam channel ok s)
  unfold execSeamTrainingComplete
  split
  · exact endsIn_next _ _
  · next h => exact endsIn_fault (by simp [faultsOf, writesRegister, Instr.wf, h])

/-- Every command ends in a next state or one of its faults: by the operation that its meaning calls. -/
theorem exec_endsIn (c : Instr) (s : State) : endsIn (faultsOf c) (exec c s) := by
  unfold exec
  cases c
  case registerWrite => exact endsIn_of_register rfl (regWrite_endsIn ..)
  case aliasWrite => exact endsIn_of_register rfl (wordWrite_endsIn ..)
  case regWr => exact endsIn_of_register rfl (execRegWr_endsIn ..)
  case tileWindowAccess => exact endsIn_of_register rfl (execTileWindowAccess_endsIn ..)
  case seamTrainingComplete => exact seamTrainingComplete_endsIn ..
  case alu | mul | addk | ork | seth | ltsk | call | ret | jmp | wait | clrc | done | reservedOpcode =>
    exact endsIn_of_tile rfl id (seqPlain_endsIn ..)
  case stw | stb => exact endsIn_of_tile rfl id (seqRun_endsIn ..)
  case jeq | jne | jlt | jge => exact endsIn_of_tile rfl id (jumpIf_endsIn ..)
  case ldw | ldb => exact endsIn_of_tile rfl id (seqLoad_endsIn ..)
  case tfn | pass | drain | spool => exact endsIn_of_tile rfl Bool.and_elim_left (seqMeet_endsIn ..)
  case stream => exact endsIn_of_tile rfl Bool.and_elim_left (execStream_endsIn ..)
  case send => exact endsIn_of_tile rfl Bool.and_elim_left (execSend_endsIn ..)
  case flitReceive => exact endsIn_of_tile rfl Bool.and_elim_left (onTile_endsIn ..)
  case selectionWordArrival | nvwRowRead | weftInWrite | spoolInWrite | turnEnd | reloadComplete | tileDone | tileLoadCommand
      | tileLoadComplete | tilLoad | tilClrCounts | tilDarn | tilHaltReq | tilEnable | tilNvwLogRead | nakReceived | linkRetrain
      | shuttleRoute | foldArrival | foldCombineComplete | weftWatchdog | spoolWriteAccept | spoolRead | translationWalk | spoolResponse
      | sectionProgramComplete | nvwScrub =>
    exact endsIn_of_tile rfl id (onTile_endsIn ..)
  all_goals exact endsIn_next _ _

end Sys2Proof.Machine

open Sys2Proof Sys2Proof.Machine

/-- Settles O60: the outcome of every command lies in `faultsOf`, which holds `noTile` only for a command that is not well-formed and
`reslWrite` only for a register write. -/
theorem noRefusals : Obligations.NoRefusals := by
  unfold Obligations.NoRefusals
  intro c s
  have h := exec_endsIn c s
  refine ⟨ne_refused_of_endsIn h, fun hw e => ?_, fun e => ?_⟩
  · exact noTile_notMem_faultsOf hw (mem_of_endsIn_fault (e ▸ h))
  · exact shape_of_writesRegister (writesRegister_of_reslWrite (mem_of_endsIn_fault (e ▸ h)))
end

section
/-!
PROOFS. Sequencer commands: where `seqRun` and `seqMeet` stop or change nothing, and what an instruction of fixed-slot mode does to a tile
with nothing else pending.
-/
namespace Sys2Proof.Machine

/-! ### The shared operations of sequencer commands, outcome by outcome -/

section seqRun
variable {a : TileAddr} {s : State} (ok : Ctx → Tile → Bool) (f : Ctx → Tile → Tile)

theorem seqRun_noTile (h : tileOk a.toNat = false) : seqRun a s ok f = .fault .noTile := by
  simp [seqRun, h]

theorem seqRun_off (h : tileOk a.toNat = true) (hi : issuing (s.tile a.toNat) = false) : seqRun a s ok f = .next s := by
  simp [seqRun, h, hi]

variable {ok}

theorem seqRun_next (h : tileOk a.toNat = true) (hi : issuing (s.tile a.toNat) = true)
    (hok : ok (s.ctx a.toNat) (s.tile a.toNat) = true) :
    seqRun a s ok f = .next (s.setTile a.toNat (f (s.ctx a.toNat) (s.tile a.toNat))) := by
  simp [seqRun, h, hi, hok]

theorem seqRun_scratchAddr (h : tileOk a.toNat = true) (hi : issuing (s.tile a.toNat) = true)
    (hok : ok (s.ctx a.toNat) (s.tile a.toNat) = false) : seqRun a s ok f = .fault .scratchAddr := by
  simp [seqRun, h, hi, hok]

end seqRun

section seqMeet
variable {on : Tile → Bool} {a : TileAddr} (e : List (Nat × Nat)) (first : Tile → Nat) (ok haz : Ctx → Tile → Bool)
  (f : Ctx → Tile → Tile) {s : State} (nf : Nat)

theorem seqMeet_noTile (h : tileOk a.toNat = false) : seqMeet on a e first ok haz f s nf = .fault .noTile := by
  simp [seqMeet, h]

theorem seqMeet_off (h : tileOk a.toNat = true) (hon : on (s.tile a.toNat) = false) :
    seqMeet on a e first ok haz f s nf = .next s := by
  simp [seqMeet, h, hon]

/-- Whatever words the command meets in error, an address outside the scratchpad faults. -/
theorem seqMeet_scratchAddr {ok : Ctx → Tile → Bool} (h : tileOk a.toNat = true) (hon : on (s.tile a.toNat) = true)
    (hok : ∀ cx l, ok cx (tMeet l (s.tile a.toNat)) = false) : seqMeet on a e first ok haz f s nf = .fault .scratchAddr := by
  simp [seqMeet, h, hon, hok]

end seqMeet

/-! ### Where a sequencer command stops or changes nothing -/

/-- On an address without a tile the outcome is `noTile`; on a tile that is neither issuing nor HALTED nothing changes. -/
def stopsOutside (t : TileAddr) (s : State) (r : Res) : Prop :=
  (tileOk t.toNat = false → r = .fault .noTile) ∧
    (tileOk t.toNat = true → issuing (s.tile t.toNat) = false → (s.tile t.toNat).st ≠ 4 → r = .next s)

section
variable (t : TileAddr) (s : State)

theorem seqRun_stopsOutside (ok : Ctx → Tile → Bool) (f : Ctx → Tile → Tile) : stopsOutside t s (seqRun t s ok f) :=
  ⟨seqRun_noTile ok f, fun h hi _ => seqRun_off ok f h hi⟩

theorem seqPlain_stopsOutside (f : Ctx → Tile → Tile) : stopsOutside t s (seqPlain t s f) := seqRun_stopsOutside t s _ f

theorem jumpIf_stopsOutside (d a : BitVec 5) (k : BitVec 14) (p : Word → Word → Bool) : stopsOutside t s (jumpIf t d a k p s) :=
  seqPlain_stopsOutside t s _

/-- A HALTED tile runs DRAIN and SEND too (R59); no other tile that does not issue runs them. -/
theorem sends_off {u : Tile} (hi : issuing u = false) (hh : u.st ≠ 4) : sends u = false := by
  simp [sends, hi, hh]

theorem seqMeet_stopsOutside {on : Tile → Bool} (hon : on = issuing ∨ on = sends) (e : List (Nat × Nat)) (first : Tile → Nat)
    (ok haz : Ctx → Tile → Bool) (f : Ctx → Tile → Tile) (nf : Nat) : stopsOutside t s (seqMeet on t e first ok haz f s nf) := by
  refine ⟨seqMeet_noTile e first ok haz f nf, fun h hi hh => seqMeet_off e first ok haz f nf h ?_⟩
  rcases hon with rfl | rfl
  · exact hi
  · exact sends_off hi hh

theorem seqLoad_stopsOutside (byte : Bool) (d a : BitVec 5) (k : BitVec 14) (e : Nat) : stopsOutside t s (seqLoad byte t d a k e s) := by
  unfold seqLoad
  exact seqMeet_stopsOutside t s (.inl rfl) ..

/-- STREAM records nothing where it does not run. -/
theorem execStream_stopsOutside (a : BitVec 5) (kind : Fin 3) (j : BitVec 3) (lane : BitVec 5) (e : List (BitVec 18 × Nat)) :
    stopsOutside t s (execStream t a kind j lane s e) := by
  unfold execStream
  refine ⟨fun h => ?_, fun h hi _ => ?_⟩
  · rw [seqMeet_noTile _ _ _ _ _ _ h]
  · rw [seqMeet_off _ _ _ _ _ _ h hi]
    simp [streamFaults]

/-- SEND uses up no injection where it does not run. -/
theorem execSend_stopsOutside (a : BitVec 5) (e : List (BitVec 18 × Nat)) : stopsOutside t s (execSend t a s e) := by
  unfold execSend
  refine ⟨fun h => ?_, fun h hi hh => ?_⟩
  · rw [seqMeet_noTile _ _ _ _ _ _ h]
  · rw [seqMeet_off _ _ _ _ _ _ h (sends_off hi hh)]
    simp

/-- ALU with a function code above 9 draws a free value first, so only the other codes change nothing where they do not run. -/
theorem execAlu_noTile (fn : BitVec 9) (d a b : BitVec 5) (h : tileOk t.toNat = false) : execAlu t fn d a b s = .fault .noTile := by
  unfold execAlu
  exact seqRun_noTile _ _ h

theorem execAlu_off {fn : BitVec 9} (hf : fn.toNat ≤ 9) (d a b : BitVec 5) (h : tileOk t.toNat = true)
    (hi : issuing (s.tile t.toNat) = false) : execAlu t fn d a b s = .next s := by
  unfold execAlu
  rw [if_pos hf]
  exact seqRun_off _ _ h hi

end

/-! ### Loads and stores outside the scratchpad -/

theorem g_tMeet (l : List Met) (t : Tile) : (tMeet l t).g = t.g := by
  unfold tMeet
  induction l generalizing t with
  | nil => rfl
  | cons m l ih =>
    rw [List.foldl_cons, ih]
    split <;> rfl

/-- Words in error leave the registers alone, and so the address of a load. -/
theorem kAddr_tMeet (l : List Met) (t : Tile) (a : BitVec 5) (k : BitVec 14) : kAddr (tMeet l t) a k = kAddr t a k := by
  simp only [kAddr, tReg, g_tMeet]

section
variable {t : TileAddr} {s : State} {a : BitVec 5} {k : BitVec 14} (h : tileOk t.toNat = true) (hi : issuing (s.tile t.toNat) = true)
  (hk : spadBytes ≤ kAddr (s.tile t.toNat) a k)
include h hi hk

theorem seqLoad_scratchAddr (byte : Bool) (d : BitVec 5) (e : Nat) : seqLoad byte t d a k e s = .fault .scratchAddr := by
  unfold seqLoad
  exact seqMeet_scratchAddr _ _ _ _ _ h hi fun _ l => by rw [kAddr_tMeet]; exact decide_eq_false (Nat.not_lt.mpr hk)

theorem execStw_scratchAddr (d : BitVec 5) : execStw t d a k s = .fault .scratchAddr := by
  unfold execStw
  exact seqRun_scratchAddr _ h hi (decide_eq_false (Nat.not_lt.mpr hk))

theorem execStb_scratchAddr (d : BitVec 5) : execStb t d a k s = .fault .scratchAddr := by
  unfold execStb
  exact seqRun_scratchAddr _ h hi (decide_eq_false (Nat.not_lt.mpr hk))

end

/-! ### Fixed-slot mode -/

/-- g0 takes no value, and no other register changes (R353). -/
theorem tReg_tPutReg (i r : Nat) (v : Word) (t : Tile) : tReg i (tPutReg r v t) = if i = r ∧ i ≠ 0 then v else tReg i t := by
  unfold tPutReg
  by_cases hr : r = 0
  · subst hr
    rw [if_pos rfl, if_neg (fun h => h.2 h.1)]
  · rw [if_neg hr]
    unfold tReg
    by_cases hi : i = r
    · subst hi
      rw [if_neg hr, if_pos ⟨rfl, hr⟩]
      exact smGet_smSet_same 0 i v t.g
    · have hc : ¬ (i = r ∧ i ≠ 0) := fun h => hi h.1
      rw [if_neg hc]
      dsimp only
      rw [smGet_smSet_other 0 0 hi]

@[simp] theorem p_tPutReg (r : Nat) (v : Word) (t : Tile) : (tPutReg r v t).p = t.p := by
  unfold tPutReg
  split <;> rfl

@[simp] theorem pc_tPutReg (r : Nat) (v : Word) (t : Tile) : (tPutReg r v t).pc = t.pc := by
  unfold tPutReg
  split <;> rfl

@[simp] theorem pendRes_tPutReg (r : Nat) (v : Word) (t : Tile) : (tPutReg r v t).pendRes = t.pendRes := by
  unfold tPutReg
  split <;> rfl

@[simp] theorem pc_tWait (c : Nat) (t : Tile) : (tWait c t).pc = t.pc := by cases t; rfl
@[simp] theorem p_tWait (c : Nat) (t : Tile) : (tWait c t).p = t.p := by cases t; rfl
@[simp] theorem delay_tWait (c : Nat) (t : Tile) : (tWait c t).delay = t.delay := by cases t; rfl
@[simp] theorem pendRes_tWait (c : Nat) (t : Tile) : (tWait c t).pendRes = t.pendRes := by cases t; rfl
@[simp] theorem pendAcc_tWait (c : Nat) (t : Tile) : (tWait c t).pendAcc = t.pendAcc := by cases t; rfl
@[simp] theorem pendWrite_tWait (c : Nat) (t : Tile) : (tWait c t).pendWrite = t.pendWrite := by cases t; rfl
@[simp] theorem pendSet_tWait (c : Nat) (t : Tile) : (tWait c t).pendSet = t.pendSet := by cases t; rfl

/-- With one register result pending and nothing else, a tick delivers it once it is due (R357). -/
theorem tTick_one_result (cx : Ctx) {t : Tile} {r : PendRes} (hr : t.pendRes = [r]) (ha : t.pendAcc = []) (hw : t.pendWrite = [])
    (hs : t.pendSet = []) : tTick cx t = if r.due ≤ t.p then tPutReg r.reg r.val { t with pendRes := [] } else t := by
  by_cases hd : r.due ≤ t.p
  · have hn : ¬ t.p < r.due := Nat.not_lt.mpr hd
    rw [if_pos hd]
    cases t
    dsimp only at hr ha hw hs hd hn
    subst hr ha hw hs
    by_cases hz : r.reg = 0 <;> simp [tTick, tPutReg, hd, hn, hz, sortBy, insertBy]
  · have hn : t.p < r.due := Nat.not_le.mp hd
    rw [if_neg hd]
    cases t
    dsimp only at hr ha hw hs hd hn
    subst hr ha hw hs
    simp [tTick, hd, hn, sortBy]

/-- In fixed-slot mode a result is due a latency after its issue (R357). -/
theorem tResult_fixed {cx : Ctx} (hst : cx.stepping ≠ 0) (c r : Nat) (v : Word) (t : Tile) :
    tResult cx c r v t = { t with pendRes := t.pendRes ++ [⟨t.p + latOf cx c, t.p, r, v⟩] } := by
  unfold tResult
  rw [if_neg hst]

/-- In fixed-slot mode an instruction outside a delay slot ends with program time advanced by one (R356). -/
theorem tNext_fixed {cx : Ctx} (hst : cx.stepping ≠ 0) {t : Tile} (hd : t.delay = none) :
    tNext cx t = tTick cx { tWait 0 t with pc := t.pc + 1, p := t.p + 1 } := by
  have hw : (tWait 0 t).delay = none := (delay_tWait 0 t).trans hd
  simp only [tNext, tAdvance, if_neg hst, hw, pc_tWait, p_tWait]

/-- A tile of fixed-slot mode one program time after it issued an instruction whose result `v` for register `d` has latency `lat`, before
anything that is due takes effect. -/
def fixedIssued (lat d : Nat) (v : Word) (u : Tile) : Tile :=
  { tWait 0 { u with pendRes := [⟨u.p + lat, u.p, d, v⟩] } with pc := u.pc + 1, p := u.p + 1 }

/-- An instruction with a register result, on a tile with nothing pending. -/
theorem tNext_tResult_fixed {cx : Ctx} (hst : cx.stepping ≠ 0) (c d : Nat) (v : Word) {u : Tile} (hd : u.delay = none)
    (hr : u.pendRes = []) (ha : u.pendAcc = []) (hw : u.pendWrite = []) (hs : u.pendSet = []) :
    tNext cx (tResult cx c d v u) =
      if latOf cx c ≤ 1 then tPutReg d v { fixedIssued (latOf cx c) d v u with pendRes := [] } else fixedIssued (latOf cx c) d v u := by
  have hres : (fixedIssued (latOf cx c) d v u).pendRes = [⟨u.p + latOf cx c, u.p, d, v⟩] := by simp [fixedIssued]
  have hissued : tNext cx (tResult cx c d v u) = tTick cx (fixedIssued (latOf cx c) d v u) := by
    rw [tResult_fixed hst, tNext_fixed hst, hr]
    · simp only [fixedIssued, List.nil_append]
    · exact hd
  rw [hissued, tTick_one_result cx hres (by simpa [fixedIssued] using ha) (by simpa [fixedIssued] using hw) (by simpa [fixedIssued] using hs)]
  exact if_congr (Nat.add_le_add_iff_left (n := u.p)) rfl rfl

/-- Only the tile put differs. -/
theorem onlyTile_setTile (s : State) (a : Nat) (u : Tile) : onlyTile s (s.setTile a u) a :=
  ⟨fun _ h => s.tile_setTile_other h u, rfl⟩

end Sys2Proof.Machine

open Sys2Proof Sys2Proof.Machine

/-- Settles O7: the ALU result by `tNext_tResult_fixed`, and for each other sequencer command the shape that its meaning has, `seqRun` or
`seqMeet`, says where it stops. -/
theorem fixedSlotResults : Obligations.FixedSlotResults := by
  unfold Obligations.FixedSlotResults
  refine ⟨?result, fun s t d a b fn k h l c kind j set op e w job es => ⟨?stops, ?scratch⟩⟩
  case result =>
    intro s t d a b hok hiss hst u lat v hd hr ha hw hs
    have hnext : exec (.alu t 0 d a b) s = .next (s.setTile t.toNat (tNext (s.ctx t.toNat) (tResult (s.ctx t.toNat) 1 d.toNat v u))) := by
      unfold exec execAlu
      exact seqRun_next _ hok hiss rfl
    refine ⟨_, hnext, onlyTile_setTile .., ?_⟩
    rw [State.tile_setTile_same, tNext_tResult_fixed hst 1 d.toNat v hd hr ha hw hs]
    by_cases hl : lat ≤ 1
    · rw [if_pos hl, if_pos hl]
      exact ⟨p_tPutReg .., pc_tPutReg .., fun i => tReg_tPutReg i .., pendRes_tPutReg ..⟩
    · rw [if_neg hl, if_neg hl]
      exact ⟨rfl, rfl, rfl, rfl⟩
  case stops =>
    rw [List.forall_mem_cons]
    refine ⟨⟨?aluNoTile, ?aluOff⟩, fun i hi => ?others⟩
    case aluNoTile => exact execAlu_noTile t s fn d a b
    case aluOff =>
      intro hok hoff _ hf
      exact execAlu_off t s (Nat.not_lt.mp fun h9 => hf fn h9 rfl) d a b hok hoff
    case others =>
      suffices hi : stopsOutside t s (exec i s) from ⟨hi.1, fun hok hoff hh _ => hi.2 hok hoff hh⟩
      revert i
      simp only [List.forall_mem_cons, List.not_mem_nil, false_implies, implies_true, and_true]
      unfold exec
      exact ⟨seqPlain_stopsOutside .., seqPlain_stopsOutside .., seqPlain_stopsOutside .., seqPlain_stopsOutside .., seqPlain_stopsOutside ..,
        seqLoad_stopsOutside .., seqLoad_stopsOutside .., seqRun_stopsOutside .., seqRun_stopsOutside .., jumpIf_stopsOutside ..,
        jumpIf_stopsOutside .., jumpIf_stopsOutside .., jumpIf_stopsOutside .., seqPlain_stopsOutside .., seqPlain_stopsOutside ..,
        seqPlain_stopsOutside .., seqPlain_stopsOutside .., seqPlain_stopsOutside .., seqPlain_stopsOutside ..,
        seqMeet_stopsOutside _ _ (.inl rfl) .., seqMeet_stopsOutside _ _ (.inl rfl) .., execStream_stopsOutside ..,
        seqMeet_stopsOutside _ _ (.inr rfl) .., execSend_stopsOutside .., seqMeet_stopsOutside _ _ (.inl rfl) .., seqPlain_stopsOutside ..⟩
  case scratch =>
    intro hok hiss hk
    simp only [List.forall_mem_cons, List.not_mem_nil, false_implies, implies_true, and_true]
    unfold exec
    exact ⟨seqLoad_scratchAddr hok hiss hk .., seqLoad_scratchAddr hok hiss hk .., execStw_scratchAddr hok hiss hk d,
      execStb_scratchAddr hok hiss hk d⟩
end

section
/-!
SUPPORT. Which registers an update leaves alone: the frames `sameRegs` and `onlyRegs` of the named operations, of a fault record, and of the
check that follows a write through the register path.
-/
namespace Sys2Proof.Machine

@[simp] theorem rkey_zero (a : Nat) : rkey a 0 = a := by simp [rkey]

theorem reg_eq_of_sameRegs {s t : State} {ks : List Nat} (h : sameRegs s t ks) {a : Nat} (ha : a ∉ ks) : t.reg a = s.reg a :=
  h (rkey a 0) (by rwa [rkey_zero])

theorem get_eq_of_sameRegs {s t : State} {ks : List Nat} (h : sameRegs s t ks) {f : Fld} (hf : f.reg ∉ ks) : t.get f = s.get f :=
  congrArg (fldOf f) (reg_eq_of_sameRegs h hf)

theorem sameRegs_of_bank {s t : State} (h : t.bank = s.bank) (ks : List Nat) : sameRegs s t ks := fun k _ => by rw [h]

theorem sameRegs_trans {s t u : State} {ks : List Nat} (h : sameRegs s t ks) (h' : sameRegs t u ks) : sameRegs s u ks :=
  fun k hk => (h' k hk).trans (h k hk)

theorem sameRegs_mono {s t : State} {ks ls : List Nat} (h : sameRegs s t ks) (hs : ks ⊆ ls) : sameRegs s t ls :=
  fun k hk => h k fun hm => hk (hs hm)

theorem onlyRegs_trans {s t u : State} {ks : List Nat} (h : onlyRegs s t ks) (h' : onlyRegs t u ks) : onlyRegs s u ks := by
  obtain ⟨hb, hr⟩ := h
  obtain ⟨hb', hr'⟩ := h'
  unfold onlyBank at hb hb'
  refine ⟨?_, sameRegs_trans hr hr'⟩
  unfold onlyBank
  rw [hb', hb]

theorem onlyRegs_mono {s t : State} {ks ls : List Nat} (h : onlyRegs s t ks) (hs : ks ⊆ ls) : onlyRegs s t ls :=
  ⟨h.1, sameRegs_mono h.2 hs⟩

section
variable (s : State) {ks : List Nat}

theorem onlyRegs_setReg (a : Nat) (v : Word) (i : Nat) (h : rkey a i ∈ ks) : onlyRegs s (s.setReg a v i) ks :=
  ⟨rfl, fun k hk => by rw [State.bank_setReg]; exact bankReg_bankPut_other (ne_of_mem_of_not_mem h hk).symm _ _⟩

theorem onlyRegs_set (f : Fld) (v i : Nat) (h : rkey f.reg i ∈ ks) : onlyRegs s (s.set f v i) ks :=
  ⟨rfl, fun k hk => by rw [State.bank_set]; exact bankReg_bankSet_other _ _ _ (ne_of_mem_of_not_mem h hk).symm _⟩

theorem onlyRegs_add (f : Fld) (n i : Nat) (h : rkey f.reg i ∈ ks) : onlyRegs s (s.add f n i) ks :=
  ⟨rfl, fun k hk => by rw [State.bank_add]; exact bankReg_bankAdd_other _ _ _ (ne_of_mem_of_not_mem h hk).symm _⟩

/-- Setting a field leaves the other bits of its register alone. -/
theorem onlyFld_set (f : Fld) (v i : Nat) : onlyFld s (s.set f v i) f i := by
  intro n hn hout
  have hreg : (s.set f v i).reg f.reg i = fldPut f v (s.reg f.reg i) := by simp [State.reg, bankSet]
  rw [hreg]
  unfold fldPut
  rw [BitVec.getLsbD_ofNat, testBit_bitsPut]
  simp only [hn, decide_true, Bool.true_and]
  rcases hout with h | h
  · rw [if_pos h]; rfl
  · rw [if_neg (by omega), if_neg (by omega)]; rfl

theorem setsFld_set (f : Fld) (v i : Nat) (hw : f.lo + f.w ≤ 32) (hv : v < 2 ^ f.w) : setsFld s (s.set f v i) f i v :=
  ⟨(s.get_set_same f v i hw).trans (Nat.mod_eq_of_lt hv), onlyRegs_set s f v i List.mem_cons_self, onlyFld_set s f v i⟩

/-- A fault record touches two registers at most (R557). -/
theorem sameRegs_raise (c b k u d : Nat) (j : Bool) : sameRegs s (s.raise c b k u d j) [R.DMP_SUPPRESSED, R.DMP_STATUS] := by
  by_cases h : smGet 0 (c * 2 ^ 24 + u) s.flt.last = s.timeUs / 1000 + 1
  · intro i hi
    simp only [List.mem_cons, List.not_mem_nil, or_false, not_or] at hi
    rw [(s.raise_counted c b k u d j h).2, bankReg_bankAdd_other _ _ _ hi.1, bankReg_bankSet_other _ _ _ hi.2]
  · exact sameRegs_of_bank (s.raise_sent c b k u d j h).2 _

end

/-! ### The sentinel's check of a write (R535, R538, R539) -/

/-- The registers in which the sentinel reports a write. -/
def sntKeys : List Nat :=
  [R.SNT_STATUS, R.SNT_MISMATCHES, R.SNT_RESTARTS, R.SNT_CAP0, R.SNT_CAP1, R.SKN_CTRL, R.DMP_SUPPRESSED, R.DMP_STATUS]

/-- What the sentinel's check leaves alone: the words in force and the registers it does not report in. -/
def sntKeeps (s t : State) : Prop := t.held = s.held ∧ sameRegs s t sntKeys

theorem sntKeeps_refl (s : State) : sntKeeps s s := ⟨rfl, fun _ _ => rfl⟩

theorem sntKeeps_trans {s t u : State} (h : sntKeeps s t) (h' : sntKeeps t u) : sntKeeps s u :=
  ⟨h'.1.trans h.1, sameRegs_trans h.2 h'.2⟩

section
variable (s : State)

theorem sntKeeps_set (f : Fld) (v : Nat) (h : f.reg ∈ sntKeys) : sntKeeps s (s.set f v) :=
  ⟨s.held_set f v 0, (onlyRegs_set s f v 0 (by rwa [rkey_zero])).2⟩

theorem sntKeeps_add (f : Fld) (n : Nat) (h : f.reg ∈ sntKeys) : sntKeeps s (s.add f n) :=
  ⟨s.held_add f n 0, (onlyRegs_add s f n 0 (by rwa [rkey_zero])).2⟩

theorem sntKeeps_raise (c b k u d : Nat) (j : Bool) : sntKeeps s (s.raise c b k u d j) :=
  ⟨s.held_raise .., sameRegs_mono (sameRegs_raise s c b k u d j) (by decide)⟩

theorem sntCapture_keeps (id crc : Nat) (write : Bool) : sntKeeps s (s.sntCapture id crc write) := by
  unfold State.sntCapture
  split
  · exact sntKeeps_refl s
  · refine sntKeeps_trans ?_ (sntKeeps_set _ _ _ (by decide))
    refine sntKeeps_trans ?_ (sntKeeps_set _ _ _ (by decide))
    exact sntKeeps_trans (sntKeeps_set _ _ _ (by decide)) (sntKeeps_set _ _ _ (by decide))

theorem sntReport_keeps (id crc : Nat) (write : Bool) : sntKeeps s (s.sntReport id crc write) := by
  unfold State.sntReport
  refine sntKeeps_trans ?_ (sntKeeps_raise ..)
  refine sntKeeps_trans ?_ (sntKeeps_set _ _ _ (by decide))
  refine sntKeeps_trans ?_ (sntKeeps_add _ _ _ (by decide))
  refine sntKeeps_trans ?_ (sntKeeps_set _ _ _ (by decide))
  exact sntKeeps_trans (sntCapture_keeps ..) (sntKeeps_set _ _ _ (by decide))

theorem sntRestart_keeps (id : Nat) : sntKeeps s (s.sntRestart id) := by
  unfold State.sntRestart
  split
  · exact sntKeeps_refl s
  · have hadd := sntKeeps_add s F.SNT_RESTARTS_RESTARTS 1 (by decide)
    dsimp only
    split
    · have hset := sntKeeps_trans (sntKeeps_set (s.add F.SNT_RESTARTS_RESTARTS 1) F.SNT_STATUS_CAPTURING 0 (by decide))
        (sntKeeps_set _ F.SNT_STATUS_COMMIT_FAIL 1 (by decide))
      exact sntKeeps_trans hadd hset
    · exact hadd

theorem sntWrite_keeps (id off : Nat) : sntKeeps s (s.sntWrite id off) := by
  unfold State.sntWrite
  dsimp only
  split
  · exact sntKeeps_trans (sntRestart_keeps ..) (sntReport_keeps ..)
  · exact sntRestart_keeps ..

theorem sntCheck_keeps (a i : Nat) (old : Word) : sntKeeps s (s.sntCheck a i old) := by
  unfold State.sntCheck
  split
  · exact sntKeeps_refl s
  · exact sntWrite_keeps ..

/-- A register that the sentinel does not cover is not checked. -/
theorem sntCheck_uncovered {a : Nat} (i : Nat) (old : Word) (h : covMask a = 0) : s.sntCheck a i old = s := by
  unfold State.sntCheck
  rw [h]
  exact if_pos ((Nat.and_zero _).trans (Nat.and_zero _).symm)

end

end Sys2Proof.Machine
end

section
/-!
SUPPORT. Register access: bits under a write of a word and of one bit, the registers whose write has no action of its own, and the paths of a
word written or read at an address of the block windows.
-/
namespace Sys2Proof.Machine

/-! ### Bits -/

theorem leNat_lt (bs : List Byte) : leNat bs < 2 ^ (8 * bs.length) := by
  induction bs with
  | nil => simp [leNat]
  | cons b bs ih =>
    have hb : b.toNat < 256 := b.isLt
    have he : 2 ^ (8 * (bs.length + 1)) = 256 * 2 ^ (8 * bs.length) := by ring
    simp only [leNat, List.length_cons, he]
    omega

/-- Four bytes are a word. -/
theorem toNat_word {data : List Byte} (h : data.length = 4) : (BitVec.ofNat 32 (leNat data)).toNat = leNat data := by
  have hl := leNat_lt data
  rw [h] at hl
  exact (BitVec.toNat_ofNat ..).trans (Nat.mod_eq_of_lt hl)

/-- RW bits take the value written, the others stay, and W1C bits clear where it is 1 (R5). -/
theorem getLsbD_written (r : RegRow) (m : Nat) (old v : Word) {n : Nat} (hn : n < 32) :
    (written r m old v).getLsbD n = ((if bitAt m n then v.getLsbD n else old.getLsbD n) && !(v.getLsbD n && bitAt r.w1c n)) := by
  unfold written bitAt
  change (((old &&& ~~~(BitVec.ofNat 32 m)) ||| (v &&& BitVec.ofNat 32 m)) &&& ~~~(v &&& BitVec.ofNat 32 r.w1c)).getLsbD n = _
  simp only [BitVec.getLsbD_and, BitVec.getLsbD_or, BitVec.getLsbD_not, BitVec.getLsbD_ofNat, hn, decide_true, Bool.true_and]
  cases m.testBit n <;> simp

/-- A bit of a number taken out of it. -/
theorem sub_and_two_pow (x n : Nat) : x - Nat.land x (2 ^ n) = bitsPut x n 1 0 := by
  have hand : Nat.land x (2 ^ n) = 2 ^ n * (x / 2 ^ n % 2) := by
    change x &&& 2 ^ n = _
    rw [Nat.and_two_pow, Nat.testBit_eq_decide_div_mod_eq]
    rcases Nat.mod_two_eq_zero_or_one (x / 2 ^ n) with h | h <;> simp [h]
  have hdiv : x / 2 ^ (n + 1) = x / 2 ^ n / 2 := by rw [Nat.pow_succ, Nat.div_div_eq_div_mul]
  have hx : x % 2 ^ n + 2 ^ n * (x / 2 ^ n) = x := Nat.mod_add_div x (2 ^ n)
  have hq : x / 2 ^ n % 2 + 2 * (x / 2 ^ n / 2) = x / 2 ^ n := Nat.mod_add_div _ 2
  unfold bitsPut
  rw [hand, hdiv]
  have hsplit : x = x % 2 ^ n + 2 ^ n * (x / 2 ^ n % 2) + x / 2 ^ n / 2 * 2 ^ (n + 1) := by
    calc x = x % 2 ^ n + 2 ^ n * (x / 2 ^ n % 2 + 2 * (x / 2 ^ n / 2)) := by rw [hq, hx]
      _ = _ := by ring
  omega

/-- One bit of a number set to a value: the other bits stand (R528). -/
theorem testBit_aliasBase (base n m : Nat) (d : Bool) :
    (if d then Nat.lor base (2 ^ n) else base - Nat.land base (2 ^ n)).testBit m = if m = n then d else base.testBit m := by
  cases d
  · rw [if_neg Bool.false_ne_true, sub_and_two_pow, testBit_bitsPut]
    rcases Nat.lt_trichotomy m n with h | h | h
    · rw [if_pos h, if_neg (by omega)]
    · subst h
      simp
    · rw [if_neg (by omega), if_neg (by omega), if_neg (by omega)]
  · rw [if_pos rfl]
    change (base ||| 2 ^ n).testBit m = _
    rw [Nat.testBit_or, Nat.testBit_two_pow]
    by_cases h : m = n
    · simp [h]
    · simp [h, Ne.symm h]

/-! ### Registers whose write has no action of its own -/

/-- Registers of plain RW bits that no unit and no sentinel watches. -/
def plainRegs : List Nat :=
  [R.HC_SCRATCH, R.HC_SCRATCH + 4, R.HC_SCRATCH + 8, R.HC_SCRATCH + 12, R.BOOT_FW_SRC_LO, R.BOOT_FW_SRC_HI, R.ATT_NONCE, R.ATT_ADDR_LO,
    R.ATT_ADDR_HI, R.ATT_CERT_SEL, R.DMP_PEN_SEL, R.TST_INJ_PICK, R.TST_CAP_POS, R.TST_CAP_ADDR_LO, R.TST_CAP_ADDR_HI]

/-- Status registers of W1C bits. -/
def flagRegs : List Nat := [R.PCK_STATUS, R.THM_STATUS, R.CLK_STATUS, R.HLS_STATUS, R.DMP_STATUS]

/-- Registers in force from the next strobe. -/
def strobeRegs : List Nat := [R.PCK_LAG_BOUND, R.PCK_DONE_LIMIT, R.WFT_WDOG, R.NVW_THRESH]

/-- All of them. -/
def quietRegs : List Nat := plainRegs ++ flagRegs ++ strobeRegs

theorem plain_quiet {a : Nat} (h : a ∈ plainRegs) : a ∈ quietRegs := List.mem_append_left _ (List.mem_append_left _ h)
theorem flag_quiet {a : Nat} (h : a ∈ flagRegs) : a ∈ quietRegs := List.mem_append_left _ (List.mem_append_right _ h)
theorem strobe_quiet {a : Nat} (h : a ∈ strobeRegs) : a ∈ quietRegs := List.mem_append_right _ h

/-- They lie in the block windows, word by word, at no router and in no firmware channel. -/
theorem quiet_place : ∀ a ∈ quietRegs, a % 4 = 0 ∧ a < 0x110000 ∧ placeOf a = .block ∧ isRouterReg a = false ∧ cvuFirmAt a = false := by
  decide

/-- A write stores all their RW bits. -/
theorem quiet_stores : ∀ a ∈ quietRegs, (∀ rw, storeMask a rw = rw) ∧ a ≠ R.SKN_CTRL := by
  have h : ∀ a ∈ quietRegs, ¬ (a = R.PCK_CTRL ∨ a = R.CLK_CTRL ∨ a = R.SNT_CTRL ∨ a = R.TST_CTRL) ∧ a ≠ R.SKN_SAMP_DATA ∧ a ≠ R.SKN_CTRL := by
    decide
  intro a ha
  obtain ⟨hc, hd, hk⟩ := h a ha
  exact ⟨fun rw => by unfold storeMask; rw [if_neg hc, if_neg hd], hk⟩

/-- No selector applies to them. -/
theorem quiet_instOf (s : State) : ∀ a ∈ quietRegs, s.instOf a = 0 := by
  simp only [quietRegs, plainRegs, flagRegs, strobeRegs, List.cons_append, List.nil_append, List.forall_mem_cons, List.not_mem_nil,
    false_implies, implies_true, and_true]
  and_intros <;> rfl

/-- A write to them has no action. -/
theorem quiet_regAct (s : State) (v old : Word) (lvl : Bool) : ∀ a ∈ quietRegs, s.regAct a v old lvl = s := by
  simp only [quietRegs, plainRegs, flagRegs, strobeRegs, List.cons_append, List.nil_append, List.forall_mem_cons, List.not_mem_nil,
    false_implies, implies_true, and_true]
  and_intros <;> rfl

/-- A fact about the rows of a list of registers, of one of them. -/
theorem row_of_all {l : List Nat} {p : RegRow → Bool} (h : (l.all fun a => (regRow? a).all p) = true) {a : Nat} {r : RegRow} (ha : a ∈ l)
    (hr : regRow? a = some r) : p r = true := by
  have hp := List.all_eq_true.mp h a ha
  rw [hr] at hp
  exact hp

theorem plain_row {a : Nat} {r : RegRow} (ha : a ∈ plainRegs) (hr : regRow? a = some r) :
    (r.w1c = 0 ∧ r.ro = 0 ∧ r.wo = 0 ∧ r.resl = 0) ∧ r.cov = 0 ∧ r.strobe = false := by
  have h := row_of_all (l := plainRegs)
    (p := fun r => decide ((r.w1c = 0 ∧ r.ro = 0 ∧ r.wo = 0 ∧ r.resl = 0) ∧ r.cov = 0 ∧ r.strobe = false)) (by decide) ha hr
  simpa only [decide_eq_true_eq] using h

theorem flag_row {a : Nat} {r : RegRow} (ha : a ∈ flagRegs) (hr : regRow? a = some r) :
    (r.rw = 0 ∧ r.resl = 0) ∧ r.cov = 0 ∧ r.strobe = false := by
  have h := row_of_all (l := flagRegs) (p := fun r => decide ((r.rw = 0 ∧ r.resl = 0) ∧ r.cov = 0 ∧ r.strobe = false)) (by decide) ha hr
  simpa only [decide_eq_true_eq] using h

theorem strobe_row {a : Nat} {r : RegRow} (ha : a ∈ strobeRegs) (hr : regRow? a = some r) : r.w1c = 0 ∧ r.strobe = true := by
  have h := row_of_all (l := strobeRegs) (p := fun r => decide (r.w1c = 0 ∧ r.strobe = true)) (by decide) ha hr
  simpa only [decide_eq_true_eq] using h

theorem covMask_of_row {a : Nat} {r : RegRow} (hr : regRow? a = some r) : covMask a = r.cov := by
  unfold covMask
  rw [hr]

theorem reslBits_zero {a : Nat} {r : RegRow} (h : r.resl = 0) : reslBits a r = 0 := by
  unfold reslBits
  rw [h]
  exact Nat.and_zero _

end Sys2Proof.Machine
end

section
/-!
SUPPORT. Register access, path by path: a write of words, a write of one bit, and a read.
-/
namespace Sys2Proof.Machine

/-! ### Writes -/

section
variable (s : State) {a : Nat} {r : RegRow}

theorem blockWrite_unmapped (v : Word) (lvl : Bool) (hr : regRow? a = none) : s.blockWrite a v lvl = .next (s.unmapped a true) := by
  unfold State.blockWrite
  rw [hr, ite_self]

theorem blockWrite_reslWrite (v : Word) (lvl : Bool) (ha : a < 0x110000) (hr : regRow? a = some r) (hf : cvuFirmAt a = false)
    (hk : reslKept a r v = false) : s.blockWrite a v lvl = .fault .reslWrite := by
  unfold State.blockWrite
  rw [if_pos ha, hr]
  simp [hf, hk]

theorem blockWrite_next (v : Word) (lvl : Bool) (ha : a < 0x110000) (hr : regRow? a = some r) (hf : cvuFirmAt a = false)
    (hk : reslKept a r v = true) : s.blockWrite a v lvl = .next (s.regApply a r v lvl) := by
  unfold State.blockWrite
  rw [if_pos ha, hr]
  simp [hf, hk]

theorem wordWrite_block (port : Nat) (v : Word) (hp : placeOf a = .block) (hrt : isRouterReg a = false) :
    s.wordWrite port a v = s.blockWrite a v := by
  unfold State.wordWrite State.routerStalls
  rw [hp]
  simp [hrt]

theorem wordWrite_bits (port : Nat) (v : Word) {b n : Nat} (hp : placeOf a = .bits b n) :
    s.wordWrite port a v = s.aliasWrite b n (v.getLsbD 0) a := by
  unfold State.wordWrite
  rw [hp]
  rfl

theorem regWrite_word (port : Nat) {data : List Byte} (ha : a % 4 = 0) (hl : data.length = 4) :
    s.regWrite port a data = s.wordWrite port a (BitVec.ofNat 32 (leNat data)) := by
  unfold State.regWrite
  rw [if_pos ⟨ha, hl⟩]

/-- A write of 8 bytes is two writes of a word. -/
theorem regWrite_two (port : Nat) {data : List Byte} {s1 : State} (ha : a % 4 = 0) (hl : data.length = 8)
    (h1 : s.wordWrite port a (BitVec.ofNat 32 (leNat (data.take 4))) = .next s1) :
    s.regWrite port a data = s1.wordWrite port (a + 4) (BitVec.ofNat 32 (leNat (data.drop 4))) := by
  unfold State.regWrite
  rw [if_neg (by omega), if_pos ⟨ha, hl⟩, h1]

theorem regWrite_dropped (port : Nat) {data : List Byte} (h : a % 4 ≠ 0 ∨ (data.length ≠ 4 ∧ data.length ≠ 8)) :
    s.regWrite port a data = .next (s.dropped a) := by
  unfold State.regWrite
  rw [if_neg (by omega), if_neg (by omega)]

/-- The device's own windows below the tile access window hold no router. -/
theorem place_below_window (ha : a < 0x94000) : placeOf a = .block ∧ isRouterReg a = false := by
  constructor
  · unfold placeOf
    rw [if_neg (by omega), if_pos (by omega)]
  · unfold isRouterReg R.WFT_RTR_LINK R.WFT_RTR_BLOCK R.WFT_RTR_RETRY R.WFT_TBL_DATA
    simp only [Bool.or_eq_false_iff, decide_eq_false_iff_not]
    omega

/-! A write to a register of `quietRegs`. -/

theorem wordWrite_quiet (port : Nat) (v : Word) (h : a ∈ quietRegs) : s.wordWrite port a v = s.blockWrite a v := by
  obtain ⟨_, _, hp, hrt, _⟩ := quiet_place a h
  exact wordWrite_block s port v hp hrt

theorem regApply_quiet (v : Word) (lvl : Bool) (h : a ∈ quietRegs) :
    s.regApply a r v lvl = ((if r.strobe then s.hold a else s).setReg a (written r r.rw (s.reg a) v)).sntCheck a 0 (s.reg a) := by
  obtain ⟨hm, hk⟩ := quiet_stores a h
  unfold State.regApply State.regStore State.writeIgnores
  dsimp only
  have hc : ¬ (a = R.SKN_CTRL ∧ s.get F.SNT_STATUS_MISMATCH = 1) := fun hc => hk hc.1
  rw [quiet_regAct _ _ _ _ a h, quiet_instOf s a h, hm, if_neg hc]

theorem blockWrite_quiet (v : Word) (lvl : Bool) (h : a ∈ quietRegs) (hr : regRow? a = some r) (hk : Nat.land v.toNat r.resl = reslBits a r) :
    s.blockWrite a v lvl =
      .next (((if r.strobe then s.hold a else s).setReg a (written r r.rw (s.reg a) v)).sntCheck a 0 (s.reg a)) := by
  obtain ⟨_, ha, _, _, hf⟩ := quiet_place a h
  rw [blockWrite_next s v lvl ha hr hf (decide_eq_true hk), regApply_quiet s v lvl h]

/-- The register takes the RW bits of the word, and nothing else happens. -/
theorem blockWrite_stores (v : Word) (lvl : Bool) (h : a ∈ quietRegs) (hr : regRow? a = some r) (hresl : r.resl = 0) (hcov : r.cov = 0)
    (hst : r.strobe = false) : s.blockWrite a v lvl = .next (s.setReg a (written r r.rw (s.reg a) v)) := by
  have hk : Nat.land v.toNat r.resl = reslBits a r := by
    rw [reslBits_zero hresl, hresl]
    exact Nat.and_zero _
  rw [blockWrite_quiet s v lvl h hr hk, sntCheck_uncovered _ 0 _ ((covMask_of_row hr).trans hcov), hst]
  rfl

theorem blockWrite_plain (v : Word) (lvl : Bool) (h : a ∈ plainRegs) (hr : regRow? a = some r) :
    s.blockWrite a v lvl = .next (s.setReg a (written r r.rw (s.reg a) v)) := by
  obtain ⟨⟨_, _, _, hresl⟩, hcov, hst⟩ := plain_row h hr
  exact blockWrite_stores s v lvl (plain_quiet h) hr hresl hcov hst

theorem getLsbD_plain (h : a ∈ plainRegs) (hr : regRow? a = some r) (old v : Word) {n : Nat} (hn : n < 32) :
    (written r r.rw old v).getLsbD n = if bitAt r.rw n then v.getLsbD n else old.getLsbD n := by
  obtain ⟨⟨hw1c, _, _, _⟩, _⟩ := plain_row h hr
  rw [getLsbD_written r _ old v hn, hw1c]
  simp [bitAt]

/-! ### Writes to one bit (R528) -/

/-- The register and bit that an address of the bit windows names. -/
theorem placeOf_bit {k off n : Nat} (hk : k < 17) (hoff : off < 0x10000) (hn : n < 32) (h9 : k = 9 → off < 0x4000) :
    placeOf (0x1000000 + k * 0x200000 + off / 4 * 0x80 + n * 4) = .bits (k * 0x10000 + off / 4 * 4) n := by
  have hx : (0x1000000 + k * 0x200000 + off / 4 * 0x80 + n * 4 - 0x1000000) / 0x200000 = k := by omega
  have hy : (0x1000000 + k * 0x200000 + off / 4 * 0x80 + n * 4 - 0x1000000) % 0x200000 = off / 4 * 0x80 + n * 4 := by omega
  have hr : aliasReg (off / 4 * 0x80 + n * 4) = off / 4 * 4 := by unfold aliasReg; omega
  have hb : aliasBit (off / 4 * 0x80 + n * 4) = n := by unfold aliasBit; omega
  unfold placeOf
  rw [if_neg (by omega), if_neg (by omega), if_pos (by omega)]
  dsimp only
  rw [hx, hy, hr, hb, if_pos]
  split
  · next h => have := h9 h; omega
  · omega

/-- What a plain register shows of a word, as the read mask cuts it. -/
theorem readable_plain {x : Nat} (rw : Nat) (hx : x < 2 ^ 32) :
    let m := Nat.land (Nat.lor (Nat.lor rw 0) (Nat.lor 0 0)) (2 ^ 32 - 1)
    Nat.lor (Nat.land x m - Nat.land (Nat.land x m) 0) 0 = Nat.land x rw := by
  change ((x &&& (((rw ||| 0) ||| (0 ||| 0)) &&& (2 ^ 32 - 1))) - ((x &&& _) &&& 0)) ||| 0 = x &&& rw
  rw [Nat.and_zero, Nat.sub_zero, Nat.or_zero, Nat.or_zero, Nat.or_zero, Nat.or_zero]
  rw [← Nat.and_assoc, Nat.and_two_pow_sub_one_eq_mod]
  exact Nat.mod_eq_of_lt (Nat.lt_of_le_of_lt Nat.and_le_left hx)

/-- A plain register reads as its RW bits, unless a latched word stands before it. -/
theorem regWord_plain (h : a ∈ plainRegs) (hr : regRow? a = some r) (hl : smGet none a s.latch = none) :
    s.regWord a = some (BitVec.ofNat 32 (Nat.land (s.reg a).toNat r.rw)) := by
  obtain ⟨⟨hw1c, hro, _, hresl⟩, _⟩ := plain_row h hr
  have hview : ∀ a ∈ plainRegs, ∀ w, s.viewWord a w = w := by
    simp only [plainRegs, List.forall_mem_cons, List.not_mem_nil, false_implies, implies_true, and_true]
    and_intros <;> intro w <;> rfl
  have hmask : ∀ a ∈ plainRegs, res0Mask a = 2 ^ 32 - 1 := by decide
  have hw := (s.reg a).isLt
  unfold State.regWord
  rw [hr, quiet_instOf s a (plain_quiet h)]
  simp only [Option.map_some, hl, hview a h, reslBits_zero hresl, readMask, hmask a h, hw1c, hro, hresl]
  rw [readable_plain _ (s.reg a).isLt]

/-- The word that a write to an RW bit of a plain register amounts to: that bit takes the value, the other RW bits stand. -/
theorem aliasWord_plain (h : a ∈ plainRegs) (hr : regRow? a = some r) {n : Nat} (d : Bool) (w : Word) (hn : bitAt r.rw n = true) :
    ∃ v, aliasWord a n d r w = some v ∧
      ∀ m, m < 32 → bitAt r.rw m = true → v.getLsbD m = if m = n then d else w.getLsbD m := by
  obtain ⟨⟨_, _, _, hresl⟩, _⟩ := plain_row h hr
  unfold aliasWord
  dsimp only
  rw [if_pos hn]
  refine ⟨_, rfl, fun m hm hrm => ?_⟩
  rw [BitVec.getLsbD_ofNat, testBit_aliasBase, reslBits_zero hresl]
  simp only [hm, decide_true, Bool.true_and]
  congr 1
  change ((w.toNat &&& r.rw) ||| 0).testBit m = _
  rw [Nat.or_zero, Nat.testBit_and, show r.rw.testBit m = true from hrm, Bool.and_true]
  rfl

/-- A write to any other bit of a plain register is ignored. -/
theorem aliasWord_plain_ro (h : a ∈ plainRegs) (hr : regRow? a = some r) {n : Nat} (d : Bool) (w : Word) (hn : bitAt r.rw n = false) :
    aliasWord a n d r w = none := by
  obtain ⟨⟨hw1c, _, hwo, _⟩, _⟩ := plain_row h hr
  have hrw : ¬ bitAt r.rw n = true := by rw [hn]; exact Bool.false_ne_true
  unfold aliasWord
  dsimp only
  rw [if_neg hrw, if_neg]
  simp [hw1c, hwo, bitAt]

/-! ### Reads (R390, R525, R526) -/

theorem wordsAt_word (ha : a % 4 = 0) : wordsAt a 4 = [a] := by
  have h : (a + 4 - 1) / 4 - a / 4 + 1 = 1 := by omega
  have h4 : 4 * (a / 4) = a := by omega
  unfold wordsAt
  rw [h]
  simp [rangeFrom, h4]

/-- A read of a plain register ends what a read of its lower word latched. -/
theorem readEffect_plain : ∀ a ∈ plainRegs, s.readEffect a = { s with latch := smSet none a none s.latch } := by
  simp only [plainRegs, List.forall_mem_cons, List.not_mem_nil, false_implies, implies_true, and_true]
  and_intros <;> rfl

theorem regRead_plain (port tag : Nat) (h : a ∈ plainRegs) (hr : regRow? a = some r) (hl : smGet none a s.latch = none) :
    s.regRead port tag a 4 =
      { s with latch := smSet none a none s.latch,
               out := s.out ++ [.regCpl port tag 0 (leBytes 4 (Nat.land (s.reg a).toNat r.rw))] } := by
  obtain ⟨h4, _, hp, hrt, _⟩ := quiet_place a (plain_quiet h)
  have hstall : s.readStalls a = none := by
    unfold State.readStalls State.routerStalls
    rw [hp]
    simp [hrt]
  have hread : s.wordRead a = ({ s with latch := smSet none a none s.latch }, BitVec.ofNat 32 (Nat.land (s.reg a).toNat r.rw)) := by
    unfold State.wordRead
    rw [hp]
    dsimp only
    rw [regWord_plain s h hr hl, readEffect_plain s a h]
  have hlt : Nat.land (s.reg a).toNat r.rw < 2 ^ 32 := Nat.lt_of_le_of_lt Nat.and_le_left (s.reg a).isLt
  unfold State.regRead
  rw [wordsAt_word h4]
  simp only [List.filterMap_cons, hstall, List.filterMap_nil, List.head?_nil, State.wordsRead, hread, BitVec.toNat_ofNat,
    Nat.mod_eq_of_lt hlt, List.append_nil, State.emit]

end

end Sys2Proof.Machine
end

section
/-!
PROOFS. The clauses of RegisterAccess, one by one: counted accesses, words, single bits, ports, latched words.
-/
namespace Sys2Proof.Machine

section
variable (s : State)

/-! ### Accesses that are counted (R522, R525) -/

/-- The access is captured, and nothing else changes. -/
theorem accCap_captures (a : Nat) :
    (s.accCap a true).get F.HC_ACC_CAP_VALID = 1 ∧ (s.accCap a true).get F.HC_ACC_CAP_WRITE = 1 ∧
      (s.accCap a true).get F.HC_ACC_CAP_ADDR = a % 2 ^ 26 ∧ onlyRegs s (s.accCap a true) [R.HC_ACC_CAP] := by
  unfold State.accCap
  refine ⟨?valid, ?write, State.get_set_same _ _ _ _ (by decide), ?frame⟩
  case valid =>
    rw [State.get_set_other _ F.HC_ACC_CAP_ADDR F.HC_ACC_CAP_VALID _ _ _ (.inr (by decide)),
      State.get_set_other _ F.HC_ACC_CAP_WRITE F.HC_ACC_CAP_VALID _ _ _ (.inr (by decide)), State.get_set_same _ _ _ _ (by decide)]
    rfl
  case write =>
    rw [State.get_set_other _ F.HC_ACC_CAP_ADDR F.HC_ACC_CAP_WRITE _ _ _ (.inr (by decide)), State.get_set_same _ _ _ _ (by decide)]
    rfl
  case frame =>
    refine onlyRegs_trans ?_ (onlyRegs_set _ _ _ _ (by decide))
    exact onlyRegs_trans (onlyRegs_set _ _ _ _ (by decide)) (onlyRegs_set _ _ _ _ (by decide))

/-- Either count of HC_ACC rises by one, and the access is captured. -/
theorem add_accCap_counted (a : Nat) {f : Fld} (hf : f = F.HC_ACC_PARTIAL ∨ f = F.HC_ACC_UNMAPPED) :
    let t := (s.add f 1).accCap a true
    t.get f = min (2 ^ 16 - 1) (s.get f + 1) ∧ t.get F.HC_ACC_CAP_VALID = 1 ∧ t.get F.HC_ACC_CAP_WRITE = 1 ∧
      t.get F.HC_ACC_CAP_ADDR = a % 2 ^ 26 ∧ onlyRegs s t [R.HC_ACC, R.HC_ACC_CAP] := by
  obtain ⟨hvalid, hwrite, haddr, hcap⟩ := accCap_captures (s.add f 1) a
  have hreg : f.reg = R.HC_ACC := by rcases hf with rfl | rfl <;> rfl
  have hw : f.lo + f.w ≤ 32 ∧ f.w = 16 := by rcases hf with rfl | rfl <;> decide
  have hadd : onlyRegs s (s.add f 1) [R.HC_ACC, R.HC_ACC_CAP] := onlyRegs_add s f 1 0 (by rw [hreg]; decide)
  refine ⟨?_, hvalid, hwrite, haddr, onlyRegs_trans hadd (onlyRegs_mono hcap (by decide))⟩
  rw [get_eq_of_sameRegs hcap.2 (by rw [hreg]; decide), State.get_add_same _ _ _ _ hw.1, hw.2]

/-! ### Writes of words -/

variable {a : Nat} {data : List Byte} {r : RegRow}

theorem regWrite_quiet (port : Nat) (h : a ∈ quietRegs) (hl : data.length = 4) :
    s.regWrite port a data = s.blockWrite a (BitVec.ofNat 32 (leNat data)) := by
  rw [regWrite_word s port (quiet_place a h).1 hl, wordWrite_quiet s port _ h]

theorem getLsbD_leNat (data : List Byte) {n : Nat} (hn : n < 32) : (BitVec.ofNat 32 (leNat data)).getLsbD n = bitAt (leNat data) n := by
  rw [BitVec.getLsbD_ofNat]
  simp [hn, bitAt]

/-- The frame of a write that stores one register. -/
theorem onlyRegs_stored (v : Word) : onlyRegs s (s.setReg a v) [a] :=
  onlyRegs_setReg s a v 0 (by rw [rkey_zero]; exact List.mem_cons_self)

theorem regWrite_flags (h : a ∈ flagRegs) (hl : data.length = 4) (hr : regRow? a = some r) :
    ∃ t, s.regWrite 0 a data = .next t ∧ onlyRegs s t [a] ∧ ∀ n, n < 32 →
      (t.reg a).getLsbD n = ((s.reg a).getLsbD n && !(bitAt r.w1c n && bitAt (leNat data) n)) := by
  obtain ⟨⟨hrw, hresl⟩, hcov, hst⟩ := flag_row h hr
  refine ⟨_, (regWrite_quiet s 0 (flag_quiet h) hl).trans (blockWrite_stores s _ _ (flag_quiet h) hr hresl hcov hst), onlyRegs_stored s _,
    fun n hn => ?_⟩
  rw [State.reg_setReg_same, getLsbD_written r _ _ _ hn, getLsbD_leNat data hn, hrw, Bool.and_comm (bitAt r.w1c n)]
  simp [bitAt]

theorem regWrite_plain (port : Nat) (h : a ∈ plainRegs) (hl : data.length = 4) (hr : regRow? a = some r) :
    s.regWrite port a data = .next (s.setReg a (written r r.rw (s.reg a) (BitVec.ofNat 32 (leNat data)))) :=
  (regWrite_quiet s port (plain_quiet h) hl).trans (blockWrite_plain s _ _ h hr)

theorem regWrite_plain_bits (h : a ∈ plainRegs) (hl : data.length = 4) (hr : regRow? a = some r) :
    ∃ t, s.regWrite 0 a data = .next t ∧ onlyRegs s t [a] ∧ ∀ n, n < 32 →
      (t.reg a).getLsbD n = if bitAt r.rw n then bitAt (leNat data) n else (s.reg a).getLsbD n := by
  refine ⟨_, regWrite_plain s 0 h hl hr, onlyRegs_stored s _, fun n hn => ?_⟩
  rw [State.reg_setReg_same, getLsbD_plain h hr _ _ hn, getLsbD_leNat data hn]

/-- The word in force of a register that a write holds back. -/
theorem cfgWord_of_held {t : State} {w : Word} (h : smGet none a t.held = some w) : t.cfgWord a = w := by
  unfold State.cfgWord
  rw [h]

/-- A register in force from the next strobe: the word in force stays, the stored one takes the bits (R143, R183, R304). -/
theorem regWrite_strobe (h : a ∈ strobeRegs) (hl : data.length = 4) (hr : regRow? a = some r)
    (hk : Nat.land (leNat data) r.resl = reslBits a r) :
    ∃ t, s.regWrite 0 a data = .next t ∧ t.cfgWord a = s.cfgWord a ∧
      ∀ n, n < 32 → bitAt r.rw n = true → (t.reg a).getLsbD n = bitAt (leNat data) n := by
  obtain ⟨hw1c, hst⟩ := strobe_row h hr
  have hout : a ∉ sntKeys := (show ∀ a ∈ strobeRegs, a ∉ sntKeys by decide) a h
  have hk' : Nat.land (BitVec.ofNat 32 (leNat data)).toNat r.resl = reslBits a r := by rwa [toNat_word hl]
  refine ⟨_, (regWrite_quiet s 0 (strobe_quiet h) hl).trans (blockWrite_quiet s _ _ (strobe_quiet h) hr hk'), ?_, fun n hn hrw => ?_⟩
  · refine cfgWord_of_held ?_
    rw [(sntCheck_keeps _ a 0 _).1, State.held_setReg, if_pos hst]
    exact smGet_smSet_same none a (some (s.cfgWord a)) s.held
  · rw [reg_eq_of_sameRegs (sntCheck_keeps _ a 0 _).2 hout, State.reg_setReg_same, getLsbD_written r _ _ _ hn, getLsbD_leNat data hn, hrw, hw1c]
    simp [bitAt]

/-- All bits of HC_SCRATCH are RW. -/
theorem scratch_row : ∀ a ∈ [R.HC_SCRATCH, R.HC_SCRATCH + 4], a ∈ plainRegs ∧ ∃ r, regRow? a = some r ∧ r.rw = 0xFFFFFFFF := by
  simp only [List.forall_mem_cons, List.not_mem_nil, false_implies, implies_true, and_true]
  exact ⟨⟨by decide, _, rfl, rfl⟩, by decide, _, rfl, rfl⟩

/-- A word written there replaces the register. -/
theorem wordWrite_scratch (v : Word) (ha : a ∈ [R.HC_SCRATCH, R.HC_SCRATCH + 4]) : s.wordWrite 0 a v = .next (s.setReg a v) := by
  obtain ⟨h, r, hr, hrw⟩ := scratch_row a ha
  have hv : written r r.rw (s.reg a) v = v := by
    apply BitVec.eq_of_getLsbD_eq
    intro n hn
    have hbit : bitAt r.rw n = true := by
      rw [hrw]
      exact (Nat.testBit_two_pow_sub_one 32 n).trans (decide_eq_true hn)
    rw [getLsbD_plain h hr _ _ hn, hbit, if_pos rfl]
  rw [wordWrite_quiet s 0 v (plain_quiet h), blockWrite_plain s v _ h hr, hv]

theorem regWrite_scratch (ha : a = R.HC_SCRATCH) (hl : data.length = 8) :
    ∃ t, s.regWrite 0 a data = .next t ∧ t.reg R.HC_SCRATCH = BitVec.ofNat 32 (leNat (data.take 4)) ∧
      t.reg (R.HC_SCRATCH + 4) = BitVec.ofNat 32 (leNat (data.drop 4)) ∧ onlyRegs s t [R.HC_SCRATCH, R.HC_SCRATCH + 4] := by
  subst ha
  refine ⟨_, (regWrite_two s 0 (by decide) hl (wordWrite_scratch s _ (by decide))).trans (wordWrite_scratch _ _ (by decide)), ?_,
    State.reg_setReg_same .., onlyRegs_trans (onlyRegs_setReg s _ _ 0 (by decide)) (onlyRegs_setReg _ _ _ 0 (by decide))⟩
  rw [reg_eq_of_sameRegs (onlyRegs_stored _ _).2 (by decide), State.reg_setReg_same]

/-! ### Writes to one bit (R528) -/

/-- ALIAS_WRITE finds a plain register at its address of R528. -/
theorem execAliasWrite_plain {block : Fin 17} {off : BitVec 16} (bit : Fin 32) (d : BitVec 32)
    (h : block.val * 0x10000 + off.toNat ∈ plainRegs) :
    ∃ addr, execAliasWrite block off bit d s = s.aliasWrite (block.val * 0x10000 + off.toNat) bit.val (d.getLsbD 0) addr := by
  have h9 : ∀ b ∈ plainRegs, b / 0x10000 ≠ 9 := by decide
  have hb := h9 _ h
  have h4 := (quiet_place _ (plain_quiet h)).1
  have hoff := off.isLt
  have hp := placeOf_bit (k := block.val) (off := off.toNat) (n := bit.val) block.isLt hoff bit.isLt (by omega)
  rw [show off.toNat / 4 * 4 = off.toNat by omega] at hp
  refine ⟨0x1000000 + block.val * 0x200000 + off.toNat / 4 * 0x80 + bit.val * 4, ?_⟩
  unfold execAliasWrite
  exact wordWrite_bits s 0 d hp

theorem aliasWrite_sets {b addr : Nat} {n : Nat} (d : Bool) (h : b ∈ plainRegs) (hr : regRow? b = some r)
    (hl : smGet none b s.latch = none) (hn : bitAt r.rw n = true) :
    ∃ t, s.aliasWrite b n d addr = .next t ∧ onlyRegs s t [b] ∧
      ∀ m, m < 32 → (t.reg b).getLsbD m = if m = n then d else (s.reg b).getLsbD m := by
  obtain ⟨v, hv, hbits⟩ := aliasWord_plain h hr d (BitVec.ofNat 32 (Nat.land (s.reg b).toNat r.rw)) hn
  have hw : s.aliasWrite b n d addr = .next (s.setReg b (written r r.rw (s.reg b) v)) := by
    unfold State.aliasWrite
    rw [hr, regWord_plain s h hr hl]
    dsimp only [Option.getD_some]
    rw [hv]
    exact blockWrite_plain s v _ h hr
  refine ⟨_, hw, onlyRegs_stored s _, fun m hm => ?_⟩
  rw [State.reg_setReg_same, getLsbD_plain h hr _ _ hm]
  by_cases hrm : bitAt r.rw m = true
  · have hland : (BitVec.ofNat 32 (Nat.land (s.reg b).toNat r.rw)).getLsbD m = (s.reg b).getLsbD m := by
      rw [BitVec.getLsbD_ofNat]
      change (decide (m < 32) && ((s.reg b).toNat &&& r.rw).testBit m) = _
      rw [Nat.testBit_and, show r.rw.testBit m = true from hrm, Bool.and_true, decide_eq_true hm, Bool.true_and]
      rfl
    rw [if_pos hrm, hbits m hm hrm, hland]
  · have hmn : m ≠ n := fun e => hrm (e ▸ hn)
    rw [if_neg hrm, if_neg hmn]

theorem aliasWrite_keeps {b addr : Nat} {n : Nat} (d : Bool) (h : b ∈ plainRegs) (hr : regRow? b = some r) (hn : bitAt r.rw n = false) :
    s.aliasWrite b n d addr = .next s := by
  unfold State.aliasWrite
  rw [hr]
  dsimp only
  rw [aliasWord_plain_ro h hr d _ hn]

/-! ### Ports (R390) -/

variable (port : Fin 16) (addr : BitVec 32)

theorem execRegWr_down (h : s.portState port.val ≠ 3) : execRegWr port addr data s = .next s := by
  unfold execRegWr
  rw [if_pos h]

theorem execRegRd_down (tag : BitVec 12) (len : Fin 8) (h : s.portState port.val ≠ 3) : execRegRd port tag addr len s = .next s := by
  unfold execRegRd
  rw [if_pos h]

theorem execRegWr_other (h : s.portState port.val = 3) (hrole : s.portRole port.val ≠ 1) :
    execRegWr port addr data s = .next (s.set F.HLS_STATUS_REG_ERR 1) := by
  unfold execRegWr
  rw [if_neg (not_not_intro h), if_pos hrole]

theorem execRegRd_other (tag : BitVec 12) (len : Fin 8) (h : s.portState port.val = 3) (hrole : s.portRole port.val ≠ 1) :
    execRegRd port tag addr len s = .next (s.emit [.regCpl port.val tag.toNat 3 (leBytes 4 0xFFFFFFFF)]) := by
  unfold execRegRd
  rw [if_neg (not_not_intro h), if_pos hrole]

theorem execRegWr_host (h : s.portState port.val = 3) (hrole : s.portRole port.val = 1) :
    execRegWr port addr data s = s.regWrite port.val addr.toNat data := by
  unfold execRegWr
  rw [if_neg (not_not_intro h), if_neg (not_not_intro hrole)]

theorem execRegRd_host (tag : BitVec 12) (len : Fin 8) (h : s.portState port.val = 3) (hrole : s.portRole port.val = 1) :
    execRegRd port tag addr len s = .next (s.regRead port.val tag.toNat addr.toNat (len.val + 1)) := by
  unfold execRegRd
  rw [if_neg (not_not_intro h), if_neg (not_not_intro hrole)]

/-- A port does not change what a write to a plain register, or one of no whole words, does. -/
theorem regWrite_anyPort (p q : Nat) (h : (a ∈ plainRegs ∧ data.length = 4) ∨ a % 4 ≠ 0 ∨ (data.length ≠ 4 ∧ data.length ≠ 8)) :
    s.regWrite p a data = s.regWrite q a data := by
  rcases h with ⟨ha, hl⟩ | h
  · rw [regWrite_quiet s p (plain_quiet ha) hl, regWrite_quiet s q (plain_quiet ha) hl]
  · rw [regWrite_dropped s p h, regWrite_dropped s q h]

/-! ### HC_TIME and CLR_COUNTS (R526, R529, R531) -/

theorem latch_latchTime : s.latchTime.latch = smSet none R.HC_TIME_HI (some (BitVec.ofNat 32 (s.timeUs / 2 ^ 32))) s.latch := rfl

theorem regWord_latched {w : Word} (hr : (regRow? a).isSome = true) (h : smGet none a s.latch = some w) : s.regWord a = some w := by
  obtain ⟨r, hr⟩ := Option.isSome_iff_exists.mp hr
  unfold State.regWord
  rw [hr, h]
  rfl

theorem hcClr_clears : s.hcClr.reg R.HC_ACC = 0 ∧ s.hcClr.reg R.HC_ACC_CAP = 0 ∧ onlyRegs s s.hcClr [R.HC_ACC, R.HC_ACC_CAP] := by
  refine ⟨?_, State.reg_setReg_same .., onlyRegs_trans (onlyRegs_setReg s _ _ 0 (by decide)) (onlyRegs_setReg _ _ _ 0 (by decide))⟩
  exact (reg_eq_of_sameRegs (onlyRegs_stored _ _).2 (by decide)).trans (State.reg_setReg_same ..)

end

end Sys2Proof.Machine

open Sys2Proof Sys2Proof.Machine

/-- Settles O53: every clause follows from the path that the access takes: words, single bits, ports, reads. -/
theorem registerAccess : Obligations.RegisterAccess := by
  unfold Obligations.RegisterAccess
  intro s addr data a w run plain clears later counted
  refine ⟨fun h => ?notWhole, fun h4 hl ha => ⟨fun hr => ?unmapped, fun r hr hf hk => ?resl⟩,
    fun hl r hr => ⟨fun h => ?flags, fun h => ?plain, fun h hk => ?strobe⟩, fun ha hl => ?scratch,
    ?bits, ?ports, ?clear, ?time⟩
  case notWhole => exact ⟨_, regWrite_dropped s 0 h, add_accCap_counted s a (.inl rfl)⟩
  case unmapped =>
    obtain ⟨hp, hrt⟩ := place_below_window ha
    refine ⟨_, ?_, add_accCap_counted s a (.inr rfl)⟩
    exact (regWrite_word s 0 h4 hl).trans ((wordWrite_block s 0 _ hp hrt).trans (blockWrite_unmapped s _ _ hr))
  case resl =>
    obtain ⟨hp, hrt⟩ := place_below_window ha
    have hkept : reslKept a r (BitVec.ofNat 32 w) = false := decide_eq_false (by rwa [toNat_word hl])
    exact (regWrite_word s 0 h4 hl).trans ((wordWrite_block s 0 _ hp hrt).trans
      (blockWrite_reslWrite s _ _ (Nat.lt_trans ha (by decide)) hr hf hkept))
  case flags => exact regWrite_flags s h hl hr
  case plain => exact regWrite_plain_bits s h hl hr
  case strobe => exact regWrite_strobe s h hl hr hk
  case scratch => exact regWrite_scratch s ha hl
  case bits =>
    intro block off bit d r b hb hr hlatch
    obtain ⟨adr, he⟩ := execAliasWrite_plain s bit d hb
    refine ⟨fun hn => ?sets, fun hn => ?keeps⟩
    case sets =>
      obtain ⟨t, ht, hrest⟩ := aliasWrite_sets s (addr := adr) (d.getLsbD 0) hb hr hlatch hn
      exact ⟨t, he.trans ht, hrest⟩
    case keeps => exact he.trans (aliasWrite_keeps s _ hb hr hn)
  case ports =>
    intro port p
    refine ⟨fun h => ⟨?downWr, fun tag len => ?downRd⟩, fun h hrole => ⟨?otherWr, fun tag len => ?otherRd⟩,
      fun h hrole => ⟨fun hacc => ?hostWr, fun tag r ha hr hlatch => ?hostRd⟩⟩
    case downWr => exact execRegWr_down s port addr h
    case downRd => exact execRegRd_down s port addr tag len h
    case otherWr => exact ⟨_, execRegWr_other s port addr h hrole, setsFld_set s _ _ _ (by decide) (by decide)⟩
    case otherRd => exact ⟨_, execRegRd_other s port addr tag len h hrole, rfl⟩
    case hostWr => exact (execRegWr_host s port addr h hrole).trans (regWrite_anyPort s p 0 hacc)
    case hostRd =>
      exact ⟨_, (execRegRd_host s port addr tag 3 h hrole).trans (congrArg _ (regRead_plain s p tag.toNat ha hr hlatch)), rfl, rfl⟩
  case clear => exact ⟨_, rfl, hcClr_clears s⟩
  case time =>
    have hlatch := latch_latchTime s
    refine ⟨_, rfl, rfl, fun k hk => ?_, fun u hu => regWord_latched u (by decide) ?_⟩
    · rw [hlatch, smGet_smSet_other _ _ hk]
    · rw [hu, hlatch, smGet_smSet_same]
end

section
/-!
PROOFS. The life of a tile (R51, R52, R59, R64): what loading, reloading, halting, darning and the done report make of a tile, and that they
touch no other one.
-/
namespace Sys2Proof.Machine

/-! ### Byte ranges and tables filled in order -/

/-- A byte among those written reads as it was written. -/
theorem smGet_smSetBytes_in (k : Nat) (bs : List Byte) (m : SMap Byte) {x : Nat} (hl : k ≤ x) (hu : x < k + bs.length) :
    smGet 0 x (smSetBytes k bs m) = bs.getD (x - k) 0 := by
  induction bs generalizing k m with
  | nil => exact absurd hu (Nat.not_lt.mpr hl)
  | cons b bs ih =>
    rw [List.length_cons] at hu
    rw [smSetBytes]
    rcases Nat.eq_or_lt_of_le hl with rfl | hlt
    · rw [smGet_smSetBytes_out _ _ _ (.inl (Nat.lt_succ_self k)), smGet_smSet_same, Nat.sub_self, List.getD_cons_zero]
    · have hx : x - k = (x - (k + 1)) + 1 := by omega
      rw [ih (k + 1) _ hlt (by omega), hx, List.getD_cons_succ]

/-- The slice that is the whole list. -/
theorem sliceB_whole {bs : List Byte} {n : Nat} (h : bs.length = n) : sliceB bs 0 n = bs := by
  subst h
  simp [sliceB]

theorem mem_rangeFrom {a n k : Nat} : k ∈ rangeFrom a n ↔ a ≤ k ∧ k < a + n := by
  induction n generalizing a with
  | zero => simp [rangeFrom]
  | succ n ih =>
    rw [rangeFrom, List.mem_cons, ih]
    omega

/-- A table filled key by key reads at every key filled as it was filled. -/
theorem smGet_foldl_smSet {α : Type} [DecidableEq α] (d : α) (g : Nat → α) {k : Nat} (l : List Nat) (m : SMap α)
    (h : k ∈ l ∨ smGet d k m = g k) : smGet d k (l.foldl (fun m j => smSet d j (g j) m) m) = g k := by
  induction l generalizing m with
  | nil => exact h.resolve_left List.not_mem_nil
  | cons j l ih =>
    refine ih _ ?_
    by_cases hj : k = j
    · subst hj
      exact .inr (smGet_smSet_same ..)
    · exact h.imp (fun hm => (List.mem_cons.mp hm).resolve_left hj) fun hm => (smGet_smSet_other d d hj _ m).trans hm

/-! ### Fields of a tile after its wait code is set -/

@[simp] theorem st_tWait (c : Nat) (t : Tile) : (tWait c t).st = t.st := by cases t; rfl
@[simp] theorem scratch_tWait (c : Nat) (t : Tile) : (tWait c t).scratch = t.scratch := by cases t; rfl

theorem bankReg_tWait (c : Nat) (t : Tile) {k : Nat} (h : k ≠ R.TIL_SEQ) : bankReg k (tWait c t).regs = bankReg k t.regs :=
  bankReg_bankSet_other F.TIL_SEQ_WAIT 0 c h t.regs

theorem tGet_tWait {c : Nat} (hc : c < 16) (t : Tile) : tGet F.TIL_SEQ_WAIT (tWait c t) = c :=
  (bankGet_bankSet_same F.TIL_SEQ_WAIT 0 c t.regs (by decide)).trans (Nat.mod_eq_of_lt hc)

/-! ### Loads (R59, R315, R316) -/

/-- The static area takes the image, and every byte above it stays (R52). -/
theorem smGet_tStatic {img : List Byte} (h : img.length = imageBytes) (t : Tile) (x : Nat) :
    smGet 0 x (tStatic img t).scratch = if x < imageBytes then img.getD x 0 else smGet 0 x t.scratch := by
  simp only [tStatic, sliceB_whole h]
  by_cases hx : x < imageBytes
  · rw [if_pos hx, smGet_smSetBytes_in 0 img _ (Nat.zero_le x) (by omega), Nat.sub_zero]
  · rw [if_neg hx, smGet_smSetBytes_out 0 img _ (by omega)]

theorem st_tStatic (img : List Byte) (t : Tile) : (tStatic img t).st = t.st := by cases t; rfl

theorem length_tImage (n : Nat) (t : Tile) : (tImage n t).length = imageBytes := length_smGetBytes ..

theorem scratch_tTrailer (img : List Byte) (t : Tile) : (tTrailer img t).scratch = t.scratch := by cases t; rfl

/-- The entry points of an image by mode (R315). -/
theorem smGet_entry_tTrailer (img : List Byte) (t : Tile) {mode : Nat} (h : mode < 4) :
    smGet 0 mode (tTrailer img t).entry = trailerNum img (2 * mode) 2 :=
  smGet_foldl_smSet 0 (fun k => trailerNum img (2 * k) 2) _ _ (.inl (mem_rangeFrom.mpr ⟨Nat.zero_le _, by omega⟩))

section
variable (mode idle : Nat) (t : Tile)

/-- A loaded tile is READY when the CRCs of its image match, else HALTED (R59). -/
theorem st_tLoaded : (tLoaded mode idle t).st = if imageOk idle (tImage t.slot t) then 2 else 4 := by
  simp only [tLoaded, st_tWait]

theorem smGet_tLoaded (x : Nat) : smGet 0 x (tLoaded mode idle t).scratch =
    if x < imageBytes then (tImage t.slot t).getD x 0 else smGet 0 x t.scratch := by
  simp only [tLoaded, scratch_tWait, scratch_tTrailer, smGet_tStatic (length_tImage _ _)]

/-- The sequencer of a loaded tile stands at the entry point of the mode (R66). -/
theorem pc_tLoaded (h : mode < 4) :
    (tLoaded mode idle t).pc = BitVec.ofNat 16 (trailerNum (tImage t.slot t) (2 * mode) 2) := by
  simp only [tLoaded, pc_tWait, smGet_entry_tTrailer _ _ h]

end

/-- The mode in force is one of four (R124). -/
theorem mode_lt (s : State) : s.get F.PCK_STATUS_MODE < 4 := bitsOf_lt ..

/-! ### The done report (R20, R51, R73) -/

theorem tDoneReady_iff (t : Tile) :
    tDoneReady t = true ↔ (t.st = 3 ∨ t.st = 4) ∧ t.doneExec = true ∧ t.reported = false ∧ t.staged = [] ∧ t.pendWrite = [] ∧
      t.pendAcc = [] ∧ t.pendSet = [] ∧ t.drain = none ∧ t.building = [] ∧ t.outbox = [] := by
  simp only [tDoneReady, tQuiet, Bool.and_eq_true, Bool.or_eq_true, decide_eq_true_eq, Bool.not_eq_true', and_assoc]

/-- The counts of the pick stand in the tile's registers once it has reported, and it waits for the strobe (R66, R73). -/
theorem tReport_counts (mac idle stall : Word) (t : Tile) :
    (tReport mac idle stall t).reported = true ∧ bankReg R.TIL_PERF_MAC (tReport mac idle stall t).regs = mac ∧
      bankReg R.TIL_PERF_NVW_IDLE (tReport mac idle stall t).regs = idle ∧
      bankReg R.TIL_PERF_STALL (tReport mac idle stall t).regs = stall ∧ tGet F.TIL_SEQ_WAIT (tReport mac idle stall t) = 8 := by
  unfold tReport
  refine ⟨rfl, ?_, ?_, ?_, tGet_tWait (by decide) _⟩
  · exact (bankReg_tWait 8 _ (by decide)).trans (bankReg_bankPut_same ..)
  · exact (bankReg_tWait 8 _ (by decide)).trans ((bankReg_bankPut_other (by decide) ..).trans (bankReg_bankPut_same ..))
  · exact (bankReg_tWait 8 _ (by decide)).trans ((bankReg_bankPut_other (by decide) ..).trans
      ((bankReg_bankPut_other (by decide) ..).trans (bankReg_bankPut_same ..)))

/-! ### Commands on a tile that exists -/

theorem onTile_next {a : TileAddr} (h : tileOk a.toNat = true) (s : State) (f : Tile → State) : onTile a s f = .next (f (s.tile a.toNat)) := by
  rw [onTile_eq, if_pos h]

section
variable {t : TileAddr} (h : tileOk t.toNat = true) (s : State)
include h

theorem exec_tileLoadCommand : exec (.tileLoadCommand t) s = .next (s.tileLoad t.toNat) := onTile_next h s fun _ => s.tileLoad t.toNat
theorem exec_tileLoadComplete : exec (.tileLoadComplete t) s = .next (s.tileLoaded t.toNat) := onTile_next h s fun _ => s.tileLoaded t.toNat
theorem exec_reloadComplete : exec (.reloadComplete t) s = .next (s.reloadDone t.toNat) := onTile_next h s fun _ => s.reloadDone t.toNat
theorem exec_tilLoad : exec (.tilLoad t) s = .next (s.tilLoad t.toNat) := onTile_next h s fun _ => s.tilLoad t.toNat
theorem exec_tilHaltReq : exec (.tilHaltReq t) s = .next (s.tilDo t.toNat tHaltReq) := onTile_next h s fun _ => s.tilDo t.toNat tHaltReq
theorem exec_tilDarn : exec (.tilDarn t) s = .next (s.tilDo t.toNat tDarn) := onTile_next h s fun _ => s.tilDo t.toNat tDarn
theorem exec_tileDone (mac idle stall : Word) : exec (.tileDone t mac idle stall) s = .next (s.tileDone t.toNat mac idle stall) :=
  onTile_next h s fun _ => s.tileDone t.toNat mac idle stall

end

/-- A command whose meaning is an update under a condition: what the update brings holds after it, or nothing differs. -/
theorem answers_update_if {i : Instr} {c d : Prop} [Decidable c] [Decidable d] {s u : State} {P : State → Prop}
    (he : exec i s = .next (if c then u else s)) (hcd : c ↔ d) (h : c → P u) : answers i s fun r => if d then P r else r = s := by
  refine ⟨_, he, ?_⟩
  dsimp only
  by_cases hc : c
  · rw [if_pos (hcd.mp hc), if_pos hc]
    exact h hc
  · rw [if_neg (fun hd => hc (hcd.mpr hd)), if_neg hc]

/-- A tile put takes its value, and nothing else differs. -/
theorem tileBecomes_setTile (s : State) (a : TileAddr) (u : Tile) : tileBecomes s (s.setTile a.toNat u) a u :=
  ⟨s.tile_setTile_same .., onlyTile_setTile ..⟩

/-- TILE_LOAD_COMMAND touches no other tile. -/
theorem tile_tileLoad_other (s : State) {a b : Nat} (h : b ≠ a) : (s.tileLoad a).tile b = s.tile b := by
  unfold State.tileLoad
  split
  · rw [State.tile_setTile_other _ h]
    split <;> simp
  · rfl

/-- A change of a tile whose clock runs. -/
theorem tilDo_live {s : State} {a : Nat} (hv : s.vlOn (fieldOf a) = true) (hs : (s.tile a).st ≠ 5) (f : Tile → Tile) :
    s.tilDo a f = s.setTile a (f (s.tile a)) :=
  if_pos (by simp [State.tilLive, hv, hs])

end Sys2Proof.Machine

open Sys2Proof Sys2Proof.Machine

/-- Settles O10: every command of the clause is one update of the tile under a condition, and what the update brings stands in the lemmas on
`tLoading`, `tLoaded`, `tStatic` and `tReport`. -/
theorem tileLife : Obligations.TileLife := by
  unfold Obligations.TileLife
  intro s t hok u img
  refine ⟨?load, answers_update_if (exec_tileLoadComplete hok s) Iff.rfl fun _ => ?loaded,
    answers_update_if (exec_reloadComplete hok s) Iff.rfl fun hc => ?reload,
    answers_update_if (exec_tilLoad hok s) Iff.rfl fun _ => ?again,
    fun hv hst => ⟨⟨_, exec_tilHaltReq hok s, ?halt⟩, ⟨_, exec_tilDarn hok s, ?darn⟩⟩,
    fun mac idle stall => answers_update_if (exec_tileDone hok s mac idle stall) ?ready fun _ => ?done⟩
  case load =>
    refine ⟨_, exec_tileLoadCommand hok s, fun b hb => tile_tileLoad_other s hb, ?_⟩
    unfold State.tileLoad
    split
    · rw [State.tile_setTile_same]
      exact ⟨rfl, rfl, rfl⟩
    · rfl
  case loaded =>
    rw [State.tile_setTile_same, Nat.mod_eq_of_lt (mode_lt s)]
    exact ⟨onlyTile_setTile .., st_tLoaded .., pc_tLoaded _ _ _ (mode_lt s), smGet_tLoaded _ _ _⟩
  case reload =>
    rw [State.tile_setTile_same]
    dsimp only
    rw [st_tStatic]
    exact ⟨onlyTile_setTile .., hc.1, rfl, smGet_tStatic (length_tImage _ _) u⟩
  case again =>
    rw [State.tile_setTile_same]
    exact ⟨onlyTile_setTile .., rfl, rfl, rfl⟩
  case halt =>
    rw [tilDo_live hv hst]
    exact tileBecomes_setTile ..
  case darn =>
    rw [tilDo_live hv hst]
    exact tileBecomes_setTile ..
  case ready =>
    simp only [tDoneReady_iff, and_assoc]
    rfl
  case done =>
    rw [State.tile_setTile_same]
    exact ⟨onlyTile_setTile .., tReport_counts ..⟩
end

section
/-!
PROOFS. The reach of the reed's operations (07_skeins_and_serving.md): what no operation of the reed touches, which of them move the entries
of skeins alone, and which touch the lane-slots of one slot.
-/
namespace Sys2Proof.Machine

/-! ### Reach -/

/-- The registers that handling a step may write beside SKN_VOIDS. -/
def servingRegs : List Nat := [R.SKN_STATUS, R.SKN_MISSES, R.SKN_RING_STALLS, R.HLS_STATUS]

/-- Nothing but the entries of skeins, the index of R263, registers of `servingRegs` and what goes to the host differs. -/
structure EntriesMove (s t : State) : Prop where
  rest : t = { s with bank := t.bank, reed := { s.reed with skeins := t.reed.skeins, prefixIdx := t.reed.prefixIdx },
                      host := t.host, out := t.out, bcn := t.bcn }
  regs : sameRegs s t servingRegs

/-- Nothing but registers, the reed, the spool and what goes to the host differs. -/
def reedReach (s t : State) : Prop :=
  t = { s with bank := t.bank, reed := t.reed, host := t.host, spool := t.spool, out := t.out, bcn := t.bcn }

/-- Nothing outside the reed's reach differs, and of the lane-slots only those of one slot may. -/
structure SlotMoves (slot : Nat) (s t : State) : Prop where
  rest : reedReach s t
  lane : ∀ n, n / 32 ≠ slot → t.lane n = s.lane n

theorem reedReach_trans {s t u : State} (h : reedReach s t) (h' : reedReach t u) : reedReach s u := by
  unfold reedReach at h h'
  unfold reedReach
  rw [h', h]

section
variable {s t : State} (h : reedReach s t)
include h

theorem reedReach.pm : t.pm = s.pm := by unfold reedReach at h; rw [h]
theorem reedReach.weft : t.weft = s.weft := by unfold reedReach at h; rw [h]
theorem reedReach.tiles : t.tiles = s.tiles := by unfold reedReach at h; rw [h]
theorem reedReach.nvw : t.nvw = s.nvw := by unfold reedReach at h; rw [h]

end

namespace EntriesMove
variable {s t u : State}

theorem refl (s : State) : EntriesMove s s := ⟨rfl, fun _ _ => rfl⟩

theorem trans (h : EntriesMove s t) (h' : EntriesMove t u) : EntriesMove s u := by
  refine ⟨?_, sameRegs_trans h.regs h'.regs⟩
  rw [h'.rest, h.rest]

/-- Without a register written there is nothing to say of registers. -/
theorem of_bank (hr : t = { s with bank := t.bank, reed := { s.reed with skeins := t.reed.skeins, prefixIdx := t.reed.prefixIdx },
                                   host := t.host, out := t.out, bcn := t.bcn }) (hb : t.bank = s.bank) : EntriesMove s t :=
  ⟨hr, sameRegs_of_bank hb _⟩

theorem of_onlyRegs (h : onlyRegs s t servingRegs) : EntriesMove s t := by
  obtain ⟨hb, hr⟩ := h
  unfold onlyBank at hb
  refine ⟨?_, hr⟩
  rw [hb]

theorem reedReach (h : EntriesMove s t) : reedReach s t := by
  unfold Machine.reedReach
  rw [h.rest]

theorem lanes (h : EntriesMove s t) : t.reed.lanes = s.reed.lanes := by rw [h.rest]
theorem commits (h : EntriesMove s t) : t.reed.commits = s.reed.commits := by rw [h.rest]
theorem sampler (h : EntriesMove s t) : t.reed.sampler = s.reed.sampler := by rw [h.rest]
theorem spool (h : EntriesMove s t) : t.spool = s.spool := by rw [h.rest]
theorem held (h : EntriesMove s t) : t.held = s.held := by rw [h.rest]
theorem pat (h : EntriesMove s t) : t.pat = s.pat := by rw [h.rest]

theorem slotMoves (h : EntriesMove s t) (slot : Nat) : SlotMoves slot s t :=
  ⟨h.reedReach, fun n _ => congrArg (smGet Lane.empty n) h.lanes⟩

end EntriesMove

namespace SlotMoves
variable {s t u : State} {slot : Nat}

theorem refl (slot : Nat) (s : State) : SlotMoves slot s s := ⟨rfl, fun _ _ => rfl⟩

theorem trans (h : SlotMoves slot s t) (h' : SlotMoves slot t u) : SlotMoves slot s u :=
  ⟨reedReach_trans h.rest h'.rest, fun n hn => (h'.lane n hn).trans (h.lane n hn)⟩

theorem pm (h : SlotMoves slot s t) : t.pm = s.pm := h.rest.pm
theorem weft (h : SlotMoves slot s t) : t.weft = s.weft := h.rest.weft
theorem tiles (h : SlotMoves slot s t) : t.tiles = s.tiles := h.rest.tiles
theorem nvw (h : SlotMoves slot s t) : t.nvw = s.nvw := h.rest.nvw

/-- An update of the reed's reach that writes no lane-slot. -/
theorem of_lanes (hr : reedReach s t) (hl : t.reed.lanes = s.reed.lanes) : SlotMoves slot s t :=
  ⟨hr, fun n _ => congrArg (smGet Lane.empty n) hl⟩

theorem foldl {α : Type} {f : State → α → State} (l : List α) (h : ∀ u, ∀ x ∈ l, SlotMoves slot u (f u x)) (s : State) :
    SlotMoves slot s (l.foldl f s) :=
  l.foldlRecOn f (refl slot s) fun u hu x hx => hu.trans (h u x hx)

end SlotMoves

/-! ### A token noted in the index of blocks (R263) -/

/-- The tokens since the last whole block, the block hash and the index of blocks, which noting a token moves. -/
def State.setBlock (s : State) (id : Nat) (b : List Nat) (h : Nat) (p : List PfxEntry) : State :=
  { s with reed := { s.reed with skeins := smSet Skein.empty id { s.sk id with blk := b, hash := h } s.reed.skeins, prefixIdx := p } }

theorem noteToken_cases (s : State) (id n tok : Nat) : ∃ b h p,
    s.noteToken id n tok = s.setBlock id b h p ∨ s.noteToken id n tok = (s.setBlock id b h p).set F.SKN_STATUS_PREFIX_FULL 1 := by
  unfold State.noteToken
  dsimp only
  split
  · split
    · split
      · exact ⟨_, _, _, .inr rfl⟩
      · exact ⟨_, _, _, .inl rfl⟩
    · exact ⟨_, _, _, .inl rfl⟩
  · exact ⟨_, _, _, .inl rfl⟩

/-! ### The parts of a step's handling (R261) -/

/-- The length and the counts after a commit, with no void in a row left (R261, R275). -/
def State.lengthTaken (s : State) (st : Step) : State :=
  let s1 := s.setSk st.skein { s.sk st.skein with committed := st.pos + 1, voids := 0 }
  { s1 with reed := { s1.reed with commits := min (2 ^ 64 - 1) (s1.reed.commits + 1), ivCommits := s1.reed.ivCommits + 1 } }

/-- The token of a step committed: the length is taken, and the index of blocks takes note. -/
def State.stepTaken (s : State) (st : Step) : State := (s.lengthTaken st).noteToken st.skein st.pos st.token

/-- The step samples (R253): it is the last prompt step or a later one, and its skein is not leaving the ring. -/
def State.stepSamples (s : State) (st : Step) : Bool :=
  decide ((s.sk st.skein).promptLen ≤ st.pos + 1) && decide ((s.sk st.skein).state ≠ 5)

theorem handleStep_eq (s : State) (st : Step) (slot : Nat) (poison : Bool) (cands : List (Int × Nat)) :
    s.handleStep st slot poison cands =
      if poison = true ∨ st.pos ≠ (s.sk st.skein).committed ∨ (s.stepSamples st = true ∧ topCands cands = []) then (s.voidStep st, true)
      else if s.stepSamples st then ((s.stepTaken st).sampleStep st slot (topCands cands), false)
      else ((s.stepTaken st).missSk st.skein, false) := rfl

/-- A void counted, with the entries of its pass marked (R137, R261). -/
def State.voidCounted (s : State) (st : Step) : State :=
  let m := s.markVoided st
  ({ m with reed := { m.reed with ivVoids := m.reed.ivVoids + 1 } } : State).add F.SKN_VOIDS_VOIDS 1

/-- An invalid sampler entry is shown and a missed deadline noted, before the token's record is made. -/
def State.sampleNoted (s : State) (st : Step) (c : List (Int × Nat)) : State :=
  (if (s.sampleTok st.skein (st.pos + 1) c).2 then s else s.set F.SKN_STATUS_BAD_SAMPLER 1).missSk st.skein

/-- A token is one of the stop tokens of the entry that a skein uses. -/
def State.stopsAt (s : State) (id tok : Nat) : Bool := isStop (s.reed.sampEntry (s.sampOf (s.sk id).sampler (s.sk id).part)) tok

/-- The token is held and its record written, before an end condition is looked at. -/
def State.sampleHeld (s : State) (st : Step) (slot : Nat) (c : List (Int × Nat)) : State :=
  let tok := (s.sampleTok st.skein (st.pos + 1) c).1
  let s1 := s.sampleNoted st c
  let k := s1.sk st.skein
  let lim := decide (st.pos + 1 = k.limit)
  let flags := phaseOf k.ringWr k.ringLog2 + 2 * b2n (s.stopsAt st.skein tok || lim) + 4 * b2n (s.stopsAt st.skein tok) + 8 * b2n lim
    + 16 * b2n (k.missed && !(s.sk st.skein).missed) + 32 * b2n k.resumed
  (s1.hostWrite st.skein (k.ringBase + 64 + 16 * (k.ringWr % 2 ^ k.ringLog2)) (tokenRecord tok (st.pos + 1) flags s.pm.pick)).setSk st.skein
    { k with held := tok, heldValid := true, ringWr := (k.ringWr + 1) % 2 ^ 20, resumed := false,
             slot := (if k.state = 2 then slot else k.slot), state := (if k.state = 2 then 3 else k.state) }

/-- With a stop token, or at the limit, the skein starts to leave the ring (R261). -/
theorem sampleStep_eq (s : State) (st : Step) (slot : Nat) (c : List (Int × Nat)) :
    s.sampleStep st slot c =
      if s.stopsAt st.skein (s.sampleTok st.skein (st.pos + 1) c).1 then (s.sampleHeld st slot c).drainSk st.skein 1
      else if decide (st.pos + 1 = ((s.sampleNoted st c).sk st.skein).limit) then (s.sampleHeld st slot c).drainSk st.skein 2
      else s.sampleHeld st slot c := rfl

/-! ### Operations that move entries alone -/

section
variable (s : State)

theorem entriesMove_set (f : Fld) (v i : Nat) (h : rkey f.reg i ∈ servingRegs) : EntriesMove s (s.set f v i) :=
  .of_onlyRegs (onlyRegs_set s f v i h)

theorem entriesMove_add (f : Fld) (n i : Nat) (h : rkey f.reg i ∈ servingRegs) : EntriesMove s (s.add f n i) :=
  .of_onlyRegs (onlyRegs_add s f n i h)

theorem entriesMove_setSk (id : Nat) (k : Skein) : EntriesMove s (s.setSk id k) := .of_bank rfl rfl

theorem entriesMove_hostWrite (cls addr : Nat) (data : List Byte) : EntriesMove s (s.hostWrite cls addr data) := by
  unfold State.hostWrite
  dsimp only
  split
  · exact .of_bank rfl rfl
  · split
    · exact .of_bank rfl rfl
    · split
      · split
        · exact .of_bank rfl rfl
        · exact .of_bank rfl rfl
      · exact .of_bank rfl rfl

theorem entriesMove_hostRead (pref addr len : Nat) (why : Purpose) : EntriesMove s (s.hostRead pref addr len why) := by
  unfold State.hostRead
  dsimp only
  split
  · exact .of_bank rfl rfl
  · split
    · exact .of_bank rfl rfl
    · exact .of_bank rfl rfl

theorem entriesMove_event (code id data : Nat) : EntriesMove s (s.event code id data) := by
  unfold State.event
  dsimp only
  split
  · exact (entriesMove_hostWrite ..).trans (.of_bank rfl rfl)
  · split
    · exact .of_bank rfl rfl
    · exact (entriesMove_set _ _ _ _ (by decide)).trans (.of_bank rfl rfl)

theorem entriesMove_endSk (id : Nat) : EntriesMove s (s.endSk id) := (entriesMove_setSk ..).trans (entriesMove_event ..)

theorem entriesMove_parkSk (id : Nat) : EntriesMove s (s.parkSk id) := (entriesMove_setSk ..).trans (entriesMove_event ..)

theorem entriesMove_settleSk (id : Nat) : EntriesMove s (s.settleSk id) := by
  unfold State.settleSk
  dsimp only
  split
  · split
    · exact entriesMove_endSk ..
    · split
      · exact entriesMove_parkSk ..
      · exact .refl s
  · exact .refl s

theorem entriesMove_drainSk (id reason : Nat) : EntriesMove s (s.drainSk id reason) :=
  (entriesMove_setSk ..).trans (entriesMove_settleSk ..)

theorem entriesMove_missSk (id : Nat) : EntriesMove s (s.missSk id) := by
  unfold State.missSk
  dsimp only
  split
  · exact ((entriesMove_setSk ..).trans (entriesMove_event ..)).trans (entriesMove_add _ _ _ _ (by decide))
  · exact .refl s

theorem entriesMove_askUnit (id u : Nat) : EntriesMove s (s.askUnit id u) := by
  unfold State.askUnit
  dsimp only
  split
  · exact (entriesMove_setSk ..).trans (entriesMove_hostRead ..)
  · exact .refl s

theorem entriesMove_keepUnits (id : Nat) : EntriesMove s (s.keepUnits id) := by
  unfold State.keepUnits
  dsimp only
  refine EntriesMove.trans ?_ ((entriesMove_askUnit ..).trans (entriesMove_askUnit ..))
  split
  · exact .refl s
  · exact entriesMove_setSk ..

theorem entriesMove_askRing (id : Nat) : EntriesMove s (s.askRing id) := by
  unfold State.askRing
  split
  · exact .refl s
  · exact entriesMove_hostRead ..

theorem entriesMove_setBlock (id : Nat) (b : List Nat) (h : Nat) (p : List PfxEntry) : EntriesMove s (s.setBlock id b h p) := .of_bank rfl rfl

theorem entriesMove_noteToken (id n tok : Nat) : EntriesMove s (s.noteToken id n tok) := by
  obtain ⟨b, h, p, he | he⟩ := noteToken_cases s id n tok
  · rw [he]
    exact entriesMove_setBlock ..
  · rw [he]
    exact (entriesMove_setBlock ..).trans (entriesMove_set _ _ _ _ (by decide))

/-- An invalid sampler entry shows in SKN_STATUS. -/
theorem entriesMove_badSampler (valid : Bool) : EntriesMove s (if valid then s else s.set F.SKN_STATUS_BAD_SAMPLER 1) := by
  split
  · exact .refl s
  · exact entriesMove_set _ _ _ _ (by decide)

theorem entriesMove_sampleHeld (st : Step) (slot : Nat) (c : List (Int × Nat)) : EntriesMove s (s.sampleHeld st slot c) :=
  (((entriesMove_badSampler ..).trans (entriesMove_missSk ..)).trans (entriesMove_hostWrite ..)).trans (entriesMove_setSk ..)

theorem entriesMove_sampleStep (st : Step) (slot : Nat) (c : List (Int × Nat)) : EntriesMove s (s.sampleStep st slot c) := by
  rw [sampleStep_eq]
  have held := entriesMove_sampleHeld s st slot c
  split
  · exact held.trans (entriesMove_drainSk ..)
  · split
    · exact held.trans (entriesMove_drainSk ..)
    · exact held

theorem entriesMove_askFirsts : EntriesMove s s.askFirsts := by
  unfold State.askFirsts
  refine List.foldlRecOn _ _ (EntriesMove.refl s) fun u hu id _ => hu.trans ?_
  dsimp only
  split
  · exact entriesMove_askUnit ..
  · exact .refl u

/-! ### Voids, captures and partitions -/

/-- Marking the entries of a voided pass writes the pools alone (R137). -/
theorem markVoided_frame (st : Step) : s.markVoided st = { s with spool := (s.markVoided st).spool } := by
  unfold State.markVoided
  dsimp only
  split
  · rfl
  · refine List.foldlRecOn (motive := fun u : State => u = { s with spool := u.spool }) _ _ rfl fun u hu b _ => ?_
    unfold State.markEntry
    split
    · exact hu
    · dsimp only
      split
      · rw [hu]; rfl
      · exact hu

variable (slot : Nat)

theorem slotMoves_set (f : Fld) (v i : Nat) : SlotMoves slot s (s.set f v i) := .of_lanes (by cases s; rfl) (by rw [State.reed_set])

theorem slotMoves_add (f : Fld) (n i : Nat) : SlotMoves slot s (s.add f n i) := .of_lanes (by cases s; rfl) (by rw [State.reed_add])

theorem slotMoves_voidCounted (st : Step) : SlotMoves slot s (s.voidCounted st) := by
  unfold State.voidCounted
  rw [markVoided_frame]
  refine SlotMoves.trans ?_ (slotMoves_add ..)
  exact .of_lanes rfl rfl

theorem slotMoves_voidStep (st : Step) : SlotMoves slot s (s.voidStep st) := by
  have counted := slotMoves_voidCounted s slot st
  unfold State.voidStep
  dsimp only
  split
  · split
    · exact counted.trans (((entriesMove_setSk ..).trans (entriesMove_drainSk ..)).slotMoves slot)
    · exact counted.trans ((entriesMove_setSk ..).slotMoves slot)
  · exact counted

theorem slotMoves_stepTaken (st : Step) : SlotMoves slot s (s.stepTaken st) := by
  unfold State.stepTaken
  refine SlotMoves.trans ?_ ((entriesMove_noteToken ..).slotMoves slot)
  exact .of_lanes rfl rfl

theorem slotMoves_handleStep (st : Step) (sl : Nat) (poison : Bool) (c : List (Int × Nat)) :
    SlotMoves slot s (s.handleStep st sl poison c).1 := by
  have taken := slotMoves_stepTaken s slot st
  rw [handleStep_eq]
  split
  · exact slotMoves_voidStep ..
  · split
    · exact taken.trans ((entriesMove_sampleStep ..).slotMoves slot)
    · exact taken.trans ((entriesMove_missSk ..).slotMoves slot)

theorem slotMoves_captureDone (last : List Byte) (cap : List (List Byte)) : SlotMoves slot s (s.captureDone last cap) := by
  have sent : ∀ o, SlotMoves slot s { s with reed := { s.reed with capture := none }, out := o } := fun _ => .of_lanes rfl rfl
  exact (((sent _).trans (slotMoves_set ..)).trans (slotMoves_set ..)).trans (slotMoves_set ..)

theorem slotMoves_partSettle (p : Nat) : SlotMoves slot s (s.partSettle p) := by
  unfold State.partSettle
  split
  · exact ((slotMoves_set ..).trans (slotMoves_set ..)).trans ((entriesMove_event ..).slotMoves slot)
  · exact .refl slot s

theorem slotMoves_settle : SlotMoves slot s s.settle :=
  (SlotMoves.foldl _ (fun u id _ => (entriesMove_settleSk u id).slotMoves slot) s).trans
    (SlotMoves.foldl _ (fun u p _ => slotMoves_partSettle u slot p) _)

/-! ### Operations on a lane-slot of the slot -/

variable {j : Nat} (hj : j < 32)
include hj

theorem laneKey_div : laneKey slot j / 32 = slot := by
  unfold laneKey
  omega

theorem slotMoves_setLane (l : Lane) : SlotMoves slot s (s.setLane (laneKey slot j) l) := by
  refine ⟨rfl, fun n hn => smGet_smSet_other _ _ ?_ l _⟩
  rintro rfl
  exact hn (laneKey_div slot hj)

/-- A lane-slot takes a prompt token, and the prompt units go along. -/
theorem slotMoves_carry (l : Lane) (id : Nat) (k : Skein) :
    SlotMoves slot s (((s.setLane (laneKey slot j) l).setSk id k).keepUnits id) :=
  (slotMoves_setLane s slot hj l).trans (((entriesMove_setSk ..).trans (entriesMove_keepUnits ..)).slotMoves slot)

theorem slotMoves_place (id : Nat) : SlotMoves slot s (s.place id slot j) := by
  unfold State.place
  dsimp only
  split
  · exact slotMoves_carry s slot hj ..
  · split
    · exact slotMoves_carry s slot hj ..
    · exact (slotMoves_setLane s slot hj _).trans ((entriesMove_setSk ..).slotMoves slot)

theorem slotMoves_ringStall (id : Nat) : SlotMoves slot s (s.ringStall id slot j) :=
  (slotMoves_setLane s slot hj _).trans ((((entriesMove_add _ _ _ _ (by decide)).trans (entriesMove_set _ _ _ _ (by decide))).trans
    (entriesMove_askRing ..)).slotMoves slot)

theorem slotMoves_nextContent (step : Option Step) (voided drain : Bool) :
    SlotMoves slot s (s.nextContent slot j step voided drain).1 := by
  have put := fun l => slotMoves_setLane s slot hj l
  have freed := fun id k => ((entriesMove_setSk s id k).slotMoves slot).trans (slotMoves_setLane _ slot hj Lane.empty)
  unfold State.nextContent
  dsimp only
  split
  · exact put _
  · split
    · exact freed ..
    · split
      · exact freed ..
      · split
        · exact put _
        · split
          · split
            · split
              · exact put _
              · exact slotMoves_ringStall s slot hj _
            · exact put _
          · split
            · split
              · exact slotMoves_ringStall s slot hj _
              · dsimp only
                exact slotMoves_carry s slot hj ..
            · exact put _

end

end Sys2Proof.Machine
end

section
/-!
PROOFS. The turn of a lane (R251) and the turns of a slot: the parts that a turn consists of, and that they reach no lane-slot of another slot.
-/
namespace Sys2Proof.Machine

/-! ### The turn of a lane -/

/-- A lane's step handled, with whether it was voided; a lane without a step has nothing to handle. -/
def State.laneHandled (s : State) (slot j : Nat) (poison : Bool) (cands : List (Int × Nat)) : State × Bool :=
  match (s.lane (laneKey slot j)).step with
  | some st => s.handleStep st slot poison cands
  | none => (s, false)

/-- The lane's next content put after its step is handled, with whether the lane-slot is then free (R251). -/
def State.laneRefilled (s : State) (slot : Nat) (drain : Bool) (j : Nat) (poison : Bool) (cands : List (Int × Nat)) : State × Bool :=
  let r := s.laneHandled slot j poison cands
  r.1.nextContent slot j (s.lane (laneKey slot j)).step r.2 drain

/-- A free lane-slot takes the first candidate (R252). -/
def State.laneFilled (s : State) (slot j : Nat) : State :=
  match s.candidate slot j with
  | some id => s.place id slot j
  | none => s

section
variable (s : State) (slot : Nat) (drain : Bool) (j : Nat) (poison : Bool) (cands : List (Int × Nat))

theorem reedLane_eq : s.reedLane slot drain j poison cands =
    let r := s.laneRefilled slot drain j poison cands
    if r.2 = true ∧ drain = false ∧ j < s.width then r.1.laneFilled slot j else r.1 := rfl

theorem slotMoves_laneHandled : SlotMoves slot s (s.laneHandled slot j poison cands).1 := by
  unfold State.laneHandled
  split
  · exact slotMoves_handleStep ..
  · exact .refl slot s

theorem slotMoves_laneFilled (hj : j < 32) : SlotMoves slot s (s.laneFilled slot j) := by
  unfold State.laneFilled
  split
  · exact slotMoves_place s slot hj _
  · exact .refl slot s

theorem slotMoves_reedLane (hj : j < 32) : SlotMoves slot s (s.reedLane slot drain j poison cands) := by
  have refilled : SlotMoves slot s (s.laneRefilled slot drain j poison cands).1 :=
    (slotMoves_laneHandled ..).trans (slotMoves_nextContent _ slot hj ..)
  rw [reedLane_eq]
  dsimp only
  split
  · exact refilled.trans (slotMoves_laneFilled _ slot j hj)
  · exact refilled

theorem slotMoves_reedSlotRun (l : List Shuttle) : SlotMoves slot s (s.reedSlotRun slot drain l) :=
  SlotMoves.foldl _ (fun u j hj => slotMoves_reedLane u slot drain j _ _ (mem_rangeFrom.mp hj).2) s

end

end Sys2Proof.Machine
end

section
/-!
PROOFS. A ring with one lane and one skein to which nothing can be placed (R252): which operations keep it so, what becomes of the skein's
entry, and that every turn but that of the one lane changes nothing.
-/
namespace Sys2Proof.Machine

theorem reed_hostWrite (s : State) (cls addr : Nat) (data : List Byte) : (s.hostWrite cls addr data).reed = s.reed := by
  unfold State.hostWrite
  dsimp only
  split
  · rfl
  · split
    · rfl
    · split
      · split <;> rfl
      · rfl

theorem reed_hostRead (s : State) (pref addr len : Nat) (why : Purpose) : (s.hostRead pref addr len why).reed = s.reed := by
  unfold State.hostRead
  dsimp only
  split
  · rfl
  · split <;> rfl

theorem reed_event (s : State) (code id data : Nat) : (s.event code id data).reed = s.reed := by
  unfold State.event
  dsimp only
  split
  · exact reed_hostWrite ..
  · split
    · rfl
    · rw [State.reed_beacon, State.reed_set]

/-! ### A key written to the empty map -/

theorem smSet_smSet_nil {α : Type} [DecidableEq α] (d : α) (k : Nat) (v w : α) : smSet d k v (smSet d k w []) = smSet d k v [] := by
  unfold smSet
  split <;> split <;> simp [smErase, smInsert]

theorem smSet_nil_of_ne {α : Type} [DecidableEq α] {d v : α} (k : Nat) (h : v ≠ d) : smSet d k v [] = [(k, v)] := by
  simp [smSet, h, smErase, smInsert]

/-- Clearing a key that the only pair does not hold. -/
theorem smSet_default_other {α : Type} [DecidableEq α] (d v : α) {j k : Nat} (h : k ≠ j) : smSet d j d (smSet d k v []) = smSet d k v [] := by
  by_cases hv : v = d <;> simp [smSet, hv, h, smErase, smInsert]

/-- A fold whose every step stays where it starts. -/
theorem foldl_stays {α β : Type} {f : β → α → β} {b : β} {l : List α} (h : ∀ x ∈ l, f b x = b) : l.foldl f b = b :=
  l.foldlRecOn (motive := (· = b)) f rfl fun _ hu x hx => hu ▸ h x hx

/-! ### A ring with one lane and one skein -/

/-- Lane 0 of a slot holds `l` and every other lane-slot nothing, `k` is the entry of skein `id` and the only one, no skein can be placed
(R252), and no partition is stopping (R267). -/
structure OneLane (slot id : Nat) (l : Lane) (k : Skein) (s : State) : Prop where
  lanes : s.reed.lanes = smSet Lane.empty (laneKey slot 0) l []
  skeins : s.reed.skeins = smSet Skein.empty id k []
  closed : s.get F.SKN_CTRL_ADMIT_EN = 0
  going : ∀ q : Fin 8, s.get (F.SKN_PART_STAT_STOPPING.nth q.val) = 0

/-- Neither the admission nor the stop of a partition stands in a register that handling a step writes. -/
theorem reg_notMem_serving : F.SKN_CTRL_ADMIT_EN.reg ∉ R.SKN_VOIDS :: servingRegs ∧
    ∀ q : Fin 8, (F.SKN_PART_STAT_STOPPING.nth q.val).reg ∉ R.SKN_VOIDS :: servingRegs := by decide

/-- With no admission nothing is placed (R252). -/
theorem laneFilled_closed {s : State} (h : s.get F.SKN_CTRL_ADMIT_EN = 0) (slot j : Nat) : s.laneFilled slot j = s := by
  have hc : s.candidate slot j = none := if_pos (.inl (by simp [State.admitStopped, h]))
  unfold State.laneFilled
  rw [hc]

/-- With no admission the turn of a lane ends with its refill. -/
theorem reedLane_closed {s : State} {slot : Nat} {drain : Bool} {j : Nat} {poison : Bool} {cands : List (Int × Nat)}
    (h : (s.laneRefilled slot drain j poison cands).1.get F.SKN_CTRL_ADMIT_EN = 0) :
    s.reedLane slot drain j poison cands = (s.laneRefilled slot drain j poison cands).1 := by
  rw [reedLane_eq]
  dsimp only
  rw [laneFilled_closed h, ite_self]

/-- A partition that is not stopping has nothing to settle. -/
theorem partSettle_going {s : State} {p : Nat} (h : s.get (F.SKN_PART_STAT_STOPPING.nth p) = 0) : s.partSettle p = s :=
  if_neg fun hc => absurd (h.symm.trans hc.1) (by decide)

/-- A lane-slot that no skein owns is freed. -/
theorem nextContent_unowned {s : State} {slot j : Nat} (h : (s.lane (laneKey slot j)).owner = none) (step : Option Step) (voided drain : Bool) :
    s.nextContent slot j step voided drain = (s.setLane (laneKey slot j) Lane.empty, true) := by
  unfold State.nextContent
  dsimp only
  rw [h]

/-- A skein in DECODE with room in its ring goes on in its lane with the token it holds (R251, R253). -/
theorem nextContent_decode {s : State} {slot j id : Nat} (ho : (s.lane (laneKey slot j)).owner = some id) (hs : (s.sk id).state = 3)
    (hp : (s.sk id).parkPend = false) (hl : (s.sk id).slot = slot) (hr : (s.sk id).ringRoom = true) (step : Option Step) :
    s.nextContent slot j step false false =
      (s.setLane (laneKey slot j) ⟨some id, some ⟨id, (s.sk id).committed, (s.sk id).held⟩⟩, false) := by
  unfold State.nextContent
  dsimp only
  rw [ho]
  simp [hs, hp, hl, hr, inRing]

namespace OneLane
variable {slot id : Nat} {l : Lane} {k : Skein} {s t : State}

theorem sk (h : OneLane slot id l k s) : s.sk id = k := by
  unfold State.sk
  rw [h.skeins, smGet_smSet_same]

theorem lane_zero (h : OneLane slot id l k s) : s.lane (laneKey slot 0) = l := by
  unfold State.lane
  rw [h.lanes, smGet_smSet_same]

theorem lanes_free (h : OneLane slot id Lane.empty k s) : s.reed.lanes = [] := h.lanes

theorem lane_other (h : OneLane slot id l k s) {j : Nat} (hj : j ≠ 0) : s.lane (laneKey slot j) = Lane.empty := by
  unfold State.lane
  rw [h.lanes, smGet_smSet_other]
  · rfl
  · unfold laneKey
    omega

/-- The skeins that a sweep over all entries meets. -/
theorem ids (h : OneLane slot id l k s) : s.reed.skeins.map Prod.fst = [] ∨ s.reed.skeins.map Prod.fst = [id] := by
  rw [h.skeins]
  by_cases hk : k = Skein.empty
  · subst hk
    exact .inl rfl
  · rw [smSet_nil_of_ne id hk]
    exact .inr rfl

/-- Whatever leaves the registers of placement alone leaves a ring of one lane. -/
theorem update (h : OneLane slot id l k s) {l' : Lane} {k' : Skein} (hr : sameRegs s t (R.SKN_VOIDS :: servingRegs))
    (hl : t.reed.lanes = smSet Lane.empty (laneKey slot 0) l' []) (hk : t.reed.skeins = smSet Skein.empty id k' []) :
    OneLane slot id l' k' t :=
  ⟨hl, hk, (get_eq_of_sameRegs hr reg_notMem_serving.1).trans h.closed,
    fun q => (get_eq_of_sameRegs hr (reg_notMem_serving.2 q)).trans (h.going q)⟩

theorem move (h : OneLane slot id l k s) (hm : EntriesMove s t) {k' : Skein} (hk : t.reed.skeins = smSet Skein.empty id k' []) :
    OneLane slot id l k' t :=
  h.update (sameRegs_mono hm.regs (List.subset_cons_self ..)) (hm.lanes.trans h.lanes) hk

theorem move_same (h : OneLane slot id l k s) (hm : EntriesMove s t) (hr : t.reed = s.reed) : OneLane slot id l k t :=
  h.move hm ((congrArg Reed.skeins hr).trans h.skeins)

theorem setSk (h : OneLane slot id l k s) (k' : Skein) : OneLane slot id l k' (s.setSk id k') :=
  h.move (entriesMove_setSk ..) ((congrArg (smSet Skein.empty id k') h.skeins).trans (smSet_smSet_nil ..))

theorem setLane (h : OneLane slot id l k s) (l' : Lane) : OneLane slot id l' k (s.setLane (laneKey slot 0) l') :=
  h.update (sameRegs_of_bank rfl _) ((congrArg (smSet Lane.empty _ l') h.lanes).trans (smSet_smSet_nil ..)) h.skeins

theorem event (h : OneLane slot id l k s) (code i data : Nat) : OneLane slot id l k (s.event code i data) :=
  h.move_same (entriesMove_event ..) (reed_event ..)

/-! The operations on the skein of the ring, up to what no later claim asks for. -/

theorem endSk (h : OneLane slot id l k s) : ∃ k', OneLane slot id l k' (s.endSk id) ∧ k'.committed = k.committed ∧ k'.voids = k.voids := by
  rw [← h.sk]
  exact ⟨_, (h.setSk _).event .., rfl, rfl⟩

theorem parkSk (h : OneLane slot id l k s) : ∃ k', OneLane slot id l k' (s.parkSk id) ∧ k'.committed = k.committed ∧ k'.voids = k.voids := by
  rw [← h.sk]
  exact ⟨_, (h.setSk _).event .., rfl, rfl⟩

theorem settleSk (h : OneLane slot id l k s) :
    ∃ k', OneLane slot id l k' (s.settleSk id) ∧ k'.committed = k.committed ∧ k'.voids = k.voids := by
  unfold State.settleSk
  dsimp only
  split
  · split
    · exact h.endSk
    · split
      · exact h.parkSk
      · exact ⟨k, h, rfl, rfl⟩
  · exact ⟨k, h, rfl, rfl⟩

theorem drainSk (h : OneLane slot id l k s) (reason : Nat) : ∃ k', OneLane slot id l k' (s.drainSk id reason) ∧ k'.committed = k.committed := by
  obtain ⟨k', h', hc, _⟩ := (h.setSk { s.sk id with state := 5, reason := reason, parkPend := false, copies := [], pfxRun := false,
                                                    pfxLook := false }).settleSk
  rw [h.sk] at hc
  exact ⟨k', h', hc⟩

theorem missSk (h : OneLane slot id l k s) : ∃ m, OneLane slot id l { k with missed := m } (s.missSk id) := by
  unfold State.missSk
  rw [h.sk]
  dsimp only
  split
  · exact ⟨true, ((h.setSk _).event ..).move_same (entriesMove_add _ _ _ _ (by decide)) (State.reed_add ..)⟩
  · exact ⟨k.missed, h⟩

theorem setBlock (h : OneLane slot id l k s) (b : List Nat) (x : Nat) (p : List PfxEntry) :
    OneLane slot id l { k with blk := b, hash := x } (s.setBlock id b x p) := by
  refine h.move (entriesMove_setBlock ..) ?_
  rw [State.setBlock, h.sk, h.skeins]
  exact smSet_smSet_nil ..

theorem noteToken (h : OneLane slot id l k s) (n tok : Nat) :
    ∃ b x, OneLane slot id l { k with blk := b, hash := x } (s.noteToken id n tok) := by
  obtain ⟨b, x, p, he | he⟩ := noteToken_cases s id n tok
  · rw [he]
    exact ⟨b, x, h.setBlock ..⟩
  · rw [he]
    exact ⟨b, x, (h.setBlock b x p).move_same (entriesMove_set _ _ _ _ (by decide)) (State.reed_set ..)⟩

theorem askUnit (h : OneLane slot id l k s) (u : Nat) :
    ∃ k', OneLane slot id l k' (s.askUnit id u) ∧ k'.committed = k.committed ∧ k'.voids = k.voids := by
  unfold State.askUnit
  rw [h.sk]
  dsimp only
  split
  · exact ⟨_, (h.setSk _).move_same (entriesMove_hostRead ..) (reed_hostRead ..), rfl, rfl⟩
  · exact ⟨k, h, rfl, rfl⟩

theorem askFirsts (h : OneLane slot id l k s) :
    ∃ k', OneLane slot id l k' s.askFirsts ∧ k'.committed = k.committed ∧ k'.voids = k.voids := by
  unfold State.askFirsts
  rcases h.ids with hi | hi
  · rw [hi]
    exact ⟨k, h, rfl, rfl⟩
  · rw [hi, List.foldl_cons, List.foldl_nil]
    dsimp only
    split
    · exact h.askUnit _
    · exact ⟨k, h, rfl, rfl⟩

/-- A skein past its prompt has no prompt token to ask for. -/
theorem askFirsts_past (h : OneLane slot id l k s) (hc : k.promptLen ≤ k.committed) : s.askFirsts = s := by
  unfold State.askFirsts
  rcases h.ids with hi | hi
  · rw [hi, List.foldl_nil]
  · rw [hi, List.foldl_cons, List.foldl_nil]
    dsimp only
    rw [h.sk]
    exact if_neg fun ⟨_, _, _, hlt, _⟩ => absurd hlt (Nat.not_lt.mpr hc)

theorem settle_eq (h : OneLane slot id l k s) : s.settle = s ∨ s.settle = s.settleSk id := by
  have parts : ∀ {k' : Skein} {u : State}, OneLane slot id l k' u → (rangeFrom 0 8).foldl State.partSettle u = u := fun hu =>
    foldl_stays fun p hp => partSettle_going (hu.going ⟨p, (mem_rangeFrom.mp hp).2⟩)
  unfold State.settle
  rcases h.ids with hi | hi
  · rw [hi]
    exact .inl (parts h)
  · rw [hi]
    obtain ⟨k', h', _, _⟩ := h.settleSk
    exact .inr (parts h')

/-- A skein that neither ends nor parks stays in the ring. -/
theorem settle_stays (h : OneLane slot id l k s) (h5 : k.state ≠ 5) (hp : k.parkPend = false) : s.settle = s := by
  rcases h.settle_eq with he | he
  · exact he
  · rw [he]
    unfold State.settleSk
    rw [h.sk]
    simp [h5, hp]

/-- What ends a slot moves the entry of the skein alone, and neither its length nor its voids. -/
theorem settled (h : OneLane slot id l k s) : ∃ k', OneLane slot id l k' s.settle.askFirsts ∧ k'.committed = k.committed ∧
    k'.voids = k.voids ∧ EntriesMove s s.settle.askFirsts := by
  rcases h.settle_eq with he | he
  · rw [he]
    obtain ⟨k', h', hc, hv⟩ := h.askFirsts
    exact ⟨k', h', hc, hv, entriesMove_askFirsts s⟩
  · rw [he]
    obtain ⟨k1, h1, hc1, hv1⟩ := h.settleSk
    obtain ⟨k2, h2, hc2, hv2⟩ := h1.askFirsts
    exact ⟨k2, h2, hc2.trans hc1, hv2.trans hv1, (entriesMove_settleSk ..).trans (entriesMove_askFirsts _)⟩

/-! The turns of the lanes. -/

/-- A lane with nothing in it stays so. -/
theorem reedLane_idle (h : OneLane slot id l k s) (drain : Bool) {j : Nat} (hj : j ≠ 0) (poison : Bool) (cands : List (Int × Nat)) :
    s.reedLane slot drain j poison cands = s := by
  have hkey : laneKey slot 0 ≠ laneKey slot j := by
    unfold laneKey
    omega
  have hs : s.setLane (laneKey slot j) Lane.empty = s := by
    unfold State.setLane
    rw [h.lanes, smSet_default_other _ _ hkey, ← h.lanes]
  have hr : s.laneRefilled slot drain j poison cands = (s, true) := by
    unfold State.laneRefilled State.laneHandled
    rw [h.lane_other hj]
    dsimp only [Lane.empty]
    rw [nextContent_unowned (congrArg Lane.owner (h.lane_other hj))]
    exact congrArg (·, true) hs
  rw [reedLane_closed, hr]
  rw [hr]
  exact h.closed

/-- Past lane 0 the turns of a slot change nothing. -/
theorem reedSlotRun_eq {drain : Bool} {r : List Shuttle} (h : OneLane slot id l k (s.reedLane slot drain 0 (laneBad r 0) (lanePairs r 0))) :
    s.reedSlotRun slot drain r = s.reedLane slot drain 0 (laneBad r 0) (lanePairs r 0) := by
  have lanes : rangeFrom 0 32 = 0 :: rangeFrom 1 31 := rfl
  unfold State.reedSlotRun
  rw [lanes, List.foldl_cons]
  exact foldl_stays fun j hj => h.reedLane_idle _ (Nat.ne_of_gt (mem_rangeFrom.mp hj).1) ..

end OneLane

end Sys2Proof.Machine
end

section
/-!
PROOFS. The step of a ring's one lane handled (R251, R257, R261), and the reed's position as a whole: what it reaches, and the three ways
that the step can go.
-/
namespace Sys2Proof.Machine

/-! ### The sampler's view (R257, R259) -/

/-- Moving entries leaves the sampler entry that a skein uses. -/
theorem sampEntry_of_entriesMove {s t : State} (h : EntriesMove s t) (e p : Nat) :
    t.reed.sampEntry (t.sampOf e p) = s.reed.sampEntry (s.sampOf e p) := by
  have hreg : (F.SKN_PART_CFG_SAMPLER.nth p).reg ∉ servingRegs := by
    change 0xb0080 + 8 * p ∉ [0xb0000, 0xb010c, 0xb011c, 0x80000]
    simp only [List.mem_cons, List.not_mem_nil, or_false, not_or]
    omega
  have hcfg : t.cfg (F.SKN_PART_CFG_SAMPLER.nth p) = s.cfg (F.SKN_PART_CFG_SAMPLER.nth p) := by
    unfold State.cfg State.cfgWord
    rw [h.held, reg_eq_of_sameRegs h.regs hreg]
  unfold State.sampOf
  rw [hcfg]
  unfold Reed.sampEntry
  rw [h.sampler]

/-! ### A step handled in a ring of one lane -/

theorem entriesMove_stepTaken (s : State) (st : Step) : EntriesMove (s.lengthTaken st) (s.stepTaken st) := entriesMove_noteToken ..

namespace OneLane
variable {slot : Nat} {l : Lane} {k : Skein} {s : State} {st : Step}

theorem markVoided {id : Nat} (h : OneLane slot id l k s) (st : Step) : OneLane slot id l k (s.markVoided st) := by
  rw [markVoided_frame]
  exact h.update (sameRegs_of_bank rfl _) h.lanes h.skeins

theorem voidCounted {id : Nat} (h : OneLane slot id l k s) (st : Step) : OneLane slot id l k (s.voidCounted st) := by
  have hm := h.markVoided st
  have hr : OneLane slot id l k { s.markVoided st with reed := { (s.markVoided st).reed with ivVoids := (s.markVoided st).reed.ivVoids + 1 } } :=
    hm.update (sameRegs_of_bank rfl _) hm.lanes hm.skeins
  exact hr.update (onlyRegs_add _ _ _ _ (by decide)).2 ((congrArg Reed.lanes (State.reed_add ..)).trans hr.lanes)
    ((congrArg Reed.skeins (State.reed_add ..)).trans hr.skeins)

/-- A void keeps the length of its skein (R24, R261). -/
theorem voidStep (h : OneLane slot st.skein l k s) : ∃ k', OneLane slot st.skein l k' (s.voidStep st) ∧ k'.committed = k.committed ∧
    EntriesMove (s.voidCounted st) (s.voidStep st) := by
  have hv := h.voidCounted st
  unfold State.voidStep
  dsimp only
  rw [(h.markVoided st).sk]
  split
  · split
    · obtain ⟨k', h', hc⟩ := (hv.setSk { k with voids := min 255 (k.voids + 1) }).drainSk 4
      exact ⟨k', h', hc, (entriesMove_setSk ..).trans (entriesMove_drainSk ..)⟩
    · exact ⟨_, hv.setSk _, rfl, entriesMove_setSk ..⟩
  · exact ⟨k, hv, rfl, .refl _⟩

theorem lengthTaken (h : OneLane slot st.skein l k s) :
    OneLane slot st.skein l { k with committed := st.pos + 1, voids := 0 } (s.lengthTaken st) := by
  have hs := h.setSk { k with committed := st.pos + 1, voids := 0 }
  unfold State.lengthTaken
  rw [h.sk]
  exact hs.update (sameRegs_of_bank rfl _) hs.lanes hs.skeins

theorem stepTaken (h : OneLane slot st.skein l k s) : ∃ b x,
    OneLane slot st.skein l { k with committed := st.pos + 1, voids := 0, blk := b, hash := x } (s.stepTaken st) := by
  unfold State.stepTaken
  exact h.lengthTaken.noteToken _ _

/-- The commit of a step changes nothing of what its token is sampled from (R257). -/
theorem sampleTok_stepTaken (h : OneLane slot st.skein l k s) (pos : Nat) (c : List (Int × Nat)) :
    (s.stepTaken st).sampleTok st.skein pos c = s.sampleTok st.skein pos c := by
  obtain ⟨b, x, h'⟩ := h.stepTaken
  have he := sampEntry_of_entriesMove (entriesMove_stepTaken s st) k.sampler k.part
  have hp := (entriesMove_stepTaken s st).pat
  unfold State.sampleTok
  rw [h.sk, h'.sk]
  dsimp only
  rw [he, hp]
  rfl

theorem stopsAt_stepTaken (h : OneLane slot st.skein l k s) (tok : Nat) :
    (s.stepTaken st).stopsAt st.skein tok = isStop (s.reed.sampEntry (s.sampOf k.sampler k.part)) tok := by
  obtain ⟨b, x, h'⟩ := h.stepTaken
  unfold State.stopsAt
  rw [h'.sk]
  exact congrArg (isStop · tok) (sampEntry_of_entriesMove (entriesMove_stepTaken s st) k.sampler k.part)

theorem sampleNoted (h : OneLane slot st.skein l k s) (c : List (Int × Nat)) :
    ∃ m, OneLane slot st.skein l { k with missed := m } (s.sampleNoted st c) := by
  refine (h.move_same (entriesMove_badSampler ..) ?_).missSk
  split
  · rfl
  · exact State.reed_set ..

/-- The token that the first step past the prompt samples is held, its record takes the next place of the ring, and the skein decodes in the
slot (R251, R255, R261). -/
theorem sampleHeld (h : OneLane slot st.skein l k s) (h2 : k.state = 2) (c : List (Int × Nat)) :
    ∃ m, OneLane slot st.skein l { k with
      missed := m, held := (s.sampleTok st.skein (st.pos + 1) c).1, heldValid := true, ringWr := (k.ringWr + 1) % 2 ^ 20,
      resumed := false, slot := slot, state := 3 } (s.sampleHeld st slot c) := by
  obtain ⟨m, h'⟩ := h.sampleNoted c
  unfold State.sampleHeld
  dsimp only
  rw [h'.sk, if_pos h2, if_pos h2]
  exact ⟨m, (h'.move_same (entriesMove_hostWrite ..) (reed_hostWrite ..)).setSk _⟩

/-- A step that ends neither at a stop token nor at the limit leaves its skein in DECODE. -/
theorem sampleStep_goesOn (h : OneLane slot st.skein l k s) {c : List (Int × Nat)}
    (hs : s.stopsAt st.skein (s.sampleTok st.skein (st.pos + 1) c).1 = false) (hl : st.pos + 1 ≠ k.limit) :
    s.sampleStep st slot c = s.sampleHeld st slot c := by
  obtain ⟨m, h'⟩ := h.sampleNoted c
  rw [sampleStep_eq, hs, h'.sk]
  simp [hl]

end OneLane

theorem commits_voidCounted (s : State) (st : Step) : (s.voidCounted st).reed.commits = s.reed.commits := by
  unfold State.voidCounted
  rw [State.reed_add, markVoided_frame]

theorem get_voids_voidCounted (s : State) (st : Step) :
    (s.voidCounted st).get F.SKN_VOIDS_VOIDS = min (2 ^ 32 - 1) (s.get F.SKN_VOIDS_VOIDS + 1) := by
  unfold State.voidCounted
  rw [markVoided_frame]
  exact State.get_add_same _ F.SKN_VOIDS_VOIDS 1 0 (by decide)

/-- The count of voids stands outside the registers that moving entries writes. -/
theorem get_voids_of_entriesMove {s t : State} (h : EntriesMove s t) : t.get F.SKN_VOIDS_VOIDS = s.get F.SKN_VOIDS_VOIDS :=
  get_eq_of_sameRegs h.regs (by decide)

/-! ### The outcome of handling a step (R261) -/

section
variable {s : State} {st : Step} {slot : Nat} {cands : List (Int × Nat)}

theorem handleStep_poison : s.handleStep st slot true cands = (s.voidStep st, true) := by
  rw [handleStep_eq, if_pos (.inl rfl)]

theorem handleStep_prompt (hc : st.pos = (s.sk st.skein).committed) (hp : st.pos + 1 < (s.sk st.skein).promptLen) :
    s.handleStep st slot false cands = ((s.stepTaken st).missSk st.skein, false) := by
  have hs : s.stepSamples st = false := by
    unfold State.stepSamples
    rw [decide_eq_false (Nat.not_le.mpr hp), Bool.false_and]
  rw [handleStep_eq, hs]
  simp [hc]

theorem handleStep_samples (hc : st.pos = (s.sk st.skein).committed) (hp : (s.sk st.skein).promptLen ≤ st.pos + 1)
    (h5 : (s.sk st.skein).state ≠ 5) (hn : topCands cands ≠ []) :
    s.handleStep st slot false cands = ((s.stepTaken st).sampleStep st slot (topCands cands), false) := by
  have hs : s.stepSamples st = true := by simp [State.stepSamples, hp, h5]
  rw [handleStep_eq, hs]
  simp [hc, hn]

end

/-! ### Lane 0 of a ring of one lane -/

theorem laneRefilled_of_step {s : State} {slot j : Nat} {poison : Bool} {cands : List (Int × Nat)} {st : Step} {r : State × Bool}
    (hs : (s.lane (laneKey slot j)).step = some st) (hr : s.handleStep st slot poison cands = r) (drain : Bool) :
    s.laneRefilled slot drain j poison cands = r.1.nextContent slot j (some st) r.2 drain := by
  unfold State.laneRefilled State.laneHandled
  rw [hs, ← hr]

namespace OneLane
variable {slot id : Nat} {l : Lane} {k k' : Skein} {s u : State} {st : Step} {drain poison : Bool} {cands : List (Int × Nat)}

/-- A step in a lane that no skein owns leaves the lane free. -/
theorem reedLane_freed (h : OneLane slot id ⟨none, some st⟩ k s) {v : Bool} (hh : s.handleStep st slot poison cands = (u, v))
    (hu : OneLane slot id ⟨none, some st⟩ k' u) : s.reedLane slot drain 0 poison cands = u.setLane (laneKey slot 0) Lane.empty := by
  have hr : s.laneRefilled slot drain 0 poison cands = (u.setLane (laneKey slot 0) Lane.empty, true) :=
    (laneRefilled_of_step (congrArg Lane.step h.lane_zero) hh drain).trans (nextContent_unowned (congrArg Lane.owner hu.lane_zero) ..)
  rw [reedLane_closed, hr]
  rw [hr]
  exact (hu.setLane Lane.empty).closed

/-- A skein that has come to DECODE in the slot carries its token there. -/
theorem reedLane_decodes (h : OneLane slot id ⟨some id, some st⟩ k s) (hh : s.handleStep st slot poison cands = (u, false))
    (hu : OneLane slot id ⟨some id, some st⟩ k' u) (h3 : k'.state = 3) (hp : k'.parkPend = false) (hl : k'.slot = slot)
    (hr : k'.ringRoom = true) :
    s.reedLane slot false 0 poison cands = u.setLane (laneKey slot 0) ⟨some id, some ⟨id, k'.committed, k'.held⟩⟩ := by
  have hn := nextContent_decode (congrArg Lane.owner hu.lane_zero) (hu.sk ▸ h3) (hu.sk ▸ hp) (hu.sk ▸ hl) (hu.sk ▸ hr) (some st)
  rw [hu.sk] at hn
  have hf := (laneRefilled_of_step (congrArg Lane.step h.lane_zero) hh false).trans hn
  rw [reedLane_closed, hf]
  rw [hf]
  exact (hu.setLane _).closed

end OneLane

/-! ### The position as a whole -/

/-- The head's results of the pick (R256). -/
def State.pickResults (s : State) : List Shuttle := s.weft.reed.filter fun sh => decide (hPick sh.hdr = s.pm.pick % 65536)

/-- The slot handed to band E with its lane-valid mask (R123). -/
def State.handedOn (s : State) (slot : Nat) : State :=
  { s with pm := { s.pm with reedDone := true }, reed := { s.reed with mask := s.laneMask slot }, weft := { s.weft with reed := [] } }

section
variable (s : State) (slot : Nat)

theorem pm_handedOn : (s.handedOn slot).pm = { s.pm with reedDone := true } := by simp only [State.handedOn]
theorem weft_handedOn : (s.handedOn slot).weft = { s.weft with reed := [] } := by simp only [State.handedOn]
theorem mask_handedOn : (s.handedOn slot).reed.mask = s.laneMask slot := by simp only [State.handedOn]
theorem lanes_handedOn : (s.handedOn slot).reed.lanes = s.reed.lanes := by simp only [State.handedOn]
theorem commits_handedOn : (s.handedOn slot).reed.commits = s.reed.commits := by simp only [State.handedOn]
theorem tiles_handedOn : (s.handedOn slot).tiles = s.tiles := by simp only [State.handedOn]
theorem nvw_handedOn : (s.handedOn slot).nvw = s.nvw := by simp only [State.handedOn]
theorem spool_handedOn : (s.handedOn slot).spool = s.spool := by simp only [State.handedOn]
theorem get_handedOn (f : Fld) : (s.handedOn slot).get f = s.get f := by simp only [State.handedOn, State.get]
theorem sk_handedOn (id : Nat) : (s.handedOn slot).sk id = s.sk id := by simp only [State.handedOn, State.sk]

theorem lane_handedOn (n : Nat) : (s.handedOn slot).lane n = s.lane n := by
  rw [State.lane, lanes_handedOn, State.lane]

theorem laneMask_handedOn (sl : Nat) : (s.handedOn slot).laneMask sl = s.laneMask sl := by
  simp only [State.laneMask, lane_handedOn]

end

/-- The slot at the reed position served, with a capture that ends in it. -/
def State.slotServed (s : State) (last : List Byte) (cap : List (List Byte)) : State :=
  let s1 := s.reedSlotRun s.reedSlot (s.strobeDrains || decide (s.hostPorts = [])) s.pickResults
  (if s.captureHit s1 s.reedSlot then s1.captureDone last cap else s1).settle.askFirsts

section
variable {s : State} (last : List Byte) (cap : List (List Byte))

theorem exec_reedPosition_idle (h : ¬ (s.pm.running = true ∧ s.pm.reedDone = false ∧ s.get F.PCK_CHAIN_ROLE ≠ 2)) :
    exec (.reedPosition last cap) s = .next s := congrArg Host.Outcome.next (if_neg h)

theorem exec_reedPosition_runs (h : s.pm.running = true ∧ s.pm.reedDone = false ∧ s.get F.PCK_CHAIN_ROLE ≠ 2) :
    exec (.reedPosition last cap) s = .next ((s.slotServed last cap).handedOn s.reedSlot) := congrArg Host.Outcome.next (if_pos h)

theorem slotMoves_slotServed : SlotMoves s.reedSlot s (s.slotServed last cap) := by
  have served := slotMoves_reedSlotRun s s.reedSlot (s.strobeDrains || decide (s.hostPorts = [])) s.pickResults
  refine SlotMoves.trans ?_ ((slotMoves_settle ..).trans ((entriesMove_askFirsts _).slotMoves _))
  split
  · exact served.trans (slotMoves_captureDone ..)
  · exact served

/-- What the hand-over and an update of the reed's reach bring together. -/
theorem handedOn_reach {slot : Nat} {t : State} (h : SlotMoves slot s t) :
    (t.handedOn slot).pm = { s.pm with reedDone := true } ∧ (t.handedOn slot).weft = { s.weft with reed := [] } ∧
      (t.handedOn slot).reed.mask = (t.handedOn slot).laneMask slot ∧ (∀ n, n / 32 ≠ slot → (t.handedOn slot).lane n = s.lane n) ∧
      (t.handedOn slot).tiles = s.tiles ∧ (t.handedOn slot).nvw = s.nvw := by
  refine ⟨?_, ?_, ?_, fun n hn => ?_, ?_, ?_⟩
  · rw [pm_handedOn, h.pm]
  · rw [weft_handedOn, h.weft]
  · rw [laneMask_handedOn, mask_handedOn]
  · rw [lane_handedOn, h.lane n hn]
  · rw [tiles_handedOn, h.tiles]
  · rw [nvw_handedOn, h.nvw]

/-- With no capture armed and one lane in the ring, the position is the turn of that lane. -/
theorem slotServed_oneLane (hc : s.reed.capture = none) {u : State} {id : Nat} {l : Lane} {k : Skein}
    (hu : s.reedLane s.reedSlot (s.strobeDrains || decide (s.hostPorts = [])) 0 (laneBad s.pickResults 0) (lanePairs s.pickResults 0) = u)
    (h : OneLane s.reedSlot id l k u) : s.slotServed last cap = u.settle.askFirsts := by
  have hit : ∀ t, s.captureHit t s.reedSlot = false := fun t => by
    unfold State.captureHit
    rw [hc]
  unfold State.slotServed
  dsimp only
  rw [hit, OneLane.reedSlotRun_eq (hu ▸ h), hu]
  rfl

/-! The three ways that the one lane's step can go. -/

variable {st : Step} {k : Skein} (hc : s.reed.capture = none)
include hc

/-- A void frees the lane, keeps the length and is counted (R24, R261). -/
theorem slotServed_voids (h : OneLane s.reedSlot st.skein ⟨none, some st⟩ k s) (hb : laneBad s.pickResults 0 = true) :
    ∃ k', OneLane s.reedSlot st.skein Lane.empty k' (s.slotServed last cap) ∧ k'.committed = k.committed ∧
      (s.slotServed last cap).get F.SKN_VOIDS_VOIDS = min (2 ^ 32 - 1) (s.get F.SKN_VOIDS_VOIDS + 1) ∧
      (s.slotServed last cap).reed.commits = s.reed.commits := by
  obtain ⟨k1, h1, hc1, hm1⟩ := h.voidStep
  have turn := h.reedLane_freed (drain := s.strobeDrains || decide (s.hostPorts = []))
    (handleStep_poison (cands := lanePairs s.pickResults 0)) h1
  obtain ⟨k2, h2, hc2, -, hm2⟩ := (h1.setLane Lane.empty).settled
  rw [slotServed_oneLane last cap hc (hb.symm ▸ turn) (h1.setLane _)]
  refine ⟨k2, h2, hc2.trans hc1, ?_, hm2.commits.trans (hm1.commits.trans (commits_voidCounted s st))⟩
  exact (get_voids_of_entriesMove hm2).trans ((get_voids_of_entriesMove hm1).trans (get_voids_voidCounted s st))

/-- A prompt step whose results are good commits: the length and the count rise, and nothing is written to the pools (R261). -/
theorem slotServed_commits (h : OneLane s.reedSlot st.skein ⟨none, some st⟩ k s) (hb : laneBad s.pickResults 0 = false)
    (hpos : st.pos = k.committed) (hp : st.pos + 1 < k.promptLen) :
    ∃ k', OneLane s.reedSlot st.skein Lane.empty k' (s.slotServed last cap) ∧ k'.committed = k.committed + 1 ∧ k'.voids = 0 ∧
      (s.slotServed last cap).reed.commits = min (2 ^ 64 - 1) (s.reed.commits + 1) ∧ (s.slotServed last cap).spool = s.spool := by
  obtain ⟨b, x, h1⟩ := h.stepTaken
  obtain ⟨m, h2⟩ := h1.missSk
  have hm := (entriesMove_stepTaken s st).trans (entriesMove_missSk _ st.skein)
  have turn := h.reedLane_freed (drain := s.strobeDrains || decide (s.hostPorts = []))
    (handleStep_prompt (cands := lanePairs s.pickResults 0) (h.sk.symm ▸ hpos) (h.sk.symm ▸ hp)) h2
  obtain ⟨k3, h3, hc3, hv3, hm3⟩ := (h2.setLane Lane.empty).settled
  rw [slotServed_oneLane last cap hc (hb.symm ▸ turn) (h2.setLane _)]
  exact ⟨k3, h3, hc3.trans (congrArg (· + 1) hpos), hv3, hm3.commits.trans hm.commits, hm3.spool.trans hm.spool⟩

/-- The last prompt step samples: its token is held, recorded, and carried on in the lane (R251, R257, R261). -/
theorem slotServed_samples (h : OneLane s.reedSlot st.skein ⟨some st.skein, some st⟩ k s) (hb : laneBad s.pickResults 0 = false)
    (hpos : st.pos = k.committed) (h2 : k.state = 2) (hp : k.parkPend = false) (hlen : st.pos + 1 = k.promptLen)
    (hlim : k.promptLen ≠ k.limit) (hdrain : (s.strobeDrains || decide (s.hostPorts = [])) = false)
    (hn : topCands (lanePairs s.pickResults 0) ≠ []) {tok : Nat}
    (htok : (s.sampleTok st.skein (st.pos + 1) (topCands (lanePairs s.pickResults 0))).1 = tok)
    (hstop : isStop (s.reed.sampEntry (s.sampOf k.sampler k.part)) tok = false)
    (hroom : ({ k with ringWr := (k.ringWr + 1) % 2 ^ 20 } : Skein).ringRoom = true) :
    ∃ k', OneLane s.reedSlot st.skein ⟨some st.skein, some ⟨st.skein, k.committed + 1, tok⟩⟩ k' (s.slotServed last cap) ∧
      k'.state = 3 ∧ k'.committed = k.committed + 1 ∧ k'.held = tok ∧ k'.heldValid = true ∧ k'.ringWr = (k.ringWr + 1) % 2 ^ 20 ∧
      k'.slot = s.reedSlot := by
  have hlen' : k.committed + 1 = k.promptLen := hpos ▸ hlen
  obtain ⟨b, x, h1⟩ := h.stepTaken
  rw [hpos] at h1
  have htok1 := (congrArg Prod.fst (h.sampleTok_stepTaken (st.pos + 1) (topCands (lanePairs s.pickResults 0)))).trans htok
  obtain ⟨m, h3⟩ := h1.sampleHeld h2 (topCands (lanePairs s.pickResults 0))
  rw [htok1] at h3
  have goes := h1.sampleStep_goesOn (slot := s.reedSlot) (c := topCands (lanePairs s.pickResults 0))
    (htok1.symm ▸ (h.stopsAt_stepTaken tok).trans hstop) (hlen ▸ hlim)
  have handled := handleStep_samples (slot := s.reedSlot) (cands := lanePairs s.pickResults 0) (h.sk.symm ▸ hpos)
    (h.sk.symm ▸ hlen.ge) (h.sk.symm ▸ h2.symm ▸ by decide) hn
  rw [goes] at handled
  have turn := h.reedLane_decodes handled h3 rfl hp rfl hroom
  have h4 := h3.setLane ⟨some st.skein, some ⟨st.skein, k.committed + 1, tok⟩⟩
  rw [slotServed_oneLane last cap hc (hdrain.symm ▸ hb.symm ▸ turn) h4, h4.settle_stays (by simp) hp, h4.askFirsts_past hlen'.ge]
  refine ⟨_, h4, ?_⟩
  exact ⟨rfl, rfl, rfl, rfl, rfl, rfl⟩

end

end Sys2Proof.Machine

open Sys2Proof Sys2Proof.Machine

/-- Settles O29: what a position reaches is `slotMoves_slotServed`; in a ring of one lane it is the turn of that lane, whose step commits
(`slotServed_commits`), is void (`slotServed_voids`) or samples (`slotServed_samples`). -/
theorem reedPosition : Obligations.ReedPosition := by
  unfold Obligations.ReedPosition
  intro s st k last cap run runs res sampler tok one
  have oneLane : ∀ {owner}, one owner → OneLane s.reedSlot st.skein ⟨owner, some st⟩ k s := by
    rintro owner ⟨_, hadm, _, hl, hk, hne, _, _, _, hgo⟩
    exact ⟨hl.trans (smSet_nil_of_ne _ (by simp [Lane.empty])).symm, hk.trans (smSet_nil_of_ne _ hne).symm, hadm, hgo⟩
  refine ⟨exec_reedPosition_idle last cap, fun hr => ⟨_, exec_reedPosition_runs last cap hr, handedOn_reach (slotMoves_slotServed ..)⟩,
    fun h hp => ⟨fun hb => ?commits, fun hb => ?voids⟩, fun h hlen hlim hd hh hb hn hstop hroom => ?samples⟩
  case commits =>
    have ho := oneLane h
    obtain ⟨hr, _, hcap, _, _, _, _, _, hpos, _⟩ := h
    obtain ⟨k', h', hc, hv, hcm, hsp⟩ := slotServed_commits last cap hcap ho hb hpos hp
    refine ⟨_, exec_reedPosition_runs last cap hr, ?_⟩
    dsimp only
    rw [lanes_handedOn, commits_handedOn, sk_handedOn, spool_handedOn, h'.sk, hsp]
    exact ⟨h'.lanes_free, hc, hv, hcm, rfl⟩
  case voids =>
    have ho := oneLane h
    obtain ⟨hr, _, hcap, _⟩ := h
    obtain ⟨k', h', hc, hv, hcm⟩ := slotServed_voids last cap hcap ho hb
    refine ⟨_, exec_reedPosition_runs last cap hr, ?_⟩
    dsimp only
    rw [lanes_handedOn, commits_handedOn, sk_handedOn, get_handedOn, h'.sk]
    exact ⟨h'.lanes_free, hc, hv, hcm⟩
  case samples =>
    have ho := oneLane h
    obtain ⟨hr, _, hcap, _, _, _, h2, hp, hpos, _⟩ := h
    obtain ⟨k', h', hst, hc, hh', hhv, hwr, hsl⟩ := slotServed_samples last cap hcap ho hb hpos h2 hp hlen hlim (by simp [hd, hh]) hn rfl hstop
      (decide_eq_true hroom)
    refine ⟨_, exec_reedPosition_runs last cap hr, ?_⟩
    dsimp only
    rw [lane_handedOn, sk_handedOn, h'.sk]
    exact ⟨h'.lane_zero, hst, hc, hh', hhv, hwr, hsl⟩
end

section
/-!
PROOFS. Sequencer commands of native mode (R46, R50 to R54, R353): what the shared operations make of a tile that issues, the scoreboard, loads and
stores, and the errors that a load meets.
-/
namespace Sys2Proof.Machine

/-! ### Registers of a tile after a write -/

theorem tileSameRegs_trans {u v w : Tile} {ks : List Nat} (h : tileSameRegs u v ks) (h' : tileSameRegs v w ks) : tileSameRegs u w ks :=
  fun k hk => (h' k hk).trans (h k hk)

theorem tileSameRegs_of_regs {u v : Tile} (h : v.regs = u.regs) (ks : List Nat) : tileSameRegs u v ks := fun k _ => by rw [h]

theorem tileSameRegs_tSet (f : Fld) (n : Nat) (u : Tile) {ks : List Nat} (h : f.reg ∈ ks) : tileSameRegs u (tSet f n u) ks :=
  fun _ hk => bankReg_bankSet_other f 0 n (by rw [rkey_zero]; exact (ne_of_mem_of_not_mem h hk).symm) u.regs

theorem tileSameRegs_tAdd (f : Fld) (n : Nat) (u : Tile) {ks : List Nat} (h : f.reg ∈ ks) : tileSameRegs u (tAdd f n u) ks :=
  tileSameRegs_tSet f _ u h

theorem tGet_of_sameRegs {u v : Tile} {ks : List Nat} (h : tileSameRegs u v ks) {f : Fld} (hf : f.reg ∉ ks) : tGet f v = tGet f u :=
  congrArg (fldOf f) (h (rkey f.reg 0) (by rwa [rkey_zero]))

theorem tGet_of_regs {u v : Tile} (h : v.regs = u.regs) (f : Fld) : tGet f v = tGet f u := congrArg (bankGet f 0) h

/-- A field reads as it was set, in its width. -/
theorem tGet_tSet_same (f : Fld) (n : Nat) (u : Tile) (h : f.lo + f.w ≤ 32) : tGet f (tSet f n u) = n % 2 ^ f.w :=
  bankGet_bankSet_same f 0 n u.regs h

/-- A count reads as its saturated sum. -/
theorem tGet_tAdd_same (f : Fld) (n : Nat) (u : Tile) (h : f.lo + f.w ≤ 32) : tGet f (tAdd f n u) = min (2 ^ f.w - 1) (tGet f u + n) := by
  have hp := Nat.two_pow_pos f.w
  refine (bankGet_bankSet_same f 0 _ u.regs h).trans (Nat.mod_eq_of_lt ?_)
  exact Nat.lt_of_le_of_lt (Nat.min_le_left _ _) (Nat.sub_lt hp Nat.one_pos)

/-- Two fields lie apart: in different registers, or in different bits of one. -/
abbrev fldsApart (f g : Fld) : Prop := g.reg ≠ f.reg ∨ (g.lo + g.w ≤ 32 ∧ (g.lo + g.w ≤ f.lo ∨ f.lo + f.w ≤ g.lo))

theorem tGet_tSet_other {f g : Fld} (n : Nat) (u : Tile) (h : fldsApart f g) : tGet g (tSet f n u) = tGet g u :=
  bankGet_bankSet_other f g 0 0 n u.regs (h.imp_left fun h => by rwa [rkey_zero, rkey_zero])

theorem tGet_tAdd_other {f g : Fld} (n : Nat) (u : Tile) (h : fldsApart f g) : tGet g (tAdd f n u) = tGet g u :=
  tGet_tSet_other _ u h

/-! ### Where the sequencer stands -/

section
variable {s : State} {t : TileAddr} {v : Tile}

theorem seqAt_setTile {pc : BitVec 16} {w : Nat} (hpc : v.pc = pc) (hw : tGet F.TIL_SEQ_WAIT v = w)
    (hr : tileSameRegs (s.tile t.toNat) v [R.TIL_SEQ]) : seqAt s (s.setTile t.toNat v) t pc w := by
  refine ⟨?_, ?_, ?_, onlyTile_setTile ..⟩ <;> rw [State.tile_setTile_same]
  · exact hpc
  · exact hw
  · exact hr

theorem tileSameRegs_tWait (c : Nat) (v : Tile) : tileSameRegs v (tWait c v) [R.TIL_SEQ] :=
  tileSameRegs_tSet F.TIL_SEQ_WAIT c v List.mem_cons_self

/-- A sequencer that holds: the wait code is all that differs in its registers (R66). -/
theorem seqAt_tWait {c : Nat} (hc : c < 16) (hr : v.regs = (s.tile t.toNat).regs) :
    seqAt s (s.setTile t.toNat (tWait c v)) t v.pc c :=
  seqAt_setTile (pc_tWait c v) (tGet_tWait hc v) (tileSameRegs_trans (tileSameRegs_of_regs hr _) (tileSameRegs_tWait c v))

/-- In native mode an instruction outside a delay slot ends at the next one (R351). -/
theorem tNext_native {cx : Ctx} (hst : cx.stepping = 0) {v : Tile} (hd : v.delay = none) : tNext cx v = { tWait 0 v with pc := v.pc + 1 } := by
  have hw : (tWait 0 v).delay = none := (delay_tWait 0 v).trans hd
  simp only [tNext, tAdvance, if_pos hst, hw, pc_tWait]

/-- The sequencer goes on from a tile whose registers and program counter are as they were. -/
theorem seqNext_tNext (hst : s.pat.stepping = 0) (hd : v.delay = none) (hpc : v.pc = (s.tile t.toNat).pc)
    (hr : v.regs = (s.tile t.toNat).regs) : seqNext s (s.setTile t.toNat (tNext (s.ctx t.toNat) v)) t := by
  rw [tNext_native (cx := s.ctx t.toNat) hst hd]
  have hregs : ({ tWait 0 v with pc := v.pc + 1 } : Tile).regs = (tWait 0 v).regs := rfl
  refine seqAt_setTile (congrArg (· + 1) hpc) ((tGet_of_regs hregs _).trans (tGet_tWait (by decide) v)) ?_
  exact tileSameRegs_trans (tileSameRegs_of_regs hr _)
    (tileSameRegs_trans (tileSameRegs_tWait 0 v) (tileSameRegs_of_regs hregs _))

end

/-! ### Commands that read the scratchpad -/

@[simp] theorem tile_hazRecord (s : State) (a b : Nat) : (s.hazRecord a).tile b = s.tile b := State.tile_raise ..

@[simp] theorem tile_metRecords (s r : State) (a first b : Nat) (l : List Met) : (s.metRecords a first l r).tile b = r.tile b := by
  have hfold : ∀ (inj : Bool) (l : List Met) (q : State), (l.foldl (fun q m => if m.2.1 = 2 then
      q.raise 2 17 (if m.1 / 64 < staticLines then 3 else 2) a (bankReg R.TIL_SP_LOG (q.tile a).regs).toNat inj else q) q).tile b = q.tile b := by
    intro inj l
    induction l with
    | nil => exact fun q => rfl
    | cons m l ih =>
      intro q
      rw [List.foldl_cons, ih]
      split
      · exact State.tile_raise ..
      · rfl
  unfold State.metRecords
  dsimp only
  split
  · rw [State.tile_injUse, hfold]
  · exact hfold ..

theorem metErrs_of_injHas {s : State} {a : Nat} (h : s.injHas 2 a = false) (first : Nat) (e : List (Nat × Nat)) : s.metErrs a first e = e := by
  simp [State.metErrs, h]

section
variable {on : Tile → Bool} {a : TileAddr} {e : List (Nat × Nat)} (first : Tile → Nat) {ok : Ctx → Tile → Bool} (haz : Ctx → Tile → Bool)
  (f : Ctx → Tile → Tile) {s : State} (nf : Nat) (h : tileOk a.toNat = true) (hon : on (s.tile a.toNat) = true)
  (hinj : s.injHas 2 a.toNat = false)
include h hon hinj

/-- What becomes of the tile: the words in error are met, the command acts, the errors are recorded (R52). -/
theorem seqMeet_next (he : (e.all fun x => decide (x.1 < spadBytes)) = true)
    (hok : ok { s.ctx a.toNat with free := s.free + (coursesOf s.free e).length } (tMeet (coursesOf s.free e) (s.tile a.toNat)) = true) :
    ∃ r, seqMeet on a e first ok haz f s nf = .next r ∧
      r.tile a.toNat = tSrams (coursesOf s.free e) (f { s.ctx a.toNat with free := s.free + (coursesOf s.free e).length }
        (tMeet (coursesOf s.free e) (s.tile a.toNat))) := by
  unfold seqMeet
  rw [if_pos h]
  dsimp only
  rw [if_pos hon, metErrs_of_injHas hinj, if_pos (by rw [he, hok]; rfl)]
  refine ⟨_, rfl, ?_⟩
  split
  · rw [tile_hazRecord, tile_metRecords, State.tile_setTile_same]
  · rw [tile_metRecords, State.tile_setTile_same]

/-- Without a bit error and without a hazard only the tile changes. -/
theorem seqMeet_clean (hok : ok (s.ctx a.toNat) (s.tile a.toNat) = true) (hhaz : haz (s.ctx a.toNat) (s.tile a.toNat) = false)
    (hcount : tGet F.TIL_HAZ_COUNT_COUNT (f (s.ctx a.toNat) (s.tile a.toNat)) = tGet F.TIL_HAZ_COUNT_COUNT (s.tile a.toNat)) :
    seqMeet on a [] first ok haz f s = .next (s.setTile a.toNat (f (s.ctx a.toNat) (s.tile a.toNat))) := by
  have hnone : ∀ n, coursesOf n [] = [] := fun _ => rfl
  have hctx : ({ s.ctx a.toNat with free := s.free + ([] : List Met).length } : Ctx) = s.ctx a.toNat := rfl
  have hmeet : tMeet [] (s.tile a.toNat) = s.tile a.toNat := rfl
  have hsrams : ∀ v, tSrams [] v = v := fun _ => rfl
  have hrecords : ∀ n r, s.metRecords a.toNat n [] r = r := fun n r => by
    unfold State.metRecords
    rw [hinj]
    rfl
  unfold seqMeet
  rw [if_pos h]
  dsimp only
  rw [if_pos hon, metErrs_of_injHas hinj, hnone, hctx, hmeet, hok, hhaz, hsrams, hrecords, hcount]
  simp [State.useFree]

end

/-! ### The end of a turn (R30, R46 to R50, R54) -/

/-- A scratchpad after writes applied in order (R47). -/
def applied (ws : List Staged) (m : SMap Byte) : SMap Byte := ws.foldl (fun m w => smSetBytes w.addr w.data m) m

/-- Writes that become visible change the scratchpad and the arrival counters. -/
theorem foldl_tApply (ws : List Staged) (t : Tile) :
    ∃ arr, ws.foldl (fun u w => tApply u w.addr w.data) t = { t with scratch := applied ws t.scratch, arr := arr } := by
  induction ws generalizing t with
  | nil => exact ⟨_, rfl⟩
  | cons w ws ih => exact ih (tApply t w.addr w.data)

theorem tHazard_eq (pick : Nat) (h : Nat × Nat × Nat) (t : Tile) :
    tHazard pick h t = { t with regs := (tHazard pick h t).regs, poison := true } := by
  cases t
  unfold tHazard
  dsimp only [tPoison, tAdd, tSet]
  split <;> rfl

/-- A tile with the hazards of its turn recorded (R48). -/
def hazarded (pick : Nat) (t : Tile) : Tile := (hazardsOf t).foldl (fun u h => tHazard pick h u) t

theorem hazarded_of_none {t : Tile} (h : hazardsOf t = []) (pick : Nat) : hazarded pick t = t := by
  unfold hazarded
  rw [h]
  rfl

/-- Hazards show in the registers and in the poison mark. -/
theorem hazarded_eq (pick : Nat) (t : Tile) :
    hazarded pick t = { t with regs := (hazarded pick t).regs, poison := (hazarded pick t).poison } := by
  unfold hazarded
  generalize hazardsOf t = hs
  induction hs generalizing t with
  | nil => rfl
  | cons h hs ih =>
    rw [List.foldl_cons, ih, tHazard_eq]

/-- The writes of a turn become visible, its hazards are recorded, and none of its writes and accesses is left. -/
theorem tTurnWrites_eq (pick : Nat) (t : Tile) :
    ∃ arr, tTurnWrites pick t =
      { t with scratch := applied (sortBy Staged.slot t.staged) t.scratch, staged := [], accesses := [], arr := arr,
               regs := (hazarded pick t).regs, poison := (hazarded pick t).poison } := by
  obtain ⟨arr, happ⟩ := foldl_tApply (sortBy Staged.slot t.staged)
    { t with regs := (hazarded pick t).regs, poison := (hazarded pick t).poison }
  refine ⟨arr, ?_⟩
  unfold tTurnWrites
  dsimp only
  rw [show (hazardsOf t).foldl (fun u h => tHazard pick h u) t = hazarded pick t from rfl, hazarded_eq, happ]

/-- Built shuttles move to the local port (R158). -/
theorem tBuild_eq (shs : List Shuttle) (t : Tile) : ∃ b o, tBuild shs t = { t with building := b, outbox := o } := by
  induction shs generalizing t with
  | nil => exact ⟨_, _, rfl⟩
  | cons sh shs ih =>
    unfold tBuild
    split
    · exact ih (tSendOut [sh] t)
    · exact ⟨_, _, rfl⟩

theorem tRefill_eq (stepping : Nat) (t : Tile) :
    ∃ acc at' ib, tRefill stepping t = { t with accesses := acc, ibufAt := at', ibuf := ib } := by
  unfold tRefill
  split <;> exact ⟨_, _, _, rfl⟩

/-- The fold and edge unit through one turn: it goes on, or delivers what it made (R55). -/
theorem tFoldTurn_eq (t : Tile) :
    ∃ sg acc dr b o, tFoldTurn t = { t with staged := sg, accesses := acc, drain := dr, building := b, outbox := o } ∧
      ((∀ d, t.drain = some d → 1 < d.left) → sg = t.staged) ∧ (t.drain = none → dr = none) ∧
      (∀ d, t.drain = some d → d.left ≤ 1 → d.data ≠ [] → sg = t.staged ++ [⟨2, d.addr, d.data⟩] ∧ dr = none) := by
  unfold tFoldTurn
  split
  · next hd =>
    obtain ⟨b, o, hb⟩ := tBuild_eq t.building t
    refine ⟨_, _, _, b, o, hb, fun _ => rfl, fun h => h, fun d h => ?_⟩
    cases hd.symm.trans h
  · next r hd =>
    split
    · next hl =>
      obtain ⟨b, o, hb⟩ := tBuild_eq t.building { t with drain := some { r with left := r.left - 1 } }
      refine ⟨_, _, _, b, o, hb, fun _ => rfl, fun h => ?_, fun d h hle => ?_⟩
      · cases hd.symm.trans h
      · cases hd.symm.trans h
        exact absurd hl (Nat.not_lt.mpr hle)
    · next hl =>
      unfold tDeliver
      dsimp only
      generalize ht : (if r.data = [] then ({ t with drain := none } : Tile) else tStage 2 r.addr r.data { t with drain := none }) = t1
      obtain ⟨b, o, hb⟩ := tBuild_eq (t1.building ++ r.shs.map fun sh =>
        if tMark { t with drain := none } || decide (hLane sh.hdr ∈ t.lanePoison) then markShuttle sh else sh) t1
      have ht1 : t1 = { t with staged := t1.staged, accesses := t1.accesses, drain := none } := by
        rw [← ht]
        split <;> rfl
      refine ⟨t1.staged, t1.accesses, none, b, o, hb.trans (by rw [ht1]), fun h => absurd (h r hd) hl, fun _ => rfl, fun d h _ hne => ⟨?_, rfl⟩⟩
      cases hd.symm.trans h
      rw [← ht, if_neg hne]
      rfl

/-- The end of a turn, field by field. -/
theorem tTurnEnd_eq (cx : Ctx) (t : Tile) :
    ∃ sg acc arr dr b o at' ib, tTurnEnd cx t =
        { t with scratch := applied (sortBy Staged.slot t.staged) t.scratch, staged := sg, accesses := acc, arr := arr,
                 regs := (hazarded cx.pick t).regs, poison := (hazarded cx.pick t).poison, drain := dr, building := b, outbox := o,
                 ibufAt := at', ibuf := ib } ∧
      ((∀ d, t.drain = some d → 1 < d.left) → sg = []) ∧ (t.drain = none → dr = none) ∧
      (∀ d, t.drain = some d → d.left ≤ 1 → d.data ≠ [] → sg = [⟨2, d.addr, d.data⟩] ∧ dr = none) := by
  obtain ⟨arr, hw⟩ := tTurnWrites_eq cx.pick t
  obtain ⟨sg, acc, dr, b, o, hf, hstay, hidle, hmade⟩ := tFoldTurn_eq (tTurnWrites cx.pick t)
  obtain ⟨acc', at', ib, hr⟩ := tRefill_eq cx.stepping (tFoldTurn (tTurnWrites cx.pick t))
  rw [hw] at hstay hidle hmade
  refine ⟨sg, acc', arr, dr, b, o, at', ib, ?_, hstay, hidle, hmade⟩
  unfold tTurnEnd
  rw [hr, hf, hw]

/-! ### The scoreboard (R351) -/

theorem tSettle_free {lines : List Nat} {t : Tile} (h : tBusyLine lines t = false) (cx : Ctx) : tSettle cx lines t = t := by
  simp [tSettle, h]

theorem tSettleN_free {lines : List Nat} {t : Tile} (h : tBusyLine lines t = false) (cx : Ctx) (n : Nat) : tSettleN cx lines n t = t := by
  cases n with
  | zero => rfl
  | succ n => simp [tSettleN, h]

theorem tBusyLine_idle {t : Tile} (hs : t.staged = []) (hd : t.drain = none) (lines : List Nat) : tBusyLine lines t = false := by
  simp [tBusyLine, hs, hd]

/-- With the fold and edge unit free, a read of a line that is not yet visible waits for the end of the turn. -/
theorem tSettle_busy {cx : Ctx} (hst : cx.stepping = 0) {lines : List Nat} {t : Tile} (h : tBusyLine lines t = true) (hd : t.drain = none) :
    tSettle cx lines t = tTurnEnd cx t := by
  obtain ⟨sg, acc, arr, dr, b, o, at', ib, he, hnone, hidle, -⟩ := tTurnEnd_eq cx t
  have hsg : sg = [] := hnone fun d h => by cases hd.symm.trans h
  have hfree : tBusyLine lines (tTurnEnd cx t) = false := tBusyLine_idle (by rw [he]; exact hsg) (by rw [he]; exact hidle hd) lines
  unfold tSettle
  rw [if_pos ⟨hst, h⟩, tSettleN, if_pos h]
  exact tSettleN_free hfree cx 5

/-! ### Loads and stores (R46, R353) -/

theorem tReg_of_g {u v : Tile} (h : v.g = u.g) (i : Nat) : tReg i v = tReg i u := by
  unfold tReg
  rw [h]

theorem tPutReg_eq (r : Nat) (v : Word) (t : Tile) : tPutReg r v t = { t with g := (tPutReg r v t).g } := by
  unfold tPutReg
  split <;> rfl

@[simp] theorem tReg_tNote (i slot : Nat) (lines : List Nat) (wr : Bool) (t : Tile) : tReg i (tNote slot lines wr t) = tReg i t := by
  cases t; rfl

/-- The sequencer's place is no general register. -/
theorem tReg_goesOn (i : Nat) (t : Tile) (pc : BitVec 16) : tReg i { tWait 0 t with pc := pc } = tReg i t := by
  cases t; rfl

/-- The address of the bytes that an access of a word or a byte names. -/
def accessAt (byte : Bool) (a : Nat) : Nat := if byte then a else a / 4 * 4

/-- A load in native mode, once the line is visible. -/
theorem tLoad_native {cx : Ctx} (hst : cx.stepping = 0) (byte : Bool) (r a : Nat) (t : Tile) :
    tLoad cx byte r a t =
      tPutReg r (BitVec.ofNat 32 (tNum (accessAt byte a) (if byte then 1 else 4) (tSettle cx [a / 64] t)))
        (tNote 6 [a / 64] false (tSettle cx [a / 64] t)) := by
  unfold tLoad
  rw [if_pos hst]
  rfl

/-- A load puts its value into its register. -/
theorem tReg_tLoad {cx : Ctx} (hst : cx.stepping = 0) (byte : Bool) {r : Nat} (hr : r ≠ 0) (a : Nat) {t : Tile}
    (hd : (tSettle cx [a / 64] t).delay = none) :
    tReg r (tNext cx (tLoad cx byte r a t)) =
      BitVec.ofNat 32 (tNum (accessAt byte a) (if byte then 1 else 4) (tSettle cx [a / 64] t)) := by
  rw [tLoad_native hst, tNext_native hst (by rw [tPutReg_eq]; exact hd), tReg_goesOn, tReg_tPutReg, if_pos ⟨rfl, hr⟩]

theorem tStore_native {cx : Ctx} (hst : cx.stepping = 0) (byte : Bool) (a : Nat) (v : Word) (t : Tile) :
    tStore cx byte a v t = tStage 6 (accessAt byte a) (leBytes (if byte then 1 else 4) v.toNat) t := by
  unfold tStore
  rw [if_pos hst]
  rfl

/-- The number of bytes of a number is the number again, in their width. -/
theorem leNat_leBytes (n x : Nat) : leNat (leBytes n x) = x % 2 ^ (8 * n) := by
  induction n generalizing x with
  | zero => simp [leBytes, leNat, Nat.mod_one]
  | succ n ih =>
    have hp : 2 ^ (8 * (n + 1)) = 256 * 2 ^ (8 * n) := by ring
    rw [leBytes, leNat, ih, hp, Nat.mod_mul]
    rfl

/-- A word that was stored in this turn with nothing else: the scoreboard holds a read until it is visible. -/
theorem scratch_tSettle_stored {cx : Ctx} (hst : cx.stepping = 0) {u : Tile} (hs : u.staged = []) (hdr : u.drain = none) (hd : u.delay = none)
    (a : Nat) {bs : List Byte} (hl : bs.length = 4) :
    let v := tSettle cx [a / 64] (tNext cx (tStage 6 (a / 4 * 4) bs u))
    v.scratch = smSetBytes (a / 4 * 4) bs u.scratch ∧ v.delay = none := by
  have hv : tNext cx (tStage 6 (a / 4 * 4) bs u) = { tWait 0 (tStage 6 (a / 4 * 4) bs u) with pc := u.pc + 1 } := tNext_native hst hd
  have hstaged : (tNext cx (tStage 6 (a / 4 * 4) bs u)).staged = [⟨6, a / 4 * 4, bs⟩] := by
    rw [hv]
    exact congrArg (· ++ _) hs
  have hidle : (tNext cx (tStage 6 (a / 4 * 4) bs u)).drain = none := by rw [hv]; exact hdr
  have hline : a / 64 ∈ linesOf (a / 4 * 4) bs.length := by
    unfold linesOf
    rw [hl, if_neg (by decide), mem_rangeFrom]
    omega
  have hbusy : tBusyLine [a / 64] (tNext cx (tStage 6 (a / 4 * 4) bs u)) = true := by
    simp only [tBusyLine, hstaged, List.any_cons, List.mem_singleton, Bool.or_eq_true, Bool.and_eq_true, List.any_eq_true, decide_eq_true_eq]
    exact .inl (.inl ⟨by decide, _, hline, rfl⟩)
  obtain ⟨sg, acc, arr, dr, b, o, at', ib, he, -⟩ := tTurnEnd_eq cx (tNext cx (tStage 6 (a / 4 * 4) bs u))
  dsimp only
  rw [tSettle_busy hst hbusy hidle, he, hstaged, hv]
  exact ⟨rfl, hd⟩

theorem length_leBytes (n x : Nat) : (leBytes n x).length = n := by
  induction n generalizing x with
  | zero => rfl
  | succ n ih => simp [leBytes, ih]

section
variable {s : State} {t : TileAddr} {a : BitVec 5} {k : BitVec 14} (hn : native s t)
  (hk : kAddr (s.tile t.toNat) a k < spadBytes)
include hn hk

/-- A load without a bit error of a line that no unit has written in this turn. -/
theorem seqLoad_free (byte : Bool) (d : BitVec 5) (hb : tBusyLine [kAddr (s.tile t.toNat) a k / 64] (s.tile t.toNat) = false)
    (hinj : s.injHas 2 t.toNat = false) :
    let u := s.tile t.toNat
    seqLoad byte t d a k 0 s = .next (s.setTile t.toNat (tNext (s.ctx t.toNat)
      (tPutReg d.toNat (BitVec.ofNat 32 (tNum (accessAt byte (kAddr u a k)) (if byte then 1 else 4) u))
        (tNote 6 [kAddr u a k / 64] false u)))) := by
  obtain ⟨hok, hiss, hst, hd⟩ := hn
  have hload := tLoad_native (cx := s.ctx t.toNat) hst byte d.toNat (kAddr (s.tile t.toNat) a k) (s.tile t.toNat)
  rw [tSettle_free hb] at hload
  unfold seqLoad
  dsimp only
  rw [if_pos rfl, seqMeet_clean _ _ _ hok hiss hinj (decide_eq_true hk) rfl ?count, hload]
  case count =>
    rw [hload, tNext_native (cx := s.ctx t.toNat) hst (by rw [tPutReg_eq]; exact hd), tPutReg_eq]
    exact tGet_of_sameRegs (tileSameRegs_tWait 0 _) (by decide)

theorem execStw_native (d : BitVec 5) :
    let u := s.tile t.toNat
    execStw t d a k s = .next (s.setTile t.toNat (tNext (s.ctx t.toNat)
      (tStage 6 (kAddr u a k / 4 * 4) (leBytes 4 (tReg d.toNat u).toNat) u))) := by
  obtain ⟨hok, hiss, hst, hd⟩ := hn
  exact (seqRun_next _ hok hiss (decide_eq_true hk)).trans (by rw [tStore_native (cx := s.ctx t.toNat) hst]; rfl)

theorem execStb_native (d : BitVec 5) :
    let u := s.tile t.toNat
    execStb t d a k s = .next (s.setTile t.toNat (tNext (s.ctx t.toNat)
      (tStage 6 (kAddr u a k) [(tReg d.toNat u).truncate 8] u))) := by
  obtain ⟨hok, hiss, hst, hd⟩ := hn
  have hbyte : leBytes 1 (tReg d.toNat (s.tile t.toNat)).toNat = [(tReg d.toNat (s.tile t.toNat)).truncate 8] := by
    simp [leBytes, BitVec.ofNat_toNat]
  exact (seqRun_next _ hok hiss (decide_eq_true hk)).trans (by rw [tStore_native (cx := s.ctx t.toNat) hst, ← hbyte]; rfl)

end

section
variable {s : State} {t : TileAddr} (hn : native s t)
include hn

/-- What a load leaves: its register takes the value, and nothing else but the turn's accesses and the sequencer's place differs. -/
theorem loaded_setTile (d : BitVec 5) (v : Word) (lines : List Nat) :
    let u := s.tile t.toNat
    let r := s.setTile t.toNat (tNext (s.ctx t.toNat) (tPutReg d.toNat v (tNote 6 lines false u)))
    seqNext s r t ∧ (∀ i, tReg i (r.tile t.toNat) = if i = d.toNat ∧ i ≠ 0 then v else tReg i u) ∧
      r.tile t.toNat = { u with g := (r.tile t.toNat).g, accesses := (r.tile t.toNat).accesses, pc := (r.tile t.toNat).pc,
                                regs := (r.tile t.toNat).regs } := by
  obtain ⟨hok, hiss, hst, hd⟩ := hn
  dsimp only
  have hw := tPutReg_eq d.toNat v (tNote 6 lines false (s.tile t.toNat))
  have hdelay : (tPutReg d.toNat v (tNote 6 lines false (s.tile t.toNat))).delay = none := by rw [hw]; exact hd
  refine ⟨seqNext_tNext hst hdelay (by rw [hw]; rfl) (by rw [hw]; rfl), fun i => ?_, ?_⟩ <;>
    rw [State.tile_setTile_same, tNext_native (cx := s.ctx t.toNat) hst hdelay]
  · rw [tReg_goesOn, tReg_tPutReg, tReg_tNote]
  · rw [hw]
    rfl

/-- What a store leaves: its bytes stand for the end of the turn, and nothing else but the turn's accesses and the sequencer's place differs. -/
theorem stored_setTile (at' : Nat) (bs : List Byte) :
    let u := s.tile t.toNat
    let r := s.setTile t.toNat (tNext (s.ctx t.toNat) (tStage 6 at' bs u))
    seqNext s r t ∧ (r.tile t.toNat).staged = u.staged ++ [⟨6, at', bs⟩] ∧
      r.tile t.toNat = { u with staged := (r.tile t.toNat).staged, accesses := (r.tile t.toNat).accesses, pc := (r.tile t.toNat).pc,
                                regs := (r.tile t.toNat).regs } := by
  obtain ⟨hok, hiss, hst, hd⟩ := hn
  dsimp only
  refine ⟨seqNext_tNext hst hd rfl rfl, ?_, ?_⟩ <;> rw [State.tile_setTile_same, tNext_native (cx := s.ctx t.toNat) hst (v := tStage 6 at' bs _) hd] <;> rfl

end

/-- A load that meets no bit error puts the visible value into its register. -/
theorem seqLoad_reg {s : State} {t : TileAddr} (hn : native s t) (byte : Bool) {d : BitVec 5} (hd0 : d ≠ 0) (a : BitVec 5) (k : BitVec 14)
    (hk : kAddr (s.tile t.toNat) a k < spadBytes) (hinj : s.injHas 2 t.toNat = false)
    (hdelay : (tSettle (s.ctx t.toNat) [kAddr (s.tile t.toNat) a k / 64] (s.tile t.toNat)).delay = none) :
    let u := s.tile t.toNat
    ∃ r, seqLoad byte t d a k 0 s = .next r ∧ tReg d.toNat (r.tile t.toNat) =
      BitVec.ofNat 32 (tNum (accessAt byte (kAddr u a k)) (if byte then 1 else 4) (tSettle (s.ctx t.toNat) [kAddr u a k / 64] u)) := by
  obtain ⟨hok, hiss, hst, -⟩ := hn
  have hne : d.toNat ≠ 0 := fun h => hd0 (BitVec.eq_of_toNat_eq h)
  obtain ⟨r, hr, htile⟩ := seqMeet_next (e := []) (fun v => kAddr v a k) (ok := fun _ v => decide (kAddr v a k < spadBytes)) noHaz
    (fun cx v => tNext cx (tLoad cx byte d.toNat (kAddr v a k) v)) 0 hok hiss hinj rfl (decide_eq_true hk)
  exact ⟨r, hr, (congrArg (tReg d.toNat) htile).trans (tReg_tLoad (cx := s.ctx t.toNat) hst byte hne _ hdelay)⟩

/-- A word stored is the word loaded by the next instruction, with nothing else written in the turn (R46, R351). -/
theorem execStw_execLdw {s : State} {t : TileAddr} (hn : native s t) (d a : BitVec 5) {e : BitVec 5} (k : BitVec 14)
    (hk : kAddr (s.tile t.toNat) a k < spadBytes) (hs : (s.tile t.toNat).staged = []) (hdr : (s.tile t.toNat).drain = none)
    (hinj : s.injHas 2 t.toNat = false) (he : e ≠ 0) :
    ∃ r, execStw t d a k s = .next r ∧ ∃ q, execLdw t e a k 0 r = .next q ∧ tReg e.toNat (q.tile t.toNat) = tReg d.toNat (s.tile t.toNat) := by
  refine ⟨_, execStw_native hn hk d, ?_⟩
  obtain ⟨hok, hiss, hst, hd⟩ := hn
  generalize hv : tNext (s.ctx t.toNat) (tStage 6 (kAddr (s.tile t.toNat) a k / 4 * 4) (leBytes 4 (tReg d.toNat (s.tile t.toNat)).toNat)
    (s.tile t.toNat)) = v
  have hframe := tNext_native (cx := s.ctx t.toNat) hst (v := tStage 6 (kAddr (s.tile t.toNat) a k / 4 * 4)
    (leBytes 4 (tReg d.toNat (s.tile t.toNat)).toNat) (s.tile t.toNat)) hd
  rw [hv] at hframe
  have htile : (s.setTile t.toNat v).tile t.toNat = v := s.tile_setTile_same _ v
  have hkv : kAddr v a k = kAddr (s.tile t.toNat) a k := by
    unfold kAddr
    rw [tReg_of_g (u := s.tile t.toNat) (by rw [hframe]; rfl)]
  have hnv : native (s.setTile t.toNat v) t := by
    refine ⟨hok, ?_, hst, ?_⟩ <;> rw [htile, hframe]
    · exact hiss
    · exact hd
  obtain ⟨hscratch, hdelay⟩ := scratch_tSettle_stored (cx := s.ctx t.toNat) hst hs hdr hd (kAddr (s.tile t.toNat) a k)
    (length_leBytes 4 (tReg d.toNat (s.tile t.toNat)).toNat)
  rw [hv] at hscratch hdelay
  obtain ⟨q, hq, hval⟩ := seqLoad_reg hnv false he a k (by rw [htile, hkv]; exact hk) hinj (by rw [htile, hkv]; exact hdelay)
  refine ⟨q, hq, hval.trans ?_⟩
  rw [htile, hkv]
  have hword : tNum (kAddr (s.tile t.toNat) a k / 4 * 4) 4 (tSettle (s.ctx t.toNat) [kAddr (s.tile t.toNat) a k / 64] v) =
      (tReg d.toNat (s.tile t.toNat)).toNat := by
    have hbytes := smGetBytes_smSetBytes (kAddr (s.tile t.toNat) a k / 4 * 4) (leBytes 4 (tReg d.toNat (s.tile t.toNat)).toNat) (s.tile t.toNat).scratch
    rw [length_leBytes] at hbytes
    unfold tNum tBytes
    rw [hscratch, hbytes, leNat_leBytes]
    exact Nat.mod_eq_of_lt (BitVec.isLt _)
  exact (congrArg (BitVec.ofNat 32) hword).trans (BitVec.ofNat_toNat ..)

end Sys2Proof.Machine

open Sys2Proof Sys2Proof.Machine

/-- Settles O3: a load or a store is `tLoad_native` or `tStore_native` with the sequencer going on, and the load after a store reads what the end
of the turn made visible. -/
theorem sequencerMemory : Obligations.SequencerMemory := by
  unfold Obligations.SequencerMemory
  refine ⟨?access, ?storeLoad⟩
  case access =>
    intro s t d a k hn u adr word stores loads hk
    refine ⟨fun hb hinj => ⟨⟨_, seqLoad_free hn hk false d hb hinj, loaded_setTile hn d _ _⟩, ⟨_, seqLoad_free hn hk true d hb hinj, ?byte⟩⟩,
      ⟨_, execStw_native hn hk d, stored_setTile hn _ _⟩, ⟨_, execStb_native hn hk d, stored_setTile hn _ _⟩⟩
    case byte =>
      have hval : BitVec.ofNat 32 (tNum adr 1 u) = (smGet 0 adr u.scratch).zeroExtend 32 := by
        simp [tNum, tBytes, smGetBytes, leNat, BitVec.ofNat_toNat]
      rw [← hval]
      exact loaded_setTile hn d _ _
  case storeLoad =>
    intro s t d a e k hn u hk hs _ hdr hinj he
    exact execStw_execLdw hn d a k hk hs hdr hinj he
end

section
/-!
PROOFS. The end of a turn (R46 to R50): what every byte of the scratchpad holds after it, and the hazards of the exclusive map.
-/
namespace Sys2Proof.Machine

/-! ### Writes in slot order (R47) -/

/-- A write covers a byte address. -/
def Staged.covers (w : Staged) (x : Nat) : Prop := w.addr ≤ x ∧ x < w.addr + w.data.length

theorem smGet_applied_out {ws : List Staged} {x : Nat} (h : ∀ w ∈ ws, ¬ w.covers x) (m : SMap Byte) :
    smGet 0 x (applied ws m) = smGet 0 x m := by
  induction ws generalizing m with
  | nil => rfl
  | cons w ws ih =>
    have hout : x < w.addr ∨ w.addr + w.data.length ≤ x := by
      have hw := h w List.mem_cons_self
      unfold Staged.covers at hw
      omega
    exact (ih (fun v hv => h v (List.mem_cons_of_mem w hv)) _).trans (smGet_smSetBytes_out _ _ _ hout)

/-- The last write that covers a byte gives it its value. -/
theorem smGet_applied_last {before after : List Staged} {w : Staged} {x : Nat} (hw : w.covers x) (h : ∀ v ∈ after, ¬ v.covers x) (m : SMap Byte) :
    smGet 0 x (applied (before ++ w :: after) m) = w.data.getD (x - w.addr) 0 := by
  unfold applied
  rw [List.foldl_append, List.foldl_cons]
  exact (smGet_applied_out h _).trans (smGet_smSetBytes_in _ _ _ hw.1 hw.2)

section
variable {α : Type} (key : α → Nat)

theorem insertBy_eq_orderedInsert (x : α) (l : List α) : insertBy key x l = l.orderedInsert (fun a b => key a ≤ key b) x := by
  induction l with
  | nil => rfl
  | cons y l ih =>
    rw [insertBy, List.orderedInsert_cons, ih]

theorem sortBy_eq_insertionSort (l : List α) : sortBy key l = l.insertionSort (fun a b => key a ≤ key b) := by
  induction l with
  | nil => rfl
  | cons x l ih =>
    rw [sortBy, ih, insertBy_eq_orderedInsert, List.insertionSort_cons]

theorem sortBy_perm (l : List α) : (sortBy key l).Perm l := by
  rw [sortBy_eq_insertionSort]
  exact List.perm_insertionSort _ l

theorem sortBy_pairwise (l : List α) : (sortBy key l).Pairwise fun a b => key a ≤ key b := by
  have htotal : Std.Total fun a b : α => key a ≤ key b := ⟨fun a b => Nat.le_total (key a) (key b)⟩
  have htrans : IsTrans α fun a b => key a ≤ key b := ⟨fun a b c => Nat.le_trans⟩
  rw [sortBy_eq_insertionSort]
  exact List.pairwise_insertionSort _ l

end

/-- With the writes in different slots, a byte takes what the write in the latest slot that covers it gives it. -/
theorem smGet_applied_sortBy {ws : List Staged} (hnd : (ws.map Staged.slot).Nodup) {w : Staged} (hw : w ∈ ws) {x : Nat} (hc : w.covers x)
    (hlast : ∀ v ∈ ws, v.covers x → v.slot ≤ w.slot) (m : SMap Byte) :
    smGet 0 x (applied (sortBy Staged.slot ws) m) = w.data.getD (x - w.addr) 0 := by
  have hperm := sortBy_perm Staged.slot ws
  obtain ⟨before, after, hsplit⟩ := List.append_of_mem (hperm.mem_iff.mpr hw)
  have hsorted := sortBy_pairwise Staged.slot ws
  have hnd' : ((sortBy Staged.slot ws).map Staged.slot).Nodup := (hperm.map Staged.slot).nodup_iff.mpr hnd
  rw [hsplit, List.pairwise_append, List.pairwise_cons] at hsorted
  rw [hsplit, List.map_append, List.map_cons, List.nodup_append, List.nodup_cons] at hnd'
  rw [hsplit]
  refine smGet_applied_last hc (fun v hv hcv => ?_) m
  have hvw : v ∈ ws := hperm.mem_iff.mp (by rw [hsplit]; exact List.mem_append_right _ (List.mem_cons_of_mem w hv))
  have heq : v.slot = w.slot := Nat.le_antisymm (hlast v hvw hcv) (hsorted.2.1.1 v hv)
  exact hnd'.2.1.1 (heq ▸ List.mem_map_of_mem hv)

/-! ### TURN_END -/

section
variable {t : TileAddr} (h : tileOk t.toNat = true) (s : State)

include h in
theorem exec_turnEnd : exec (.turnEnd t) s = .next (s.turnEnd t.toNat) := onTile_next h s fun _ => s.turnEnd t.toNat

theorem tile_turnEnd (a b : Nat) : (s.turnEnd a).tile b = if b = a then tTurnEnd (s.ctx a) (s.tile a) else s.tile b := by
  unfold State.turnEnd
  dsimp only
  split
  · exact State.setTile_tile ..
  · exact (tile_hazRecord ..).trans (State.setTile_tile ..)

/-- The record of its hazards is all that a turn leaves outside its tile (R48). -/
theorem turnEnd_frame (a : Nat) :
    s.turnEnd a = { s with tiles := (s.turnEnd a).tiles, bank := (s.turnEnd a).bank, flt := (s.turnEnd a).flt } := by
  unfold State.turnEnd
  dsimp only
  split
  · rfl
  · unfold State.hazRecord
    rw [State.raise_frame]
    rfl

theorem onlyTile_turnEnd {a : Nat} (h : hazardsOf (s.tile a) = []) : onlyTile s (s.turnEnd a) a := by
  unfold State.turnEnd
  rw [if_pos h]
  exact onlyTile_setTile ..

end

end Sys2Proof.Machine

open Sys2Proof Sys2Proof.Machine

/-- Settles O9: what the end of a turn makes of the tile is `tTurnEnd_eq`, and the bytes are those of the writes applied in slot order. -/
theorem turnEndWrites : Obligations.TurnEndWrites := by
  unfold Obligations.TurnEndWrites
  intro s t hok u covers
  obtain ⟨sg, acc, arr, dr, b, o, at', ib, he, hstay, -, hmade⟩ := tTurnEnd_eq (s.ctx t.toNat) u
  have htile : (s.turnEnd t.toNat).tile t.toNat = tTurnEnd (s.ctx t.toNat) u := (tile_turnEnd s _ _).trans (if_pos rfl)
  refine ⟨_, exec_turnEnd hok s, ?_⟩
  dsimp only
  rw [htile, he]
  refine ⟨rfl, hstay, hmade, rfl, fun b hb => (tile_turnEnd s _ b).trans (if_neg hb), turnEnd_frame s _, fun hh => ?quiet, fun hnd x => ⟨?out, ?last⟩⟩
  case quiet =>
    have hpoison : (hazarded (s.ctx t.toNat).pick u).poison = u.poison := by rw [hazarded_of_none hh]
    exact ⟨onlyTile_turnEnd s hh, hpoison⟩
  case out =>
    intro hx
    exact smGet_applied_out (fun w hw => hx w ((sortBy_perm Staged.slot u.staged).mem_iff.mp hw)) _
  case last =>
    intro w hw hc hlast
    exact smGet_applied_sortBy hnd hw hc hlast _
end

section
/-!
PROOFS. What arrives at a tile (R36, R44, R49, R56), and the hazard of an exclusive line (R48).
-/
namespace Sys2Proof.Machine

/-! ### Fault records beside a change of one tile -/

/-- Nothing but fault records and the registers that count them differs. -/
def recordsOnly (s r : State) : Prop := r = { s with bank := r.bank, flt := r.flt }

theorem recordsOnly_refl (s : State) : recordsOnly s s := rfl

theorem recordsOnly_trans {s r q : State} (h : recordsOnly s r) (h' : recordsOnly r q) : recordsOnly s q := by
  unfold recordsOnly at h h' ⊢
  rw [h', h]

theorem recordsOnly_raise (s : State) (c b k u d : Nat) (j : Bool) : recordsOnly s (s.raise c b k u d j) := State.raise_frame ..

theorem recordsOnly_hazRecord (s : State) (a : Nat) : recordsOnly s (s.hazRecord a) := recordsOnly_raise ..

theorem recordsOnly_foldl_raise (c b k u : Nat) (ds : List Nat) (s : State) : recordsOnly s (ds.foldl (fun q d => q.raise c b k u d) s) := by
  induction ds generalizing s with
  | nil => exact recordsOnly_refl s
  | cons d ds ih => exact recordsOnly_trans (recordsOnly_raise s c b k u d false) (ih _)

theorem tile_of_recordsOnly {s r : State} (h : recordsOnly s r) (b : Nat) : r.tile b = s.tile b := by
  unfold recordsOnly at h
  rw [h]
  rfl

/-- One tile put, with its fault records. -/
theorem outside_of_recordsOnly {s r : State} {a : Nat} {v : Tile} (h : recordsOnly (s.setTile a v) r) :
    r.tile a = v ∧ r = { s with tiles := r.tiles, bank := r.bank, flt := r.flt } ∧ ∀ b, b ≠ a → r.tile b = s.tile b := by
  refine ⟨(tile_of_recordsOnly h a).trans (s.tile_setTile_same a v), ?_, fun b hb => (tile_of_recordsOnly h b).trans (s.tile_setTile_other hb v)⟩
  unfold recordsOnly at h
  rw [h]
  rfl

/-! ### Poisoned lanes and selection words (R36) -/

theorem tPoisonLane_eq (l : Nat) (t : Tile) :
    ∃ lp, tPoisonLane l t = { t with lanePoison := lp } ∧ l ∈ lp := by
  refine ⟨_, rfl, ?_⟩
  split
  · assumption
  · exact List.mem_cons_self

theorem foldl_tPoisonLane (ls : List Nat) (t : Tile) :
    ∃ lp, ls.foldl (fun u l => tPoisonLane l u) t = { t with lanePoison := lp } := by
  induction ls generalizing t with
  | nil => exact ⟨_, rfl⟩
  | cons l ls ih => exact ih (tPoisonLane l t)

theorem tSelFault_eq (ls : List Nat) (t : Tile) : ∃ lp rs, tSelFault ls t = { t with lanePoison := lp, regs := rs } := by
  obtain ⟨lp, h⟩ := foldl_tPoisonLane ls t
  unfold tSelFault
  rw [h]
  split <;> exact ⟨_, _, rfl⟩

/-- A selection shuttle leaves its words, and marks lanes and the pass. -/
theorem tSelect_eq (sh : Shuttle) (t : Tile) :
    ∃ lp rs p, tSelect sh t = { t with sel := selWords sh.payload, selHere := true, lanePoison := lp, regs := rs, poison := p } ∧
      (hPoison sh.hdr = true → p = true) := by
  unfold tSelect
  dsimp only
  generalize ((selLanes _).filter _) = marked
  obtain ⟨lp, hlanes⟩ := foldl_tPoisonLane marked { t with sel := selWords sh.payload, selHere := true }
  rw [hlanes]
  generalize faultyLanes _ = faulty
  obtain ⟨lp', rs, hfault⟩ := tSelFault_eq faulty { t with sel := selWords sh.payload, selHere := true, lanePoison := lp }
  rw [hfault]
  split
  · exact ⟨lp', rs, true, rfl, fun _ => rfl⟩
  · next h => exact ⟨lp', rs, t.poison, rfl, fun hp => absurd hp h⟩

/-! ### The commands -/

section
variable {t : TileAddr} (h : tileOk t.toNat = true) (s : State)
include h

theorem exec_selectionWordArrival : exec (.selectionWordArrival t) s = .next (s.selArrive t.toNat) := onTile_next h s fun _ => s.selArrive t.toNat
theorem exec_weftInWrite : exec (.weftInWrite t) s = .next (s.weftIn t.toNat) := onTile_next h s fun _ => s.weftIn t.toNat
theorem exec_spoolInWrite : exec (.spoolInWrite t) s = .next (s.spoolIn t.toNat) := onTile_next h s fun _ => s.spoolIn t.toNat

end

section
variable {s : State} {a : Nat}

theorem selArrive_empty (h : (s.tile a).inbox = []) : s.selArrive a = s := by
  unfold State.selArrive
  dsimp only
  rw [h]

theorem weftIn_empty (h : (s.tile a).inbox = []) : s.weftIn a = s := by
  unfold State.weftIn
  dsimp only
  rw [h]

theorem spoolIn_empty (h : (s.tile a).spIn = []) : s.spoolIn a = s := by
  unfold State.spoolIn
  dsimp only
  rw [h]

variable {sh : Shuttle} {rest : List Shuttle} (h : (s.tile a).inbox = sh :: rest)

include h in
theorem selArrive_records : recordsOnly (s.setTile a (tSelect sh { s.tile a with inbox := rest })) (s.selArrive a) := by
  unfold State.selArrive
  dsimp only
  rw [h]
  exact recordsOnly_foldl_raise ..

/-- A tile that has taken the oldest shuttle from its router, and poisoned its lane where the shuttle is poisoned (R36). -/
def weftTaken (sh : Shuttle) (rest : List Shuttle) (u : Tile) : Tile :=
  if hPoison sh.hdr then tPoisonLane (hLane sh.hdr) { u with inbox := rest } else { u with inbox := rest }

theorem weftTaken_eq (sh : Shuttle) (rest : List Shuttle) (u : Tile) :
    ∃ lp, weftTaken sh rest u = { u with inbox := rest, lanePoison := lp } ∧ (hPoison sh.hdr = true → hLane sh.hdr ∈ lp) := by
  unfold weftTaken
  split
  · obtain ⟨lp, he, hm⟩ := tPoisonLane_eq (hLane sh.hdr) { u with inbox := rest }
    exact ⟨lp, he, fun _ => hm⟩
  · next hp => exact ⟨_, rfl, fun hp' => absurd hp' hp⟩

/-- The shuttle's lines lie in the weft window (R49). -/
abbrev inWeftWin (sh : Shuttle) (u : Tile) : Bool :=
  inWin (tCfg F.TIL_WIN_WEFT_BASE u) (tCfg F.TIL_WIN_WEFT_LIMIT u) (linesOf (64 * hLine sh.hdr) sh.payload.length)

/-- The response's lines lie in the spool window (R49). -/
abbrev inSpoolWin (p : SpoolRsp) (u : Tile) : Bool :=
  inWin (tCfg F.TIL_WIN_SPOOL_BASE u) (tCfg F.TIL_WIN_SPOOL_LIMIT u) (linesOf (64 * p.line) p.data.length)

include h in
theorem weftIn_inside (hw : inWeftWin sh (s.tile a) = true) :
    s.weftIn a = s.setTile a (tStage 0 (64 * hLine sh.hdr) sh.payload (weftTaken sh rest (s.tile a))) := by
  unfold State.weftIn
  dsimp only
  rw [h]
  exact if_pos hw

include h in
theorem weftIn_outside (hw : ¬ inWeftWin sh (s.tile a) = true) :
    s.weftIn a = (s.setTile a (tWinFault (weftTaken sh rest (s.tile a)))).hazRecord a := by
  unfold State.weftIn
  dsimp only
  rw [h]
  exact if_neg hw

variable {p : SpoolRsp} {ps : List SpoolRsp} (hp : (s.tile a).spIn = p :: ps)
include hp

theorem spoolIn_fault (hf : p.fault = true) :
    s.spoolIn a = (s.setTile a (tPoison (tSet F.TIL_HAZ_SPOOL 1 { s.tile a with spIn := ps }))).hazRecord a := by
  unfold State.spoolIn
  dsimp only
  rw [hp]
  exact if_pos hf

theorem spoolIn_write (hf : ¬ p.fault = true) (hwr : p.write = true) : s.spoolIn a = s.setTile a { s.tile a with spIn := ps } := by
  unfold State.spoolIn
  dsimp only
  rw [hp]
  exact (if_neg hf).trans (if_pos hwr)

theorem spoolIn_inside (hf : ¬ p.fault = true) (hwr : ¬ p.write = true) (hw : inSpoolWin p (s.tile a) = true) :
    s.spoolIn a = s.setTile a (tStage 1 (64 * p.line) p.data { s.tile a with spIn := ps }) := by
  unfold State.spoolIn
  dsimp only
  rw [hp]
  exact (if_neg hf).trans ((if_neg hwr).trans (if_pos hw))

theorem spoolIn_outside (hf : ¬ p.fault = true) (hwr : ¬ p.write = true) (hw : ¬ inSpoolWin p (s.tile a) = true) :
    s.spoolIn a = (s.setTile a (tWinFault { s.tile a with spIn := ps })).hazRecord a := by
  unfold State.spoolIn
  dsimp only
  rw [hp]
  exact (if_neg hf).trans ((if_neg hwr).trans (if_neg hw))

end

/-- A discarded write sets its hazard bit and poisons the pass; nothing else of the tile but the registers differs (R49). -/
theorem tWinFault_eq (u : Tile) :
    (∃ rs, tWinFault u = { u with regs := rs, poison := true }) ∧ tGet F.TIL_HAZ_WINDOW (tWinFault u) = 1 :=
  ⟨⟨_, rfl⟩, tGet_tSet_same F.TIL_HAZ_WINDOW 1 u (by decide)⟩

/-! ### The hazard of an exclusive line (R48) -/

theorem hazardsOf_pair {u : Tile} {w o line : Nat} {b : Bool} (ha : u.accesses = [⟨w, line, true⟩, ⟨o, line, b⟩]) (hwo : w ≠ o)
    (hx : tExcl line u = true) : hazardsOf u = [(line, w, o)] := by
  simp [hazardsOf, ha, dedupNat, hx, Ne.symm hwo]

/-- One hazard sets EXCL, is counted, and poisons the pass. -/
theorem tHazard_effect (pick : Nat) (h : Nat × Nat × Nat) (u : Tile) :
    tGet F.TIL_HAZ_EXCL (tHazard pick h u) = 1 ∧ (tHazard pick h u).poison = true ∧
      tGet F.TIL_HAZ_COUNT_COUNT (tHazard pick h u) = min (2 ^ F.TIL_HAZ_COUNT_COUNT.w - 1) (tGet F.TIL_HAZ_COUNT_COUNT u + 1) := by
  unfold tHazard
  dsimp only
  generalize hv : (if tGet F.TIL_HAZ_EXCL u = 1 then u else _) = v
  have hcount : tGet F.TIL_HAZ_COUNT_COUNT v = tGet F.TIL_HAZ_COUNT_COUNT u := by
    rw [← hv]
    split
    · rfl
    · rw [tGet_tSet_other, tGet_tSet_other, tGet_tSet_other, tGet_tSet_other] <;> decide
  refine ⟨?_, rfl, ?_⟩
  · exact (tGet_tAdd_other (g := F.TIL_HAZ_EXCL) 1 _ (by decide)).trans (tGet_tSet_same _ 1 v (by decide))
  · refine (tGet_tAdd_same F.TIL_HAZ_COUNT_COUNT 1 _ (by decide)).trans ?_
    rw [tGet_tSet_other (g := F.TIL_HAZ_COUNT_COUNT) _ _ (by decide), hcount]

end Sys2Proof.Machine

open Sys2Proof Sys2Proof.Machine

/-- Settles O8: every arrival is one update of the tile, with a fault record where it is discarded or faulty. -/
theorem tileInput : Obligations.TileInput := by
  unfold Obligations.TileInput
  refine ⟨?arrivals, ?hazard⟩
  case' arrivals =>
    intro s t hok u outside
    refine ⟨fun hin => ⟨?noSelection, ?noWeft⟩, fun hin => ?noSpool, fun sh rest hin => ⟨?selection, ?weft⟩, fun p rest hin => ?spool⟩
  case noSelection => exact (exec_selectionWordArrival hok s).trans (congrArg _ (selArrive_empty hin))
  case noWeft => exact (exec_weftInWrite hok s).trans (congrArg _ (weftIn_empty hin))
  case noSpool => exact (exec_spoolInWrite hok s).trans (congrArg _ (spoolIn_empty hin))
  case selection =>
    obtain ⟨htile, hframe, hothers⟩ := outside_of_recordsOnly (selArrive_records hin)
    obtain ⟨lp, rs, p, he, hp⟩ := tSelect_eq sh { u with inbox := rest }
    refine ⟨_, exec_selectionWordArrival hok s, ⟨hframe, hothers⟩, ?_⟩
    rw [htile, he]
    exact ⟨rfl, rfl, rfl, rfl, rfl, hp⟩
  case weft =>
    obtain ⟨lp, htaken, hlane⟩ := weftTaken_eq sh rest u
    refine ⟨_, exec_weftInWrite hok s, ?_⟩
    by_cases hw : inWeftWin sh u = true
    · obtain ⟨htile, hframe, hothers⟩ := outside_of_recordsOnly (recordsOnly_refl (s.setTile t.toNat
        (tStage 0 (64 * hLine sh.hdr) sh.payload (weftTaken sh rest u))))
      rw [weftIn_inside hin hw]
      refine ⟨⟨hframe, hothers⟩, ?_⟩
      rw [htile, if_pos hw, htaken]
      exact ⟨rfl, rfl, hlane, rfl, rfl, onlyTile_setTile ..⟩
    · obtain ⟨htile, hframe, hothers⟩ := outside_of_recordsOnly (recordsOnly_hazRecord (s.setTile t.toNat
        (tWinFault (weftTaken sh rest u))) t.toNat)
      obtain ⟨⟨rs, hrs⟩, hbit⟩ := tWinFault_eq (weftTaken sh rest u)
      rw [weftIn_outside hin hw]
      refine ⟨⟨hframe, hothers⟩, ?_⟩
      rw [htile, if_neg hw, hbit, hrs, htaken]
      exact ⟨rfl, rfl, hlane, rfl, rfl, rfl⟩
  case spool =>
    refine ⟨_, exec_spoolInWrite hok s, ?_⟩
    by_cases hf : p.fault = true
    · obtain ⟨htile, hframe, hothers⟩ := outside_of_recordsOnly (recordsOnly_hazRecord (s.setTile t.toNat
        (tPoison (tSet F.TIL_HAZ_SPOOL 1 { u with spIn := rest }))) t.toNat)
      rw [spoolIn_fault hin hf]
      refine ⟨⟨hframe, hothers⟩, ?_⟩
      rw [htile, if_pos hf]
      exact ⟨rfl, rfl, rfl, tGet_tSet_same F.TIL_HAZ_SPOOL 1 { u with spIn := rest } (by decide), rfl⟩
    · by_cases hwr : p.write = true
      · obtain ⟨htile, hframe, hothers⟩ := outside_of_recordsOnly (recordsOnly_refl (s.setTile t.toNat { u with spIn := rest }))
        rw [spoolIn_write hin hf hwr]
        refine ⟨⟨hframe, hothers⟩, ?_⟩
        rw [htile, if_neg hf, if_pos hwr]
        exact ⟨rfl, rfl, tileBecomes_setTile ..⟩
      · by_cases hw : inSpoolWin p u = true
        · obtain ⟨htile, hframe, hothers⟩ := outside_of_recordsOnly (recordsOnly_refl (s.setTile t.toNat
            (tStage 1 (64 * p.line) p.data { u with spIn := rest })))
          rw [spoolIn_inside hin hf hwr hw]
          refine ⟨⟨hframe, hothers⟩, ?_⟩
          rw [htile, if_neg hf, if_neg hwr, if_pos hw]
          exact ⟨rfl, rfl, rfl, rfl, onlyTile_setTile ..⟩
        · obtain ⟨htile, hframe, hothers⟩ := outside_of_recordsOnly (recordsOnly_hazRecord (s.setTile t.toNat
            (tWinFault { u with spIn := rest })) t.toNat)
          obtain ⟨⟨rs, hrs⟩, hbit⟩ := tWinFault_eq { u with spIn := rest }
          rw [spoolIn_outside hin hf hwr hw]
          refine ⟨⟨hframe, hothers⟩, ?_⟩
          rw [htile, if_neg hf, if_neg hwr, if_neg hw, hbit, hrs]
          exact ⟨rfl, rfl, rfl, rfl, rfl⟩
  case hazard =>
    intro s t w o line b hok u ha hwo hx hs
    obtain ⟨sg, acc, arr, dr, bd, ob, at', ib, he, -⟩ := tTurnEnd_eq (s.ctx t.toNat) u
    have htile : (s.turnEnd t.toNat).tile t.toNat = tTurnEnd (s.ctx t.toNat) u := (tile_turnEnd s _ _).trans (if_pos rfl)
    have hone : hazarded (s.ctx t.toNat).pick u = tHazard (s.ctx t.toNat).pick (line, w, o) u := by
      unfold hazarded
      rw [hazardsOf_pair ha hwo hx]
      rfl
    refine ⟨_, exec_turnEnd hok s, ?_⟩
    dsimp only
    rw [htile, he, hone]
    exact tHazard_effect _ _ u
end

section
/-!
PROOFS. Control instructions of the sequencer in native mode (R50, R54, R59, R353), and the bit errors that a load meets (R52).
-/
namespace Sys2Proof.Machine

/-! ### Waiting and the end of the program -/

theorem tWait_frame (c : Nat) (t : Tile) : tWait c t = { t with pc := (tWait c t).pc, regs := (tWait c t).regs } := by cases t; rfl

/-- Going on changes the sequencer's place alone. -/
theorem tNext_frame {cx : Ctx} (hst : cx.stepping = 0) {v : Tile} (hd : v.delay = none) :
    tNext cx v = { v with pc := (tNext cx v).pc, regs := (tNext cx v).regs } := by
  rw [tNext_native hst hd]
  generalize v.pc + 1 = pc
  cases v
  rfl

/-- With nothing of fixed-slot mode pending there is nothing to let take effect. -/
theorem tFlush_empty (cx : Ctx) {t : Tile} (hr : t.pendRes = []) (ha : t.pendAcc = []) (hw : t.pendWrite = []) (hs : t.pendSet = []) :
    tFlush cx t = t := by
  simp [tFlush, hr, ha, hw, hs, tFlushN]

/-- A tile whose program has executed DONE (R51). -/
def tEnded (u : Tile) : Tile := tWait 1 { u with active := false, doneExec := true }

theorem tEnded_eq (u : Tile) : tEnded u = { u with active := false, doneExec := true, regs := (tEnded u).regs } := rfl

theorem tEnded_regs (u : Tile) : tGet F.TIL_SEQ_WAIT (tEnded u) = 1 ∧ tileSameRegs u (tEnded u) [R.TIL_SEQ] :=
  ⟨tGet_tWait (by decide) _, tileSameRegs_tSet F.TIL_SEQ_WAIT 1 { u with active := false, doneExec := true } List.mem_cons_self⟩

/-- A tile whose program has ended with a halt request (R59). -/
def tHalted (u : Tile) : Tile := { tEnded u with st := 4, haltReq := false }

theorem tHalted_eq (u : Tile) : tHalted u = { u with active := false, doneExec := true, st := 4, haltReq := false, regs := (tHalted u).regs } := by
  cases u; rfl

theorem tHalted_regs (u : Tile) : tGet F.TIL_SEQ_WAIT (tHalted u) = 1 ∧ tileSameRegs u (tHalted u) [R.TIL_SEQ] := by
  have h : (tHalted u).regs = (tEnded u).regs := by cases u; rfl
  obtain ⟨hwait, hregs⟩ := tEnded_regs u
  exact ⟨(tGet_of_regs h _).trans hwait, tileSameRegs_trans hregs (tileSameRegs_of_regs h _)⟩

/-- The restart of a program: it stands at the entry point of the mode (R54, R114). -/
theorem tRestart_effect (stepping mode : Nat) (u : Tile) :
    let v := tRestart stepping mode u
    v.pc = BitVec.ofNat 16 (smGet 0 mode u.entry) ∧ v.active = true ∧ v.doneExec = false ∧ v.strobeHeld = false ∧ v.scratch = u.scratch ∧
      tGet F.TIL_SEQ_WAIT v = 0 ∧ tileSameRegs u v [R.TIL_SEQ] := by
  dsimp only
  unfold tRestart
  generalize hw : ({ u with
    pc := BitVec.ofNat 16 (smGet 0 mode u.entry), active := true, doneExec := false, reported := false, strobeHeld := false,
    poison := u.poisonNext, poisonNext := false, lanePoison := [], clampRose := false, satRose := false, sel := [], selHere := false, p := 0, delay := none } : Tile) = w
  obtain ⟨acc, at', ib, he⟩ := tRefill_eq stepping (tWait 0 w)
  have hwait : tGet F.TIL_SEQ_WAIT (tWait 0 w) = 0 := tGet_tWait (by decide) w
  have hregs : tileSameRegs u (tWait 0 w) [R.TIL_SEQ] :=
    tileSameRegs_trans (tileSameRegs_of_regs (by rw [← hw]) _) (tileSameRegs_tWait 0 w)
  rw [he]
  refine ⟨?_, ?_, ?_, ?_, ?_, hwait, hregs⟩ <;> rw [← hw] <;> rfl

/-! ### Bit errors (R52) -/

@[simp] theorem scratch_tSet (f : Fld) (n : Nat) (t : Tile) : (tSet f n t).scratch = t.scratch := by cases t; rfl
@[simp] theorem st_tSet (f : Fld) (n : Nat) (t : Tile) : (tSet f n t).st = t.st := by cases t; rfl
@[simp] theorem scratch_tAdd (f : Fld) (n : Nat) (t : Tile) : (tAdd f n t).scratch = t.scratch := by cases t; rfl
@[simp] theorem st_tAdd (f : Fld) (n : Nat) (t : Tile) : (tAdd f n t).st = t.st := by cases t; rfl

/-- What a double-bit error makes of a tile beside its registers: the pass is poisoned, and `b` says whether it goes into RELOAD (R59). -/
def tUncorrected (b : Bool) (v : Tile) : Tile :=
  if b then { tPoison v with st := 6, active := false, reloaded := false } else tPoison v

theorem tUncorrected_effect (b : Bool) (v : Tile) :
    (tUncorrected b v).regs = v.regs ∧ (tUncorrected b v).poison = true ∧ (tUncorrected b v).scratch = v.scratch ∧
      (tUncorrected b v).st = if b then 6 else v.st := by
  cases v
  cases b <;> exact ⟨rfl, rfl, rfl, rfl⟩

/-- A corrected error is counted, and nothing but registers differs. -/
theorem tSram_corrected (line : Nat) (t : Tile) :
    tGet F.TIL_SP_ERR_CE_COUNT (tSram 1 line t) = min (2 ^ 16 - 1) (tGet F.TIL_SP_ERR_CE_COUNT t + 1) ∧
      ∃ rs, tSram 1 line t = { t with regs := rs } := by
  have hadd := tGet_tAdd_same F.TIL_SP_ERR_CE_COUNT 1 t (by decide)
  unfold tSram
  rw [if_pos (.inl rfl)]
  dsimp only
  split
  · exact ⟨hadd, _, rfl⟩
  · refine ⟨?_, _, rfl⟩
    rw [tGet_tSet_other, tGet_tSet_other, hadd] <;> decide

/-- The registers after a double-bit error. -/
def tLoggedUe (line : Nat) (t : Tile) : Tile :=
  tSet F.TIL_SP_LOG_UE 1 (tSet F.TIL_SP_LOG_LINE line (tAdd F.TIL_SP_ERR_UE_COUNT 1 (tSet F.TIL_SP_ERR_UE 1 t)))

theorem tSram_double_eq (line : Nat) (t : Tile) :
    tSram 2 line t = tUncorrected (decide (line < staticLines ∧ t.st = 3)) (tLoggedUe line t) := by
  unfold tSram tUncorrected
  rw [if_neg (by decide), if_pos rfl]
  simp only [decide_eq_true_eq]
  rfl

/-- A double-bit error sets UE, is counted, poisons the pass, and takes a tile in RUN whose static area it lies in into RELOAD (R59). -/
theorem tSram_double (line : Nat) (t : Tile) :
    let v := tSram 2 line t
    tGet F.TIL_SP_ERR_UE v = 1 ∧
      tGet F.TIL_SP_ERR_UE_COUNT v = min (2 ^ F.TIL_SP_ERR_UE_COUNT.w - 1) (tGet F.TIL_SP_ERR_UE_COUNT t + 1) ∧
      v.poison = true ∧ v.scratch = t.scratch ∧ v.st = if line < staticLines ∧ t.st = 3 then 6 else t.st := by
  have hue : tGet F.TIL_SP_ERR_UE (tLoggedUe line t) = 1 := by
    unfold tLoggedUe
    rw [tGet_tSet_other, tGet_tSet_other, tGet_tAdd_other, tGet_tSet_same] <;> decide
  have hcount : tGet F.TIL_SP_ERR_UE_COUNT (tLoggedUe line t) =
      min (2 ^ F.TIL_SP_ERR_UE_COUNT.w - 1) (tGet F.TIL_SP_ERR_UE_COUNT t + 1) := by
    unfold tLoggedUe
    rw [tGet_tSet_other, tGet_tSet_other, tGet_tAdd_same, tGet_tSet_other] <;> decide
  obtain ⟨hregs, hpoison, hscratch, hst⟩ := tUncorrected_effect (decide (line < staticLines ∧ t.st = 3)) (tLoggedUe line t)
  dsimp only
  rw [tSram_double_eq, tGet_of_regs hregs, tGet_of_regs hregs, hscratch, hst]
  refine ⟨hue, hcount, hpoison, ?_, ?_⟩ <;> simp [tLoggedUe]

section
variable {s : State} {t : TileAddr} {a : BitVec 5} {k : BitVec 14} (hn : native s t) (hk : kAddr (s.tile t.toNat) a k < spadBytes)
  (hinj : s.injHas 2 t.toNat = false)
include hn hk hinj

/-- A load of a word in error: the word is met, loaded, and the error recorded. -/
theorem seqLoad_met (byte : Bool) (d : BitVec 5) {e : Nat} (he : e ≠ 0) :
    let u := s.tile t.toNat
    let l := coursesOf s.free [(kAddr u a k, e)]
    ∃ r, seqLoad byte t d a k e s = .next r ∧ r.tile t.toNat =
      tSrams l (tNext { s.ctx t.toNat with free := s.free + 1 } (tLoad { s.ctx t.toNat with free := s.free + 1 } byte d.toNat (kAddr u a k) (tMeet l u))) := by
  obtain ⟨hok, hiss, hst, hd⟩ := hn
  dsimp only
  obtain ⟨r, hr, htile⟩ := seqMeet_next (on := issuing) (e := [(kAddr (s.tile t.toNat) a k, e)]) (fun v => kAddr v a k)
    (ok := fun _ v => decide (kAddr v a k < spadBytes)) noHaz (fun cx v => tNext cx (tLoad cx byte d.toNat (kAddr v a k) v)) 0 hok hiss hinj
    (by simp [hk]) (by rw [kAddr_tMeet]; exact decide_eq_true hk)
  rw [kAddr_tMeet] at htile
  refine ⟨r, ?_, htile⟩
  unfold seqLoad
  dsimp only
  rw [if_neg he]
  exact hr

end

theorem coursesOf_one (free adr : Nat) {e : Nat} (he : e ≤ 2) : coursesOf free [(adr, e)] = [(adr, e, free)] := by
  simp [coursesOf, rangeFrom, sramCourse, he]

/-- What a load of a visible line leaves of a tile beside its accesses and the sequencer's place. -/
theorem tLoad_effect {cx : Ctx} (hst : cx.stepping = 0) (byte : Bool) (r a : Nat) {w : Tile} (hd : w.delay = none)
    (hb : tBusyLine [a / 64] w = false) :
    let x := tNext cx (tLoad cx byte r a w)
    (r ≠ 0 → tReg r x = BitVec.ofNat 32 (tNum (accessAt byte a) (if byte then 1 else 4) w)) ∧ x.st = w.st ∧ x.poison = w.poison ∧
      x.scratch = w.scratch ∧ tileSameRegs w x [R.TIL_SEQ] := by
  have hsettle : tSettle cx [a / 64] w = w := tSettle_free hb cx
  refine ⟨fun hr => ?_, ?_⟩
  · rw [tReg_tLoad hst byte hr a (by rw [hsettle]; exact hd), hsettle]
  · rw [tLoad_native hst, hsettle]
    generalize BitVec.ofNat 32 _ = v
    have hw := tPutReg_eq r v (tNote 6 [a / 64] false w)
    generalize (tPutReg r v (tNote 6 [a / 64] false w)).g = g at hw
    have hdelay : (tPutReg r v (tNote 6 [a / 64] false w)).delay = none := by rw [hw]; exact hd
    rw [tNext_native hst hdelay, hw]
    generalize BitVec.add _ _ = pc
    exact ⟨rfl, rfl, rfl, tileSameRegs_tWait 0 _⟩

/-- Registers are not the register file. -/
theorem tReg_regs (i : Nat) (t : Tile) (rs : SMap Word) : tReg i { t with regs := rs } = tReg i t := by cases t; rfl

section
variable {s : State} {t : TileAddr} {a : BitVec 5} {k : BitVec 14} (hn : native s t) (hk : kAddr (s.tile t.toNat) a k < spadBytes)
  (hinj : s.injHas 2 t.toNat = false) (hb : tBusyLine [kAddr (s.tile t.toNat) a k / 64] (s.tile t.toNat) = false)
include hn hk hinj hb

/-- A load that meets one bad bit delivers the word and counts the error. -/
theorem seqLoad_corrected (d : BitVec 5) :
    let u := s.tile t.toNat
    let adr := kAddr u a k
    ∃ r, seqLoad false t d a k 1 s = .next r ∧
      (d ≠ 0 → tReg d.toNat (r.tile t.toNat) = BitVec.ofNat 32 (leNat (smGetBytes (adr / 4 * 4) 4 u.scratch))) ∧
      tGet F.TIL_SP_ERR_CE_COUNT (r.tile t.toNat) = min 65535 (tGet F.TIL_SP_ERR_CE_COUNT u + 1) ∧
      (r.tile t.toNat).st = u.st ∧ (r.tile t.toNat).poison = u.poison ∧ (r.tile t.toNat).scratch = u.scratch := by
  obtain ⟨r, hr, htile⟩ := seqLoad_met hn hk hinj false d (e := 1) (by decide)
  obtain ⟨-, -, hst, hd⟩ := hn
  rw [coursesOf_one _ _ (by decide)] at htile
  obtain ⟨hreg, hxst, hpoison, hscratch, hregs⟩ := tLoad_effect (cx := { s.ctx t.toNat with free := s.free + 1 }) hst false d.toNat
    (kAddr (s.tile t.toNat) a k) hd hb
  obtain ⟨hcount, rs, hframe⟩ := tSram_corrected (kAddr (s.tile t.toNat) a k / 64) (tNext { s.ctx t.toNat with free := s.free + 1 }
    (tLoad { s.ctx t.toNat with free := s.free + 1 } false d.toNat (kAddr (s.tile t.toNat) a k) (s.tile t.toNat)))
  rw [tGet_of_sameRegs hregs (by decide)] at hcount
  have hv : r.tile t.toNat = tSram 1 (kAddr (s.tile t.toNat) a k / 64) (tNext { s.ctx t.toNat with free := s.free + 1 }
    (tLoad { s.ctx t.toNat with free := s.free + 1 } false d.toNat (kAddr (s.tile t.toNat) a k) (s.tile t.toNat))) := htile
  refine ⟨r, hr, fun h0 => ?_, ?_, ?_⟩
  · rw [hv, hframe, tReg_regs]
    exact hreg fun h => h0 (BitVec.eq_of_toNat_eq h)
  · rw [hv]
    exact hcount
  · rw [hv, hframe]
    exact ⟨hxst, hpoison, hscratch⟩

/-- A load that meets two bad bits records the error and poisons the pass; the word it read is lost (R52, R59). -/
theorem seqLoad_double (d : BitVec 5) :
    let u := s.tile t.toNat
    let adr := kAddr u a k
    ∃ r, seqLoad false t d a k 2 s = .next r ∧ tGet F.TIL_SP_ERR_UE (r.tile t.toNat) = 1 ∧
      tGet F.TIL_SP_ERR_UE_COUNT (r.tile t.toNat) = min (2 ^ F.TIL_SP_ERR_UE_COUNT.w - 1) (tGet F.TIL_SP_ERR_UE_COUNT u + 1) ∧
      (r.tile t.toNat).poison = true ∧
      (∀ x, x / 8 ≠ adr / 8 → smGet 0 x (r.tile t.toNat).scratch = smGet 0 x u.scratch) ∧
      (r.tile t.toNat).st = if adr / 64 < 1536 then 6 else 3 := by
  obtain ⟨r, hr, htile⟩ := seqLoad_met hn hk hinj false d (e := 2) (by decide)
  obtain ⟨-, hiss, hst, hd⟩ := hn
  rw [coursesOf_one _ _ (by decide)] at htile
  generalize hwrong : tWrong (kAddr (s.tile t.toNat) a k) s.free (s.tile t.toNat) = w
  have hw : w = { s.tile t.toNat with scratch := w.scratch } := by rw [← hwrong]; rfl
  obtain ⟨-, hxst, -, hscratch, hregs⟩ := tLoad_effect (cx := { s.ctx t.toNat with free := s.free + 1 }) hst false d.toNat
    (kAddr (s.tile t.toNat) a k) (w := w) (by rw [hw]; exact hd) (by rw [hw]; exact hb)
  obtain ⟨hue, hcount, hpoison, hsame, hfinal⟩ := tSram_double (kAddr (s.tile t.toNat) a k / 64) (tNext { s.ctx t.toNat with free := s.free + 1 }
    (tLoad { s.ctx t.toNat with free := s.free + 1 } false d.toNat (kAddr (s.tile t.toNat) a k) w))
  have hv : r.tile t.toNat = tSram 2 (kAddr (s.tile t.toNat) a k / 64) (tNext { s.ctx t.toNat with free := s.free + 1 }
    (tLoad { s.ctx t.toNat with free := s.free + 1 } false d.toNat (kAddr (s.tile t.toNat) a k) w)) := by rw [← hwrong]; exact htile
  have hrun : (s.tile t.toNat).st = 3 := by
    unfold issuing at hiss
    exact of_decide_eq_true (Bool.and_eq_true_iff.mp hiss).1
  have hwst : w.st = 3 := by rw [hw]; exact hrun
  have hwregs : w.regs = (s.tile t.toNat).regs := by rw [← hwrong]; rfl
  rw [tGet_of_sameRegs hregs (by decide), tGet_of_regs hwregs] at hcount
  refine ⟨r, hr, ?_⟩
  rw [hv]
  refine ⟨hue, hcount, hpoison, fun x hx => ?_, ?_⟩
  · rw [hsame, hscratch, ← hwrong]
    refine smGet_smSetBytes_out _ _ _ ?_
    have hlen : ((rangeFrom 0 8).map fun i => Config.freeByte s.free i).length = 8 := rfl
    rw [hlen]
    omega
  · rw [hfinal, hxst, hwst]
    simp [staticLines]

end

/-! ### Commands that use no scratchpad address -/

theorem seqPlain_next {t : TileAddr} {s : State} (f : Ctx → Tile → Tile) (hn : native s t) :
    seqPlain t s f = .next (s.setTile t.toNat (f (s.ctx t.toNat) (s.tile t.toNat))) :=
  have ⟨hok, hiss, _⟩ := hn
  seqRun_next f hok hiss rfl

/-- An instruction that goes on from a tile of which neither program counter nor registers have changed. -/
theorem goesOn_setTile {s : State} {t : TileAddr} (hst : s.pat.stepping = 0) {v : Tile} (hd : v.delay = none)
    (hpc : v.pc = (s.tile t.toNat).pc) (hr : v.regs = (s.tile t.toNat).regs) :
    let r := s.setTile t.toNat (tNext (s.ctx t.toNat) v)
    seqNext s r t ∧ r.tile t.toNat = { v with pc := (r.tile t.toNat).pc, regs := (r.tile t.toNat).regs } := by
  refine ⟨seqNext_tNext hst hd hpc hr, ?_⟩
  rw [State.tile_setTile_same]
  exact tNext_frame (cx := s.ctx t.toNat) hst hd

section
variable {s : State} {t : TileAddr} (hn : native s t)
include hn

theorem exec_wait (a : BitVec 5) (c : BitVec 4) :
    let u := s.tile t.toNat
    exec (.wait t a c) s = .next (s.setTile t.toNat
      (if (tReg a.toNat u).toNat ≤ smGet 0 c.toNat u.arr then tNext (s.ctx t.toNat) u else tWait 2 u)) := by
  unfold exec execWait
  exact seqPlain_next _ hn

theorem exec_clrc (c : BitVec 4) :
    let u := s.tile t.toNat
    exec (.clrc t c) s = .next (s.setTile t.toNat (tNext (s.ctx t.toNat) { u with arr := smSet 0 c.toNat 0 u.arr })) := by
  unfold exec execClrc
  exact seqPlain_next _ hn

theorem exec_reservedOpcode (op : BitVec 8) :
    exec (.reservedOpcode t op) s = .next (s.setTile t.toNat (tNext (s.ctx t.toNat) (s.tile t.toNat))) := by
  unfold exec execReservedOpcode
  exact seqPlain_next _ hn

/-- DONE with nothing of fixed-slot mode pending: HALTED, restarted, or at its end (R54, R59). -/
theorem exec_done (hr : (s.tile t.toNat).pendRes = []) (ha : (s.tile t.toNat).pendAcc = []) (hw : (s.tile t.toNat).pendWrite = [])
    (hs : (s.tile t.toNat).pendSet = []) :
    let u := s.tile t.toNat
    exec (.done t) s = .next (s.setTile t.toNat
      (if u.haltReq then tHalted u
        else if u.strobeHeld then tRestart s.pat.stepping (s.get F.PCK_STATUS_MODE) (tEnded u) else tEnded u)) := by
  unfold exec execDone
  refine (seqPlain_next _ hn).trans ?_
  rw [tFlush_empty _ hr ha hw hs]
  rfl

end

end Sys2Proof.Machine

open Sys2Proof Sys2Proof.Machine

/-- Settles O4: the control instructions are one update of the tile each, and the loads in error are `seqLoad_corrected` and
`seqLoad_double`. -/
theorem sequencerControl : Obligations.SequencerControl := by
  unfold Obligations.SequencerControl
  refine ⟨?control, ?errors⟩
  case errors =>
    intro s t d a k hn u adr hk hb hinj
    exact ⟨seqLoad_corrected hn hk hinj hb d, seqLoad_double hn hk hinj hb d⟩
  case' control =>
    intro s t hn u
    have ⟨_, _, hst, hd⟩ := hn
    refine ⟨fun a c => ⟨_, exec_wait hn a c, ?wait⟩, fun c => ⟨_, exec_clrc hn c, ?clear⟩,
      fun op => ⟨_, exec_reservedOpcode hn op, goesOn_setTile hst hd rfl rfl⟩, fun hr ha hw hs => ⟨_, exec_done hn hr ha hw hs, ?done⟩⟩
  case wait =>
    dsimp only
    by_cases hle : (tReg a.toNat u).toNat ≤ smGet 0 c.toNat u.arr
    · rw [if_pos hle, if_pos hle]
      exact goesOn_setTile hst hd rfl rfl
    · rw [if_neg hle, if_neg hle]
      refine ⟨seqAt_tWait (by decide) rfl, ?_⟩
      rw [State.tile_setTile_same]
      exact tWait_frame 2 u
  case clear =>
    obtain ⟨hseq, hframe⟩ := goesOn_setTile (t := t) hst (v := { u with arr := smSet 0 c.toNat 0 u.arr }) hd rfl rfl
    have harr := congrArg Tile.arr hframe
    refine ⟨hseq, fun n => ?_, hframe.trans ?_⟩
    · rw [harr]
      by_cases hc : n = c.toNat
      · rw [if_pos hc, hc]
        exact smGet_smSet_same 0 c.toNat 0 u.arr
      · rw [if_neg hc]
        exact smGet_smSet_other 0 0 hc 0 u.arr
    · rw [harr]
  case done =>
    dsimp only
    by_cases hhalt : u.haltReq = true
    · obtain ⟨hwait, hregs⟩ := tHalted_regs u
      rw [if_pos hhalt, if_pos hhalt, State.tile_setTile_same]
      exact ⟨seqAt_setTile rfl hwait hregs, tHalted_eq u⟩
    · obtain ⟨hwait, hregs⟩ := tEnded_regs u
      rw [if_neg hhalt, if_neg hhalt]
      by_cases hheld : u.strobeHeld = true
      · obtain ⟨hpc, hactive, hdone, hstrobe, hscratch, hwait', hregs'⟩ := tRestart_effect s.pat.stepping (s.get F.PCK_STATUS_MODE) (tEnded u)
        rw [if_pos hheld, if_pos hheld, State.tile_setTile_same]
        exact ⟨seqAt_setTile hpc hwait' (tileSameRegs_trans hregs hregs'), hactive, hdone, hstrobe, hscratch⟩
      · rw [if_neg hheld, if_neg hheld, State.tile_setTile_same]
        exact ⟨seqAt_setTile rfl hwait hregs, tEnded_eq u⟩
end

section
/-!
PROOFS. The control register of a tile (R64, R67, R465): ENABLE with the sentinel's check, the counts that CLR_COUNTS clears, and the row log.
-/
namespace Sys2Proof.Machine

/-! ### The sentinel's check touches no tile (R535, R538, R539) -/

@[simp] theorem tile_sntCapture (s : State) (id crc : Nat) (write : Bool) (b : Nat) : (s.sntCapture id crc write).tile b = s.tile b := by
  unfold State.sntCapture
  split <;> simp

@[simp] theorem tile_sntReport (s : State) (id crc : Nat) (write : Bool) (b : Nat) : (s.sntReport id crc write).tile b = s.tile b := by
  simp [State.sntReport]

theorem tile_withSnt (s : State) (x : Sentinel) (b : Nat) : ({ s with snt := x } : State).tile b = s.tile b := rfl

@[simp] theorem tile_sntRestart (s : State) (id b : Nat) : (s.sntRestart id).tile b = s.tile b := by
  unfold State.sntRestart
  dsimp only
  split
  · rfl
  · split <;> refine (tile_withSnt _ _ b).trans ?_ <;> simp

@[simp] theorem tile_sntWrite (s : State) (id off b : Nat) : (s.sntWrite id off).tile b = s.tile b := by
  unfold State.sntWrite
  dsimp only
  split <;> simp

@[simp] theorem tile_sntTile (s : State) (a off : Nat) (old : Word) (b : Nat) : (s.sntTile a off old).tile b = s.tile b := by
  unfold State.sntTile
  dsimp only
  split <;> simp

/-- A register that has not changed is not checked. -/
theorem sntTile_unchanged (s : State) (a off : Nat) : s.sntTile a off (bankReg (rkey (0x110000 + off) 0) (s.tile a).regs) = s := if_pos rfl

/-! ### Fields cleared together -/

/-- A tile with the fields of a list at 0. -/
def tCleared (fs : List Fld) (t : Tile) : Tile := fs.foldr (fun f u => tSet f 0 u) t

theorem tGet_tCleared {fs : List Fld} (h : fs.Pairwise fldsApart) (hw : ∀ f ∈ fs, f.lo + f.w ≤ 32) (t : Tile) :
    ∀ f ∈ fs, tGet f (tCleared fs t) = 0 := by
  induction fs with
  | nil => exact fun f hf => absurd hf List.not_mem_nil
  | cons g fs ih =>
    rw [List.pairwise_cons] at h
    intro f hf
    rcases List.mem_cons.mp hf with rfl | hf
    · exact (tGet_tSet_same f 0 _ (hw f List.mem_cons_self)).trans (Nat.zero_mod _)
    · exact (tGet_tSet_other 0 _ (h.1 f hf)).trans (ih h.2 (fun f hf => hw f (List.mem_cons_of_mem g hf)) f hf)

theorem tCleared_eq (fs : List Fld) (t : Tile) : tCleared fs t = { t with regs := (tCleared fs t).regs } := by
  induction fs with
  | nil => rfl
  | cons f fs ih =>
    change tSet f 0 (tCleared fs t) = { t with regs := (tSet f 0 (tCleared fs t)).regs }
    rw [ih]
    rfl

theorem tileSameRegs_tCleared (fs : List Fld) (t : Tile) : tileSameRegs t (tCleared fs t) (fs.map Fld.reg) := by
  induction fs with
  | nil => exact fun k _ => rfl
  | cons f fs ih =>
    refine tileSameRegs_trans (v := tCleared fs t) (fun k hk => ih k fun h => hk (List.mem_cons_of_mem _ h)) ?_
    exact tileSameRegs_tSet f 0 _ List.mem_cons_self

/-! ### CLR_COUNTS (R64) -/

/-- The count fields of a tile's registers that share them with others. -/
def countFlds : List Fld :=
  [F.TIL_NVW_ERR_UE_COUNT, F.TIL_NVW_ERR_CE_COUNT, F.TIL_SP_ERR_UE_COUNT, F.TIL_SP_ERR_CE_COUNT, F.TIL_HAZ_COUNT_COUNT,
    F.TIL_ARITH_CLAMP_COUNT, F.TIL_ARITH_SAT_COUNT]

/-- The counts of the last pick (R73). -/
def perfRegs : List Nat := [R.TIL_PERF_MAC, R.TIL_PERF_NVW_IDLE, R.TIL_PERF_STALL]

theorem tClrCounts_frame (t : Tile) :
    tClrCounts t = { t with regs := (tClrCounts t).regs, arr := (tClrCounts t).arr } := by
  have h := tCleared_eq countFlds t
  have hc : tClrCounts t = { tCleared countFlds t with arr := (tClrCounts t).arr, regs := (tClrCounts t).regs } := rfl
  rw [h] at hc
  exact hc

theorem tClrCounts_regs (t : Tile) :
    tileSameRegs (tCleared countFlds t) (tClrCounts t) perfRegs ∧ ∀ a ∈ perfRegs, bankReg (rkey a 0) (tClrCounts t).regs = 0 := by
  have h : (tClrCounts t).regs = bankPut (rkey R.TIL_PERF_MAC 0) 0 (bankPut (rkey R.TIL_PERF_NVW_IDLE 0) 0
    (bankPut (rkey R.TIL_PERF_STALL 0) 0 (tCleared countFlds t).regs)) := rfl
  refine ⟨fun k hk => ?_, ?_⟩
  · simp only [perfRegs, List.mem_cons, List.not_mem_nil, or_false, not_or] at hk
    obtain ⟨hm, hi, hs⟩ := hk
    simp only [h, rkey_zero, bankReg_bankPut_other hm, bankReg_bankPut_other hi, bankReg_bankPut_other hs]
  · rw [h]
    simp only [perfRegs, List.forall_mem_cons, List.not_mem_nil, false_implies, implies_true, and_true]
    refine ⟨bankReg_bankPut_same .., ?_, ?_⟩
    · exact (bankReg_bankPut_other (by decide) ..).trans (bankReg_bankPut_same ..)
    · exact (bankReg_bankPut_other (by decide) ..).trans ((bankReg_bankPut_other (by decide) ..).trans (bankReg_bankPut_same ..))

theorem tGet_tClrCounts (t : Tile) : ∀ f ∈ countFlds, tGet f (tClrCounts t) = 0 := by
  intro f hf
  have hout : f.reg ∉ perfRegs := (show ∀ f ∈ countFlds, f.reg ∉ perfRegs by decide) f hf
  exact (tGet_of_sameRegs (tClrCounts_regs t).1 hout).trans (tGet_tCleared (by decide) (by decide) t f hf)

theorem tileSameRegs_tClrCounts (t : Tile) : tileSameRegs t (tClrCounts t) (countFlds.map Fld.reg ++ perfRegs) := fun k hk => by
  rw [List.mem_append, not_or] at hk
  exact ((tClrCounts_regs t).1 k hk.2).trans (tileSameRegs_tCleared countFlds t k hk.1)

/-! ### The row log (R67) -/

theorem tLogRead_effect (t : Tile) :
    tGet F.TIL_NVW_LOG_BITS (tLogRead t) = 0 ∧ tGet F.TIL_NVW_LOG_ROW (tLogRead t) = 0 ∧ tileSameRegs t (tLogRead t) [R.TIL_NVW_LOG] ∧
      tLogRead t = { t with regs := (tLogRead t).regs } := by
  have hcleared : tLogRead t = tCleared [F.TIL_NVW_LOG_BITS, F.TIL_NVW_LOG_ROW] t := rfl
  have hzero := tGet_tCleared (fs := [F.TIL_NVW_LOG_BITS, F.TIL_NVW_LOG_ROW]) (by decide) (by decide) t
  rw [hcleared]
  refine ⟨hzero _ (by decide), hzero _ (by decide), fun k hk => ?_, tCleared_eq _ t⟩
  exact tileSameRegs_tCleared _ t k (by simpa using hk)

section
variable {t : TileAddr} (h : tileOk t.toNat = true) (s : State)
include h

theorem exec_tilClrCounts : exec (.tilClrCounts t) s = .next (s.tilDo t.toNat tClrCounts) := onTile_next h s fun _ => s.tilDo t.toNat tClrCounts
theorem exec_tilNvwLogRead : exec (.tilNvwLogRead t) s = .next (s.tilDo t.toNat tLogRead) := onTile_next h s fun _ => s.tilDo t.toNat tLogRead
theorem exec_tilEnable (v : Bool) : exec (.tilEnable t v) s =
    .next ((s.tilDo t.toNat (tEnable v)).sntTile t.toNat 0x08 (bankReg (rkey R.TIL_CTRL 0) (s.tile t.toNat).regs)) :=
  onTile_next h s fun u => (s.tilDo t.toNat (tEnable v)).sntTile t.toNat 0x08 (bankReg (rkey R.TIL_CTRL 0) u.regs)

end

/-- A tile whose clock stands keeps its registers (R465). -/
theorem tilDo_stopped {s : State} {a : Nat} (h : ¬ (s.vlOn (fieldOf a) = true ∧ (s.tile a).st ≠ 5)) (f : Tile → Tile) : s.tilDo a f = s :=
  if_neg (by simpa [State.tilLive] using h)

end Sys2Proof.Machine

open Sys2Proof Sys2Proof.Machine

/-- Settles O11: ENABLE and the log are fields set, and CLR_COUNTS clears the fields of `countFlds` and the registers of `perfRegs`. -/
theorem tileControl : Obligations.TileControl := by
  unfold Obligations.TileControl
  intro s t v hok u counts perf
  by_cases hlive : s.vlOn (fieldOf t.toNat) = true ∧ u.st ≠ 5
  · rw [if_pos hlive]
    obtain ⟨hv, hst⟩ := hlive
    refine ⟨⟨_, exec_tilEnable hok s v, ?enable⟩, ⟨_, exec_tilClrCounts hok s, ?clear⟩, ⟨_, exec_tilNvwLogRead hok s, ?log⟩⟩
    case enable =>
      rw [tilDo_live hv hst]
      dsimp only
      rw [tile_sntTile, State.tile_setTile_same]
      refine ⟨?_, tileSameRegs_tSet F.TIL_CTRL_ENABLE _ u List.mem_cons_self, rfl, fun b hb => ?_⟩
      · refine (tGet_tSet_same F.TIL_CTRL_ENABLE (b2n v) u (by decide)).trans ?_
        cases v <;> rfl
      · rw [tile_sntTile, State.tile_setTile_other _ hb]
    case clear =>
      rw [tilDo_live hv hst]
      dsimp only
      rw [State.tile_setTile_same]
      exact ⟨onlyTile_setTile .., tGet_tClrCounts u, (tClrCounts_regs u).2, fun n => rfl, tileSameRegs_tClrCounts u, tClrCounts_frame u⟩
    case log =>
      rw [tilDo_live hv hst]
      dsimp only
      rw [State.tile_setTile_same]
      exact ⟨onlyTile_setTile .., tLogRead_effect u⟩
  · rw [if_neg hlive]
    refine ⟨(exec_tilEnable hok s v).trans ?_, (exec_tilClrCounts hok s).trans ?_, (exec_tilNvwLogRead hok s).trans ?_⟩ <;>
      rw [tilDo_stopped hlive]
    exact congrArg _ (sntTile_unchanged s t.toNat 8)
end

section
/-!
PROOFS. A row found uncorrectable by two service reads in a row, of a tile that a running rotation moves onto itself (R287, R303).
-/
namespace Sys2Proof.Machine

/-- A READY tile with a section and a role that is programming its column. -/
def rotatingTile : Tile := { Tile.empty with st := 2, ringPos := 0, secRows := 1, programming := true }

/-- The device after reset with tile 0 under a rotation whose darn tile is tile 0 itself, and row 5 of it found uncorrectable by the read before. -/
def selfRotating : State :=
  { State.reset with
    tiles := [(0, rotatingTile)]
    nvw := { State.reset.nvw with run := some ⟨⟨0, true, 1, 2, false⟩, 0, [], false, []⟩, lastUe := [(rowKey 0 5, true)] } }

/-- The urgent darn begins the section of the rotation's darn tile anew, and with it goes the mark of the row just found (`secBegin`). -/
theorem ueRows_selfRotating : ((selfRotating.rowRead 0 5 7 true false).tile 0).ueRows = [] := by
  decide

theorem exec_nvwRowRead {t : TileAddr} (h : tileOk t.toNat = true) (s : State) (row errs : Nat) :
    exec (.nvwRowRead t row errs) s = .next (s.nvwRowRead t.toNat row errs) := onTile_next h s fun _ => s.nvwRowRead t.toNat row errs

theorem nvwRowRead_selfRotating : selfRotating.nvwRowRead 0 5 7 = selfRotating.rowRead 0 5 7 true false :=
  (if_neg (by decide)).trans (if_neg (by decide))

end Sys2Proof.Machine

open Sys2Proof Sys2Proof.Machine

/-- Refutes O12: of a tile under a rotation whose darn tile is the tile itself, a second uncorrectable read of a row makes the rotation an urgent
darn, which begins the section anew (`State.runUrgent`, `secBegin`), so that the row no longer counts as unreadable. -/
theorem not_rowReads : ¬ Obligations.RowReads := by
  unfold Obligations.RowReads
  intro h
  obtain ⟨-, hservice, -⟩ := h selfRotating 0 5 0 0 none (by decide) (by decide)
  obtain ⟨-, -, ⟨r, hr, -, -, hmark⟩, -⟩ := hservice (by decide) (by decide)
  have hread : exec (.nvwRowRead 0 5 7) selfRotating = .next (selfRotating.rowRead 0 5 7 true false) :=
    (exec_nvwRowRead (t := 0) (by decide) selfRotating 5 7).trans (congrArg _ nvwRowRead_selfRotating)
  obtain rfl : selfRotating.rowRead 0 5 7 true false = r := Host.Outcome.next.inj (hread.symm.trans hr)
  have hgone : ((selfRotating.rowRead 0 5 7 true false).tile (0 : TileAddr).toNat).ueRows = [] := ueRows_selfRotating
  rw [hgone] at hmark
  exact Bool.false_ne_true hmark
end

section
/-!
PROOFS. Spool reads, walks and responses (R56, R211, R214, R218, R220, R229): faults and errors leave tiles, weft and spool alone; an answer, a
forwarding and a translation each change the request's tile and, of the weft, one buffer.
-/
namespace Sys2Proof.Machine

/-! ### What records faults and errors leaves alone -/

/-- Tiles, weft and spool stand. -/
def unitsKept (s w : State) : Prop := (∀ b, w.tile b = s.tile b) ∧ w.weft = s.weft ∧ w.spool = s.spool

theorem unitsKept_refl (s : State) : unitsKept s s := ⟨fun _ => rfl, rfl, rfl⟩

theorem unitsKept_trans {s w v : State} (h : unitsKept s w) (h' : unitsKept w v) : unitsKept s v := by
  obtain ⟨ht, hw, hs⟩ := h
  obtain ⟨ht', hw', hs'⟩ := h'
  exact ⟨fun b => (ht' b).trans (ht b), hw'.trans hw, hs'.trans hs⟩

section
variable (s : State)

theorem unitsKept_set (f : Fld) (v i : Nat) : unitsKept s (s.set f v i) := by simp [unitsKept]

theorem unitsKept_add (f : Fld) (n i : Nat) : unitsKept s (s.add f n i) := by simp [unitsKept]

theorem unitsKept_setReg (a : Nat) (v : Word) (i : Nat) : unitsKept s (s.setReg a v i) := by simp [unitsKept]

theorem unitsKept_raise (c b k u d : Nat) (j : Bool) : unitsKept s (s.raise c b k u d j) := by simp [unitsKept]

/-- Registers that a spool fault may touch (R220, R236, R557). -/
def spoolFaultRegs : List Nat :=
  [R.SPL_FAULT_CAP0, R.SPL_FAULT_CAP1, R.SPL_FAULT_CAP2, R.SPL_STATUS, R.SPL_XLAT_COUNT, R.DMP_SUPPRESSED, R.DMP_STATUS]

/-- The capture of the first spool fault (R236). -/
def spoolCaptured (code field id sva : Nat) : State :=
  if s.get F.SPL_STATUS_XLAT = 1 then s else
    ((s.setReg R.SPL_FAULT_CAP0 (BitVec.ofNat 32 (code * 2 ^ 28 + field * 2 ^ 22 + id))).setReg R.SPL_FAULT_CAP1
      (BitVec.ofNat 32 sva)).setReg R.SPL_FAULT_CAP2 (BitVec.ofNat 32 (s.pm.pick % 65536 * 65536 + bitsOf sva 32 13))

theorem spoolCaptured_keeps (code field id sva : Nat) :
    unitsKept s (spoolCaptured s code field id sva) ∧
      sameRegs s (spoolCaptured s code field id sva) [R.SPL_FAULT_CAP0, R.SPL_FAULT_CAP1, R.SPL_FAULT_CAP2] := by
  unfold spoolCaptured
  split
  · exact ⟨unitsKept_refl s, fun _ _ => rfl⟩
  · constructor
    · exact unitsKept_trans (unitsKept_trans (unitsKept_setReg s _ _ _) (unitsKept_setReg _ _ _ _)) (unitsKept_setReg _ _ _ _)
    · refine sameRegs_trans ?_ (onlyRegs_setReg _ R.SPL_FAULT_CAP2 _ 0 (by decide)).2
      refine sameRegs_trans ?_ (onlyRegs_setReg _ R.SPL_FAULT_CAP1 _ 0 (by decide)).2
      exact (onlyRegs_setReg s R.SPL_FAULT_CAP0 _ 0 (by decide)).2

theorem spoolFault_units (code field id sva : Nat) (inj : Bool) : unitsKept s (s.spoolFault code field id sva inj) := by
  refine unitsKept_trans (spoolCaptured_keeps s code field id sva).1 ?_
  exact unitsKept_trans (unitsKept_trans (unitsKept_set _ F.SPL_STATUS_XLAT 1 0) (unitsKept_add _ F.SPL_XLAT_COUNT_FAULTS 1 0)) (unitsKept_raise ..)

theorem spoolFault_regs (code field id sva : Nat) (inj : Bool) : sameRegs s (s.spoolFault code field id sva inj) spoolFaultRegs := by
  refine sameRegs_trans (sameRegs_mono (spoolCaptured_keeps s code field id sva).2 (by decide)) ?_
  refine sameRegs_trans (onlyRegs_set _ F.SPL_STATUS_XLAT 1 0 (by decide)).2 ?_
  refine sameRegs_trans (onlyRegs_add _ F.SPL_XLAT_COUNT_FAULTS 1 0 (by decide)).2 ?_
  exact sameRegs_mono (sameRegs_raise _ _ _ _ _ _ _) (by decide)

/-- Of SPL_STATUS a spool fault sets XLAT and leaves the other bits. -/
theorem spoolFault_status (code field id sva : Nat) (inj : Bool) :
    (s.spoolFault code field id sva inj).get F.SPL_STATUS_XLAT = 1 ∧
      (s.spoolFault code field id sva inj).get F.SPL_STATUS_ECC_UE = s.get F.SPL_STATUS_ECC_UE := by
  have hraise : ∀ (w : State) (d : Nat) (f : Fld), f.reg ∉ [R.DMP_SUPPRESSED, R.DMP_STATUS] → (w.raise 5 12 2 field d inj).get f = w.get f :=
    fun w d f hf => get_eq_of_sameRegs (sameRegs_raise w 5 12 2 field d inj) hf
  have hcap := get_eq_of_sameRegs (spoolCaptured_keeps s code field id sva).2 (f := F.SPL_STATUS_ECC_UE) (by decide)
  unfold State.spoolFault
  dsimp only
  constructor
  · rw [hraise _ _ _ (by decide), State.get_add_other _ _ _ _ _ _ (.inl (by decide)), State.get_set_same _ _ _ _ (by decide)]
    rfl
  · rw [hraise _ _ _ (by decide), State.get_add_other _ _ _ _ _ _ (.inl (by decide)), State.get_set_other _ _ _ _ _ _ (.inr (by decide))]
    exact hcap

/-- The log of an uncorrectable line that a read met (R237). -/
def eccLogged (at' : Nat × Nat) : State :=
  ((((s.set F.SPL_ECC_LOG0_VALID 1).set F.SPL_ECC_LOG0_SCRUB (b2n false)).set F.SPL_ECC_LOG0_FIELD (at'.1 / 64)).set
    F.SPL_ECC_LOG0_CHANNEL (at'.1 % 64)).set F.SPL_ECC_LOG1_LINE (at'.2 / 64)

theorem eccLogged_effect (at' : Nat × Nat) :
    unitsKept s (eccLogged s at') ∧ sameRegs s (eccLogged s at') [R.SPL_ECC_LOG0, R.SPL_ECC_LOG1] ∧
      (eccLogged s at').get F.SPL_ECC_LOG0_VALID = 1 := by
  unfold eccLogged
  refine ⟨by simp [unitsKept], ?_, ?_⟩
  · refine sameRegs_trans ?_ (onlyRegs_set _ F.SPL_ECC_LOG1_LINE _ 0 (by decide)).2
    refine sameRegs_trans ?_ (onlyRegs_set _ F.SPL_ECC_LOG0_CHANNEL _ 0 (by decide)).2
    refine sameRegs_trans ?_ (onlyRegs_set _ F.SPL_ECC_LOG0_FIELD _ 0 (by decide)).2
    refine sameRegs_trans ?_ (onlyRegs_set _ F.SPL_ECC_LOG0_SCRUB _ 0 (by decide)).2
    exact (onlyRegs_set s F.SPL_ECC_LOG0_VALID _ 0 (by decide)).2
  · rw [State.get_set_other _ _ _ _ _ _ (.inl (by decide)), State.get_set_other _ _ _ _ _ _ (.inr (by decide)),
      State.get_set_other _ _ _ _ _ _ (.inr (by decide)), State.get_set_other _ _ _ _ _ _ (.inr (by decide)),
      State.get_set_same _ _ _ _ (by decide)]
    rfl

/-- A read that met an uncorrectable line: ECC_UE, the count, the log (R229, R237). -/
theorem eccUe_effect (at' : Nat × Nat) :
    let w := s.eccUe at'
    unitsKept s w ∧ w.get F.SPL_STATUS_ECC_UE = 1 ∧ w.get F.SPL_ECC_UE_UE = min (2 ^ F.SPL_ECC_UE_UE.w - 1) (s.get F.SPL_ECC_UE_UE + 1) ∧
      w.get F.SPL_ECC_LOG0_VALID = 1 ∧ (s.get F.SPL_ECC_LOG0_VALID = 1 → w.get F.SPL_ECC_LOG0_OVF = 1) := by
  have hunits := unitsKept_trans (unitsKept_set s F.SPL_STATUS_ECC_UE 1 0) (unitsKept_add _ F.SPL_ECC_UE_UE 1 0)
  have hbit : ((s.set F.SPL_STATUS_ECC_UE 1).add F.SPL_ECC_UE_UE 1).get F.SPL_STATUS_ECC_UE = 1 := by
    rw [State.get_add_other _ _ _ _ _ _ (.inl (by decide)), State.get_set_same _ _ _ _ (by decide)]
    rfl
  have hcount : ((s.set F.SPL_STATUS_ECC_UE 1).add F.SPL_ECC_UE_UE 1).get F.SPL_ECC_UE_UE =
      min (2 ^ F.SPL_ECC_UE_UE.w - 1) (s.get F.SPL_ECC_UE_UE + 1) := by
    rw [State.get_add_same _ _ _ _ (by decide), State.get_set_other _ _ _ _ _ _ (.inl (by decide))]
  have hvalid : ((s.set F.SPL_STATUS_ECC_UE 1).add F.SPL_ECC_UE_UE 1).get F.SPL_ECC_LOG0_VALID = s.get F.SPL_ECC_LOG0_VALID := by
    rw [State.get_add_other _ _ _ _ _ _ (.inl (by decide)), State.get_set_other _ _ _ _ _ _ (.inl (by decide))]
  dsimp only
  unfold State.eccUe State.eccLog
  generalize (s.set F.SPL_STATUS_ECC_UE 1).add F.SPL_ECC_UE_UE 1 = w at hunits hbit hcount hvalid ⊢
  split
  · next hv =>
    refine ⟨unitsKept_trans hunits (unitsKept_set ..), ?_, ?_, ?_, fun _ => ?_⟩
    · rw [State.get_set_other _ _ _ _ _ _ (.inl (by decide)), hbit]
    · rw [State.get_set_other _ _ _ _ _ _ (.inl (by decide)), hcount]
    · rw [State.get_set_other _ _ _ _ _ _ (.inr (by decide)), hv]
    · rw [State.get_set_same _ _ _ _ (by decide)]
      rfl
  · next hv =>
    obtain ⟨hlog, hregs, hset⟩ := eccLogged_effect w at'
    refine ⟨unitsKept_trans hunits hlog, ?_, ?_, hset, fun h => absurd (hvalid.trans h) hv⟩
    · exact (get_eq_of_sameRegs hregs (by decide)).trans hbit
    · exact (get_eq_of_sameRegs hregs (by decide)).trans hcount

end

/-! ### A request answered -/

section
variable {s w : State} {t id : Nat} {rest : List SpoolReq} {r : SpoolReq} {fault : Bool} {d : List Byte}

/-- A request of tile `t` answered, with respect to the state in which it was met: it has left the list, its response is on the weft. -/
def replied (s : State) (t : Nat) (rest : List SpoolReq) (r : SpoolReq) (v : State) (fault : Bool) (d : List Byte) : Prop :=
  (∀ b, b ≠ t → v.tile b = s.tile b) ∧ (v.tile t).spReqs = rest ∧
    (v.tile t).spOut = (s.tile t).spOut ++ [⟨r.id, r.write, r.line, fault, d, r.ctrl, (spoolShuttles 5 2 t r.ctrl false r.line r.sva d).length⟩] ∧
    v.buf r.ctrl 5 2 = s.buf r.ctrl 5 2 ++ spoolShuttles 5 2 t r.ctrl false r.line r.sva d ∧ v.spool.dram = s.spool.dram ∧
    (fault = true → v.get F.SPL_STATUS_XLAT = 1)

theorem bank_fromController (s : State) (c vc : Nat) (shs : List Shuttle) : (s.fromController c vc shs).bank = s.bank := rfl

theorem tile_fromController (s : State) (c vc : Nat) (shs : List Shuttle) (b : Nat) : (s.fromController c vc shs).tile b = s.tile b := rfl

theorem spool_fromController (s : State) (c vc : Nat) (shs : List Shuttle) : (s.fromController c vc shs).spool = s.spool := rfl

/-- At the SPOOL port the shuttles stand behind what waits there. -/
theorem buf_fromController (s : State) (c vc : Nat) (shs : List Shuttle) :
    (s.fromController c vc shs).buf c 5 vc = s.buf c 5 vc ++ shs := by
  simp [State.buf, State.fromController]

theorem buf_of_weft {s w : State} (h : w.weft = s.weft) (c vc : Nat) : w.buf c 5 vc = s.buf c 5 vc := by
  simp [State.buf, h]

theorem bank_answer : (w.answer t rest r fault d).bank = w.bank := by
  unfold State.answer
  exact (bank_fromController ..).trans (State.bank_setTile ..)

/-- Of the tile an answer changes the requests and the responses on their way. -/
theorem tile_answer (w : State) (t : Nat) (rest : List SpoolReq) (r : SpoolReq) (fault : Bool) (d : List Byte) :
    (w.answer t rest r fault d).tile t = { w.tile t with
      spReqs := rest, spOut := (w.tile t).spOut ++
        [⟨r.id, r.write, r.line, fault, d, r.ctrl, (spoolShuttles 5 2 t r.ctrl false r.line r.sva d).length⟩] } := by
  unfold State.answer
  exact (tile_fromController ..).trans (State.tile_setTile_same ..)

theorem answer_replied (h : unitsKept s w) (hf : fault = true → w.get F.SPL_STATUS_XLAT = 1) :
    replied s t rest r (w.answer t rest r fault d) fault d := by
  obtain ⟨htile, hweft, hspool⟩ := h
  have hat := tile_answer w t rest r fault d
  refine ⟨fun b hb => ?_, by rw [hat], by rw [hat, htile], ?_, ?_, fun hx => ?_⟩
  · unfold State.answer
    exact (tile_fromController ..).trans ((State.tile_setTile_other w hb _).trans (htile b))
  · unfold State.answer
    rw [buf_fromController, buf_of_weft (w := w.setTile ..) (s := s) ((State.weft_setTile ..).trans hweft)]
  · unfold State.answer
    rw [spool_fromController, State.spool_setTile, hspool]
  · rw [← hf hx]
    exact get_eq_of_sameRegs (sameRegs_of_bank bank_answer []) (by simp)

/-- What leaves the units alone and XLAT set keeps a reply. -/
theorem replied_keeps {v x : State} (h : replied s t rest r v fault d) (hk : unitsKept v x)
    (hx : fault = true → x.get F.SPL_STATUS_XLAT = 1) : replied s t rest r x fault d := by
  obtain ⟨hothers, hreqs, hout, hbuf, hdram, -⟩ := h
  obtain ⟨htile, hweft, hspool⟩ := hk
  exact ⟨fun b hb => (htile b).trans (hothers b hb), by rw [htile, hreqs], by rw [htile, hout], by rw [buf_of_weft hweft, hbuf],
    by rw [hspool, hdram], hx⟩

/-- A poisoned tile has the same requests and responses. -/
theorem replied_poison {v : State} (h : replied s t rest r v fault d) :
    replied s t rest r (v.setTile t (tPoison (v.tile t))) fault d := by
  obtain ⟨hothers, hreqs, hout, hbuf, hdram, hx⟩ := h
  refine ⟨fun b hb => (State.tile_setTile_other v hb _).trans (hothers b hb), by rw [State.tile_setTile_same]; exact hreqs,
    by rw [State.tile_setTile_same]; exact hout, by rw [buf_of_weft (State.weft_setTile ..), hbuf], by rw [State.spool_setTile, hdram], ?_⟩
  rwa [State.get_setTile]

/-- A fault completion: XLAT, the answer, and the registers that no spool fault touches. -/
theorem failReq_replied (h : unitsKept s w) (code : Nat) : replied s t rest r (w.failReq t id rest r code) true [] :=
  answer_replied (unitsKept_trans h (spoolFault_units ..)) fun _ => (spoolFault_status ..).1

theorem failReq_get (w : State) (code : Nat) {f : Fld} (hf : f.reg ∉ spoolFaultRegs) :
    (w.failReq t id rest r code).get f = w.get f :=
  (get_eq_of_sameRegs (sameRegs_of_bank bank_answer []) (by simp)).trans (get_eq_of_sameRegs (spoolFault_regs w _ _ _ _ _) hf)

theorem failReq_eccUe (w : State) (code : Nat) :
    (w.failReq t id rest r code).get F.SPL_STATUS_ECC_UE = w.get F.SPL_STATUS_ECC_UE :=
  (get_eq_of_sameRegs (sameRegs_of_bank bank_answer []) (by simp)).trans (spoolFault_status ..).2

/-- A request that an uncorrectable line ends (R229): the reply, ECC_UE, its count and the log. -/
theorem failReq_ecc (h : unitsKept s w) (hue : w.get F.SPL_ECC_UE_UE = s.get F.SPL_ECC_UE_UE)
    (hvalid : w.get F.SPL_ECC_LOG0_VALID = s.get F.SPL_ECC_LOG0_VALID) (at' : Nat × Nat) (code : Nat) :
    let v := (w.eccUe at').failReq t id rest r code
    replied s t rest r v true [] ∧ v.get F.SPL_STATUS_ECC_UE = 1 ∧
      v.get F.SPL_ECC_UE_UE = min (2 ^ F.SPL_ECC_UE_UE.w - 1) (s.get F.SPL_ECC_UE_UE + 1) ∧ v.get F.SPL_ECC_LOG0_VALID = 1 ∧
      (s.get F.SPL_ECC_LOG0_VALID = 1 → v.get F.SPL_ECC_LOG0_OVF = 1) := by
  obtain ⟨hunits, hbit, hcount, hlog, hovf⟩ := eccUe_effect w at'
  dsimp only
  rw [failReq_eccUe, failReq_get _ _ (by decide), failReq_get _ _ (by decide), failReq_get _ _ (by decide), ← hue, ← hvalid]
  exact ⟨failReq_replied (unitsKept_trans h hunits) code, hbit, hcount, hlog, hovf⟩

/-- Further faults of the same read leave its reply. -/
theorem replied_faults (codes : List Nat) {v : State} (h : replied s t rest r v true []) (field sva : Nat) :
    replied s t rest r (codes.foldl (fun u c => u.spoolFault c field id sva) v) true [] := by
  induction codes generalizing v with
  | nil => exact h
  | cons c cs ih => exact ih (replied_keeps h (spoolFault_units ..) fun _ => (spoolFault_status ..).1)

end

/-! ### Reads -/

theorem foldl_dedupNat_one {α : Type} (g : α → Nat → α) (i : Nat) (a : α) : (dedupNat [i]).foldl g a = g a i := rfl

theorem takeReq_none {p : SpoolReq → Bool} {l : List SpoolReq} (h : ∀ q ∈ l, p q = false) : takeReq p l = none := by
  induction l with
  | nil => rfl
  | cons q l ih =>
    obtain ⟨hq, hl⟩ := List.forall_mem_cons.1 h
    simp [takeReq, hq, ih hl]

theorem takeReq_head {p : SpoolReq → Bool} {q : SpoolReq} (h : p q = true) (l : List SpoolReq) : takeReq p (q :: l) = some (q, l) := by
  simp [takeReq, h]

section
variable {s : State} {t id : Nat} {rest : List SpoolReq} {r : SpoolReq}

theorem spoolRead_idle (h : ∀ q ∈ (s.tile t).spReqs, q.write = true ∨ q.away ≠ 0) (pos ce : Nat) (ue : List Nat) :
    s.spoolRead t id pos ce ue = s := by
  have hnone : takeReq (fun r => !r.write && decide (r.away = 0)) (s.tile t).spReqs = none :=
    takeReq_none fun q hq => by rcases h q hq with hw | ha <;> simp [*]
  simp only [State.spoolRead, hnone]

section
variable (hreqs : (s.tile t).spReqs = r :: rest) (hread : r.write = false) (haway : r.away = 0)
include hreqs hread haway

theorem takeReq_read : takeReq (fun r => !r.write && decide (r.away = 0)) (s.tile t).spReqs = some (r, rest) := by
  rw [hreqs]
  exact takeReq_head (by simp [hread, haway]) rest

theorem spoolRead_unmapped (hx : r.xlat = some none) (pos ce : Nat) (ue : List Nat) :
    s.spoolRead t id pos ce ue = s.failReq t id rest r 1 := by
  simp only [State.spoolRead, takeReq_read hreqs hread haway, State.reqFrame, hx]

theorem spoolRead_mapped {f : Nat} (hx : r.xlat = some (some f)) (pos ce : Nat) (ue : List Nat) :
    s.spoolRead t id pos ce ue = s.serveRead t id pos rest r f ce ue := by
  simp only [State.spoolRead, takeReq_read hreqs hread haway, State.reqFrame, hx, State.countHit]

end

/-- The range that a read with the frame `f` asks for: its BSA and its length. -/
def readBsa (r : SpoolReq) (f : Nat) : Nat := f * frameBytes + svaOff r.sva

variable {f : Nat}

theorem serveRead_forward (h : s.ctrlOf (svaBand r.sva) (readBsa r f) ≠ r.ctrl) (pos ce : Nat) (ue : List Nat) :
    s.serveRead t id pos rest r f ce ue = s.forward t rest r f (s.ctrlOf (svaBand r.sva) (readBsa r f)) := by
  unfold readBsa at h
  simp only [State.serveRead, readBsa, if_pos h]

/-- A tile changed, and shuttles that enter the SPOOL port. -/
theorem setTile_fromController (s : State) (t : Nat) (u : Tile) (c vc : Nat) (shs : List Shuttle) :
    let v := (s.setTile t u).fromController c vc shs
    (∀ b, b ≠ t → v.tile b = s.tile b) ∧ v.bank = s.bank ∧ v.spool = s.spool ∧ v.tile t = u ∧ v.buf c 5 vc = s.buf c 5 vc ++ shs :=
  ⟨fun b hb => (tile_fromController ..).trans (State.tile_setTile_other s hb u), State.bank_setTile s t u, State.spool_setTile s t u,
    (tile_fromController ..).trans (State.tile_setTile_same s t u),
    by rw [buf_fromController, buf_of_weft (State.weft_setTile s t u)]⟩

/-- A forwarded request waits last in the list; its shuttles stand at the SPOOL port on the way to the target. -/
theorem forward_effect (hx : r.xlat = some (some f)) (target : Nat) :
    let v := s.forward t rest r f target
    let shs := spoolShuttles 4 3 target t r.poison r.line r.sva r.data
    (∀ b, b ≠ t → v.tile b = s.tile b) ∧ v.bank = s.bank ∧ v.spool = s.spool ∧
      v.tile t = { s.tile t with spReqs := rest ++ [{ r with ctrl := target, away := shs.length }] } ∧
      v.buf r.ctrl 5 3 = s.buf r.ctrl 5 3 ++ shs := by
  have hreq : ∀ n, { r with xlat := some (some f), ctrl := target, away := n } = { r with ctrl := target, away := n } := by
    intro n
    cases r
    cases hx
    rfl
  unfold State.forward
  dsimp only
  rw [hreq]
  exact setTile_fromController ..

/-- Registers at different addresses are different whatever their index. -/
theorem rkey_ne {a b : Nat} (h : a % 2 ^ 26 ≠ b % 2 ^ 26) (i j : Nat) : rkey a i ≠ rkey b j := by
  intro he
  have hmod := congrArg (· % 2 ^ 26) he
  simp only [rkey, Nat.mul_add_mod_self_right] at hmod
  exact h hmod

/-- A read without a corrected line. -/
def uncorrected (s : State) : State := s.add F.SPL_ECC_CE_CE 0

theorem uncorrected_units (s : State) : unitsKept s (uncorrected s) := unitsKept_add ..

theorem poolRead_uncorrected (s : State) : (uncorrected s).poolRead = s.poolRead := by
  funext band bsa n
  simp only [State.poolRead, uncorrected, State.pat_add, State.spool_add]

theorem dataFaults_uncorrected (s : State) (band area frame pos off n : Nat) :
    (uncorrected s).dataFaults band area frame pos off n = s.dataFaults band area frame pos off n := by
  unfold State.dataFaults State.statusOf
  rw [poolRead_uncorrected]

theorem dataPoison_uncorrected (s : State) (band area frame off n : Nat) :
    (uncorrected s).dataPoison band area frame off n = s.dataPoison band area frame off n := by
  unfold State.dataPoison State.statusOf
  rw [poolRead_uncorrected]

section
variable (hat : s.ctrlOf (svaBand r.sva) (readBsa r f) = r.ctrl) (hinj : s.injHas 5 (s.chanAt (svaBand r.sva) (readBsa r f)) = false)
include hat hinj

/-- A read at its controller without an injected error. -/
theorem serveRead_here (pos : Nat) (ue : List Nat) :
    s.serveRead t id pos rest r f 0 ue =
      if s.chDown (svaBand r.sva) (readBsa r f) (64 * r.units) then (uncorrected s).failReq t id rest r 7
      else match ue.filter fun i => decide (i < r.units) with
      | i :: is => ((dedupNat (i :: is)).foldl (fun u x => u.eccUe ((s.pat.bsaAt (svaBand r.sva) (readBsa r f + 64 * x)).getD (0, 0)))
          (uncorrected s)).failReq t id rest r 7
      | [] => match s.dataFaults (svaBand r.sva) (svaArea r.sva) f pos (svaOff r.sva) (64 * r.units) with
        | code :: codes => codes.foldl (fun u c => u.spoolFault c (fieldOf t) id r.sva) ((uncorrected s).failReq t id rest r code)
        | [] =>
          let s2 := (uncorrected s).answer t rest r false (s.poolRead (svaBand r.sva) (readBsa r f) (64 * r.units))
          if s.dataPoison (svaBand r.sva) (svaArea r.sva) f (svaOff r.sva) (64 * r.units) then s2.setTile t (tPoison (s2.tile t)) else s2 := by
  rw [← dataFaults_uncorrected, ← dataPoison_uncorrected, ← poolRead_uncorrected]
  unfold readBsa at *
  unfold State.serveRead uncorrected
  simp only [hat, hinj, ne_eq, not_true_eq_false, if_false, Bool.false_eq_true] <;> rfl

theorem serveRead_down (hdown : s.chDown (svaBand r.sva) (readBsa r f) (64 * r.units) = true) (pos : Nat) (ue : List Nat) :
    replied s t rest r (s.serveRead t id pos rest r f 0 ue) true [] := by
  rw [serveRead_here hat hinj, if_pos hdown]
  exact failReq_replied (uncorrected_units s) 7

section
variable (hup : s.chDown (svaBand r.sva) (readBsa r f) (64 * r.units) = false)
include hup

/-- One uncorrectable line among those that the read takes (R229). -/
theorem serveRead_line {i : Nat} (hi : i < r.units) (pos : Nat) : ∃ at', s.serveRead t id pos rest r f 0 [i] =
    ((uncorrected s).eccUe at').failReq t id rest r 7 := by
  refine ⟨(s.pat.bsaAt (svaBand r.sva) (readBsa r f + 64 * i)).getD (0, 0), ?_⟩
  have hlines : [i].filter (fun i => decide (i < r.units)) = [i] := by simp [hi]
  rw [serveRead_here hat hinj, hup, hlines, if_neg Bool.false_ne_true]
  generalize uncorrected s = w
  exact congrArg (fun x : State => x.failReq t id rest r 7) (foldl_dedupNat_one _ i w)

theorem serveRead_faults {pos : Nat} (hne : s.dataFaults (svaBand r.sva) (svaArea r.sva) f pos (svaOff r.sva) (64 * r.units) ≠ []) :
    replied s t rest r (s.serveRead t id pos rest r f 0 []) true [] := by
  rw [serveRead_here hat hinj, hup]
  cases hd : s.dataFaults (svaBand r.sva) (svaArea r.sva) f pos (svaOff r.sva) (64 * r.units) with
  | nil => exact absurd hd hne
  | cons code codes => exact replied_faults codes (failReq_replied (uncorrected_units s) code) _ _

theorem serveRead_served {pos : Nat} (hok : s.dataFaults (svaBand r.sva) (svaArea r.sva) f pos (svaOff r.sva) (64 * r.units) = []) :
    let v := s.serveRead t id pos rest r f 0 []
    replied s t rest r v false (s.poolRead (svaBand r.sva) (readBsa r f) (64 * r.units)) ∧
      (v.tile t).poison = ((s.tile t).poison || s.dataPoison (svaBand r.sva) (svaArea r.sva) f (svaOff r.sva) (64 * r.units)) := by
  dsimp only
  rw [serveRead_here hat hinj, hup, hok]
  have hreply : replied s t rest r ((uncorrected s).answer t rest r false (s.poolRead (svaBand r.sva) (readBsa r f) (64 * r.units))) false
      (s.poolRead (svaBand r.sva) (readBsa r f) (64 * r.units)) := answer_replied (uncorrected_units s) (by simp)
  simp only [Bool.false_eq_true, if_false, List.filter_nil]
  cases s.dataPoison (svaBand r.sva) (svaArea r.sva) f (svaOff r.sva) (64 * r.units) with
  | false =>
    refine ⟨hreply, ?_⟩
    simp only [Bool.false_eq_true, if_false, Bool.or_false]
    rw [tile_answer, (uncorrected_units s).1]
  | true =>
    refine ⟨replied_poison hreply, ?_⟩
    simp only [if_true, Bool.or_true, State.tile_setTile_same]
    rfl

end
end
end

/-! ### Walks -/

section
variable {s : State} {t id root : Nat} {rest : List SpoolReq} {r : SpoolReq}

/-- A request given its translation: its entries in the list carry it. -/
def State.given (s : State) (t : Nat) (r : SpoolReq) (x : Option Nat) : State :=
  s.setTile t { s.tile t with spReqs := setXlat r.id x (s.tile t).spReqs }

/-- The spool replaced: what a filled cache leaves. -/
def State.withSpool (s : State) (p : Spool) : State := { s with spool := p }

theorem tile_withSpool (s : State) (p : Spool) (b : Nat) : (s.withSpool p).tile b = s.tile b := rfl

theorem get_withSpool (s : State) (p : Spool) (f : Fld) (i : Nat) : (s.withSpool p).get f i = s.get f i := rfl

/-- The frame that an entry was used or filled with is found. -/
theorem xcFind_xcUse (p : Spool) (field id sva frame : Nat) : (p.xcUse field id sva frame).xcFind field id sva = some frame := by
  simp [Spool.xcFind, Spool.xcUse]

/-- The frame that fills the cache is found once the request has its translation. -/
theorem xcFind_given (w : State) (p : Spool) (field sva frame : Nat) (x : Option Nat) :
    ((w.withSpool (p.xcUse field id sva frame)).given t r x).spool.xcFind field id sva = some frame :=
  (congrArg (·.xcFind field id sva) (State.spool_setTile ..)).trans (xcFind_xcUse ..)

section
variable (hreqs : (s.tile t).spReqs = r :: rest) (hx : r.xlat = none) (haway : r.away = 0)
include hreqs hx haway

theorem takeReq_walk : takeReq (fun r => r.xlat.isNone && decide (r.away = 0)) (s.tile t).spReqs = some (r, rest) := by
  rw [hreqs]
  exact takeReq_head (by simp [hx, haway]) rest

theorem walkReq_cached (h : s.spool.xcFind (fieldOf t) id r.sva ≠ none) (ue : Option Nat) : s.walkReq t id root ue = s := by
  simp only [State.walkReq, takeReq_walk hreqs hx haway, Option.isSome_iff_ne_none.2 h, if_true]

variable (hmiss : s.spool.xcFind (fieldOf t) id r.sva = none)
include hmiss

/-- A request that the cache does not answer, its walk counted. -/
theorem walkReq_missed (ue : Option Nat) :
    let s1 := s.add F.SPL_XC_MISS_MISSES 1 (fieldOf t)
    s.walkReq t id root ue =
      if (s.spool.walkKeys root r.sva).any s.tblDown then s1.failReq t id rest r 7
      else match ue.bind fun i => (s.spool.walkKeys root r.sva)[i]? with
      | some k => (s1.eccUe ((s.pat.tblAt k).getD (0, 0))).failReq t id rest r 6
      | none => match s.spool.walk root r.sva with
        | .fault c => s1.failReq t id rest r c
        | .missing => if r.write then s1.given t r none else s1.failReq t id rest r 1
        | .leaf _ e =>
          if eSwapped e then s1.failReq t id rest r 2
          else (s1.withSpool (s1.spool.xcUse (fieldOf t) id r.sva (eFrame e))).given t r (some (eFrame e)) := by
  simp only [State.walkReq, takeReq_walk hreqs hx haway, hmiss, Option.isSome_none, Bool.false_eq_true, if_false] <;> rfl

end

section
variable (hreqs : (s.tile t).spReqs = r :: rest) (hx : r.xlat = none) (haway : r.away = 0)
  (hmiss : s.spool.xcFind (fieldOf t) id r.sva = none) (hup : (s.spool.walkKeys root r.sva).any s.tblDown = false)
include hreqs hx haway hmiss hup

/-- An uncorrectable table word ends the request with TABLE_UE (R229). -/
theorem walkReq_line {i : Nat} (hi : i < (s.spool.walkKeys root r.sva).length) : ∃ at', s.walkReq t id root (some i) =
    ((s.add F.SPL_XC_MISS_MISSES 1 (fieldOf t)).eccUe at').failReq t id rest r 6 := by
  refine ⟨(s.pat.tblAt (s.spool.walkKeys root r.sva)[i]).getD (0, 0), ?_⟩
  rw [walkReq_missed hreqs hx haway hmiss, hup, if_neg Bool.false_ne_true, Option.bind_some, List.getElem?_eq_getElem hi]

theorem walkReq_walked : s.walkReq t id root none = match s.spool.walk root r.sva with
    | .fault c => (s.add F.SPL_XC_MISS_MISSES 1 (fieldOf t)).failReq t id rest r c
    | .missing => if r.write then (s.add F.SPL_XC_MISS_MISSES 1 (fieldOf t)).given t r none
      else (s.add F.SPL_XC_MISS_MISSES 1 (fieldOf t)).failReq t id rest r 1
    | .leaf _ e => if eSwapped e then (s.add F.SPL_XC_MISS_MISSES 1 (fieldOf t)).failReq t id rest r 2
      else ((s.add F.SPL_XC_MISS_MISSES 1 (fieldOf t)).withSpool (s.spool.xcUse (fieldOf t) id r.sva (eFrame e))).given t r (some (eFrame e)) := by
  rw [walkReq_missed hreqs hx haway hmiss, hup, if_neg Bool.false_ne_true, Option.bind_none, State.spool_add]

end

/-- What a translation given after a counted miss leaves. -/
theorem given_counted {w : State} (hreqs : (s.tile t).spReqs = r :: rest) (htile : ∀ b, w.tile b = s.tile b)
    (hcount : w.get F.SPL_XC_MISS_MISSES (fieldOf t) =
      min (2 ^ F.SPL_XC_MISS_MISSES.w - 1) (s.get F.SPL_XC_MISS_MISSES (fieldOf t) + 1)) (x : Option Nat) :
    (∀ b, b ≠ t → (w.given t r x).tile b = s.tile b) ∧ (w.given t r x).tile t = { s.tile t with spReqs := setXlat r.id x (r :: rest) } ∧
      (w.given t r x).get F.SPL_XC_MISS_MISSES (fieldOf t) =
        min (2 ^ F.SPL_XC_MISS_MISSES.w - 1) (s.get F.SPL_XC_MISS_MISSES (fieldOf t) + 1) := by
  unfold State.given
  refine ⟨fun b hb => (State.tile_setTile_other w hb _).trans (htile b), ?_, ?_⟩
  · rw [State.tile_setTile_same, htile, hreqs]
  · rw [State.get_setTile, hcount]

end

/-! ### Responses -/

theorem takeRsp_none {l : List SpoolRsp} (h : ∀ p ∈ l, p.away ≠ 0) : takeRsp l = none := by
  induction l with
  | nil => rfl
  | cons p l ih =>
    obtain ⟨hp, hl⟩ := List.forall_mem_cons.1 h
    simp [takeRsp, hp, ih hl]

theorem tSpoolIn_idle {t : Tile} (h : ∀ p ∈ t.spOut, p.away ≠ 0) : tSpoolIn t = t := by
  simp only [tSpoolIn, takeRsp_none h]

/-- A response taken in: its request is no longer outstanding (R56). -/
theorem tSpoolIn_arrived {t : Tile} {p : SpoolRsp} {ps : List SpoolRsp} (h : t.spOut = p :: ps) (hp : p.away = 0) :
    tSpoolIn t = { t with spOut := ps, spIn := t.spIn ++ [p], spWrites := (if p.write then t.spWrites - 1 else t.spWrites),
                          spReads := (if p.write then t.spReads else t.spReads - 1) } := by
  simp only [tSpoolIn, h, takeRsp, hp, if_true]
  split <;> rfl

section
variable {t : TileAddr} (h : tileOk t.toNat = true) {s : State}
include h

theorem exec_spoolRead (skein : BitVec 12) (root : BitVec 26) (pos : BitVec 40) (ce : Nat) (ue : List (Fin 64)) :
    exec (.spoolRead t skein root pos ce ue) s = .next (s.spoolRead t.toNat skein.toNat pos.toNat ce (ue.map Fin.val)) :=
  onTile_next h s fun _ => s.spoolRead t.toNat skein.toNat pos.toNat ce (ue.map Fin.val)

theorem exec_translationWalk (skein : BitVec 12) (root : BitVec 26) (ue : Option (Fin 3)) :
    exec (.translationWalk t skein root ue) s = .next (s.walkReq t.toNat skein.toNat root.toNat (ue.map Fin.val)) :=
  onTile_next h s fun _ => s.walkReq t.toNat skein.toNat root.toNat (ue.map Fin.val)

theorem exec_spoolResponse : exec (.spoolResponse t) s = .next (s.setTile t.toNat (tSpoolIn (s.tile t.toNat))) :=
  onTile_next h s fun u => s.setTile t.toNat (tSpoolIn u)

end

end Sys2Proof.Machine
open Sys2Proof Sys2Proof.Machine

/-- Settles O24, by the lemmas above: `forward_effect`, `serveRead_*` on a read at its controller, `walkReq_missed` on a walk, and
`tSpoolIn_arrived` on a response. -/
theorem spoolReadsAndWalks : Obligations.SpoolReadsAndWalks := by
  unfold Obligations.SpoolReadsAndWalks
  intro s t skein root pos r rest hok
  dsimp only
  have hread := fun ue => exec_spoolRead hok (s := s) skein root pos 0 ue
  have hwalk := fun ue => exec_translationWalk hok (s := s) skein root ue
  refine ⟨fun hidle ue => ?_, fun hreqs hwr haway hx ue => ?_, fun f hreqs hwr haway hx => ?_, fun hreqs hx haway => ?_,
    fun p ps hout hp => ?_, fun hnone => ?_⟩
  · exact (hread ue).trans (congrArg _ (spoolRead_idle hidle ..))
  · refine ⟨_, hread ue, ?_⟩
    rw [spoolRead_unmapped hreqs hwr haway hx]
    exact failReq_replied (unitsKept_refl s) 1
  · have hmapped := fun ue => (hread ue).trans (congrArg _ (spoolRead_mapped hreqs hwr haway hx ..))
    refine ⟨fun hfwd ue => ⟨_, hmapped ue, ?_⟩, fun hat hinj => ⟨fun hdown ue => ⟨_, hmapped ue, serveRead_down hat hinj hdown ..⟩, fun hup =>
      ⟨fun i hi => ⟨_, hmapped [i], ?_⟩, fun hdata => ⟨_, hmapped [], serveRead_served hat hinj hup hdata⟩,
        fun hdata => ⟨_, hmapped [], serveRead_faults hat hinj hup hdata⟩⟩⟩⟩
    · rw [serveRead_forward hfwd]
      exact forward_effect hx _
    · obtain ⟨at', heq⟩ := serveRead_line (t := t.toNat) (id := skein.toNat) (rest := rest) hat hinj hup hi pos.toNat
      rw [List.map_singleton, heq]
      exact failReq_ecc (uncorrected_units s) (State.get_add_other _ _ _ _ _ _ (.inl (by decide)))
        (State.get_add_other _ _ _ _ _ _ (.inl (by decide))) at' 7
  · refine ⟨fun hhit ue => (hwalk ue).trans (congrArg _ (walkReq_cached hreqs hx haway hhit _)), fun hmiss => ?_⟩
    have hwalked := walkReq_walked hreqs hx haway hmiss (root := root.toNat)
    have hcount := State.get_add_same s F.SPL_XC_MISS_MISSES 1 (fieldOf t.toNat) (by decide)
    have hunits : unitsKept s (s.add F.SPL_XC_MISS_MISSES 1 (fieldOf t.toNat)) := unitsKept_add ..
    refine ⟨fun hdown ue => ⟨_, hwalk ue, ?_⟩, fun hup => ⟨fun i hi => ⟨_, hwalk (some i), ?_⟩, fun code hw => ⟨_, hwalk none, ?_⟩,
      fun hw => ⟨_, hwalk none, ?_⟩, fun k e hw => ⟨_, hwalk none, ?_⟩⟩⟩
    · rw [walkReq_missed hreqs hx haway hmiss, if_pos hdown]
      exact failReq_replied hunits 7
    · obtain ⟨at', heq⟩ := walkReq_line hreqs hx haway hmiss hup hi
      rw [Option.map_some, heq]
      obtain ⟨hreply, hbit, hcount, -⟩ := failReq_ecc (t := t.toNat) (id := skein.toNat) (rest := rest) (r := r) hunits
        (State.get_add_other _ _ _ _ _ _ (.inl (rkey_ne (by decide) _ _)))
        (State.get_add_other _ _ _ _ _ _ (.inl (rkey_ne (by decide) _ _))) at' 6
      exact ⟨hreply, hbit, hcount⟩
    · rw [Option.map_none, hwalked hup, hw]
      exact failReq_replied hunits code
    · rw [Option.map_none, hwalked hup, hw]
      dsimp only
      by_cases hwr : r.write = true
      · rw [if_pos hwr, if_pos hwr]
        exact given_counted hreqs hunits.1 hcount none
      · rw [if_neg hwr, if_neg hwr]
        exact failReq_replied hunits 1
    · rw [Option.map_none, hwalked hup, hw]
      dsimp only
      by_cases hsw : eSwapped e = true
      · rw [if_pos hsw, if_pos hsw]
        exact failReq_replied hunits 2
      · rw [if_neg hsw, if_neg hsw]
        exact ⟨given_counted hreqs (fun b => (tile_withSpool ..).trans (hunits.1 b)) ((get_withSpool ..).trans hcount) _, xcFind_given ..⟩
  · exact ⟨_, exec_spoolResponse hok, by rw [tSpoolIn_arrived hout hp]; exact tileBecomes_setTile ..⟩
  · exact ⟨_, exec_spoolResponse hok, by rw [tSpoolIn_idle hnone]; exact tileBecomes_setTile ..⟩

end

section
/-!
PROOFS. PASS (R27, R34, R36, R37, R45, R60, R66, R85): what a pass reads does not depend on the accesses noted in the turn; a pass changes its set and
what it takes from the port; the head command is consumed as its kind says.
-/
namespace Sys2Proof.Machine

/-! ### Accesses noted change nothing that a pass reads -/

section
variable (slot : Nat) (lines : List Nat) (wr : Bool) (u : Tile)

theorem tBusyLine_tNote (ls : List Nat) : tBusyLine ls (tNote slot lines wr u) = tBusyLine ls u := rfl

theorem headRead_tNote (c : StreamCmd) : headRead c (tNote slot lines wr u) = headRead c u := rfl

theorem passOf_tNote (dl : Nat) (lane : Option Nat) : passOf dl lane (tNote slot lines wr u) = passOf dl lane u := rfl

theorem tDraining_tNote (set : Nat) : tDraining set (tNote slot lines wr u) = tDraining set u := rfl

theorem headBad_tNote : headBad (tNote slot lines wr u) = headBad u := rfl

theorem replays_tNote (c : StreamCmd) (x : Slice) : replays c x (tNote slot lines wr u) = replays c x u := rfl

theorem withSpecial_tNote (w : PassWork) (base : Nat) : withSpecial w base (tNote slot lines wr u) = tNote slot lines wr (withSpecial w base u) := by
  cases w <;> rfl

theorem passResult_tNote (rep : Bool) (d : PassDesc) (sl : Option Slice) (lane : Option Nat) :
    passResult rep d sl lane (tNote slot lines wr u) = passResult rep d sl lane u := rfl

theorem workMade_tNote (w : PassWork) : workMade w (tNote slot lines wr u) = workMade w u := by
  cases w <;> rfl

/-- A staged row in error adds its poison to the pass (R39). -/
theorem tStagedBad_eq (x : Slice) :
    tStagedBad x u = { u with poison := u.poison || u.staging.any fun y => y.bad && decide (y.row ∈ x.rowList) } := by
  unfold tStagedBad
  cases u.staging.any fun y => y.bad && decide (y.row ∈ x.rowList) with
  | false => rw [if_neg Bool.false_ne_true, Bool.or_false]
  | true =>
    rw [if_pos rfl, Bool.or_true]
    rfl

theorem tStagedBad_tNote (x : Slice) : tStagedBad x (tNote slot lines wr u) = tNote slot lines wr (tStagedBad x u) := by
  rw [tStagedBad_eq, tStagedBad_eq]
  rfl

end

/-! ### What a pass changes -/

/-- The pass of a slice as it is taken: the poison of its staged rows is on it (R39). -/
def passStart (sl : Option Slice) (u : Tile) : Tile := sl.elim u fun x => tStagedBad x u

/-- The set that a pass leaves (R85). -/
def passSet (w : PassWork) (d : PassDesc) (c : StreamCmd) (sl : Option Slice) (lane : Option Nat) (u : Tile) : AccSet :=
  (passResult (sl.elim false fun x => replays c x u) d sl lane (withSpecial w (inputSpan d lane).1 (passStart sl u))).1

/-- A tile after a pass on it: the set named by the descriptor holds `v`; but for the poison, the accesses, the port's buffers and the count of
saturations nothing else differs. -/
def passed (set : Nat) (v : AccSet) (poison : Bool) (u x : Tile) : Prop :=
  ∃ ac sg rp ro rg sr, x = { u with
      acc0 := if set = 0 then v else u.acc0, acc1 := if set = 0 then u.acc1 else v, poison := poison, accesses := ac, staging := sg,
      replay := rp, rowOvr := ro, regs := rg, satRose := sr } ∧
    ∀ f : Fld, f.reg ≠ F.TIL_ARITH_SAT_COUNT.reg → bankGet f 0 rg = bankGet f 0 u.regs

section
variable {u : Tile}

theorem passStart_eq (sl : Option Slice) (u : Tile) : passStart sl u = { u with poison := (passStart sl u).poison } := by
  cases sl with
  | none => rfl
  | some x =>
    unfold passStart
    rw [Option.elim_some, tStagedBad_eq]

theorem passStart_tNote (slot : Nat) (lines : List Nat) (wr : Bool) (sl : Option Slice) (u : Tile) :
    passStart sl (tNote slot lines wr u) = tNote slot lines wr (passStart sl u) := by
  cases sl with
  | none => rfl
  | some x => exact tStagedBad_tNote ..

theorem passSet_tNote (slot : Nat) (lines : List Nat) (wr : Bool) (w : PassWork) (d : PassDesc) (c : StreamCmd) (sl : Option Slice)
    (lane : Option Nat) (u : Tile) : passSet w d c sl lane (tNote slot lines wr u) = passSet w d c sl lane u := by
  unfold passSet
  rw [passStart_tNote, withSpecial_tNote, passResult_tNote]
  cases sl <;> rfl

theorem tPutSet_native {cx : Ctx} (hst : cx.stepping = 0) (d : PassDesc) (v : AccSet) (t : Tile) :
    tPutSet cx d v t = { t with acc0 := if d.set = 0 then v else t.acc0, acc1 := if d.set = 0 then t.acc1 else v } := by
  unfold tPutSet
  rw [if_pos hst]
  by_cases h : d.set = 0
  · rw [if_pos h, if_pos h, if_pos h]
  · rw [if_neg h, if_neg h, if_neg h]

/-- Saturations show in their count alone (R95, R102). -/
theorem tSat_eq (n : Nat) (t : Tile) : ∃ sr, tSat n t = { t with regs := (tAdd F.TIL_ARITH_SAT_COUNT n t).regs, satRose := sr } := ⟨_, rfl⟩

theorem tGet_tSat_other (n : Nat) (t : Tile) {f : Fld} (h : f.reg ≠ F.TIL_ARITH_SAT_COUNT.reg) :
    bankGet f 0 (tAdd F.TIL_ARITH_SAT_COUNT n t).regs = bankGet f 0 t.regs := tGet_tAdd_other n t (.inl h)

/-- A slice taken leaves the port's buffers (R34, R37). -/
theorem tTaken_eq (c : StreamCmd) (x : Slice) (t : Tile) : ∃ sg rp ro, tTaken c x t = { t with staging := sg, replay := rp, rowOvr := ro } := by
  unfold tTaken
  split <;> exact ⟨_, _, _, rfl⟩

/-- The slice taken, if there is one. -/
def optTaken (c : StreamCmd) (sl : Option Slice) (t : Tile) : Tile := sl.elim t fun x => tTaken c x t

theorem optTaken_eq (c : StreamCmd) (sl : Option Slice) (t : Tile) :
    ∃ sg rp ro, optTaken c sl t = { t with staging := sg, replay := rp, rowOvr := ro } := by
  cases sl with
  | none => exact ⟨_, _, _, rfl⟩
  | some x => exact tTaken_eq c x t

/-- After the result is stored, only the count of saturations and the port's buffers change. -/
theorem passed_optTaken {set : Nat} {v : AccSet} {poison : Bool} {ac : List Access} {m : Tile} (n : Nat) (c : StreamCmd) (sl : Option Slice)
    (hm : m = { u with acc0 := if set = 0 then v else u.acc0, acc1 := if set = 0 then u.acc1 else v, poison := poison, accesses := ac }) :
    passed set v poison u (optTaken c sl (tSat n m)) := by
  obtain ⟨sr, hsat⟩ := tSat_eq n m
  obtain ⟨sg, rp, ro, htaken⟩ := optTaken_eq c sl (tSat n m)
  have hregs : m.regs = u.regs := by rw [hm]
  refine ⟨ac, sg, rp, ro, (tAdd F.TIL_ARITH_SAT_COUNT n m).regs, sr, ?_, fun f hf => (tGet_tSat_other n m hf).trans (by rw [hregs])⟩
  rw [htaken, hsat, hm]

theorem passRun_passed {cx : Ctx} (hst : cx.stepping = 0) (w : PassWork) (d : PassDesc) (c : StreamCmd) (sl : Option Slice) (lane : Option Nat)
    (hfree : tBusyLine (spanLines (inputSpan d lane :: specialSpans w)) u = false) :
    passed d.set (passSet w d c sl lane u) (passStart sl u).poison u (passRun cx w d c sl lane u) := by
  have hrun : passRun cx w d c sl lane u =
      let r := passResult (sl.elim false fun x => replays c x u) d sl lane (withSpecial w (inputSpan d lane).1 (passStart sl u))
      optTaken c sl (tSat r.2 (tPutSet cx d r.1 (tNote (2 + d.feed) (dedupNat (spanLines (inputSpan d lane :: specialSpans w))) false (passStart sl u)))) := by
    unfold passRun
    rw [tSettle_free hfree]
    cases sl <;> rfl
  rw [hrun]
  unfold passSet
  generalize passResult (sl.elim false fun x => replays c x u) d sl lane (withSpecial w (inputSpan d lane).1 (passStart sl u)) = r
  dsimp only
  rw [tPutSet_native hst, passStart_eq]
  exact passed_optTaken r.2 c sl rfl

end

/-! ### The head command consumed (R34, R37) -/

theorem popHead_eq (t : Tile) : popHead t = { t with queue := (popHead t).queue } := by
  unfold popHead
  split
  · rfl
  · split <;> rfl

/-- What is left of the queue depends on the queue, on the selection words and on the tables in the scratchpad. -/
theorem popHead_queue {u x : Tile} (hq : x.queue = u.queue) (hs : x.scratch = u.scratch) (hsel : x.sel = u.sel) :
    (popHead x).queue = (popHead u).queue := by
  have hpairs : ∀ line, unionPairs line x = unionPairs line u := fun line => by
    unfold unionPairs selLanes tableCount tNum tBytes
    rw [hs, hsel]
  unfold popHead
  rw [hq]
  cases u.queue with
  | nil => exact hq
  | cons c cs =>
    simp only [hpairs]
    split <;> rfl

/-! ### The outcomes of a MAC pass -/

section
variable {cx : Ctx} {w : PassWork} {dl : Nat} {u : Tile} {c : StreamCmd} {cs : List StreamCmd}

theorem doPass_empty (hq : u.queue = []) : doPass cx w dl u = tWait 5 u := by
  simp only [doPass, hq]

section
variable (hfree : tBusyLine [dl] u = false) (hq : u.queue = c :: cs)
include hfree hq

theorem doPass_wait (hr : headRead c u = .wait) : doPass cx w dl u = tWait 3 u := by
  simp only [doPass, hq, tSettle_free hfree, headRead_tNote, hr]

variable {sl : Option Slice} {lane : Option Nat} (hr : headRead c u = .read sl lane)
include hr

/-- A pass whose stream command delivers (R30, R60, R66). -/
theorem doPass_read : doPass cx w dl u =
    if tDraining (passOf dl lane u).set u then tWait 4 u
    else if headBad u then tNext cx (passRun cx w (passOf dl lane u) c none lane
      (dropHead (tPoison (tSet F.TIL_HAZ_STREAM 1 (tNote 6 [dl] false u)))))
    else tNext cx (popHead (passRun cx w (passOf dl lane u) c sl lane (tNote 6 [dl] false u))) := by
  simp only [doPass, hq, tSettle_free hfree, headRead_tNote, hr, passOf_tNote, tDraining_tNote, headBad_tNote]

theorem doPass_drained (hdrain : tDraining (passOf dl lane u).set u = true) : doPass cx w dl u = tWait 4 u := by
  rw [doPass_read hfree hq hr, if_pos hdrain]

theorem doPass_good (hdrain : tDraining (passOf dl lane u).set u = false) (hgood : headBad u = false) :
    doPass cx w dl u = tNext cx (popHead (passRun cx w (passOf dl lane u) c sl lane (tNote 6 [dl] false u))) := by
  rw [doPass_read hfree hq hr, hdrain, if_neg Bool.false_ne_true, hgood, if_neg Bool.false_ne_true]

theorem doPass_bad (hdrain : tDraining (passOf dl lane u).set u = false) (hbad : headBad u = true) :
    doPass cx w dl u = tNext cx (passRun cx w (passOf dl lane u) c none lane
      (dropHead (tPoison (tSet F.TIL_HAZ_STREAM 1 (tNote 6 [dl] false u))))) := by
  rw [doPass_read hfree hq hr, hdrain, if_neg Bool.false_ne_true, if_pos hbad]

omit hfree in
theorem headLane_read : headLane u = lane := by
  simp only [headLane, hq, hr]

omit hfree in
theorem headBad_read : headBad u = sl.elim false fun x => !x.ok := by
  simp only [headBad, hq, hr]
  cases sl <;> rfl

end
end

/-! ### The fields of a tile that goes on -/

/-- In native mode the sequencer's place and its wait code are all that going on changes. -/
theorem tNext_fields {cx : Ctx} (hst : cx.stepping = 0) {v : Tile} (hd : v.delay = none) :
    let y := tNext cx v
    (y.acc0 = v.acc0 ∧ y.acc1 = v.acc1) ∧ (y.scratch = v.scratch ∧ y.g = v.g) ∧ y.queue = v.queue ∧ y.poison = v.poison ∧
      y.staged = v.staged ∧ y.pc = v.pc + 1 ∧ tGet F.TIL_SEQ_WAIT y = 0 ∧ tGet F.TIL_HAZ_COUNT_COUNT y = tGet F.TIL_HAZ_COUNT_COUNT v := by
  have hframe := tNext_frame hst hd
  have hregs : (tNext cx v).regs = (tWait 0 v).regs := by rw [tNext_native hst hd]
  have hpc : (tNext cx v).pc = v.pc + 1 := by rw [tNext_native hst hd]
  have hwait := (tGet_of_regs hregs F.TIL_SEQ_WAIT).trans (tGet_tWait (by decide) v)
  have hcount := (tGet_of_regs hregs F.TIL_HAZ_COUNT_COUNT).trans (tGet_tSet_other 0 v (.inl (by decide)))
  dsimp only
  generalize tNext cx v = y at hframe hpc hwait hcount
  exact ⟨⟨by rw [hframe], by rw [hframe]⟩, ⟨by rw [hframe], by rw [hframe]⟩, by rw [hframe], by rw [hframe], by rw [hframe], hpc, hwait, hcount⟩

section
variable {set : Nat} {v : AccSet} {p : Bool} {u x : Tile} (h : passed set v p u x)
include h

/-- What a pass leaves. -/
theorem passed_fields : (x.acc0 = (if set = 0 then v else u.acc0) ∧ x.acc1 = if set = 0 then u.acc1 else v) ∧
    (x.scratch = u.scratch ∧ x.g = u.g) ∧ x.queue = u.queue ∧ x.sel = u.sel ∧ x.poison = p ∧ x.pc = u.pc ∧ x.delay = u.delay ∧
    tGet F.TIL_HAZ_COUNT_COUNT x = tGet F.TIL_HAZ_COUNT_COUNT u := by
  obtain ⟨ac, sg, rp, ro, rg, sr, rfl, hregs⟩ := h
  exact ⟨⟨rfl, rfl⟩, ⟨rfl, rfl⟩, rfl, rfl, rfl, rfl, rfl, hregs F.TIL_HAZ_COUNT_COUNT (by decide)⟩

/-- A pass done and its command consumed. -/
theorem passed_goesOn {cx : Ctx} (hst : cx.stepping = 0) (hd : u.delay = none) :
    let y := tNext cx (popHead x)
    (y.acc0 = (if set = 0 then v else u.acc0) ∧ y.acc1 = if set = 0 then u.acc1 else v) ∧ y.queue = (popHead u).queue ∧ y.poison = p ∧
      (y.scratch = u.scratch ∧ y.g = u.g) ∧ y.pc = u.pc + 1 ∧ tGet F.TIL_SEQ_WAIT y = 0 ∧
      tGet F.TIL_HAZ_COUNT_COUNT y = tGet F.TIL_HAZ_COUNT_COUNT u := by
  obtain ⟨⟨hacc0, hacc1⟩, ⟨hscratch, hg⟩, hqueue, hsel, hpoison, hpc, hdelay, hcount⟩ := passed_fields h
  have hpop := popHead_queue hqueue hscratch hsel
  dsimp only
  rw [popHead_eq, hpop]
  obtain ⟨⟨nacc0, nacc1⟩, ⟨nscratch, ng⟩, nqueue, npoison, -, npc, nwait, ncount⟩ :=
    tNext_fields hst (v := { x with queue := (popHead u).queue }) (hdelay.trans hd)
  exact ⟨⟨nacc0.trans hacc0, nacc1.trans hacc1⟩, nqueue, npoison.trans hpoison, ⟨nscratch.trans hscratch, ng.trans hg⟩,
    npc.trans (congrArg (· + 1) hpc), nwait, ncount.trans hcount⟩

end

section
variable {cx : Ctx} (hst : cx.stepping = 0) (w : PassWork) (lines : List Nat) (c : StreamCmd) {u : Tile} {d : PassDesc} {lane : Option Nat}
  (hfree : tBusyLine (spanLines (inputSpan d lane :: specialSpans w)) u = false)
include hst hfree

/-- The pass of a slice, whatever accesses its descriptor's read has noted. -/
theorem passRun_taken (sl : Option Slice) :
    passed d.set (passSet w d c sl lane u) (passStart sl u).poison u (passRun cx w d c sl lane (tNote 6 lines false u)) := by
  have h := passRun_passed hst w d c sl lane (u := tNote 6 lines false u) hfree
  rw [passSet_tNote, passStart_tNote] at h
  exact h

/-- The pass that meets a slice outside the weight rows: its command is skipped whole and the pass is poisoned (R60). -/
theorem passRun_dropped (hd : u.delay = none) :
    let y := tNext cx (passRun cx w d c none lane (dropHead (tPoison (tSet F.TIL_HAZ_STREAM 1 (tNote 6 lines false u)))))
    (y.scratch = u.scratch ∧ y.g = u.g) ∧ y.queue = u.queue.drop 1 ∧ y.poison = true ∧ y.pc = u.pc + 1 := by
  obtain ⟨-, ⟨hscratch, hg⟩, hqueue, -, hpoison, hpc, hdelay, -⟩ :=
    passed_fields (passRun_passed hst w d c none lane (u := dropHead (tPoison (tSet F.TIL_HAZ_STREAM 1 (tNote 6 lines false u)))) hfree)
  obtain ⟨-, ⟨nscratch, ng⟩, nqueue, npoison, -, npc, -, -⟩ := tNext_fields hst (hdelay.trans hd)
  exact ⟨⟨nscratch.trans hscratch, ng.trans hg⟩, nqueue.trans hqueue, npoison.trans hpoison, npc.trans (congrArg (· + 1) hpc)⟩

end

/-! ### The other works of PASS (R206 to R210) -/

/-- Writes staged in a slot, one after another. -/
theorem foldl_tStage (slot : Nat) (ws : List (Nat × List Byte)) (t : Tile) :
    ∃ ac, ws.foldl (fun v x => tStage slot x.1 x.2 v) t =
      { t with staged := t.staged ++ ws.map (fun x => (⟨slot, x.1, x.2⟩ : Staged)), accesses := ac } := by
  induction ws generalizing t with
  | nil => exact ⟨t.accesses, by simp⟩
  | cons x ws ih =>
    obtain ⟨ac, h⟩ := ih (tStage slot x.1 x.2 t)
    refine ⟨ac, ?_⟩
    rw [List.foldl_cons, h, List.map_cons, List.append_cons]
    rfl

/-- A tile after a work of PASS: the writes staged, the poison, the accesses and the count of saturations are all that differs. -/
def worked (m : Made) (u x : Tile) : Prop :=
  ∃ ac rg sr, x = { u with
      staged := u.staged ++ m.writes.map (fun x => (⟨2, x.1, x.2⟩ : Staged)), poison := u.poison || m.bad, accesses := ac, regs := rg,
      satRose := sr } ∧
    ∀ f : Fld, f.reg ≠ F.TIL_ARITH_SAT_COUNT.reg → bankGet f 0 rg = bankGet f 0 u.regs

theorem doWork_made {cx : Ctx} (hst : cx.stepping = 0) {w : PassWork} {u : Tile} (hfree : tBusyLine (spanLines (workSpans w)) u = false) :
    ∃ x, worked (workMade w u) u x ∧ doWork cx w u = tNext cx x := by
  have hwrite : tUnitWrite cx 7 = tStage 2 := by
    funext a bs t
    exact if_pos hst
  refine ⟨_, ?_, rfl⟩
  rw [tSettle_free hfree, workMade_tNote, hwrite]
  generalize workMade w u = m
  have hbad : (if m.bad = true then tPoison (tNote 2 (dedupNat (spanLines (workSpans w))) false u)
      else tNote 2 (dedupNat (spanLines (workSpans w))) false u) =
      { tNote 2 (dedupNat (spanLines (workSpans w))) false u with poison := u.poison || m.bad } := by
    cases m.bad with
    | false => rw [if_neg Bool.false_ne_true, Bool.or_false]; rfl
    | true => rw [if_pos rfl, Bool.or_true]; rfl
  rw [hbad]
  obtain ⟨sr, hsat⟩ := tSat_eq m.sats { tNote 2 (dedupNat (spanLines (workSpans w))) false u with poison := u.poison || m.bad }
  rw [hsat]
  obtain ⟨ac, hstaged⟩ := foldl_tStage 2 m.writes { tNote 2 (dedupNat (spanLines (workSpans w))) false u with
    poison := u.poison || m.bad,
    regs := (tAdd F.TIL_ARITH_SAT_COUNT m.sats { tNote 2 (dedupNat (spanLines (workSpans w))) false u with poison := u.poison || m.bad }).regs,
    satRose := sr }
  exact ⟨ac, _, sr, hstaged, fun f hf => tGet_tSat_other _ _ hf⟩

/-- The work's result on the tile: its writes in MAC-feed slot 0, its poison, the count of its saturations. -/
theorem doWork_fields {cx : Ctx} (hst : cx.stepping = 0) {w : PassWork} {u : Tile} (hd : u.delay = none)
    (hfree : tBusyLine (spanLines (workSpans w)) u = false) :
    let y := doWork cx w u
    y.staged = u.staged ++ (workMade w u).writes.map (fun x => (⟨2, x.1, x.2⟩ : Staged)) ∧ y.poison = (u.poison || (workMade w u).bad) ∧
      (y.acc0 = u.acc0 ∧ y.acc1 = u.acc1) ∧ (y.scratch = u.scratch ∧ y.g = u.g) ∧ y.queue = u.queue ∧ y.pc = u.pc + 1 ∧
      tGet F.TIL_SEQ_WAIT y = 0 ∧ tGet F.TIL_HAZ_COUNT_COUNT y = tGet F.TIL_HAZ_COUNT_COUNT u := by
  obtain ⟨x, hx, hwork⟩ := doWork_made hst hfree
  dsimp only
  rw [hwork]
  obtain ⟨ac, rg, sr, rfl, hregs⟩ := hx
  obtain ⟨hacc, hstays, hqueue, hpoison, hstaged, hpc, hwait, hcount⟩ := tNext_fields hst
    (v := { u with staged := _, poison := _, accesses := ac, regs := rg, satRose := sr }) hd
  exact ⟨hstaged, hpoison, hacc, hstays, hqueue, hpc, hwait, hcount.trans (hregs F.TIL_HAZ_COUNT_COUNT (by decide))⟩

/-! ### PASS as a command -/

/-- What PASS makes of a tile. -/
def passAct (cx : Ctx) (w : PassWork) (dl : Nat) (u : Tile) : Tile := if macWork w then doPass cx w dl u else doWork cx w u

theorem passAct_mac {w : PassWork} (h : macWork w = true) (cx : Ctx) (dl : Nat) (u : Tile) : passAct cx w dl u = doPass cx w dl u := if_pos h

theorem passAct_work {w : PassWork} (h : macWork w = false) (cx : Ctx) (dl : Nat) (u : Tile) : passAct cx w dl u = doWork cx w u := by
  unfold passAct
  rw [h, if_neg Bool.false_ne_true]

/-- The command meets a slice outside the weight rows (R60). -/
def passHaz (w : PassWork) (dl : Nat) (u : Tile) : Bool := macWork w && headBad u && !tDraining (passOf dl (headLane u) u).set u

theorem passOk_mac {w : PassWork} (h : macWork w = true) {dl : Nat} (hdl : dl < 3072) {u : Tile}
    (hspans : spansOk (inputSpan (passOf dl (headLane u) u) (headLane u) :: specialSpans w) = true) : passOk w dl u = true := by
  have hline : decide (dl < spadLines) = true := decide_eq_true hdl
  unfold passOk
  rw [if_pos h, hline, hspans]
  rfl

section
variable {s : State} {t : TileAddr} (hnat : native s t) (hinj : s.injHas 2 t.toNat = false) (a : BitVec 5) {w : PassWork}
include hnat hinj

/-- A PASS that neither faults nor meets a bad slice changes its tile alone. -/
theorem exec_pass_clean (hok : passOk w (tReg a.toNat (s.tile t.toNat)).toNat (s.tile t.toNat) = true)
    (hhaz : passHaz w (tReg a.toNat (s.tile t.toNat)).toNat (s.tile t.toNat) = false) {v : Tile}
    (hact : passAct (s.ctx t.toNat) w (tReg a.toNat (s.tile t.toNat)).toNat (s.tile t.toNat) = v)
    (hcount : tGet F.TIL_HAZ_COUNT_COUNT v = tGet F.TIL_HAZ_COUNT_COUNT (s.tile t.toNat)) :
    exec (.pass t a w []) s = .next (s.setTile t.toNat v) := by
  obtain ⟨htile, hissue, -, -⟩ := hnat
  subst hact
  exact seqMeet_clean (ok := fun _ u => passOk w (tReg a.toNat u).toNat u) (fun u => passFirst w (tReg a.toNat u).toNat u)
    (fun _ u => passHaz w (tReg a.toNat u).toNat u) (fun cx u => passAct cx w (tReg a.toNat u).toNat u) htile hissue hinj hok hhaz hcount

/-- A PASS that does not fault, whatever it meets: its tile. -/
theorem exec_pass_tile (hok : passOk w (tReg a.toNat (s.tile t.toNat)).toNat (s.tile t.toNat) = true) :
    ∃ cx r, cx.stepping = 0 ∧ exec (.pass t a w []) s = .next r ∧
      r.tile t.toNat = passAct cx w (tReg a.toNat (s.tile t.toNat)).toNat (s.tile t.toNat) := by
  obtain ⟨htile, hissue, hst, -⟩ := hnat
  obtain ⟨r, hr, hv⟩ := seqMeet_next (e := []) (ok := fun _ u => passOk w (tReg a.toNat u).toNat u)
    (fun u => passFirst w (tReg a.toNat u).toNat u) (fun _ u => passHaz w (tReg a.toNat u).toNat u)
    (fun cx u => passAct cx w (tReg a.toNat u).toNat u) 0 htile hissue hinj rfl hok
  exact ⟨_, r, hst, hr, hv⟩

/-- A PASS that holds: the wait code is all that changes (R66). -/
theorem pass_waits (hok : passOk w (tReg a.toNat (s.tile t.toNat)).toNat (s.tile t.toNat) = true)
    (hhaz : passHaz w (tReg a.toNat (s.tile t.toNat)).toNat (s.tile t.toNat) = false) {k : Nat} (hk : k < 16)
    (hact : passAct (s.ctx t.toNat) w (tReg a.toNat (s.tile t.toNat)).toNat (s.tile t.toNat) = tWait k (s.tile t.toNat)) :
    answers (.pass t a w []) s fun r => seqAt s r t (s.tile t.toNat).pc k ∧
      ((r.tile t.toNat).acc0 = (s.tile t.toNat).acc0 ∧ (r.tile t.toNat).acc1 = (s.tile t.toNat).acc1) ∧
      ((r.tile t.toNat).scratch = (s.tile t.toNat).scratch ∧ (r.tile t.toNat).g = (s.tile t.toNat).g) ∧
      (r.tile t.toNat).queue = (s.tile t.toNat).queue := by
  refine ⟨_, exec_pass_clean hnat hinj a hok hhaz hact (tGet_tSet_other k _ (.inl (by decide))), seqAt_tWait hk rfl, ?_⟩
  rw [State.tile_setTile_same, tWait_frame]
  exact ⟨⟨rfl, rfl⟩, ⟨rfl, rfl⟩, rfl⟩

end

end Sys2Proof.Machine

open Sys2Proof Sys2Proof.Machine

/-- Settles O6: what PASS does in each case is `doPass_read` and its companions, what a pass leaves is `passed_goesOn`, and what the other works
leave is `doWork_fields`. -/
theorem passes : Obligations.Passes := by
  unfold Obligations.Passes
  intro s t a w hnat hinj
  have hst : s.pat.stepping = 0 := hnat.2.2.1
  have hd : (s.tile t.toNat).delay = none := hnat.2.2.2
  dsimp only
  refine ⟨fun hmac hdl hfree => ⟨fun c cs hq => ⟨fun sl lane hr hspans hin => ?_, fun hr hspans => ?_⟩, fun hq hspans => ?_⟩,
    fun hmac hok hfree => ?_⟩
  · have hlane := headLane_read hq hr
    have hok : passOk w (tReg a.toNat (s.tile t.toNat)).toNat (s.tile t.toNat) = true := passOk_mac hmac hdl (by rw [hlane]; exact hspans)
    refine ⟨fun hdrain => ?_, fun hdrain hslice => ?_, fun x hdrain hx hbad => ?_⟩
    · refine pass_waits hnat hinj a hok (by simp [passHaz, hlane, hdrain]) (by decide) ?_
      rw [passAct_mac hmac, doPass_drained hfree hq hr hdrain]
    · have hgood : headBad (s.tile t.toNat) = false := by
        rw [headBad_read hq hr]
        cases sl with
        | none => rfl
        | some x => rw [Option.elim_some, hslice x rfl, Bool.not_true]
      obtain ⟨hacc, hqueue, hpoison, hstays, hpc, hwait, hcount⟩ :=
        passed_goesOn (cx := s.ctx t.toNat) (passRun_taken (cx := s.ctx t.toNat) hst w [_] c hin sl) hst hd
      refine ⟨_, exec_pass_clean hnat hinj a hok (by simp [passHaz, hgood])
        ((passAct_mac hmac ..).trans (doPass_good hfree hq hr hdrain hgood)) hcount, ?_⟩
      dsimp only
      rw [State.tile_setTile_same]
      exact ⟨hacc.1, hacc.2, hqueue, hpoison, hstays, hpc, hwait, onlyTile_setTile ..⟩
    · have hheadBad : headBad (s.tile t.toNat) = true := by
        rw [headBad_read hq hr, hx, Option.elim_some, hbad, Bool.not_false]
      obtain ⟨cx, r, hcx, hrun, htile⟩ := exec_pass_tile hnat hinj a hok
      refine ⟨r, hrun, ?_⟩
      dsimp only
      rw [htile, passAct_mac hmac, doPass_bad hfree hq hr hdrain hheadBad]
      obtain ⟨hstays, hqueue, hpoison, hpc⟩ := passRun_dropped hcx w _ c hin hd
      exact ⟨hpoison, hqueue.trans (by rw [hq]; rfl), hstays, hpc⟩
  · have hlane : headLane (s.tile t.toNat) = none := by simp only [headLane, hq, hr]
    have hgood : headBad (s.tile t.toNat) = false := by simp only [headBad, hq, hr]
    refine pass_waits hnat hinj a (passOk_mac hmac hdl (by rw [hlane]; exact hspans)) (by simp [passHaz, hgood]) (by decide) ?_
    rw [passAct_mac hmac, doPass_wait hfree hq hr]
  · have hlane : headLane (s.tile t.toNat) = none := by simp only [headLane, hq]
    have hgood : headBad (s.tile t.toNat) = false := by simp only [headBad, hq]
    obtain ⟨r, hrun, hat, hsets, hstays, -⟩ := pass_waits hnat hinj a (passOk_mac hmac hdl (by rw [hlane]; exact hspans)) (by simp [passHaz, hgood])
      (k := 5) (by decide) (by rw [passAct_mac hmac, doPass_empty hq])
    exact ⟨r, hrun, hat, hsets, hstays⟩
  · obtain ⟨hstaged, hpoison, hsets, hstays, hqueue, hpc, hwait, hcount⟩ := doWork_fields (cx := s.ctx t.toNat) hst hd hfree
    refine ⟨_, exec_pass_clean hnat hinj a hok (by simp [passHaz, hmac]) (passAct_work hmac ..) hcount, ?_⟩
    dsimp only
    rw [State.tile_setTile_same]
    exact ⟨hstaged, hpoison, hsets, hstays, hqueue, hpc, hwait, onlyTile_setTile ..⟩

end

section
/-!
SUPPORT. The registers of the pick master (04_picks_and_modes.md): which operations of other units leave the block PCK_ alone, and what a register
reads after it is cleared with others.
-/
namespace Sys2Proof.Machine

/-! ### The block PCK_ -/

/-- Every register of PCK_ reads the same, whatever its index: the block stands at 0xA0000 (R523). -/
structure PckStays (s t : State) : Prop where
  reg : ∀ k, k % 2 ^ 26 / 2 ^ 16 = 10 → bankReg k t.bank = bankReg k s.bank

theorem rkey_mod (a i : Nat) : rkey a i % 2 ^ 26 = a % 2 ^ 26 := by rw [rkey, Nat.mul_add_mod_self_right]

namespace PckStays
variable {s t u : State}

theorem refl (s : State) : PckStays s s := ⟨fun _ _ => rfl⟩

theorem trans (h : PckStays s t) (h' : PckStays t u) : PckStays s u := ⟨fun k hk => (h'.reg k hk).trans (h.reg k hk)⟩

theorem of_bank (h : t.bank = s.bank) : PckStays s t := ⟨fun k _ => by rw [h]⟩

theorem of_sameRegs {ks : List Nat} (h : sameRegs s t ks) (hks : ∀ k ∈ ks, k % 2 ^ 26 / 2 ^ 16 ≠ 10) : PckStays s t :=
  ⟨fun k hk => h k fun hm => hks k hm hk⟩

/-- A field of another block set after what leaves PCK_ alone. -/
theorem set (h : PckStays s t) {f : Fld} (hf : f.reg % 2 ^ 26 / 2 ^ 16 ≠ 10) (v i : Nat) : PckStays s (t.set f v i) :=
  h.trans (of_sameRegs (onlyRegs_set t f v i List.mem_cons_self).2 (by
    rw [List.forall_mem_singleton, rkey_mod]
    exact hf))

theorem get (h : PckStays s t) {f : Fld} (hf : f.reg % 2 ^ 26 / 2 ^ 16 = 10) (i : Nat) : t.get f i = s.get f i :=
  congrArg (fldOf f) (h.reg _ ((congrArg (· / 2 ^ 16) (rkey_mod f.reg i)).trans hf))

end PckStays

/-! ### Registers cleared together -/

theorem smGet_filter_key {α : Type} (d : α) (p : Nat → Bool) (k : Nat) (m : SMap α) :
    smGet d k (m.filter fun kv => p kv.1) = if p k then smGet d k m else d := by
  induction m with
  | nil => simp
  | cons q m ih =>
    obtain ⟨j, v⟩ := q
    by_cases hj : j = k
    · subst hj
      cases hp : p j <;> simp [hp, smGet, ih]
    · cases hp : p j <;> simp [hp, smGet, hj, ih]

theorem bankReg_bankClear (as : List Nat) (k : Nat) (b : SMap Word) :
    bankReg k (bankClear as b) = if k % 2 ^ 26 ∈ as then regReset k else bankReg k b := by
  have h := smGet_filter_key (regReset k) (fun k => decide (k % 2 ^ 26 ∉ as)) k b
  unfold bankReg bankClear
  rw [h]
  by_cases hk : k % 2 ^ 26 ∈ as
  · rw [if_pos hk, if_neg (by simpa using hk)]
  · rw [if_neg hk, if_pos (by simpa using hk)]

/-- The registers at some addresses take their reset values, and no other register changes. -/
theorem bankClear_regs {s t : State} {as : List Nat} (h : t.bank = bankClear as s.bank) :
    (∀ k, k % 2 ^ 26 ∉ as → bankReg k t.bank = bankReg k s.bank) ∧
      ∀ (f : Fld) (i : Nat), f.reg % 2 ^ 26 ∈ as → t.get f i = fldOf f (regReset (rkey f.reg i)) := by
  refine ⟨fun k hk => ?_, fun f i hf => ?_⟩
  · rw [h, bankReg_bankClear, if_neg hk]
  · unfold State.get bankGet
    rw [h, bankReg_bankClear, if_pos (by rwa [rkey_mod])]

/-- A register of PCK_ resets to the same word whatever its index. -/
theorem regReset_pck {a : Nat} (h : a / 2 ^ 16 = 10) (i : Nat) : regReset (rkey a i) = regReset a := by
  have hset : R.VPA_VL_SETPT + 28 ≤ 10 * 2 ^ 16 := by decide
  have hport : R.HLS_PORT_STAT < 10 * 2 ^ 16 := by decide
  have hv : ¬ (R.VPA_VL_SETPT ≤ a ∧ a < R.VPA_VL_SETPT + 28) := by omega
  have hp : a ≠ R.HLS_PORT_STAT := by omega
  unfold regReset
  dsimp only
  rw [rkey_mod, Nat.mod_eq_of_lt (show a < 2 ^ 26 by omega), if_neg hv, if_neg hv, if_neg hp, if_neg hp]

end Sys2Proof.Machine
end

section
/-!
PROOFS. The state after power-on reset (R143, R375, R506) and the empty queue (log entry 12).
-/
namespace Sys2Proof.Machine

theorem step_empty {s : State} (h : s.pending = []) : step s = .next s.tick := by
  unfold step
  rw [h]

end Sys2Proof.Machine

open Sys2Proof Sys2Proof.Machine

/-- Settles O58: every clause reads the state right after reset, whose bank lists nothing; the empty queue is `step_empty`. -/
theorem stateAfterReset : Obligations.StateAfterReset := by
  unfold Obligations.StateAfterReset
  refine ⟨fun _ => rfl, rfl, rfl, rfl, fun _ => rfl, ⟨rfl, rfl⟩, ?_⟩
  exact ⟨by decide, by decide, by decide, by decide, by decide, by decide, by decide, by decide, by decide, by decide, by decide, by decide,
    by decide, by decide, by decide, fun s hs => step_empty hs⟩

end

section
/-!
PROOFS. The pick master begins and ends picks (R111, R112, R142, R179): what a launched strobe leaves of the state, how far the reed's part of RUN
and HALT reaches, and what HALT discards.
-/
namespace Sys2Proof.Machine

/-! ### The reed's part -/

/-- Nothing but the entries of skeins, the index of R263, registers outside PCK_ and what goes to the host differs. -/
structure ReedQuiet (s t : State) : Prop where
  rest : t = { s with bank := t.bank, reed := { s.reed with skeins := t.reed.skeins, prefixIdx := t.reed.prefixIdx },
                      host := t.host, out := t.out, bcn := t.bcn }
  pck : PckStays s t

theorem ReedQuiet.refl (s : State) : ReedQuiet s s := ⟨rfl, .refl s⟩

theorem ReedQuiet.trans {s t u : State} (h : ReedQuiet s t) (h' : ReedQuiet t u) : ReedQuiet s u := by
  refine ⟨?_, h.pck.trans h'.pck⟩
  rw [h'.rest, h.rest]

theorem ReedQuiet.foldl {α : Type} {f : State → α → State} (l : List α) (h : ∀ u, ∀ x ∈ l, ReedQuiet u (f u x)) (s : State) :
    ReedQuiet s (l.foldl f s) :=
  l.foldlRecOn f (refl s) fun u hu x hx => hu.trans (h u x hx)

theorem EntriesMove.reedQuiet {s t : State} (h : EntriesMove s t) : ReedQuiet s t := ⟨h.rest, .of_sameRegs h.regs (by decide)⟩

section
variable {s t : State} (h : ReedQuiet s t)
include h

theorem ReedQuiet.pm : t.pm = s.pm := by rw [h.rest]
theorem ReedQuiet.weft : t.weft = s.weft := by rw [h.rest]
theorem ReedQuiet.nvw : t.nvw = s.nvw := by rw [h.rest]
theorem ReedQuiet.spool : t.spool = s.spool := by rw [h.rest]
theorem ReedQuiet.lanes : t.reed.lanes = s.reed.lanes := by rw [h.rest]

end

section
variable (s : State)

theorem reedQuiet_set {f : Fld} (v i : Nat) (h : f.reg % 2 ^ 26 / 2 ^ 16 ≠ 10) : ReedQuiet s (s.set f v i) :=
  ⟨by cases s; rfl, (PckStays.refl s).set h v i⟩

theorem reedQuiet_partSettle {p : Nat} (hp : p < 8) : ReedQuiet s (s.partSettle p) := by
  unfold State.partSettle
  split
  · have hreg : ∀ f : Fld, f.reg = R.SKN_PART_STAT → f.stride = 8 → (f.nth p).reg % 2 ^ 26 / 2 ^ 16 ≠ 10 := fun f hr hs => by
      simp only [Fld.nth, hr, hs, R.SKN_PART_STAT]
      omega
    exact ((reedQuiet_set _ _ _ (hreg _ rfl rfl)).trans (reedQuiet_set _ _ _ (hreg _ rfl rfl))).trans (entriesMove_event ..).reedQuiet
  · exact .refl s

theorem reedQuiet_settle : ReedQuiet s s.settle :=
  (ReedQuiet.foldl _ (fun u id _ => (entriesMove_settleSk u id).reedQuiet) s).trans
    (ReedQuiet.foldl _ (fun u _ hp => reedQuiet_partSettle u (by have := mem_rangeFrom.mp hp; omega)) _)

theorem entriesMove_pendPark (id : Nat) : EntriesMove s (s.pendPark id) := by
  unfold State.pendPark
  dsimp only
  split
  · exact (entriesMove_setSk ..).trans (entriesMove_settleSk ..)
  · exact .refl s

theorem reedQuiet_parkExcess : ReedQuiet s s.parkExcess := ReedQuiet.foldl _ (fun u id _ => (entriesMove_pendPark u id).reedQuiet) s

end

/-! ### The strobe (R111, R112) -/

section
variable (s : State)

@[simp] theorem held_launch : s.launch.held = [] := rfl
@[simp] theorem get_launch (f : Fld) (i : Nat) : s.launch.get f i = s.get f i := rfl
@[simp] theorem pickState_launch : s.launch.pickState = s.pickState := rfl
@[simp] theorem pick_launch : s.launch.pm.pick = s.nextPick := rfl
@[simp] theorem strobed_launch : s.launch.pm.strobed = true := rfl
@[simp] theorem running_launch : s.launch.pm.running = true := rfl
@[simp] theorem allDone_launch : s.launch.pm.allDone = false := rfl
@[simp] theorem chainChange_launch : s.launch.pm.chainChange = s.pm.chainChange := rfl

theorem nextPick_of_pm {s t : State} (hp : t.pm.pick = s.pm.pick) (hs : t.pm.strobed = s.pm.strobed) : t.nextPick = s.nextPick := by
  unfold State.nextPick
  rw [hp, hs]

end

/-! ### RUN (R142, R182, R231) -/

/-- Neither PCK_ nor the pick master changes. -/
def pickStands (s t : State) : Prop := PckStays s t ∧ t.pm = s.pm

theorem pickStands.set {s t : State} (h : pickStands s t) {f : Fld} (hf : f.reg % 2 ^ 26 / 2 ^ 16 ≠ 10) (v i : Nat) :
    pickStands s (t.set f v i) := ⟨h.1.set hf v i, (t.pm_set f v i).trans h.2⟩

theorem pickStands_wftSwatchEnd (s : State) (result errs : Nat) (first : Option Nat) : pickStands s (s.wftSwatchEnd result errs first) := by
  have hweft : pickStands s { s with weft := s.weft.swatchEnd } := ⟨.of_bank rfl, rfl⟩
  have hended := ((hweft.set (f := F.WFT_SWATCH_STAT_RESULT) (by decide) result 0).set (f := F.WFT_SWATCH_STAT_ERR_FLITS) (by decide)
    (min errs (2 ^ 28 - 1)) 0).set (f := F.WFT_STATUS_SWATCH_DONE) (by decide) 1 0
  cases first with
  | none => exact hended
  | some c => exact (hended.set (f := F.WFT_SWATCH_CH_CH) (by decide) c 0).set (f := F.WFT_SWATCH_CH_VALID) (by decide) 1 0

theorem pickStands_splSwatchEnd (s : State) (result errs : Nat) : pickStands s (s.splSwatchEnd result errs) := by
  have hspool : pickStands s { s with spool := { s.spool with swatch := none } } := ⟨.of_bank rfl, rfl⟩
  unfold State.splSwatchEnd
  split
  · exact ⟨.refl s, rfl⟩
  · refine ((pickStands.set ?_ ?_ _ _).set ?_ _ _).set ?_ _ _
    · dsimp only
      split
      · exact hspool.set (by decide) _ _
      · exact hspool
    all_goals decide

theorem pickStands_abortTests (s : State) : pickStands s s.abortTests := by
  have hweft : pickStands s (if s.weft.swatch.isSome then s.wftSwatchEnd 7 0 none else s) := by
    split
    · exact pickStands_wftSwatchEnd ..
    · exact ⟨.refl s, rfl⟩
  unfold State.abortTests
  generalize (if s.weft.swatch.isSome then s.wftSwatchEnd 7 0 none else s) = u at hweft ⊢
  obtain ⟨hpck, hpm⟩ := hweft
  dsimp only
  split
  · obtain ⟨hpck', hpm'⟩ := pickStands_splSwatchEnd u 7 0
    exact ⟨hpck.trans hpck', hpm'.trans hpm⟩
  · exact ⟨hpck, hpm⟩

theorem vmTripped_iff (s : State) : s.vmTripped = false ↔ ∀ q : Fin 4, s.get F.VPA_DOM_STAT_STATE (48 + q.val) ≠ 6 := by
  unfold State.vmTripped
  rw [List.any_eq_false]
  constructor
  · intro h q
    simpa using h (48 + q.val) (mem_rangeFrom.mpr (by omega))
  · intro h d hd
    obtain ⟨hl, hu⟩ := mem_rangeFrom.mp hd
    have hq := h ⟨d - 48, by omega⟩
    rw [show 48 + (d - 48) = d by omega] at hq
    simpa using hq

theorem runOk_iff (s : State) : s.runOk = true ↔ s.pickState = 0 ∧ s.get F.WRP_STATUS_LOADED = 1 ∧ s.get F.SNT_STATUS_REF_VALID = 1 ∧
    (∀ q : Fin 4, s.get F.VPA_DOM_STAT_STATE (48 + q.val) ≠ 6) ∧ s.nvw.hold = false := by
  rw [← vmTripped_iff]
  simp [State.runOk, and_assoc]

/-- RUN taken: the state of the pick master, and the next pick number (R111, R142). -/
theorem run_launches (s : State) :
    let t := (s.set F.PCK_STATUS_STATE 1).abortTests.parkExcess.launch
    t.pickState = 1 ∧ t.pm.running = true ∧ t.pm.strobed = true ∧ t.pm.allDone = false ∧ t.held = [] ∧ t.pm.pick = s.nextPick := by
  obtain ⟨hpck, hpm⟩ := pickStands_abortTests (s.set F.PCK_STATUS_STATE 1)
  have hquiet := reedQuiet_parkExcess (s.set F.PCK_STATUS_STATE 1).abortTests
  have hstate := ((hpck.trans hquiet.pck).get (f := F.PCK_STATUS_STATE) (by decide) 0).trans
    (s.get_set_same F.PCK_STATUS_STATE 1 0 (by decide))
  have hpick := hquiet.pm.trans (hpm.trans (s.pm_set _ _ _))
  exact ⟨(pickState_launch _).trans hstate, running_launch _, strobed_launch _, allDone_launch _, held_launch _,
    (pick_launch _).trans (nextPick_of_pm (congrArg _ hpick) (congrArg _ hpick))⟩

/-! ### HALT (R142, R179, R247) -/

theorem bufs_halt (w : Weft) (k : Nat) : smGet [] k w.halt.bufs = if 2 ≤ k % 4 then smGet [] k w.bufs else [] := by
  have h := smGet_filter_key ([] : List Shuttle) (fun k => decide (2 ≤ k % 4)) k w.bufs
  simp only [decide_eq_true_eq] at h
  exact h

/-- HALT up to the point where skeins that wait for lanes to leave the ring do so (R247). -/
def State.haltedRing (s : State) : State :=
  let s1 := s.set F.PCK_STATUS_STATE 4
  let s2 := { s1 with
    pm := { s1.pm with
      running := false, allDone := false, drainStop := false, drainTarget := none, drainHost := false, strobeAt := [], unfired := [],
      hostStep := none, causes := 0, chainChange := none, chainFull := false, chainHeld := false }
    host := { s1.host with chainBuf := [] }
    weft := s1.weft.halt
    inj := s1.inj.filter fun j => decide (j.kind ≠ 6) }
  let s3 := (s2.onTiles fun _ t => tileHalt t).clearLanes
  { s3 with reed := { s3.reed with skeins := (s3.reed.skeins.map fun (kv : Nat × Skein) =>
    if inRing kv.2.state = true then (kv.1, { kv.2 with next := kv.2.committed, resumed := true, slot := 16383 }) else kv) } }

theorem haltPick_eq (s : State) : s.haltPick = s.haltedRing.settle := rfl

/-- Of PCK_ a HALT writes the state alone. -/
theorem haltPick_pck (s : State) : PckStays (s.set F.PCK_STATUS_STATE 4) s.haltPick := by
  rw [haltPick_eq]
  exact (PckStays.of_bank (s := s.set F.PCK_STATUS_STATE 4) (t := s.haltedRing) rfl).trans (reedQuiet_settle s.haltedRing).pck

theorem haltPick_ends (s : State) :
    s.haltPick.pickState = 4 ∧ s.haltPick.pm.running = false ∧ s.haltPick.pm.causes = 0 ∧ s.haltPick.reed.lanes = [] ∧
      s.haltPick.weft = s.weft.halt ∧ s.haltPick.spool = s.spool ∧ s.haltPick.nvw = s.nvw := by
  have hstate := ((haltPick_pck s).get (f := F.PCK_STATUS_STATE) (by decide) 0).trans (s.get_set_same _ 4 0 (by decide))
  have hquiet := reedQuiet_settle s.haltedRing
  rw [← haltPick_eq] at hquiet
  exact ⟨hstate, congrArg PickMaster.running hquiet.pm, congrArg PickMaster.causes hquiet.pm, hquiet.lanes, hquiet.weft, hquiet.spool, hquiet.nvw⟩

end Sys2Proof.Machine
end

section
/-!
PROOFS. The statistics and the arithmetic counts cleared (R105, R146), and the clauses of PickMasterRunAndHalt.
-/
namespace Sys2Proof.Machine

/-- CLR_ALL reaches the counts of a position and every word of the map (R105). -/
theorem clrAll_clears (s : State) :
    (∀ k, k % 2 ^ 26 ∉ arithRegs → bankReg k s.clrAll.bank = bankReg k s.bank) ∧
      ∀ p, s.clrAll.get F.PCK_ARITH_CLAMP_CLAMP_PICKS p = 0 ∧ s.clrAll.get F.PCK_ARITH_SAT_SAT_PICKS p = 0 ∧
        ∀ n, n < 5 → s.clrAll.get (F.PCK_ARITH_MAP_POS_BITS.nth n) = 0 := by
  obtain ⟨hothers, hcleared⟩ := bankClear_regs (s := s) (t := s.clrAll) rfl
  have hat : ∀ (f : Fld) (i : Nat), f.reg % 2 ^ 26 ∈ arithRegs → f.reg / 2 ^ 16 = 10 → fldOf f (regReset f.reg) = 0 → s.clrAll.get f i = 0 :=
    fun f i hf hp hz => by rw [hcleared f i hf, regReset_pck hp, hz]
  have hmap : ∀ n < 5, (F.PCK_ARITH_MAP_POS_BITS.nth n).reg % 2 ^ 26 ∈ arithRegs ∧ (F.PCK_ARITH_MAP_POS_BITS.nth n).reg / 2 ^ 16 = 10 ∧
      fldOf (F.PCK_ARITH_MAP_POS_BITS.nth n) (regReset (F.PCK_ARITH_MAP_POS_BITS.nth n).reg) = 0 := by decide
  refine ⟨hothers, fun p => ⟨hat _ p (by decide) (by decide) (by decide), hat _ p (by decide) (by decide) (by decide), fun n hn => ?_⟩⟩
  obtain ⟨hf, hp, hz⟩ := hmap n hn
  exact hat _ 0 hf hp hz

theorem clrStats_clears (s : State) :
    (∀ k, k % 2 ^ 26 ∉ [R.PCK_LAST_CY, R.PCK_MAX_CY, R.PCK_LATE_COUNT, R.PCK_STEP_COUNT] → bankReg k s.clrStats.bank = bankReg k s.bank) ∧
      s.clrStats.get F.PCK_LAST_CY_LAST = 0 ∧ s.clrStats.get F.PCK_MAX_CY_MAX = 0 ∧ s.clrStats.get F.PCK_LATE_COUNT_LATE = 0 ∧
      s.clrStats.get F.PCK_STEP_COUNT_STEPS = 0 := by
  obtain ⟨hothers, hcleared⟩ := bankClear_regs (s := s) (t := s.clrStats) rfl
  exact ⟨hothers, (hcleared F.PCK_LAST_CY_LAST 0 (by decide)).trans (by decide), (hcleared F.PCK_MAX_CY_MAX 0 (by decide)).trans (by decide),
    (hcleared F.PCK_LATE_COUNT_LATE 0 (by decide)).trans (by decide), (hcleared F.PCK_STEP_COUNT_STEPS 0 (by decide)).trans (by decide)⟩

/-- A bit of a register of 32 bits cleared. -/
theorem bitAt_get_cleared (s : State) {f : Fld} (hlo : f.lo = 0) (hw : f.w = 32) (x n : Nat) :
    bitAt ((s.set f (bitsPut x n 1 0)).get f) n = false := by
  rw [State.get_set_same _ _ _ _ (by omega), hw, bitAt, Nat.testBit_mod_two_pow, testBit_bitsPut]
  simp

/-- CLR_SEL reaches the counts of its position and one bit of the map (R105). -/
theorem clrPos_clears (s : State) {p : Nat} (hp : p ≤ 129) :
    onlyRegs s (s.clrPos p) [rkey R.PCK_ARITH_CLAMP p, rkey R.PCK_ARITH_SAT p, rkey R.PCK_ARITH_FIRST p, R.PCK_ARITH_MAP + 4 * (p / 32)] ∧
      (s.clrPos p).get F.PCK_ARITH_CLAMP_CLAMP_PICKS p = 0 ∧ (s.clrPos p).get F.PCK_ARITH_SAT_SAT_PICKS p = 0 ∧
      bitAt ((s.clrPos p).get (F.PCK_ARITH_MAP_POS_BITS.nth (p / 32))) (p % 32) = false := by
  have hmap : ∀ n < 5, (F.PCK_ARITH_MAP_POS_BITS.nth n).reg % 2 ^ 26 ≠ R.PCK_ARITH_CLAMP % 2 ^ 26 ∧
      (F.PCK_ARITH_MAP_POS_BITS.nth n).reg % 2 ^ 26 ≠ R.PCK_ARITH_SAT % 2 ^ 26 := by decide
  obtain ⟨hclamp, hsat⟩ := hmap (p / 32) (by omega)
  unfold State.clrPos
  rw [if_neg (by omega)]
  dsimp only
  refine ⟨?_, ?_, ?_, bitAt_get_cleared _ rfl rfl _ _⟩
  · refine onlyRegs_trans (onlyRegs_trans (onlyRegs_trans (onlyRegs_set _ _ _ _ ?_) (onlyRegs_set _ _ _ _ ?_)) (onlyRegs_set _ _ _ _ ?_))
      (onlyRegs_set _ _ _ _ ?_)
    · exact List.mem_cons_self
    · exact List.mem_cons_of_mem _ List.mem_cons_self
    · exact List.mem_cons_of_mem _ (List.mem_cons_of_mem _ List.mem_cons_self)
    · rw [rkey_zero]
      exact List.mem_cons_of_mem _ (List.mem_cons_of_mem _ (List.mem_cons_of_mem _ List.mem_cons_self))
  · rw [State.get_set_other _ _ _ _ _ _ (.inl (rkey_ne hclamp.symm _ _)), State.get_set_other _ _ _ _ _ _ (.inl (rkey_ne (by decide) _ _)),
      State.get_set_other _ _ _ _ _ _ (.inl (rkey_ne (by decide) _ _)), State.get_set_same _ _ _ _ (by decide)]
    rfl
  · rw [State.get_set_other _ _ _ _ _ _ (.inl (rkey_ne hsat.symm _ _)), State.get_set_other _ _ _ _ _ _ (.inl (rkey_ne (by decide) _ _)),
      State.get_set_same _ _ _ _ (by decide)]
    rfl

theorem latch_latchPick (s : State) :
    s.latchPick.latch = smSet none R.PCK_PICK_HI (some (BitVec.ofNat 32 (s.pm.pick / 2 ^ 32))) s.latch := rfl

end Sys2Proof.Machine

open Sys2Proof Sys2Proof.Machine

/-- Settles O13: RUN is `run_launches`, HALT is `haltPick_ends`, and the clears are `clrStats_clears`, `clrAll_clears` and `clrPos_clears`. -/
theorem pickMasterRunAndHalt : Obligations.PickMasterRunAndHalt := by
  unfold Obligations.PickMasterRunAndHalt
  intro s
  refine ⟨answers_update_if rfl (runOk_iff s) fun _ => run_launches s, answers_update_if rfl Iff.rfl fun _ => ?_,
    answers_update_if rfl Iff.rfl fun _ => ?_, ⟨_, rfl, ?_⟩, ⟨_, rfl, rfl, clrStats_clears s⟩, ⟨_, rfl, rfl, clrAll_clears s⟩, ⟨_, rfl, ?_⟩,
    ⟨_, rfl, rfl, ?_, fun k hk => ?_⟩⟩
  · exact setsFld_set s F.PCK_STATUS_STATE 0 0 (by decide) (by decide)
  · obtain ⟨hstate, hrun, hcauses, hlanes, hweft, hspool, hnvw⟩ := haltPick_ends s
    refine ⟨hstate, hrun, hcauses, hlanes, fun k hk => ?_, fun k hk => ?_, congrArg Spool.frames hspool, hnvw⟩
    · rw [hweft, bufs_halt, if_neg (by omega)]
    · rw [hweft, bufs_halt, if_pos hk]
  · exact setsFld_set s F.PCK_STATUS_FLOOR 0 0 (by decide) (by decide)
  · dsimp only
    split
    · next hp => exact clrPos_clears s hp
    · next hp => exact if_pos (by omega)
  · rw [latch_latchPick, smGet_smSet_same]
  · rw [latch_latchPick, smGet_smSet_other _ _ hk]

end

section
/-!
SUPPORT. Settings and steps of the pick master (R112, R128 to R130, R147, R151): what putting a setting in force and taking a step write, and what
they leave alone.
-/
namespace Sys2Proof.Machine

section
variable (s : State) {f g : Fld}

theorem get_of_bank {s t : State} (h : t.bank = s.bank) (f : Fld) (i : Nat) : t.get f i = s.get f i := congrArg (bankGet f i) h

theorem onlyBank_set (f : Fld) (v i : Nat) : onlyBank s (s.set f v i) := by
  cases s
  rfl

theorem get_set_apart (h : fldsApart f g) (v : Nat) : (s.set f v).get g = s.get g :=
  State.get_set_other _ _ _ _ _ _ (by rwa [rkey_zero, rkey_zero])

theorem get_add_apart (h : fldsApart f g) (n : Nat) : (s.add f n).get g = s.get g :=
  State.get_add_other _ _ _ _ _ _ (by rwa [rkey_zero, rkey_zero])

end

/-! ### A setting put in force (R112, R147) -/

section
variable (s : State) (m l : Nat)

/-- The fields that show the setting in force. -/
def settingFlds : List Fld := [F.PCK_STATUS_MODE, F.PCK_STATUS_LEVEL, F.PCK_NOMINAL_CY_NOM, F.PCK_MIN_CY_MIN]

theorem bank_applySetting : (s.applySetting m l).bank =
    ((((s.set F.PCK_STATUS_MODE m).set F.PCK_STATUS_LEVEL l).set F.PCK_NOMINAL_CY_NOM (nomOf m l)).set F.PCK_MIN_CY_MIN (minOf m l)).bank := rfl

theorem pm_applySetting : (s.applySetting m l).pm = { s.pm with flush := s.flushFor m l } := by
  unfold State.applySetting
  simp only [State.pm_set]

theorem applySetting_shows : (s.applySetting m l).mode = m % 4 ∧ (s.applySetting m l).level = l % 8 ∧
    (s.applySetting m l).get F.PCK_NOMINAL_CY_NOM = nomOf m l % 2 ^ 16 ∧ (s.applySetting m l).get F.PCK_MIN_CY_MIN = minOf m l % 2 ^ 16 := by
  unfold State.mode State.level
  simp only [get_of_bank (bank_applySetting s m l)]
  refine ⟨?_, ?_, ?_, ?_⟩ <;> simp (disch := decide) only [get_set_apart, State.get_set_same] <;> rfl

theorem get_applySetting {g : Fld} (h : ∀ f ∈ settingFlds, fldsApart f g) : (s.applySetting m l).get g = s.get g := by
  simp only [settingFlds, List.forall_mem_cons] at h
  obtain ⟨hmode, hlevel, hnom, hmin, -⟩ := h
  rw [get_of_bank (bank_applySetting s m l), get_set_apart _ hmin, get_set_apart _ hnom, get_set_apart _ hlevel, get_set_apart _ hmode]

theorem get_noteChange (causes pick : Nat) {g : Fld} (h : fldsApart F.PCK_MODE_STAT_CAUSES g) (h' : fldsApart F.PCK_MODE_STAT_PICK_LSB g) :
    (s.noteChange causes pick).get g = s.get g := by
  unfold State.noteChange
  rw [get_set_apart _ h', get_set_apart _ h]

/-- Nominal and minimum pick of a setting of the ladder fit their registers (R124, R147). -/
theorem nomOf_lt {m l : Nat} (h : l ≤ 4) : nomOf m l < 2 ^ 16 ∧ minOf m l < 2 ^ 16 := by
  unfold nomOf minOf
  constructor <;> split_ifs <;> omega

end

/-! ### A step taken (R129) -/

section
variable (s : State) (m l causes pick : Nat)

/-- The registers that a step writes beside the setting's and RESULT. -/
def State.stepNoted (s : State) (m l causes pick : Nat) : State :=
  (((s.applySetting m l).noteChange causes pick).set F.PCK_LAG_CY_LAG 0).add F.PCK_STEP_COUNT_STEPS 1

theorem bank_takeStep : (s.takeStep m l causes pick).bank =
    if bitAt causes 0 = true ∨ s.pm.hostStep = some (m, l) then ((s.stepNoted m l causes pick).set F.PCK_MODE_STAT_RESULT 1).bank
    else (s.stepNoted m l causes pick).bank := by
  unfold State.takeStep
  dsimp only
  split <;> simp only [State.bank_set, State.stepNoted]

theorem get_takeStep {g : Fld} (h : fldsApart F.PCK_MODE_STAT_RESULT g) :
    (s.takeStep m l causes pick).get g = (s.stepNoted m l causes pick).get g := by
  have hb := bank_takeStep s m l causes pick
  split at hb
  · exact (get_of_bank hb g 0).trans (get_set_apart _ h 1)
  · exact get_of_bank hb g 0

theorem pm_takeStep : (s.takeStep m l causes pick).pm = { s.pm with flush := s.flushFor m l, causes := 0, hostStep := none } := by
  unfold State.takeStep State.noteChange
  dsimp only
  split <;> simp only [State.pm_set, State.pm_add, pm_applySetting]

theorem takeStep_shows :
    let t := s.takeStep m l causes pick
    t.mode = m % 4 ∧ t.level = l % 8 ∧ t.get F.PCK_LAG_CY_LAG = 0 ∧ t.get F.PCK_NOMINAL_CY_NOM = nomOf m l % 2 ^ 16 ∧
      t.get F.PCK_MIN_CY_MIN = minOf m l % 2 ^ 16 ∧
      t.get F.PCK_STEP_COUNT_STEPS = min (2 ^ F.PCK_STEP_COUNT_STEPS.w - 1) (s.get F.PCK_STEP_COUNT_STEPS + 1) := by
  dsimp only
  obtain ⟨hmode, hlevel, hnom, hmin⟩ := applySetting_shows s m l
  unfold State.mode State.level at *
  refine ⟨?_, ?_, ?_, ?_, ?_, ?_⟩ <;> rw [get_takeStep _ _ _ _ _ (by decide), State.stepNoted] <;>
    simp (disch := decide) only [get_add_apart, get_set_apart, State.get_add_same, State.get_set_same, get_noteChange, get_applySetting]
  · exact hmode
  · exact hlevel
  · rfl
  · exact hnom
  · exact hmin

end

end Sys2Proof.Machine
end

section
/-!
PROOFS. Chains of devices (R123, R138 to R140, R403, R404): what a TIMING transaction writes at a follower and at the head, what becomes of a
handoff, and a change that takes effect between the picks.
-/
namespace Sys2Proof.Machine

/-! ### A strobe held (R139) -/

section
variable (s : State) (full : Bool)

theorem bank_chainHold_false : (s.chainHold false).bank = s.bank := by
  unfold State.chainHold
  rw [if_neg Bool.false_ne_true]

theorem bank_chainHold_true : (s.chainHold true).bank = (s.set F.PCK_SKEW_MAX_EXCEEDED 1).bank := by
  unfold State.chainHold
  rw [if_pos rfl, State.bank_set, State.bank_set]

theorem chainHold_frame :
    s.chainHold full = { s with bank := (s.chainHold full).bank, pm := { s.pm with chainFull := full, chainHeld := s.pm.chainHeld || full } } := by
  unfold State.chainHold
  dsimp only
  split
  · exact onlyBank_set ..
  · rfl

theorem sameRegs_chainHold : sameRegs s (s.chainHold full) [R.PCK_SKEW] := by
  cases full with
  | false => exact sameRegs_of_bank (bank_chainHold_false s) _
  | true =>
    exact sameRegs_trans (onlyRegs_set s F.PCK_SKEW_MAX_EXCEEDED 1 0 (by decide)).2 (sameRegs_of_bank (bank_chainHold_true s) _)

theorem exceeded_chainHold (h : full = true) : (s.chainHold full).get F.PCK_SKEW_MAX_EXCEEDED = 1 := by
  subst h
  exact (get_of_bank (bank_chainHold_true s) _ 0).trans (s.get_set_same _ 1 0 (by decide))

theorem get_chainHold {g : Fld} (h : fldsApart F.PCK_SKEW_MAX_EXCEEDED g) : (s.chainHold full).get g = s.get g := by
  cases full with
  | false => exact get_of_bank (bank_chainHold_false s) g 0
  | true => exact (get_of_bank (bank_chainHold_true s) g 0).trans (get_set_apart s h 1)

end

/-! ### TIMING (R140, R404) -/

section
variable {s : State} {port : Fin 16} {data : List Byte} {sp : BitVec 8} {sc : BitVec 16} {trim : Fin 17} {full : Bool}

theorem execChainTiming_badTxn (hup : s.portState port.val = 3) (hrole : s.portRole port.val ≠ 3) :
    execChainTiming port data sp sc trim full s = .next (s.badTxn port.val) := by
  unfold execChainTiming
  rw [if_neg (not_not.mpr hup), if_pos hrole]

theorem execChainTiming_follower (hup : s.portState port.val = 3) (hrole : s.portRole port.val = 3) (hf : s.get F.PCK_CHAIN_ROLE = 2) :
    execChainTiming port data sp sc trim full s =
      .next (s.timingFollower port.val data sp.toNat sc.toNat ((trim.val : Int) - 8) full) := by
  unfold execChainTiming
  rw [if_neg (not_not.mpr hup), if_neg (not_not.mpr hrole), if_pos hf]

theorem execChainTiming_head (hup : s.portState port.val = 3) (hrole : s.portRole port.val = 3) (hh : s.get F.PCK_CHAIN_ROLE = 1)
    (hcauses : bitsOf (leNat (sliceB data 0 32)) 152 5 = 0) :
    execChainTiming port data sp sc trim full s = .next (s.chainHold full) := by
  unfold execChainTiming
  rw [if_neg (not_not.mpr hup), if_neg (not_not.mpr hrole), if_neg (by omega), if_pos hh, State.timingHead, if_pos hcauses]

end

/-- The skew that TIMING shows at a follower (R139, R154). -/
def State.skewShown (s : State) (picks cy : Nat) : State := (s.set F.PCK_SKEW_SKEW_PICKS picks).set F.PCK_SKEW_SKEW_CY cy

section
variable (s : State) (port : Nat) (data : List Byte) (picks cy : Nat) (trim : Int) (full : Bool)

theorem skewShown_frame : onlyBank s (s.skewShown picks cy) := by
  cases s
  rfl

theorem timingFollower_eq : ∃ change o, s.timingFollower port data picks cy trim full =
    (({ (s.skewShown picks cy).chainHold full with
        pm := { ((s.skewShown picks cy).chainHold full).pm with trim := trim, chainChange := change, chainCauses := 0 } }).useFree 1).emit o :=
  ⟨_, _, rfl⟩

theorem bank_timingFollower : (s.timingFollower port data picks cy trim full).bank = ((s.skewShown picks cy).chainHold full).bank := by
  obtain ⟨change, o, heq⟩ := timingFollower_eq s port data picks cy trim full
  rw [heq, State.bank_emit, State.bank_useFree]

theorem timingFollower_frame :
    let t := s.timingFollower port data picks cy trim full
    t = { s with bank := t.bank, pm := t.pm, free := t.free, out := t.out } ∧
      t.pm.chainFull = full ∧ t.pm.chainHeld = (s.pm.chainHeld || full) ∧ t.pm.trim = trim := by
  obtain ⟨change, o, heq⟩ := timingFollower_eq s port data picks cy trim full
  have hshown := skewShown_frame s picks cy
  have hheld := chainHold_frame (s.skewShown picks cy) full
  unfold onlyBank at hshown
  dsimp only
  rw [heq]
  generalize (s.skewShown picks cy).chainHold full = u at hheld ⊢
  generalize s.skewShown picks cy = w at hheld hshown
  rw [hheld, hshown]
  exact ⟨rfl, rfl, rfl, rfl⟩

theorem timingFollower_skew (hp : picks < 2 ^ 8) (hc : cy < 2 ^ 16) :
    let t := s.timingFollower port data picks cy trim full
    t.get F.PCK_SKEW_SKEW_PICKS = picks ∧ t.get F.PCK_SKEW_SKEW_CY = cy ∧ (full = true → t.get F.PCK_SKEW_MAX_EXCEEDED = 1) ∧
      sameRegs s t [R.PCK_SKEW] := by
  have hbank := bank_timingFollower s port data picks cy trim full
  dsimp only
  generalize s.timingFollower port data picks cy trim full = t at hbank ⊢
  simp only [get_of_bank hbank]
  refine ⟨?_, ?_, exceeded_chainHold _ full, fun k hk => ?_⟩
  · rw [get_chainHold _ _ (by decide), State.skewShown, get_set_apart _ (by decide), State.get_set_same _ _ _ _ (by decide)]
    exact Nat.mod_eq_of_lt hp
  · rw [get_chainHold _ _ (by decide), State.skewShown, State.get_set_same _ _ _ _ (by decide)]
    exact Nat.mod_eq_of_lt hc
  · rw [hbank, sameRegs_chainHold _ _ k hk]
    exact sameRegs_trans (onlyRegs_set s F.PCK_SKEW_SKEW_PICKS picks 0 (by decide)).2 (onlyRegs_set _ F.PCK_SKEW_SKEW_CY cy 0 (by decide)).2 k hk

end

/-! ### Handoffs (R123, R403) -/

theorem exec_handoff (s : State) (port : Fin 16) (pick : BitVec 16) (lane : BitVec 5) (data : List Byte) (mask : BitVec 32) :
    exec (.handoff port pick lane data mask) s = .next (s.handoff port.val pick.toNat lane.toNat mask.toNat data) := rfl

section
variable {s : State} {port : Nat} (pick lane mask : Nat) (data : List Byte)

theorem handoff_down (h : s.portState port ≠ 3) : s.handoff port pick lane mask data = s := if_pos h

theorem handoff_badTxn (hup : s.portState port = 3) (hrole : s.portRole port ≠ 3) : s.handoff port pick lane mask data = s.badTxn port := by
  unfold State.handoff
  rw [if_neg (not_not.mpr hup), if_pos hrole]

theorem handoff_chain (hup : s.portState port = 3) (hrole : s.portRole port = 3) :
    s.handoff port pick lane mask data =
      if s.chainBytes (s.get F.HLS_PORT_STAT_HOP port) + data.length ≤ 2 ^ 21 then
        { s with host := { s.host with chainBuf := s.host.chainBuf ++ [(s.get F.HLS_PORT_STAT_HOP port, pick, lane, mask, data)] } }
      else s := by
  unfold State.handoff
  rw [if_neg (not_not.mpr hup), if_neg (not_not.mpr hrole)]

end

/-- A transaction that the port's role does not carry is counted and nothing else (R384). -/
theorem badTxn_counts (s : State) (port : Nat) :
    onlyRegs s (s.badTxn port) [rkey R.HLS_PORT_CRC port] ∧ (s.badTxn port).get F.HLS_PORT_CRC_BAD_TXN port =
      min (2 ^ F.HLS_PORT_CRC_BAD_TXN.w - 1) (s.get F.HLS_PORT_CRC_BAD_TXN port + 1) :=
  ⟨onlyRegs_add s F.HLS_PORT_CRC_BAD_TXN 1 port List.mem_cons_self, s.get_add_same _ 1 port (by decide)⟩

/-! ### Changes between the picks (R140) -/

/-- A change that takes effect waits no longer. -/
def State.changeTaken (s : State) : State := { s with pm := { s.pm with chainChange := none } }

section
variable {s : State}

theorem chainEffective_due {m l c : Nat} (hc : s.pm.chainChange = some (s.nextPick, m, l, c)) (hs : s.pickState = 1) (hr : s.pm.running = false) :
    s.chainEffective = (s.changeTaken.takeStep m l c s.nextPick).launch := by
  unfold State.chainEffective
  rw [hc]
  exact if_pos ⟨hs, hr, by simp [State.changeDue, hc]⟩

theorem chainEffective_not (h : s.pm.chainChange = none ∨ s.pm.running = true ∨ s.pickState ≠ 1) : s.chainEffective = s := by
  unfold State.chainEffective
  split
  · next hc =>
    refine if_neg fun ⟨hs, hr, _⟩ => ?_
    rw [hc, hr] at h
    simp [hs] at h
  · rfl

theorem chainEffective_shows {m l c : Nat} (hm : m < 4) (hl : l < 8) (hc : s.pm.chainChange = some (s.nextPick, m, l, c)) (hs : s.pickState = 1)
    (hr : s.pm.running = false) :
    let t := s.chainEffective
    t.pm.running = true ∧ t.pm.pick = s.nextPick ∧ t.mode = m ∧ t.level = l ∧ t.get F.PCK_LAG_CY_LAG = 0 ∧ t.pm.chainChange = none ∧
      t.get F.PCK_NOMINAL_CY_NOM = nomOf m l % 2 ^ 16 ∧ t.get F.PCK_MIN_CY_MIN = minOf m l % 2 ^ 16 ∧
      t.get F.PCK_STEP_COUNT_STEPS = min (2 ^ F.PCK_STEP_COUNT_STEPS.w - 1) (s.get F.PCK_STEP_COUNT_STEPS + 1) := by
  have hpm := pm_takeStep s.changeTaken m l c s.nextPick
  have hpick : (s.changeTaken.takeStep m l c s.nextPick).nextPick = s.nextPick := nextPick_of_pm (by rw [hpm]; rfl) (by rw [hpm]; rfl)
  have hchange : (s.changeTaken.takeStep m l c s.nextPick).pm.chainChange = none := by rw [hpm]; rfl
  obtain ⟨hmode, hlevel, hlag, hnom, hmin, hsteps⟩ := takeStep_shows s.changeTaken m l c s.nextPick
  rw [Nat.mod_eq_of_lt hm] at hmode
  rw [Nat.mod_eq_of_lt hl] at hlevel
  dsimp only
  rw [chainEffective_due hc hs hr]
  generalize s.changeTaken.takeStep m l c s.nextPick = u at hpick hchange hmode hlevel hlag hnom hmin hsteps ⊢
  exact ⟨running_launch _, (pick_launch _).trans hpick, hmode, hlevel, hlag, (chainChange_launch _).trans hchange, hnom, hmin, hsteps⟩

end

end Sys2Proof.Machine

open Sys2Proof Sys2Proof.Machine

/-- Settles O17: TIMING is `timingFollower_skew` or `chainHold_frame` by the device's role, a handoff is `handoff_chain`, and a change is
`chainEffective_shows`. -/
theorem chains : Obligations.Chains := by
  unfold Obligations.Chains
  intro s port data sp sc pick lane mask trim full
  dsimp only
  refine ⟨fun hdown => ⟨?_, ?_⟩, fun hup hrole => ⟨?_, ?_⟩, fun hup hrole => ⟨fun hf => ?_, fun hh hcauses => ?_, ?_⟩, ?_, fun h => ?_⟩
  · exact congrArg Host.Outcome.next (if_pos hdown)
  · exact congrArg Host.Outcome.next (handoff_down _ _ _ _ hdown)
  · exact ⟨_, execChainTiming_badTxn hup hrole, badTxn_counts s port.val⟩
  · refine ⟨_, exec_handoff .., ?_⟩
    rw [handoff_badTxn _ _ _ _ hup hrole]
    exact badTxn_counts s port.val
  · refine ⟨_, execChainTiming_follower hup hrole hf, ?_⟩
    obtain ⟨hpicks, hcy, hmax, hregs⟩ := timingFollower_skew s port.val data sp.toNat sc.toNat ((trim.val : Int) - 8) full sp.isLt sc.isLt
    obtain ⟨hframe, hfull, hheld, htrim⟩ := timingFollower_frame s port.val data sp.toNat sc.toNat ((trim.val : Int) - 8) full
    exact ⟨hpicks, hcy, hfull, hheld, hmax, htrim, hregs, hframe⟩
  · exact ⟨_, execChainTiming_head hup hrole hh hcauses, chainHold_frame s full, sameRegs_chainHold s full, exceeded_chainHold s full⟩
  · refine ⟨_, exec_handoff .., ?_⟩
    rw [handoff_chain _ _ _ _ hup hrole]
    split
    · rfl
    · rfl
  · exact fun m l c hm hl hc hs hr => ⟨_, rfl, chainEffective_shows hm hl hc hs hr⟩
  · exact congrArg Host.Outcome.next (chainEffective_not h)

end

section
/-!
PROOFS. Steps requested and ceilings (R128 to R130, R134), requests of the host (R132, R133), and drains (R131, R142).
-/
namespace Sys2Proof.Machine

/-! ### The ceiling of a source (R128) -/

section
variable (s : State) (source : Nat)

/-- The ceilings after a request of a source; of the registers only the one that shows them differs. -/
theorem raiseCeiling_effect :
    let t := s.raiseCeiling source
    let d := min 6 (depthOf s.mode s.level + 1)
    t = { s with bank := t.bank, pm := t.pm } ∧ sameRegs s t [R.PCK_CEILING] ∧
      t.pm = { s.pm with ceilPower := if source = 1 then max s.pm.ceilPower d else s.pm.ceilPower,
                         ceilThermal := if source = 2 then max s.pm.ceilThermal d else s.pm.ceilThermal } := by
  have shown : ∀ p : PickMaster, let t := ({ s with pm := p } : State).showCeiling
      t = { s with bank := t.bank, pm := t.pm } ∧ sameRegs s t [R.PCK_CEILING] ∧ t.pm = p := fun p => by
    have hframe := onlyBank_set { s with pm := p } F.PCK_CEILING_DEPTH (max p.ceilPower p.ceilThermal) 0
    have hregs := (onlyRegs_set { s with pm := p } F.PCK_CEILING_DEPTH (max p.ceilPower p.ceilThermal) 0 (ks := [R.PCK_CEILING]) (by decide)).2
    exact ⟨hframe, hregs, State.pm_set ..⟩
  dsimp only
  unfold State.raiseCeiling State.depth
  dsimp only
  by_cases h1 : source = 1
  · rw [if_pos h1, if_pos h1, if_neg (show ¬ source = 2 by omega)]
    exact shown _
  · rw [if_neg h1, if_neg h1]
    by_cases h2 : source = 2
    · rw [if_pos h2, if_pos h2]
      exact shown _
    · rw [if_neg h2, if_neg h2]
      exact ⟨rfl, fun _ _ => rfl, rfl⟩

end

/-! ### Steps requested (R128, R130, R134) -/

section
variable {s : State} {source : Nat}

theorem raiseFloor_effect (s : State) : s.raiseFloor.get F.PCK_STATUS_FLOOR = 1 ∧ s.raiseFloor.pm = s.pm ∧
    ∀ g : Fld, fldsApart F.PCK_STATUS_FLOOR g → s.raiseFloor.get g = s.get g := by
  unfold State.raiseFloor
  split
  · next h => exact ⟨h, rfl, fun _ _ => rfl⟩
  · refine ⟨?_, by rw [State.pm_beacon, State.pm_set], fun g hg => ?_⟩
    · rw [State.get_beacon, State.get_set_same _ _ _ _ (by decide)]
      rfl
    · rw [State.get_beacon, get_set_apart _ hg]

/-- A step requested in a drain changes the drain's target and the floor, no setting (R130, R134). -/
theorem drainStep_effect (s : State) (source : Nat) :
    let t := s.drainStep source
    (∀ g : Fld, fldsApart F.PCK_STATUS_FLOOR g → t.get g = s.get g) ∧ t.pm.drainCount = s.pm.drainCount ∧ t.pm.ceilPower = s.pm.ceilPower ∧
      (stepDown s.pat.modes s.mode s.level = none → t.get F.PCK_STATUS_FLOOR = 1) := by
  have lowered : ∃ u, s.drainStep source = (if stepDown s.pat.modes s.mode s.level = none then u.raiseFloor else u) ∧ u.bank = s.bank ∧
      u.pm.drainCount = s.pm.drainCount ∧ u.pm.ceilPower = s.pm.ceilPower := by
    refine ⟨_, rfl, ?_⟩
    split <;> exact ⟨rfl, rfl, rfl⟩
  obtain ⟨u, heq, hbank, hcount, hceil⟩ := lowered
  obtain ⟨hfloor, hpm, hget⟩ := raiseFloor_effect u
  dsimp only
  rw [heq]
  split
  · next hnone =>
    exact ⟨fun g hg => (hget g hg).trans (get_of_bank hbank g 0), by rw [hpm, hcount], by rw [hpm, hceil], fun _ => hfloor⟩
  · next hsome => exact ⟨fun g _ => get_of_bank hbank g 0, hcount, hceil, fun h => absurd h hsome⟩

/-- On a device that is no chain follower a request in a drain is handled at once, any other is merged with those of the pick (R128). -/
theorem requestStep_eq (hrole : s.get F.PCK_CHAIN_ROLE ≠ 2) :
    s.requestStep source =
      if s.pickState = 2 ∧ s.pm.drainStop = false then (s.raiseCeiling source).drainStep source
      else { s.raiseCeiling source with
        pm := { (s.raiseCeiling source).pm with causes := (s.raiseCeiling source).pm.causes ||| causeBit source } } := by
  obtain ⟨-, hregs, hpm⟩ := raiseCeiling_effect s source
  have hs : (s.raiseCeiling source).pickState = s.pickState := get_eq_of_sameRegs hregs (by decide)
  have hd : (s.raiseCeiling source).pm.drainStop = s.pm.drainStop := by rw [hpm]
  unfold State.requestStep
  dsimp only
  rw [if_neg hrole, hs, hd]

theorem requestStep_draining (hrole : s.get F.PCK_CHAIN_ROLE ≠ 2) (hs : s.pickState = 2) (hd : s.pm.drainStop = false) :
    let t := s.requestStep source
    t.mode = s.mode ∧ t.level = s.level ∧ t.pickState = 2 ∧ t.pm.drainCount = s.pm.drainCount ∧
      (stepDown s.pat.modes s.mode s.level = none → t.get F.PCK_STATUS_FLOOR = 1) ∧
      t.pm.ceilPower = (if source = 1 then max s.pm.ceilPower (min 6 (depthOf s.mode s.level + 1)) else s.pm.ceilPower) := by
  obtain ⟨hframe, hregs, hpm⟩ := raiseCeiling_effect s source
  dsimp only
  rw [requestStep_eq hrole, if_pos ⟨hs, hd⟩]
  generalize s.raiseCeiling source = u at hframe hregs hpm ⊢
  obtain ⟨hget, hcount, hceil, hfloor⟩ := drainStep_effect u source
  have hstatus : ∀ g : Fld, g.reg = R.PCK_STATUS → u.get g = s.get g := fun g hg => get_eq_of_sameRegs hregs (by rw [hg]; decide)
  have hmode : u.mode = s.mode := hstatus _ rfl
  have hlevel : u.level = s.level := hstatus _ rfl
  have hpat : u.pat = s.pat := by rw [hframe]
  rw [hmode, hlevel, hpat] at hfloor
  refine ⟨(hget _ (by decide)).trans hmode, (hget _ (by decide)).trans hlevel, ((hget _ (by decide)).trans (hstatus _ rfl)).trans hs, ?_,
    hfloor, ?_⟩
  · rw [hcount, hpm]
  · rw [hceil, hpm]

theorem requestStep_merged (hrole : s.get F.PCK_CHAIN_ROLE ≠ 2) (h : s.pickState ≠ 2 ∨ s.pm.drainStop = true) :
    let t := s.requestStep source
    t = { s with bank := t.bank, pm := t.pm } ∧ sameRegs s t [R.PCK_CEILING] ∧ t.pm.causes = s.pm.causes ||| 2 ^ (source + 1) ∧
      t.pm.ceilPower = (if source = 1 then max s.pm.ceilPower (min 6 (depthOf s.mode s.level + 1)) else s.pm.ceilPower) ∧
      t.pm.ceilThermal = (if source = 2 then max s.pm.ceilThermal (min 6 (depthOf s.mode s.level + 1)) else s.pm.ceilThermal) := by
  obtain ⟨hframe, hregs, hpm⟩ := raiseCeiling_effect s source
  have hout : ¬ (s.pickState = 2 ∧ s.pm.drainStop = false) := fun ⟨hs, hd⟩ => by simp [hs, hd] at h
  dsimp only
  rw [requestStep_eq hrole, if_neg hout]
  generalize s.raiseCeiling source = u at hframe hregs hpm ⊢
  refine ⟨?_, hregs, ?_, ?_, ?_⟩
  · rw [hframe]
  · rw [hpm]; rfl
  · rw [hpm]
  · rw [hpm]

end

/-! ### Requests of the host (R132, R133) -/

/-- PCK_MODE_CTRL takes the fields of a request (R132). -/
def State.modeAsked (s : State) (m l : Nat) (fast : Bool) : State :=
  ((s.set F.PCK_MODE_CTRL_MODE m).set F.PCK_MODE_CTRL_LEVEL l).set F.PCK_MODE_CTRL_FAST_DRAIN (b2n fast)

section
variable (s : State) (m l : Nat) (fast : Bool)

theorem modeAsked_regs : onlyRegs s (s.modeAsked m l fast) [R.PCK_MODE_CTRL] :=
  onlyRegs_trans (onlyRegs_trans (onlyRegs_set _ F.PCK_MODE_CTRL_MODE _ 0 (by decide)) (onlyRegs_set _ F.PCK_MODE_CTRL_LEVEL _ 0 (by decide)))
    (onlyRegs_set _ F.PCK_MODE_CTRL_FAST_DRAIN _ 0 (by decide))

theorem get_modeAsked {g : Fld} (h : g.reg ≠ R.PCK_MODE_CTRL) : (s.modeAsked m l fast).get g = s.get g :=
  get_eq_of_sameRegs (modeAsked_regs s m l fast).2 (by rwa [List.mem_singleton])

theorem pm_modeAsked : (s.modeAsked m l fast).pm = s.pm := by
  unfold State.modeAsked
  rw [State.pm_set, State.pm_set, State.pm_set]

theorem pat_modeAsked : (s.modeAsked m l fast).pat = s.pat := by
  unfold State.modeAsked
  rw [State.pat_set, State.pat_set, State.pat_set]

theorem modeRefusal_modeAsked (m' l' : Nat) : (s.modeAsked m l fast).modeRefusal m' l' = s.modeRefusal m' l' := by
  have hstate : (s.modeAsked m l fast).pickState = s.pickState := get_modeAsked s m l fast (by decide)
  unfold State.modeRefusal State.modeBusy
  rw [hstate, pm_modeAsked, pat_modeAsked, get_modeAsked s m l fast (by decide)]

end

section
variable {s : State} {m l : Nat}

/-- The code of a request is that of the first reason to refuse it (R133). -/
theorem modeRefusal_busy (h : s.modeBusy = true) : s.modeRefusal m l = 2 := by
  unfold State.modeRefusal
  rw [if_pos h]

theorem modeRefusal_level (h : s.modeBusy = false) (hl : 4 < l ∨ (0 < l ∧ m ≤ 1)) : s.modeRefusal m l = 5 := by
  unfold State.modeRefusal
  rw [h, if_neg Bool.false_ne_true, if_pos hl]

theorem modeRefusal_mode (h : s.modeBusy = false) (hl : ¬ (4 < l ∨ (0 < l ∧ m ≤ 1))) (hm : bitAt s.pat.modes m = false) : s.modeRefusal m l = 3 := by
  unfold State.modeRefusal
  rw [h, if_neg Bool.false_ne_true, if_neg hl, if_pos hm]

theorem modeRefusal_depth (h : s.modeBusy = false) (hl : ¬ (4 < l ∨ (0 < l ∧ m ≤ 1))) (hm : bitAt s.pat.modes m = true) :
    s.modeRefusal m l = if depthOf m l < s.get F.PCK_CEILING_DEPTH then 4 else 1 := by
  unfold State.modeRefusal
  rw [h, if_neg Bool.false_ne_true, if_neg hl, hm, if_neg (by decide)]

theorem modeRequest_refused {r : Nat} (h : s.modeRefusal m l = r) (hr : r ≠ 1) : s.modeRequest m l = s.set F.PCK_MODE_STAT_RESULT r := by
  subst h
  unfold State.modeRequest
  dsimp only
  rw [if_pos hr]

theorem modeRequest_inForce (h : s.modeRefusal m l = 1) (hm : m = s.mode ∧ l = s.level) : s.modeRequest m l = s.set F.PCK_MODE_STAT_RESULT 1 := by
  unfold State.modeRequest
  dsimp only
  rw [h, if_neg (by decide), if_pos hm]

theorem modeRequest_idle (h : s.modeRefusal m l = 1) (hm : ¬ (m = s.mode ∧ l = s.level)) (hs : s.pickState = 0) :
    s.modeRequest m l = ((s.applySetting m l).noteChange 1 s.pm.pick).set F.PCK_MODE_STAT_RESULT 1 := by
  unfold State.modeRequest
  dsimp only
  rw [h, if_neg (by decide), if_neg hm, if_pos hs]

/-- Down the ladder in RUN the request waits for the end of the pick, at a follower for the head (R132, R140). -/
theorem modeRequest_deeper (h : s.modeRefusal m l = 1) (hs : s.pickState = 1) (hd : deeper s.mode s.level m l = true)
    (hm : ¬ (m = s.mode ∧ l = s.level)) : ∃ c, s.modeRequest m l = { s with pm := { s.pm with hostStep := some (m, l), chainCauses := c } } := by
  unfold State.modeRequest
  dsimp only
  rw [h, if_neg (by decide), if_neg hm, if_neg (by omega)]
  by_cases hr : s.get F.PCK_CHAIN_ROLE = 2
  · rw [if_pos hr]
    exact ⟨_, rfl⟩
  · rw [if_neg hr, if_pos hd]
    exact ⟨_, rfl⟩

end

section
variable {s : State} {m : BitVec 2} {l : BitVec 3} {fast : Bool}

theorem exec_modeRequest : exec (.modeRequest m l fast) s = .next ((s.modeAsked m.toNat l.toNat fast).modeRequest m.toNat l.toNat) := rfl

/-- A refused request leaves its code and the fields that it wrote (R132, R133). -/
theorem exec_modeRequest_refused {r : Nat} (h : s.modeRefusal m.toNat l.toNat = r) (hr : r ≠ 1) (hw : r < 16) :
    answers (.modeRequest m l fast) s fun t =>
      t.get F.PCK_MODE_STAT_RESULT = r ∧ t.mode = s.mode ∧ t.level = s.level ∧ t.pm = s.pm ∧ onlyRegs s t [R.PCK_MODE_CTRL, R.PCK_MODE_STAT] := by
  have heq := modeRequest_refused ((modeRefusal_modeAsked s m.toNat l.toNat fast _ _).trans h) hr
  have hregs := onlyRegs_trans (onlyRegs_mono (ls := [R.PCK_MODE_CTRL, R.PCK_MODE_STAT]) (modeAsked_regs s m.toNat l.toNat fast) (by decide))
    (onlyRegs_set _ F.PCK_MODE_STAT_RESULT r 0 (by decide))
  refine ⟨_, exec_modeRequest, ?_⟩
  rw [heq]
  refine ⟨?_, get_eq_of_sameRegs hregs.2 (by decide), get_eq_of_sameRegs hregs.2 (by decide), ?_, hregs⟩
  · rw [State.get_set_same _ _ _ _ (by decide)]
    exact Nat.mod_eq_of_lt hw
  · rw [State.pm_set, pm_modeAsked]

/-- A request of IDLE that takes effect: its setting and its result (R124, R132). -/
theorem idleChange_shows (u : State) {m l : Nat} (hm : m < 4) (hl : l ≤ 4) (pick : Nat) :
    let t := ((u.applySetting m l).noteChange 1 pick).set F.PCK_MODE_STAT_RESULT 1
    t.get F.PCK_MODE_STAT_RESULT = 1 ∧ t.mode = m ∧ t.level = l ∧ t.pickState = u.pickState ∧
      t.get F.PCK_NOMINAL_CY_NOM = nomOf m l ∧ t.get F.PCK_MIN_CY_MIN = minOf m l := by
  obtain ⟨hmode, hlevel, hnom, hmin⟩ := applySetting_shows u m l
  obtain ⟨hnomLt, hminLt⟩ := nomOf_lt (m := m) hl
  have hset : ∀ g : Fld, g.reg ≠ R.PCK_MODE_STAT →
      (((u.applySetting m l).noteChange 1 pick).set F.PCK_MODE_STAT_RESULT 1).get g = (u.applySetting m l).get g :=
    fun g hg => by rw [get_set_apart _ (.inl hg), get_noteChange _ _ _ (.inl hg) (.inl hg)]
  refine ⟨State.get_set_same _ F.PCK_MODE_STAT_RESULT 1 0 (by decide), ?_, ?_, ?_, ?_, ?_⟩
  · exact (hset _ (by decide)).trans (hmode.trans (Nat.mod_eq_of_lt hm))
  · exact (hset _ (by decide)).trans (hlevel.trans (Nat.mod_eq_of_lt (by omega)))
  · exact (hset _ (by decide)).trans (get_applySetting _ _ _ (by decide))
  · exact (hset _ (by decide)).trans (hnom.trans (Nat.mod_eq_of_lt hnomLt))
  · exact (hset _ (by decide)).trans (hmin.trans (Nat.mod_eq_of_lt hminLt))

/-- In IDLE a request takes effect at once (R124, R132). -/
theorem exec_modeRequest_idle (h : s.modeRefusal m.toNat l.toNat = 1) (hl : l.toNat ≤ 4) (hs : s.pickState = 0) :
    answers (.modeRequest m l fast) s fun t =>
      t.get F.PCK_MODE_STAT_RESULT = 1 ∧ t.mode = m.toNat ∧ t.level = l.toNat ∧ t.pickState = 0 ∧
        (m.toNat ≠ s.mode ∨ l.toNat ≠ s.level →
          t.get F.PCK_NOMINAL_CY_NOM = nomOf m.toNat l.toNat ∧ t.get F.PCK_MIN_CY_MIN = minOf m.toNat l.toNat) := by
  have h' := (modeRefusal_modeAsked s m.toNat l.toNat fast m.toNat l.toNat).trans h
  have hmode : (s.modeAsked m.toNat l.toNat fast).mode = s.mode := get_modeAsked _ _ _ _ (by decide)
  have hlevel : (s.modeAsked m.toNat l.toNat fast).level = s.level := get_modeAsked _ _ _ _ (by decide)
  have hstate : (s.modeAsked m.toNat l.toNat fast).pickState = 0 := (get_modeAsked _ _ _ _ (by decide)).trans hs
  refine ⟨_, exec_modeRequest, ?_⟩
  rw [← hmode, ← hlevel]
  generalize s.modeAsked m.toNat l.toNat fast = u at h' hstate ⊢
  by_cases hm : m.toNat = u.mode ∧ l.toNat = u.level
  · rw [modeRequest_inForce h' hm]
    obtain ⟨hm, hl⟩ := hm
    refine ⟨State.get_set_same _ F.PCK_MODE_STAT_RESULT 1 0 (by decide), ?_, ?_, (get_set_apart _ (by decide) _).trans hstate, fun hne => ?_⟩
    · exact (get_set_apart _ (by decide) _).trans hm.symm
    · exact (get_set_apart _ (by decide) _).trans hl.symm
    · omega
  · rw [modeRequest_idle h' hm hstate]
    obtain ⟨hresult, hm', hl', hstate', hnom, hmin⟩ := idleChange_shows u m.isLt hl u.pm.pick
    exact ⟨hresult, hm', hl', hstate'.trans hstate, fun _ => ⟨hnom, hmin⟩⟩

theorem exec_modeRequest_deeper (h : s.modeRefusal m.toNat l.toNat = 1) (hs : s.pickState = 1) (hm : s.mode ≤ 2) (hm' : m.toNat ≤ 2)
    (hd : depthOf s.mode s.level < depthOf m.toNat l.toNat) :
    answers (.modeRequest m l fast) s fun t => t.pm.hostStep = some (m.toNat, l.toNat) ∧ t.mode = s.mode ∧ t.level = s.level := by
  have h' := (modeRefusal_modeAsked s m.toNat l.toNat fast m.toNat l.toNat).trans h
  have hmode : (s.modeAsked m.toNat l.toNat fast).mode = s.mode := get_modeAsked _ _ _ _ (by decide)
  have hlevel : (s.modeAsked m.toNat l.toNat fast).level = s.level := get_modeAsked _ _ _ _ (by decide)
  have hstate : (s.modeAsked m.toNat l.toNat fast).pickState = 1 := (get_modeAsked _ _ _ _ (by decide)).trans hs
  refine ⟨_, exec_modeRequest, ?_⟩
  rw [← hmode] at hm
  rw [← hmode, ← hlevel] at hd
  rw [← hmode, ← hlevel]
  generalize s.modeAsked m.toNat l.toNat fast = u at h' hstate hm hd ⊢
  have hdeeper : deeper u.mode u.level m.toNat l.toNat = true := by simp [deeper, hm, hm', hd]
  obtain ⟨c, heq⟩ := modeRequest_deeper h' hstate hdeeper fun ⟨he, he'⟩ => by rw [he, he'] at hd; exact Nat.lt_irrefl _ hd
  rw [heq]
  exact ⟨rfl, rfl, rfl⟩

end

/-! ### Drains (R131, R142) -/

section
variable {s : State}

theorem beginDrain_run (hs : s.pickState = 1) (stop : Bool) :
    let t := s.beginDrain stop false none false
    t = { s with bank := t.bank, pm := t.pm } ∧ t.pickState = 2 ∧ onlyRegs { s with pm := t.pm } t [R.PCK_STATUS] ∧ t.pm.drainCount = 0 ∧
      t.pm.drainStop = stop ∧ t.pm.drainTarget = (if stop then none else s.pm.hostStep) := by
  have hbank : (s.beginDrain stop false none false).bank = (s.set F.PCK_STATUS_STATE 2).bank := by
    unfold State.beginDrain
    rw [if_pos hs]
  have hregs := sameRegs_trans (onlyRegs_set s F.PCK_STATUS_STATE 2 0 (ks := [R.PCK_STATUS]) (by decide)).2 (sameRegs_of_bank hbank _)
  have hstate := (get_of_bank hbank F.PCK_STATUS_STATE 0).trans (s.get_set_same F.PCK_STATUS_STATE 2 0 (by decide))
  have hframe : let t := s.beginDrain stop false none false
      t = { s with bank := t.bank, pm := t.pm } ∧ t.pm.drainCount = 0 ∧ t.pm.drainStop = stop ∧
        t.pm.drainTarget = (if stop then none else s.pm.hostStep) := by
    have hset := onlyBank_set s F.PCK_STATUS_STATE 2 0
    unfold onlyBank at hset
    dsimp only
    unfold State.beginDrain
    rw [if_pos hs]
    dsimp only
    generalize s.set F.PCK_STATUS_STATE 2 = u at hset
    rw [hset]
    exact ⟨rfl, rfl, rfl, rfl⟩
  obtain ⟨hall, hcount, hstop, htarget⟩ := hframe
  exact ⟨hall, hstate, ⟨hall, hregs⟩, hcount, hstop, htarget⟩

theorem beginDrain_rest (hs : s.pickState = 0 ∨ s.pickState = 4) (stop fast : Bool) (target : Option (Nat × Nat)) (host : Bool) :
    s.beginDrain stop fast target host = s := by
  unfold State.beginDrain
  rw [if_neg (by omega), if_neg (by omega), if_neg (by omega)]

/-- The books of a drain closed (R142). -/
def State.drainClosed (s : State) : State :=
  { s with pm := { s.pm with drainTarget := none, drainHost := false, drainStop := false, drainFast := false, chainChange := none } }

/-- The new setting of a drain in force with its causes and result, as SWITCH begins (R131, R132). -/
def State.switched (s : State) : State :=
  let t := s.drainGoal
  let s1 := s.drainClosed.applySetting t.1 t.2
  let s2 := if t = (s.mode, s.level) then s1 else s1.noteChange (s.pm.causes ||| b2n s.pm.drainHost) s.nextPick
  if s.pm.drainHost then s2.set F.PCK_MODE_STAT_RESULT 1 else s2

theorem drainEnd_eq (s : State) : s.drainEnd =
    if s.pickState = 2 ∧ s.pm.running = false ∧ s.positions ≤ s.pm.drainCount ∧ s.drainWaits = false then
      if s.pm.drainStop then s.drainClosed.set F.PCK_STATUS_STATE 0
      else (({ s.switched with pm := { s.switched.pm with causes := 0 } }).set F.PCK_STATUS_STATE 3).parkExcess.launch
    else s := rfl

theorem switched_counts (s : State) : s.switched.pm.pick = s.pm.pick ∧ s.switched.pm.strobed = s.pm.strobed := by
  have hpm : s.switched.pm = (s.drainClosed.applySetting s.drainGoal.1 s.drainGoal.2).pm := by
    unfold State.switched State.noteChange
    dsimp only
    split_ifs <;> simp
  rw [hpm, pm_applySetting]
  exact ⟨rfl, rfl⟩

/-- The one pick that a drain runs in SWITCH (R142). -/
theorem drainEnd_switch (s : State) :
    let t := (({ s.switched with pm := { s.switched.pm with causes := 0 } }).set F.PCK_STATUS_STATE 3).parkExcess.launch
    t.pickState = 3 ∧ t.pm.running = true ∧ t.pm.pick = s.nextPick := by
  obtain ⟨hpick, hstrobed⟩ := switched_counts s
  dsimp only
  generalize s.switched = u at hpick hstrobed ⊢
  have hquiet := reedQuiet_parkExcess (({ u with pm := { u.pm with causes := 0 } } : State).set F.PCK_STATUS_STATE 3)
  have hstate := (hquiet.pck.get (f := F.PCK_STATUS_STATE) (by decide) 0).trans (State.get_set_same _ F.PCK_STATUS_STATE 3 0 (by decide))
  have hpm := hquiet.pm.trans (State.pm_set ..)
  refine ⟨(pickState_launch _).trans hstate, running_launch _, (pick_launch _).trans (nextPick_of_pm ?_ ?_)⟩
  · rw [hpm, hpick]
  · rw [hpm, hstrobed]

theorem drainEnd_not (h : s.pickState ≠ 2 ∨ s.pm.running = true ∨ s.pm.drainCount < s.positions) : s.drainEnd = s := by
  refine if_neg fun ⟨hs, hr, hc, _⟩ => ?_
  rcases h with h | h | h
  · exact h hs
  · exact Bool.false_ne_true (hr.symm.trans h)
  · omega

end

end Sys2Proof.Machine

open Sys2Proof Sys2Proof.Machine

/-- Settles O16: a step is `requestStep_draining` or `requestStep_merged`, a refusal is `exec_modeRequest_refused` with the code of `modeRefusal`, and
a drain ends as `drainEnd_eq` says. -/
theorem stepsAndModes : Obligations.StepsAndModes := by
  unfold Obligations.StepsAndModes
  intro s
  refine ⟨fun source hrole hs hd => ⟨_, rfl, ?_⟩, fun source hrole h => ⟨_, rfl, ?_⟩,
    fun m l fast => ?_, fun stop hs => ⟨_, rfl, beginDrain_run hs stop⟩, fun stop hs => congrArg Host.Outcome.next (beginDrain_rest hs _ _ _ _),
    fun hs hr hc hw => ⟨_, rfl, ?_⟩, fun h => congrArg Host.Outcome.next (drainEnd_not h)⟩
  · simp only [Fin.ext_iff]
    exact requestStep_draining hrole hs hd
  · simp only [Fin.ext_iff]
    exact requestStep_merged hrole h
  · dsimp only
    have hlevel : l.toNat ≤ 4 → (m.toNat ≤ 1 → l = 0) → ¬ (4 < l.toNat ∨ (0 < l.toNat ∧ m.toNat ≤ 1)) := by
      rintro hl hz (h | ⟨hpos, hm⟩)
      · omega
      · rw [hz hm] at hpos
        exact absurd hpos (by decide)
    refine ⟨fun hb => exec_modeRequest_refused (modeRefusal_busy hb) (by decide) (by decide),
      fun hb hl => exec_modeRequest_refused (modeRefusal_level hb hl) (by decide) (by decide),
      fun hb hl hz hm => exec_modeRequest_refused (modeRefusal_mode hb (hlevel hl hz) hm) (by decide) (by decide), fun hb hl hz hm => ?_⟩
    have hcode := modeRefusal_depth hb (hlevel hl hz) hm
    refine ⟨fun hd => exec_modeRequest_refused (hcode.trans (if_pos hd)) (by decide) (by decide), fun hd hs => ?_, fun hd hs hm1 hm2 hlt => ?_⟩
    · exact exec_modeRequest_idle (hcode.trans (if_neg (by omega))) hl hs
    · exact exec_modeRequest_deeper (hcode.trans (if_neg (by omega))) hs hm1 hm2 hlt
  · rw [drainEnd_eq, if_pos ⟨hs, hr, hc, hw⟩]
    split
    · refine ⟨State.get_set_same _ F.PCK_STATUS_STATE 0 0 (by decide), ?_, ?_, ?_⟩
      · rw [State.pm_set]
        rfl
      · exact (get_set_apart _ (by decide) 0).trans (get_of_bank rfl _ 0)
      · exact (get_set_apart _ (by decide) 0).trans (get_of_bank rfl _ 0)
    · exact drainEnd_switch s

end

section
/-!
PROOFS. The end of a pick (R115 to R120, R149, R152, R153): the accounts of a pick and what they leave alone, the end of a pick to which nothing else
is due, and the done limit.
-/
namespace Sys2Proof.Machine

/-! ### All-done (R115, R116) -/

theorem any_pending_iff (s : State) : (rangeFrom 0 60).any (fun f => s.fieldPending f) = false ↔ ∀ f : Fin 60, s.fieldPending f.val = false := by
  rw [List.any_eq_false]
  constructor
  · intro h f
    simpa using h f.val (mem_rangeFrom.mpr ⟨Nat.zero_le _, by omega⟩)
  · intro h f hf
    simpa using h ⟨f, by have := mem_rangeFrom.mp hf; omega⟩

theorem reedPending_iff (s : State) : s.reedPending = false ↔ s.pm.reedDone = true ∨ s.get F.PCK_CHAIN_ROLE = 2 := by
  cases hd : s.pm.reedDone <;> simp [State.reedPending, hd]

/-! ### The accounts of a pick (R118, R149, R152) -/

/-- The registers that the length and the arithmetic counts of a pick may write. -/
def accountRegs : List Nat := [R.PCK_LAG_CY, R.PCK_LAST_CY, R.PCK_MAX_CY, R.PCK_LATE_COUNT, R.PCK_LATE_SRC] ++ arithRegs

/-- Nothing but registers of the accounts and tiles differs. -/
structure Accounts (s t : State) : Prop where
  rest : t = { s with bank := t.bank, tiles := t.tiles }
  regs : ∀ k, k % 2 ^ 26 ∉ accountRegs → bankReg k t.bank = bankReg k s.bank

theorem Accounts.trans {s t u : State} (h : Accounts s t) (h' : Accounts t u) : Accounts s u := by
  refine ⟨?_, fun k hk => (h'.regs k hk).trans (h.regs k hk)⟩
  rw [h'.rest, h.rest]

theorem Accounts.of_onlyRegs {s t : State} {ks : List Nat} (h : onlyRegs s t ks) (hks : ∀ k ∈ ks, k % 2 ^ 26 ∈ accountRegs) : Accounts s t := by
  obtain ⟨hb, hr⟩ := h
  unfold onlyBank at hb
  refine ⟨?_, fun k hk => hr k fun hm => hk (hks k hm)⟩
  rw [hb]

theorem Accounts.get {s t : State} (h : Accounts s t) {f : Fld} (hf : f.reg % 2 ^ 26 ∉ accountRegs) (i : Nat) : t.get f i = s.get f i :=
  congrArg (fldOf f) (h.regs _ (by rwa [rkey_mod]))

section
variable (s : State)

theorem accounts_set {f : Fld} (h : f.reg % 2 ^ 26 ∈ accountRegs) (v i : Nat) : Accounts s (s.set f v i) :=
  .of_onlyRegs (onlyRegs_set s f v i List.mem_cons_self) (by rwa [List.forall_mem_singleton, rkey_mod])

theorem accounts_add {f : Fld} (h : f.reg % 2 ^ 26 ∈ accountRegs) (n i : Nat) : Accounts s (s.add f n i) :=
  .of_onlyRegs (onlyRegs_add s f n i List.mem_cons_self) (by rwa [List.forall_mem_singleton, rkey_mod])

/-- The lengths of a pick of `len` cycles (R118, R149). -/
def State.lengthNoted (len : Nat) : State :=
  ((s.set F.PCK_LAG_CY_LAG (s.lagAfter len)).set F.PCK_LAST_CY_LAST (min len (2 ^ 32 - 1))).set F.PCK_MAX_CY_MAX
    (max (s.get F.PCK_MAX_CY_MAX) (min len (2 ^ 32 - 1)))

/-- A late pick counted, with the field that came last (R149, R152). -/
def State.lateNoted (len : Nat) (t : State) : State :=
  ((t.add F.PCK_LATE_COUNT_LATE 1).set F.PCK_LATE_SRC_WAIT_CY (min 65535 (len - s.target))).set F.PCK_LATE_SRC_FIELD s.pm.lastField

theorem notePick_run (h : s.pickState = 1) (len : Nat) :
    s.notePick len = if s.target < len then s.lateNoted len (s.lengthNoted len) else s.lengthNoted len := by
  have hrun : ¬ s.pickState = 2 := by omega
  unfold State.notePick
  dsimp only
  rw [if_neg hrun]
  rfl

theorem accounts_lengthNoted (len : Nat) : Accounts s (s.lengthNoted len) :=
  ((accounts_set s (f := F.PCK_LAG_CY_LAG) (by decide) _ 0).trans (accounts_set _ (f := F.PCK_LAST_CY_LAST) (by decide) _ 0)).trans
    (accounts_set _ (f := F.PCK_MAX_CY_MAX) (by decide) _ 0)

theorem accounts_lateNoted (len : Nat) (t : State) : Accounts t (s.lateNoted len t) :=
  ((accounts_add t (f := F.PCK_LATE_COUNT_LATE) (by decide) _ 0).trans (accounts_set _ (f := F.PCK_LATE_SRC_WAIT_CY) (by decide) _ 0)).trans
    (accounts_set _ (f := F.PCK_LATE_SRC_FIELD) (by decide) _ 0)

theorem lengthNoted_shows (len : Nat) :
    (s.lengthNoted len).get F.PCK_LAG_CY_LAG = s.lagAfter len ∧ (s.lengthNoted len).get F.PCK_LAST_CY_LAST = min len (2 ^ 32 - 1) ∧
      (s.lengthNoted len).get F.PCK_MAX_CY_MAX = max (s.get F.PCK_MAX_CY_MAX) (min len (2 ^ 32 - 1)) ∧
      (s.lengthNoted len).get F.PCK_LATE_COUNT_LATE = s.get F.PCK_LATE_COUNT_LATE := by
  have hmax : s.get F.PCK_MAX_CY_MAX < 2 ^ 32 := bitsOf_lt ..
  have hlag : s.lagAfter len < 2 ^ 32 := by unfold State.lagAfter; omega
  unfold State.lengthNoted
  refine ⟨?_, ?_, ?_, ?_⟩ <;> simp (disch := decide) only [get_set_apart, State.get_set_same]
  · exact Nat.mod_eq_of_lt hlag
  · exact Nat.mod_eq_of_lt (by omega)
  · exact Nat.mod_eq_of_lt (by omega)

theorem lateNoted_shows (len : Nat) (t : State) :
    (∀ g ∈ [F.PCK_LAG_CY_LAG, F.PCK_LAST_CY_LAST, F.PCK_MAX_CY_MAX], (s.lateNoted len t).get g = t.get g) ∧
      (s.lateNoted len t).get F.PCK_LATE_COUNT_LATE = min (2 ^ 32 - 1) (t.get F.PCK_LATE_COUNT_LATE + 1) := by
  unfold State.lateNoted
  constructor
  · simp only [List.forall_mem_cons, List.not_mem_nil, false_implies, implies_true, and_true]
    refine ⟨?_, ?_, ?_⟩ <;> simp (disch := decide) only [get_set_apart, get_add_apart]
  · simp (disch := decide) only [get_set_apart, State.get_add_same]

/-- The accounts of a pick in RUN: its lag, its length, the longest and the late ones (R118, R149). -/
theorem notePick_shows (h : s.pickState = 1) (len : Nat) :
    Accounts s (s.notePick len) ∧ (s.notePick len).get F.PCK_LAG_CY_LAG = s.lagAfter len ∧
      (s.notePick len).get F.PCK_LAST_CY_LAST = min len (2 ^ 32 - 1) ∧
      (s.notePick len).get F.PCK_MAX_CY_MAX = max (s.get F.PCK_MAX_CY_MAX) (min len (2 ^ 32 - 1)) ∧
      (s.notePick len).get F.PCK_LATE_COUNT_LATE =
        if s.target < len then min (2 ^ 32 - 1) (s.get F.PCK_LATE_COUNT_LATE + 1) else s.get F.PCK_LATE_COUNT_LATE := by
  obtain ⟨hlag, hlast, hmax, hcount⟩ := lengthNoted_shows s len
  rw [notePick_run s h]
  split
  · obtain ⟨hlens, hlate⟩ := lateNoted_shows s len (s.lengthNoted len)
    simp only [List.forall_mem_cons, List.not_mem_nil, false_implies, implies_true, and_true] at hlens
    obtain ⟨hlag', hlast', hmax'⟩ := hlens
    exact ⟨(accounts_lengthNoted s len).trans (accounts_lateNoted s len _), hlag'.trans hlag, hlast'.trans hlast, hmax'.trans hmax,
      by rw [hlate, hcount]⟩
  · exact ⟨accounts_lengthNoted s len, hlag, hlast, hmax, hcount⟩

end

/-! ### The arithmetic counts (R102, R104, R106) -/

/-- Nothing but registers of the arithmetic counts differs. -/
def countsOnly (s t : State) : Prop := onlyBank s t ∧ ∀ k, k % 2 ^ 26 ∉ arithRegs → bankReg k t.bank = bankReg k s.bank

section
variable (s : State)

theorem countsOnly_refl : countsOnly s s := ⟨rfl, fun _ _ => rfl⟩

theorem countsOnly.trans {s t u : State} (h : countsOnly s t) (h' : countsOnly t u) : countsOnly s u := by
  obtain ⟨hb, hr⟩ := h
  obtain ⟨hb', hr'⟩ := h'
  unfold onlyBank at hb hb'
  refine ⟨?_, fun k hk => (hr' k hk).trans (hr k hk)⟩
  unfold onlyBank
  rw [hb', hb]

theorem countsOnly.set {s t : State} (h : countsOnly s t) {f : Fld} (hf : f.reg % 2 ^ 26 ∈ arithRegs) (v i : Nat) : countsOnly s (t.set f v i) := by
  obtain ⟨hb, hr⟩ := onlyRegs_set t f v i (ks := [rkey f.reg i]) List.mem_cons_self
  refine h.trans ⟨hb, fun k hk => hr k fun hm => ?_⟩
  rw [List.mem_singleton.mp hm, rkey_mod] at hk
  exact hk hf

theorem countsOnly.add {s t : State} (h : countsOnly s t) {f : Fld} (hf : f.reg % 2 ^ 26 ∈ arithRegs) (n i : Nat) : countsOnly s (t.add f n i) :=
  h.set hf _ i

theorem countPos_counts (clamp sat : Bool) {p : Nat} (hp : p < 130) : countsOnly s (s.countPos clamp sat p) := by
  have hmap : ∀ n < 5, (F.PCK_ARITH_MAP_POS_BITS.nth n).reg % 2 ^ 26 ∈ arithRegs := by decide
  unfold State.countPos
  split
  · exact countsOnly_refl s
  · dsimp only
    refine countsOnly.set (countsOnly.add (countsOnly.add ?_ (by decide) _ _) (by decide) _ _) (hmap _ (by omega)) _ _
    split
    · exact (countsOnly_refl s).set (by decide) _ _
    · exact countsOnly_refl s

theorem mem_dedupNat {x : Nat} {l : List Nat} (h : x ∈ dedupNat l) : x ∈ l := by
  induction l with
  | nil => exact h
  | cons y ys ih =>
    rcases List.mem_cons.mp h with rfl | h
    · exact List.mem_cons_self
    · exact List.mem_cons_of_mem _ (ih (List.mem_filter.mp h).1)

theorem mem_rosePositions {x : Nat} {p : Tile → Bool} (h : x ∈ s.rosePositions p) : x < 130 := by
  obtain ⟨kv, hkv, rfl⟩ := List.mem_map.mp (mem_dedupNat h)
  have hk := (List.mem_filter.mp hkv).2
  simp only [Bool.and_eq_true, decide_eq_true_eq] at hk
  exact hk.2

/-- Counting the pick's CLAMP and SAT bits reaches the arithmetic counts and the bits themselves (R102). -/
theorem countArith_frame :
    s.countArith = { s with bank := s.countArith.bank, tiles := s.countArith.tiles } ∧
      ∀ k, k % 2 ^ 26 ∉ arithRegs → bankReg k s.countArith.bank = bankReg k s.bank := by
  have hcounted : ∃ u, countsOnly s u ∧ s.countArith = u.onTiles fun _ t => { t with clampRose := false, satRose := false } := by
    refine ⟨_, ?_, rfl⟩
    refine List.foldlRecOn _ _ (countsOnly_refl s) fun u hu p hp => hu.trans (countPos_counts u _ _ ?_)
    rcases List.mem_append.mp (mem_dedupNat hp) with h | h
    · exact mem_rosePositions s h
    · exact mem_rosePositions s h
  obtain ⟨u, ⟨hb, hr⟩, heq⟩ := hcounted
  rw [heq]
  unfold onlyBank at hb
  refine ⟨?_, fun k hk => ?_⟩
  · rw [hb]
    rfl
  · rw [State.bank_onTiles]
    exact hr k hk

theorem get_countArith {f : Fld} (h : f.reg % 2 ^ 26 ∉ arithRegs) (i : Nat) : s.countArith.get f i = s.get f i :=
  congrArg (fldOf f) ((countArith_frame s).2 _ (by rwa [rkey_mod]))

end

/-! ### A pick that ends with nothing else due (R118) -/

/-- A pick of `len` cycles counted, with the hold of its strobe and the arithmetic counts (R102, R118, R139). -/
def State.pickCounted (s : State) (len : Nat) : State := ((s.notePick len).set F.PCK_STATUS_CHAIN_HOLD (b2n s.pm.chainHeld)).countArith

theorem pickEnd_eq (s : State) (len : Nat) : s.pickEnd len =
    if s.pm.running = true ∧ s.pm.allDone = true ∧ s.pm.chainFull = false ∧ s.lenOk len = true then (s.pickCounted len).lagRule.capStep.goOn
    else s := rfl

section
variable {s : State} (len : Nat)

theorem pickCounted_frame (h : s.pickState = 1) :
    let t := s.pickCounted len
    t = { s with bank := t.bank, tiles := t.tiles } ∧
      (∀ k, k % 2 ^ 26 ∉ R.PCK_STATUS :: accountRegs → bankReg k t.bank = bankReg k s.bank) ∧
      ∀ f : Fld, f.reg = R.PCK_STATUS → fldsApart F.PCK_STATUS_CHAIN_HOLD f → t.get f = s.get f := by
  obtain ⟨hnoted, -⟩ := notePick_shows s h len
  have hset := onlyRegs_set (s.notePick len) F.PCK_STATUS_CHAIN_HOLD (b2n s.pm.chainHeld) 0 (ks := [R.PCK_STATUS]) (by decide)
  obtain ⟨harith, hcounts⟩ := countArith_frame ((s.notePick len).set F.PCK_STATUS_CHAIN_HOLD (b2n s.pm.chainHeld))
  dsimp only
  refine ⟨?_, fun k hk => ?_, fun f hf hapart => ?_⟩
  · have hbank := hset.1
    have hrest := hnoted.rest
    unfold onlyBank at hbank
    unfold State.pickCounted
    generalize ((s.notePick len).set F.PCK_STATUS_CHAIN_HOLD (b2n s.pm.chainHeld)).countArith = w at harith ⊢
    generalize (s.notePick len).set F.PCK_STATUS_CHAIN_HOLD (b2n s.pm.chainHeld) = v at hbank harith
    rw [harith, hbank, hrest]
  · rw [List.mem_cons, not_or] at hk
    obtain ⟨hstatus, hacc⟩ := hk
    refine (hcounts k fun hm => hacc (List.mem_append_right _ hm)).trans ((hset.2 k fun hm => hstatus ?_).trans (hnoted.regs k hacc))
    rw [List.mem_singleton.mp hm]
    decide
  · exact (get_countArith _ (by rw [hf]; decide) 0).trans ((get_set_apart _ hapart _).trans (hnoted.get (by rw [hf]; decide) 0))

theorem pickCounted_shows (h : s.pickState = 1) :
    let t := s.pickCounted len
    t.get F.PCK_LAG_CY_LAG = s.lagAfter len ∧ t.get F.PCK_LAST_CY_LAST = min len (2 ^ 32 - 1) ∧
      t.get F.PCK_MAX_CY_MAX = max (s.get F.PCK_MAX_CY_MAX) (min len (2 ^ 32 - 1)) ∧
      t.get F.PCK_LATE_COUNT_LATE = if s.target < len then min (2 ^ 32 - 1) (s.get F.PCK_LATE_COUNT_LATE + 1) else s.get F.PCK_LATE_COUNT_LATE := by
  obtain ⟨-, hlag, hlast, hmax, hlate⟩ := notePick_shows s h len
  have hget : ∀ g : Fld, g.reg % 2 ^ 26 ∉ arithRegs → g.reg ≠ R.PCK_STATUS → (s.pickCounted len).get g = (s.notePick len).get g :=
    fun g hg hs => (get_countArith _ hg 0).trans (get_set_apart _ (.inl hs) _)
  exact ⟨(hget _ (by decide) (by decide)).trans hlag, (hget _ (by decide) (by decide)).trans hlast, (hget _ (by decide) (by decide)).trans hmax,
    (hget _ (by decide) (by decide)).trans hlate⟩

end

section
variable {s t : State}

theorem cfg_of_held (hh : t.held = s.held) {f : Fld} (hr : t.reg f.reg = s.reg f.reg) : t.cfg f = s.cfg f := by
  unfold State.cfg State.cfgWord
  rw [hh, hr]

theorem capDeeper_of_get (hd : ∀ d, t.get F.VPA_DOM_STAT_STATE d = s.get F.VPA_DOM_STAT_STATE d)
    (ha : ∀ d, t.get F.VPA_DOM_STAT_ALLOWED d = s.get F.VPA_DOM_STAT_ALLOWED d) (hm : t.mode = s.mode) (hl : t.level = s.level) :
    t.capDeeper = s.capDeeper := by
  unfold State.capDeeper State.depth
  simp only [hd, ha, hm, hl]

theorem changeDue_of_pm (h : t.pm = s.pm) : t.changeDue = s.changeDue := by
  unfold State.changeDue State.nextPick
  rw [h]

theorem lagRule_within (h : s.get F.PCK_LAG_CY_LAG ≤ max 1 (s.cfg F.PCK_LAG_BOUND_BOUND) * s.get F.PCK_NOMINAL_CY_NOM) : s.lagRule = s :=
  if_neg (Nat.not_lt.mpr h)

theorem capStep_none (h : s.capDeeper = false) : s.capStep = s := by
  unfold State.capStep
  rw [h, if_neg Bool.false_ne_true]

theorem decideStep_none (hc : s.pm.causes = 0) (hh : s.pm.hostStep = none) : s.decideStep = s := by
  unfold State.decideStep
  exact if_pos (.inl (by rw [hc, hh]; rfl))

/-- In RUN with no step requested, no stop and no change due, the next strobe goes out (R118). -/
theorem goOn_launches (hs : s.pickState = 1) (hc : s.pm.causes = 0) (hh : s.pm.hostStep = none) (hd : s.pm.drainStop = false)
    (hch : s.changeDue = false) : s.goOn = s.launch := by
  unfold State.goOn
  dsimp only
  rw [if_neg (show ¬ s.pickState = 2 by omega), if_neg (show ¬ s.pickState = 3 by omega), decideStep_none hc hh, hd,
    if_neg Bool.false_ne_true, hch, if_neg fun h => Bool.false_ne_true h.1]

theorem target_of_run (h : s.strobeDrains = false ∨ s.pm.drainFast = false) :
    s.target = max (s.get F.PCK_MIN_CY_MIN) ((s.get F.PCK_NOMINAL_CY_NOM : Int) - s.get F.PCK_LAG_CY_LAG + s.pm.trim).toNat := by
  refine if_neg fun ⟨hd, hf⟩ => ?_
  rw [hd, hf] at h
  simp at h

theorem leastLen_of_run (h : s.pickState = 1) : s.leastLen = s.target := by
  unfold State.leastLen State.rises
  simp [h]

theorem target_le_leastLen (s : State) : s.target ≤ s.leastLen := by
  unfold State.leastLen
  split
  · exact Nat.le_max_left ..
  · exact Nat.le_refl _

theorem pickEnd_not {len : Nat} (h : s.pm.running = false ∨ s.pm.allDone = false ∨ s.pm.chainFull = true ∨ len < s.target) : s.pickEnd len = s := by
  refine if_neg fun ⟨hr, ha, hf, hl⟩ => ?_
  have hle := target_le_leastLen s
  simp only [State.lenOk, Bool.and_eq_true, decide_eq_true_eq] at hl
  rw [hr, ha, hf] at h
  simp at h
  omega

/-- A pick in RUN that may end, within its lag bound and with nothing else due, is counted and the next one launched (R118). -/
theorem pickEnd_launches {len : Nat} (hs : s.pickState = 1) (hr : s.pm.running = true) (ha : s.pm.allDone = true) (hf : s.pm.chainFull = false)
    (hlen : s.lenOk len = true) (hch : s.changeDue = false) (hc : s.pm.causes = 0) (hh : s.pm.hostStep = none) (hd : s.pm.drainStop = false)
    (hcap : s.capDeeper = false) (hlag : s.lagAfter len ≤ max 1 (s.cfg F.PCK_LAG_BOUND_BOUND) * s.get F.PCK_NOMINAL_CY_NOM) :
    s.pickEnd len = (s.pickCounted len).launch := by
  obtain ⟨hframe, hget, hstatus⟩ := pickCounted_frame len hs
  obtain ⟨hlag', -⟩ := pickCounted_shows len hs
  have hpm : (s.pickCounted len).pm = s.pm := by rw [hframe]
  have hheld : (s.pickCounted len).held = s.held := by rw [hframe]
  rw [pickEnd_eq, if_pos ⟨hr, ha, hf, hlen⟩]
  generalize s.pickCounted len = u at hget hstatus hlag' hpm hheld ⊢
  have hother : ∀ (f : Fld) i, f.reg % 2 ^ 26 ∉ R.PCK_STATUS :: accountRegs → u.get f i = s.get f i :=
    fun f i hf => congrArg (fldOf f) (hget _ (by rwa [rkey_mod]))
  have hbound : u.cfg F.PCK_LAG_BOUND_BOUND = s.cfg F.PCK_LAG_BOUND_BOUND := cfg_of_held hheld (hget _ (by decide))
  have hnom : u.get F.PCK_NOMINAL_CY_NOM = s.get F.PCK_NOMINAL_CY_NOM := hother _ 0 (by decide)
  have hcap' : u.capDeeper = false := (capDeeper_of_get (fun d => hother _ d (by decide)) (fun d => hother _ d (by decide))
    (hstatus _ rfl (by decide)) (hstatus _ rfl (by decide))).trans hcap
  rw [lagRule_within (by rwa [hlag', hbound, hnom]), capStep_none hcap',
    goOn_launches ((hstatus _ rfl (by decide)).trans hs) (by rw [hpm, hc]) (by rw [hpm, hh]) (by rw [hpm, hd]) ((changeDue_of_pm hpm).trans hch)]

end

/-! ### The done limit (R120, R153) -/

theorem sumNat_bits {g : Nat → Nat} (hg : ∀ k, g k ≤ 2 ^ k) (n a : Nat) : sumNat ((rangeFrom a n).map g) + 2 ^ a ≤ 2 ^ (a + n) := by
  induction n generalizing a with
  | zero => simp [rangeFrom, sumNat]
  | succ n ih =>
    have hrest := ih (a + 1)
    have hhead := hg a
    rw [show a + 1 + n = a + (n + 1) by omega, pow_succ 2 a] at hrest
    simp only [rangeFrom, List.map_cons, sumNat]
    omega

theorem missBits_lt (s : State) (lo n : Nat) : s.missBits lo n < 2 ^ n := by
  have h := sumNat_bits (g := fun k => if s.fieldPending (lo + k) then 2 ^ k else 0) (fun k => by
    split
    · exact Nat.le_refl _
    · exact Nat.zero_le _) n 0
  rw [Nat.zero_add] at h
  exact Nat.lt_of_succ_le h

/-- What the done limit shows of the pick that it ends (R120, R153). -/
def State.missNoted (s : State) : State :=
  (((s.set F.PCK_DONE_MISS_LO_FIELDS_LO (s.missBits 0 32)).set F.PCK_DONE_MISS_HI_FIELDS_HI (s.missBits 32 28)).set
    F.PCK_DONE_MISS_HI_REED (b2n s.reedPending)).set F.PCK_STATUS_DONE_TIMEOUT 1

theorem missNoted_shows (s : State) :
    s.missNoted.get F.PCK_STATUS_DONE_TIMEOUT = 1 ∧ s.missNoted.get F.PCK_DONE_MISS_LO_FIELDS_LO = s.missBits 0 32 ∧
      s.missNoted.get F.PCK_DONE_MISS_HI_FIELDS_HI = s.missBits 32 28 ∧
      s.missNoted.get F.PCK_DONE_MISS_HI_REED = (if s.reedPending then 1 else 0) ∧ s.missNoted.pickState = s.pickState := by
  have hlo := missBits_lt s 0 32
  have hhi := missBits_lt s 32 28
  unfold State.missNoted State.pickState
  refine ⟨?_, ?_, ?_, ?_, ?_⟩ <;> simp (disch := decide) only [get_set_apart, State.get_set_same]
  · rfl
  · exact Nat.mod_eq_of_lt hlo
  · exact Nat.mod_eq_of_lt hhi
  · cases s.reedPending <;> rfl

theorem doneLimit_eq (s : State) : ∃ u d, s.doneLimit =
    if s.pm.running = true ∧ s.pm.allDone = false then s.missNoted.halt.raise 10 10 5 u d else s := ⟨_, _, rfl⟩

theorem halt_pck (s : State) {g : Fld} (hg : g.reg % 2 ^ 26 / 2 ^ 16 = 10) (h : fldsApart F.PCK_STATUS_STATE g) : s.halt.get g = s.get g := by
  unfold State.halt
  split
  · exact ((haltPick_pck s).get hg 0).trans (get_set_apart s h 4)
  · rfl

/-- The done limit of a pick without all-done: what it shows, and HALT (R120, R142, R153). -/
theorem doneLimit_halts {s : State} (hr : s.pm.running = true) (ha : s.pm.allDone = false) :
    let t := s.doneLimit
    t.get F.PCK_STATUS_DONE_TIMEOUT = 1 ∧ t.get F.PCK_DONE_MISS_LO_FIELDS_LO = s.missBits 0 32 ∧
      t.get F.PCK_DONE_MISS_HI_FIELDS_HI = s.missBits 32 28 ∧ t.get F.PCK_DONE_MISS_HI_REED = (if s.reedPending then 1 else 0) ∧
      (s.pickState = 1 ∨ s.pickState = 2 ∨ s.pickState = 3 → t.pickState = 4 ∧ t.pm.running = false) := by
  obtain ⟨htimeout, hlo, hhi, hreed, hstate⟩ := missNoted_shows s
  obtain ⟨u, d, heq⟩ := doneLimit_eq s
  have hraise : ∀ g : Fld, g.reg ∉ [R.DMP_SUPPRESSED, R.DMP_STATUS] → (s.missNoted.halt.raise 10 10 5 u d).get g = s.missNoted.halt.get g :=
    fun g hg => get_eq_of_sameRegs (sameRegs_raise _ 10 10 5 u d false) hg
  dsimp only
  rw [heq, if_pos ⟨hr, ha⟩]
  refine ⟨?_, ?_, ?_, ?_, fun h => ?_⟩
  · exact (hraise _ (by decide)).trans ((halt_pck _ (by decide) (by decide)).trans htimeout)
  · exact (hraise _ (by decide)).trans ((halt_pck _ (by decide) (by decide)).trans hlo)
  · exact (hraise _ (by decide)).trans ((halt_pck _ (by decide) (by decide)).trans hhi)
  · exact (hraise _ (by decide)).trans ((halt_pck _ (by decide) (by decide)).trans hreed)
  · have hhalt : s.missNoted.halt = s.missNoted.haltPick := if_pos (by rwa [hstate])
    obtain ⟨hhalted, hstopped, -⟩ := haltPick_ends s.missNoted
    rw [State.pm_raise, hhalt]
    exact ⟨(get_eq_of_sameRegs (sameRegs_raise _ 10 10 5 u d false) (by decide)).trans hhalted, hstopped⟩

theorem doneLimitDark_noDark {s : State} (h : s.darkAfterHalt = none) (hr : s.pm.running = true) (ha : s.pm.allDone = false) :
    s.doneLimitDark = s.doneLimit := by
  unfold State.doneLimitDark
  rw [if_pos ⟨hr, ha⟩, h]

theorem doneLimitDark_not {s : State} (h : s.pm.running = false ∨ s.pm.allDone = true) : s.doneLimitDark = s := by
  refine if_neg fun ⟨hr, ha⟩ => ?_
  rw [hr, ha] at h
  simp at h

end Sys2Proof.Machine

open Sys2Proof Sys2Proof.Machine

/-- Settles O15: all-done is its own condition, the pick's end is `pickEnd_launches` with the accounts of `pickCounted_shows`, and the done limit is
`doneLimit_halts`. -/
theorem pickEnd : Obligations.PickEnd := by
  unfold Obligations.PickEnd
  intro s last len
  refine ⟨answers_update_if rfl ?_ fun _ => rfl, ?_, fun h => congrArg Host.Outcome.next (pickEnd_not h), fun hr ha hdark => ⟨_, rfl, ?_⟩,
    fun h => congrArg Host.Outcome.next (doneLimitDark_not h)⟩
  · rw [reedPending_iff, any_pending_iff]
  · dsimp only
    intro hs hr ha hf hdrain hle hmax hch hc hh hd hcap hlag
    have htarget := target_of_run hdrain
    rw [← htarget] at hle hmax ⊢
    have hlen : s.lenOk len = true := by
      unfold State.lenOk
      rw [leastLen_of_run hs]
      simp only [Bool.and_eq_true, Bool.or_eq_true, decide_eq_true_eq]
      exact ⟨hle, hmax⟩
    obtain ⟨hframe, -, hstatus⟩ := pickCounted_frame len hs
    obtain ⟨hlag', hlast, hmax', hlate⟩ := pickCounted_shows len hs
    refine ⟨_, rfl, ?_⟩
    rw [pickEnd_launches hs hr ha hf hlen hch hc hh hd hcap hlag]
    simp only [get_launch, pickState_launch]
    exact ⟨hlag', hlast, hmax', hlate, (hstatus F.PCK_STATUS_STATE rfl (by decide)).trans hs, running_launch _, allDone_launch _,
      (pick_launch _).trans (nextPick_of_pm (by rw [hframe]) (by rw [hframe])), held_launch _⟩
  · rw [doneLimitDark_noDark hdark hr ha]
    exact doneLimit_halts hr ha

end

section
/-!
SUPPORT. Reports of the weft (R166 to R168, R171, R186) and its input buffers (R158): the registers that a report touches, and what of the state
changes where the head of a buffer leaves it, is read with bits in error, or is ejected.
-/
namespace Sys2Proof.Machine

/-! ### Reports -/

/-- The registers beside WFT_STATUS and a count that a report may touch: the captures, and those of a fault record (R186, R557). -/
abbrev reportRegs : List Nat := [R.WFT_ERR_CAP0, R.WFT_ERR_CAP1, R.DMP_SUPPRESSED, R.DMP_STATUS]

/-- A status bit and a count that stand apart from each other and from what a report captures. -/
abbrev reportable (bit count : Fld) : Prop :=
  (fldsApart bit count ∧ fldsApart count bit) ∧ (bit.lo + bit.w ≤ 32 ∧ bit.w = 1) ∧ count.lo + count.w ≤ 32 ∧
    bit.reg ∉ reportRegs ∧ count.reg ∉ reportRegs

section
variable (s : State) (bit r port vc info : Nat)

theorem onlyRegs_weftCap : onlyRegs s (s.weftCap bit r port vc info) [R.WFT_ERR_CAP0, R.WFT_ERR_CAP1] := by
  unfold State.weftCap
  split
  · refine ⟨rfl, fun k hk => ?_⟩
    simp only [List.mem_cons, List.not_mem_nil, or_false, not_or] at hk
    exact (bankReg_bankPut_other hk.2 ..).trans (bankReg_bankPut_other hk.1 ..)
  · exact ⟨rfl, fun _ _ => rfl⟩

theorem get_weftCap {f : Fld} (h : f.reg ∉ [R.WFT_ERR_CAP0, R.WFT_ERR_CAP1]) : (s.weftCap bit r port vc info).get f = s.get f :=
  get_eq_of_sameRegs (onlyRegs_weftCap s bit r port vc info).2 h

@[simp] theorem weft_weftCap : (s.weftCap bit r port vc info).weft = s.weft := by
  unfold State.weftCap
  split <;> rfl

@[simp] theorem tiles_weftCap : (s.weftCap bit r port vc info).tiles = s.tiles := by
  unfold State.weftCap
  split <;> rfl

theorem recordsOnly_of_onlyBank {s t : State} (h : onlyBank s t) : recordsOnly s t := by
  unfold onlyBank at h
  unfold recordsOnly
  rw [h]

/-- A capture and the fault record after it touch the registers of a report alone. -/
theorem capRaise_frame (c b k u d : Nat) :
    recordsOnly s ((s.weftCap bit r port vc info).raise c b k u d) ∧
      sameRegs s ((s.weftCap bit r port vc info).raise c b k u d) reportRegs :=
  ⟨recordsOnly_trans (recordsOnly_of_onlyBank (onlyRegs_weftCap s bit r port vc info).1) (recordsOnly_raise ..),
    sameRegs_trans (sameRegs_mono (onlyRegs_weftCap s bit r port vc info).2 (by decide)) (sameRegs_mono (sameRegs_raise _ _ _ _ _ _ _) (by decide))⟩

end

theorem get_one {f : Fld} (h : f.lo + f.w ≤ 32 ∧ f.w = 1) (s : State) : (s.set f 1).get f = 1 := by
  obtain ⟨hlo, hw⟩ := h
  rw [State.get_set_same _ _ _ _ hlo, hw]
  rfl

/-- A report: its bit is set, its count counted, and beside records nothing but its registers differs. -/
theorem report_shows (s : State) {bit count : Fld} (h : reportable bit count) (n r port vc info c b k u d : Nat) :
    let t := (((s.set bit 1).add count 1).weftCap n r port vc info).raise c b k u d
    t.get bit = 1 ∧ t.get count = min (2 ^ count.w - 1) (s.get count + 1) ∧ recordsOnly s t ∧
      sameRegs s t [bit.reg, count.reg, R.WFT_ERR_CAP0, R.WFT_ERR_CAP1, R.DMP_SUPPRESSED, R.DMP_STATUS] := by
  obtain ⟨⟨hbc, hcb⟩, hbit, hcount, hbr, hcr⟩ := h
  obtain ⟨hrec, hregs⟩ := capRaise_frame ((s.set bit 1).add count 1) n r port vc info c b k u d
  refine ⟨?_, ?_, recordsOnly_trans (show recordsOnly s ((s.set bit 1).add count 1) from rfl) hrec, ?_⟩
  · rw [get_eq_of_sameRegs hregs hbr, get_add_apart _ hcb, get_one hbit]
  · rw [get_eq_of_sameRegs hregs hcr, State.get_add_same _ _ _ _ hcount, get_set_apart _ hbc]
  · refine sameRegs_trans ?_ (sameRegs_mono hregs (List.subset_append_right [bit.reg, count.reg] _))
    refine sameRegs_trans (onlyRegs_set s bit 1 0 ?_).2 (onlyRegs_add _ count 1 0 ?_).2 <;> simp

/-! ### Power, which reports leave alone -/

/-- Registers that no domain's state stands in (R424). -/
theorem domOn_of_sameRegs {s t : State} {ks : List Nat} (h : sameRegs s t ks) (hk : ∀ k ∈ ks, k % 2 ^ 26 ≠ R.VPA_DOM_STAT) (d : Nat) :
    t.domOn d = s.domOn d := by
  have hget : t.get F.VPA_DOM_STAT_STATE d = s.get F.VPA_DOM_STAT_STATE d :=
    congrArg (fldOf _) (h _ fun hm => hk _ hm ((rkey_mod ..).trans rfl))
  unfold State.domOn
  rw [hget]

/-- The count of corrected errors of a router is no domain's state. -/
theorem domOn_corrected (s : State) (r d : Nat) : (s.add F.WFT_RTR_RETRY_CE 1 r).domOn d = s.domOn d := by
  refine domOn_of_sameRegs (onlyRegs_add (ks := [rkey F.WFT_RTR_RETRY_CE.reg r]) s F.WFT_RTR_RETRY_CE 1 r List.mem_cons_self).2 ?_ d
  rw [List.forall_mem_singleton, rkey_mod]
  decide

theorem recordsOnly_corrected (s : State) (r : Nat) : recordsOnly s (s.add F.WFT_RTR_RETRY_CE 1 r) :=
  recordsOnly_of_onlyBank (onlyRegs_add (ks := [rkey F.WFT_RTR_RETRY_CE.reg r]) s F.WFT_RTR_RETRY_CE 1 r List.mem_cons_self).1

/-! ### Headers (R159) -/

section
variable (sh : Shuttle)

@[simp] theorem hKind_poisoned : hKind (poisoned sh).hdr = hKind sh.hdr := bitsOf_bitsPut_other _ _ (by decide)
@[simp] theorem hVc_poisoned : hVc (poisoned sh).hdr = hVc sh.hdr := bitsOf_bitsPut_other _ _ (by decide)
@[simp] theorem hDest_poisoned : hDest (poisoned sh).hdr = hDest sh.hdr := bitsOf_bitsPut_other _ _ (by decide)
@[simp] theorem hSrc_poisoned : hSrc (poisoned sh).hdr = hSrc sh.hdr := bitsOf_bitsPut_other _ _ (by decide)

theorem unicastPort_poisoned (s : State) (r : Nat) : s.unicastPort r (poisoned sh) = s.unicastPort r sh := by
  unfold State.unicastPort
  simp only [hDest_poisoned, hKind_poisoned]

end

/-! ### The first shuttle of a virtual channel among those of a tile -/

theorem filter_dropVc (vc : Nat) (l : List Shuttle) :
    (dropVc vc l).filter (fun sh => decide (hVc sh.hdr = vc)) = (l.filter fun sh => decide (hVc sh.hdr = vc)).drop 1 := by
  induction l with
  | nil => rfl
  | cons x l ih =>
    by_cases h : hVc x.hdr = vc
    · simp [dropVc, h]
    · simp [dropVc, h, ih]

theorem filter_markVc {vc : Nat} {l : List Shuttle} {sh : Shuttle} {rest : List Shuttle}
    (h : (l.filter fun sh => decide (hVc sh.hdr = vc)) = sh :: rest) :
    ((markVc vc l).filter fun sh => decide (hVc sh.hdr = vc)) = poisoned sh :: rest := by
  induction l with
  | nil => cases h
  | cons x l ih =>
    by_cases hx : hVc x.hdr = vc
    · simp_all [markVc]
    · simp_all [markVc]

/-! ### Changes of one input buffer -/

/-- Of the tiles and the weft nothing but one input buffer differs, and beside them at most registers and fault records: the LOCAL buffer stands
in the tile's outbox (R51, R158). -/
structure OnlyBuf (r port vc : Nat) (s t : State) : Prop where
  tiles : ∀ b, b ≠ r → t.tile b = s.tile b
  tile : t.tile r = { s.tile r with outbox := (t.tile r).outbox }
  bufs : ∀ k, k ≠ bufKey r port vc → smGet [] k t.weft.bufs = smGet [] k s.weft.bufs
  rest : t = { s with bank := t.bank, flt := t.flt, tiles := t.tiles, weft := { s.weft with bufs := t.weft.bufs } }

namespace OnlyBuf
variable {r port vc : Nat} {s t u : State}

theorem trans (h : OnlyBuf r port vc s t) (h' : OnlyBuf r port vc t u) : OnlyBuf r port vc s u where
  tiles b hb := (h'.tiles b hb).trans (h.tiles b hb)
  tile := by rw [h'.tile, h.tile]
  bufs k hk := (h'.bufs k hk).trans (h.bufs k hk)
  rest := by rw [h'.rest, h.rest]

theorem of_recordsOnly (r port vc : Nat) (h : recordsOnly s t) : OnlyBuf r port vc s t where
  tiles b _ := tile_of_recordsOnly h b
  tile := by rw [tile_of_recordsOnly h]
  bufs k _ := by
    unfold recordsOnly at h
    rw [h]
  rest := by
    unfold recordsOnly at h
    rw [h]

theorem outbox (v : List Shuttle) : OnlyBuf r port vc s (s.setTile r { s.tile r with outbox := v }) where
  tiles _ hb := s.tile_setTile_other hb _
  tile := by rw [State.tile_setTile_same]
  bufs _ _ := rfl
  rest := rfl

theorem queue (v : List Shuttle) :
    OnlyBuf r port vc s { s with weft := { s.weft with bufs := smSet [] (bufKey r port vc) v s.weft.bufs } } where
  tiles _ _ := rfl
  tile := rfl
  bufs _ hk := smGet_smSet_other _ _ hk _ _
  rest := rfl

theorem unicastPort (h : OnlyBuf r port vc s t) (a : Nat) (sh : Shuttle) : t.unicastPort a sh = s.unicastPort a sh := by
  rw [h.rest]
  rfl

theorem st (h : OnlyBuf r port vc s t) : (t.tile r).st = (s.tile r).st := by rw [h.tile]

theorem inbox (h : OnlyBuf r port vc s t) : (t.tile r).inbox = (s.tile r).inbox := by rw [h.tile]

theorem deaf (h : OnlyBuf r port vc s t) (hd : ∀ d, t.domOn d = s.domOn d) : t.deaf r = s.deaf r := by
  unfold State.deaf State.vlOn
  rw [h.st, hd]

end OnlyBuf

section
variable {s : State} {r port vc : Nat} {sh : Shuttle} {rest : List Shuttle}

theorem buf_of_recordsOnly {t : State} (h : recordsOnly s t) : t.buf r port vc = s.buf r port vc := by
  unfold State.buf
  rw [tile_of_recordsOnly h]
  unfold recordsOnly at h
  rw [h]

/-- The head leaves its buffer, and nothing else changes. -/
theorem popBuf_leaves (h : s.buf r port vc = sh :: rest) :
    (s.popBuf r port vc).buf r port vc = rest ∧ OnlyBuf r port vc s (s.popBuf r port vc) ∧ (s.popBuf r port vc).bank = s.bank := by
  unfold State.popBuf
  by_cases hp : port = 4
  · rw [if_pos hp]
    refine ⟨?_, .outbox _, rfl⟩
    unfold State.buf at h ⊢
    rw [if_pos hp] at h ⊢
    rw [State.tile_setTile_same, filter_dropVc, h, List.drop_one, List.tail_cons]
  · rw [if_neg hp, h]
    refine ⟨?_, .queue _, rfl⟩
    unfold State.buf
    rw [if_neg hp, smGet_smSet_same, List.drop_one, List.tail_cons]

theorem tiles_popBuf (hp : port ≠ 4) : (s.popBuf r port vc).tiles = s.tiles := by
  unfold State.popBuf
  rw [if_neg hp]

/-- A head read with a double-bit error (R158): poisoned in its place, and BUF_UE reported. -/
theorem bufRead_double (h : s.buf r port vc = sh :: rest) :
    let t := s.bufRead r port vc 2 sh
    t.buf r port vc = poisoned sh :: rest ∧ OnlyBuf r port vc s t ∧ t.get F.WFT_STATUS_BUF_UE = 1 ∧
      sameRegs s t [R.WFT_STATUS, R.WFT_ERR_CAP0, R.WFT_ERR_CAP1] := by
  let s1 := (s.set F.WFT_STATUS_BUF_UE 1).weftCap 9 r port vc (capInfo sh)
  have hcap := onlyRegs_weftCap (s.set F.WFT_STATUS_BUF_UE 1) 9 r port vc (capInfo sh)
  have hrec : recordsOnly s s1 := recordsOnly_trans (recordsOnly_of_onlyBank (onlyBank_set s ..)) (recordsOnly_of_onlyBank hcap.1)
  have hbuf : s1.buf r port vc = sh :: rest := (buf_of_recordsOnly hrec).trans h
  have hget : s1.get F.WFT_STATUS_BUF_UE = 1 := (get_eq_of_sameRegs hcap.2 (by decide)).trans (get_one (by decide) s)
  have hregs : sameRegs s s1 [R.WFT_STATUS, R.WFT_ERR_CAP0, R.WFT_ERR_CAP1] :=
    sameRegs_trans (onlyRegs_set s F.WFT_STATUS_BUF_UE 1 0 (by decide)).2 (sameRegs_mono hcap.2 (by decide))
  have hread : s.bufRead r port vc 2 sh = if port = 4 then s1.setTile r { s1.tile r with outbox := markVc vc (s1.tile r).outbox }
      else { s1 with weft := { s1.weft with bufs := smSet [] (bufKey r port vc) (poisoned sh :: (s1.buf r port vc).drop 1) s1.weft.bufs } } := rfl
  dsimp only
  rw [hread]
  by_cases hp : port = 4
  · rw [if_pos hp]
    refine ⟨?_, (OnlyBuf.of_recordsOnly r port vc hrec).trans (.outbox _), hget, hregs⟩
    unfold State.buf at hbuf ⊢
    rw [if_pos hp] at hbuf ⊢
    rw [State.tile_setTile_same]
    exact filter_markVc hbuf
  · rw [if_neg hp]
    refine ⟨?_, (OnlyBuf.of_recordsOnly r port vc hrec).trans (.queue _), hget, hregs⟩
    rw [hbuf]
    unfold State.buf
    rw [if_neg hp, smGet_smSet_same, List.drop_one, List.tail_cons]

end

/-! ### Ejection (R44, R56) -/

/-- A tile that has taken a shuttle from its router. -/
def tEjected (sh : Shuttle) (u : Tile) : Tile :=
  if hKind sh.hdr = 5 then { u with spOut := rspArrive (hSrc sh.hdr) u.spOut } else { u with inbox := u.inbox ++ [sh] }

theorem eject_eq (s : State) (r : Nat) (sh : Shuttle) : s.eject r sh = s.setTile r (tEjected sh (s.tile r)) := by
  unfold State.eject tEjected
  split <;> rfl

theorem outbox_tEjected (sh : Shuttle) (u : Tile) : (tEjected sh u).outbox = u.outbox := by
  unfold tEjected
  split <;> rfl

theorem withOutbox_tEjected {x sh : Shuttle} (hkind : hKind x.hdr = hKind sh.hdr) (hsrc : hSrc x.hdr = hSrc sh.hdr) (u : Tile) (l : List Shuttle) :
    { tEjected x u with outbox := l } = if hKind sh.hdr = 5 then { u with spOut := rspArrive (hSrc sh.hdr) u.spOut, outbox := l }
      else { u with inbox := u.inbox ++ [x], outbox := l } := by
  unfold tEjected
  rw [hkind, hsrc]
  split <;> rfl

theorem buf_eject (s : State) (a r port vc : Nat) (sh : Shuttle) : (s.eject a sh).buf r port vc = s.buf r port vc := by
  rw [eject_eq]
  unfold State.buf
  rw [State.setTile_tile]
  by_cases hr : r = a
  · rw [if_pos hr, outbox_tEjected, hr]
    rfl
  · rw [if_neg hr]
    rfl

/-! ### The SPOOL port (R56, R195) -/

theorem toController_eq {sh : Shuttle} (hk : hKind sh.hdr = 4) (s : State) (r : Nat) : s.toController r sh =
    s.setTile (hSrc sh.hdr) { s.tile (hSrc sh.hdr) with spReqs := reqArrive r (s.tile (hSrc sh.hdr)).spReqs } := if_pos hk

end Sys2Proof.Machine
end

section
/-!
PROOFS. Routing the shuttle at the head of a buffer (R158, R160, R165 to R168): one equation for each way out of `State.route`, and what each way
leaves of the state.
-/
namespace Sys2Proof.Machine

/-! ### The ways of a shuttle -/

section
variable {s : State} {r port vc : Nat} {sh : Shuttle}

theorem route_kind (h : kindVc (hKind sh.hdr) ≠ some vc) : s.route r port vc sh =
    (s.popBuf r port vc).discard F.WFT_STATUS_KIND 8 F.WFT_DROP_COUNT_DROPS r port vc (capInfo sh) := if_pos (.inl h)

section
variable (hk : kindVc (hKind sh.hdr) = some vc) (hv : hVc sh.hdr = vc)
include hk hv

theorem route_multicast {m : Nat} (h1 : hKind sh.hdr = 1) (hm : s.weft.mcastMask r (hGroup sh.hdr) = some m) :
    s.route r port vc sh = s.copyOut r port vc sh (maskPorts m) := by
  have hk1 : kindVc 1 = some vc := h1 ▸ hk
  unfold State.route
  simp [hk1, hv, h1, hm]

variable (h1 : hKind sh.hdr ≠ 1) (h2 : hKind sh.hdr ≠ 2) (h3 : hKind sh.hdr ≠ 3)
include h1 h2 h3

theorem route_noWay (hp : s.unicastPort r sh = none) : s.route r port vc sh =
    (s.popBuf r port vc).discard F.WFT_STATUS_NO_ROUTE 1 F.WFT_DROP_COUNT_DROPS r port vc (capInfo sh) := by
  unfold State.route
  simp [hk, hv, h1, h2, h3, hp]

theorem route_deaf (hp : s.unicastPort r sh = some 4) (hd : s.deaf r = true) : s.route r port vc sh =
    (s.popBuf r port vc).discard F.WFT_STATUS_DEST_OFF 2 F.WFT_DROP_COUNT_DROPS r port vc (capInfo sh) := by
  unfold State.route
  simp [hk, hv, h1, h2, h3, hp, hd]

theorem route_eject (hp : s.unicastPort r sh = some 4) (hd : s.deaf r = false) :
    s.route r port vc sh = (s.popBuf r port vc).eject r sh := by
  unfold State.route
  simp [hk, hv, h1, h2, h3, hp, hd]

theorem route_spool (hp : s.unicastPort r sh = some 5) :
    s.route r port vc sh = if s.spoolTakes r = true then (s.popBuf r port vc).toController r sh else s := by
  unfold State.route
  simp [hk, hv, h1, h2, h3, hp, State.canLeave, State.leave]

variable {p : Nat} (hlt : p < 4) (hp : s.unicastPort r sh = some p)
include hlt hp

theorem route_hop (h0 : hHops sh.hdr = 0) : s.route r port vc sh =
    (s.popBuf r port vc).discard F.WFT_STATUS_HOP 0 F.WFT_HOP_COUNT_HOPS r port vc (capInfo sh) := by
  unfold State.route
  simp [hk, hv, h1, h2, h3, hp, h0, show p ≠ 4 by omega, show p ≠ 5 by omega]

theorem route_forward (h0 : hHops sh.hdr ≠ 0) :
    s.route r port vc sh = if s.canLeave r p sh = true then (s.popBuf r port vc).leave r p (hopped sh) else s := by
  unfold State.route
  simp [hk, hv, h1, h2, h3, hp, h0, show p ≠ 4 by omega, show p ≠ 5 by omega]

end

/-! ### What each way leaves -/

section
variable {rest : List Shuttle} (h : s.buf r port vc = sh :: rest)
include h

/-- Discarded: the head has left its buffer and is reported, and the tile takes nothing. -/
theorem discard_popBuf {bit count : Fld} (hf : reportable bit count) (n info : Nat) :
    let t := (s.popBuf r port vc).discard bit n count r port vc info
    (t.buf r port vc = rest ∧ ∀ b, b ≠ r → t.tile b = s.tile b) ∧
      (∀ k, k ≠ bufKey r port vc → smGet [] k t.weft.bufs = smGet [] k s.weft.bufs) ∧ t.get bit = 1 ∧
      t.get count = min (2 ^ count.w - 1) (s.get count + 1) ∧ (t.tile r).inbox = (s.tile r).inbox ∧
      sameRegs s t [bit.reg, count.reg, R.WFT_ERR_CAP0, R.WFT_ERR_CAP1, R.DMP_SUPPRESSED, R.DMP_STATUS] := by
  obtain ⟨hbuf, hpop, hbank⟩ := popBuf_leaves h
  obtain ⟨hbit, hcount, hrec, hregs⟩ := report_shows (s.popBuf r port vc) hf n r port vc info 7 13 5 r
    ((((s.popBuf r port vc).set bit 1).add count 1).weftCap n r port vc info).weftCapBits
  have hall := hpop.trans (.of_recordsOnly r port vc hrec)
  refine ⟨⟨(buf_of_recordsOnly hrec).trans hbuf, hall.tiles⟩, hall.bufs, hbit, ?_, ?_, sameRegs_trans (sameRegs_of_bank hbank _) hregs⟩
  · rw [← get_of_bank hbank]
    exact hcount
  · exact hall.inbox

end

/-- Ejected after a change of its own buffer alone: the tile takes the shuttle. -/
theorem eject_after {u : State} {rest : List Shuttle} (hu : OnlyBuf r port vc s u) (hbuf : u.buf r port vc = rest) {x : Shuttle}
    (hkind : hKind x.hdr = hKind sh.hdr) (hsrc : hSrc x.hdr = hSrc sh.hdr) :
    let t := u.eject r x
    ((t.buf r port vc = rest ∧ ∀ b, b ≠ r → t.tile b = s.tile b) ∧
      (∀ k, k ≠ bufKey r port vc → smGet [] k t.weft.bufs = smGet [] k s.weft.bufs) ∧
      t.tile r = (if hKind sh.hdr = 5 then
          { s.tile r with spOut := rspArrive (hSrc sh.hdr) (s.tile r).spOut, outbox := (t.tile r).outbox }
        else { s.tile r with inbox := (s.tile r).inbox ++ [x], outbox := (t.tile r).outbox })) ∧ t.bank = u.bank := by
  refine ⟨⟨⟨(buf_eject ..).trans hbuf, fun b hb => ?_⟩, fun k hk => ?_, ?_⟩, ?_⟩
  · rw [eject_eq, State.tile_setTile_other _ hb, hu.tiles b hb]
  · rw [eject_eq, State.weft_setTile, hu.bufs k hk]
  · rw [← withOutbox_tEjected hkind hsrc, eject_eq, State.tile_setTile_same, hu.tile]
    unfold tEjected
    split <;> rfl
  · rw [eject_eq, State.bank_setTile]

end

/-! ### A multicast for the tile alone (R166) -/

theorem maskPorts_local : maskPorts 16 = [4] := by decide

section
variable {s : State} {r port vc : Nat} {sh : Shuttle}

/-- With LOCAL alone in the mask the only copy is ejected, and the shuttle leaves its buffer. -/
theorem copyOut_local (hc : smGet 0 (bufKey r port vc) s.weft.copied = 0) (hd : s.deaf r = false) :
    ∃ c, s.copyOut r port vc sh [4] =
      { s.eject r sh with weft := { (s.eject r sh).weft with copied := c } }.popBuf r port vc := by
  have hcopy : s.copyTo r 4 sh = s.eject r sh := by
    unfold State.copyTo
    rw [if_pos rfl, hd, if_neg Bool.false_ne_true]
  by_cases h0 : hHops sh.hdr = 0
  · refine ⟨(s.eject r sh).weft.copied, ?_⟩
    unfold State.copyOut
    simp [h0, hcopy]
  · refine ⟨smSet 0 (bufKey r port vc) 0 (s.eject r sh).weft.copied, ?_⟩
    unfold State.copyOut
    simp [h0, hcopy, hc, bitAt, State.canLeave]

end

/-! ### Onto a link inside the wafer (R158, R176) -/

section
variable (s : State) {r p n q : Nat} (hn : neigh r p = .mesh n q)
include hn

theorem leave_mesh (hlt : p < 4) (sh : Shuttle) : s.leave r p sh = { s with weft := s.weft.send r p sh } := by
  unfold State.leave
  split
  · omega
  · omega
  · rw [hn]

theorem txAt_send_mesh (w : Weft) (sh : Shuttle) : (w.send r p sh).txAt (linkKey r p) =
    { w.txAt (linkKey r p) with wait := (w.txAt (linkKey r p)).wait ++ flitsOfShuttle sh }.pump (retryCap r p) := by
  unfold Weft.send linkEnd
  rw [hn]
  exact smGet_smSet_same ..

end

/-! ### SHUTTLE_ROUTE -/

section
variable {r : TileAddr} (hok : tileOk r.toNat = true) (s : State) (port : Fin 6) (vc : Fin 4) (e : Fin 3)
include hok

theorem exec_shuttleRoute_empty (h : s.buf r.toNat port.val vc.val = []) : exec (.shuttleRoute r port vc e) s = .next s := by
  show execShuttleRoute r port vc e s = _
  unfold execShuttleRoute
  rw [onTile_next hok, h]

variable {s port vc} {sh : Shuttle} {rest : List Shuttle} (h : s.buf r.toNat port.val vc.val = sh :: rest)
include h

theorem exec_shuttleRoute : exec (.shuttleRoute r port vc e) s = .next
    (if (s.bufRead r.toNat port.val vc.val e.val sh).vsOn (fieldOf r.toNat) = true then
      (s.bufRead r.toNat port.val vc.val e.val sh).route r.toNat port.val vc.val (if e.val = 2 then poisoned sh else sh) else s) := by
  show execShuttleRoute r port vc e s = _
  unfold execShuttleRoute
  rw [onTile_next hok, h]

theorem exec_shuttleRoute_clean (hvs : s.vsOn (fieldOf r.toNat) = true) :
    exec (.shuttleRoute r port vc 0) s = .next (s.route r.toNat port.val vc.val sh) :=
  (exec_shuttleRoute hok 0 h).trans (congrArg Host.Outcome.next (if_pos hvs))

theorem exec_shuttleRoute_corrected (hvs : s.vsOn (fieldOf r.toNat) = true) :
    exec (.shuttleRoute r port vc 1) s = .next ((s.add F.WFT_RTR_RETRY_CE 1 r.toNat).route r.toNat port.val vc.val sh) := by
  refine (exec_shuttleRoute hok 1 h).trans (congrArg Host.Outcome.next (if_pos ?_))
  exact (domOn_corrected ..).trans hvs

theorem exec_shuttleRoute_double (hvs : s.vsOn (fieldOf r.toNat) = true) :
    exec (.shuttleRoute r port vc 2) s =
      .next ((s.bufRead r.toNat port.val vc.val 2 sh).route r.toNat port.val vc.val (poisoned sh)) := by
  obtain ⟨-, -, -, hregs⟩ := bufRead_double h
  refine (exec_shuttleRoute hok 2 h).trans (congrArg Host.Outcome.next (if_pos ?_))
  exact (domOn_of_sameRegs hregs (by decide) _).trans hvs

theorem exec_shuttleRoute_dark (hvs : s.vsOn (fieldOf r.toNat) = false) : exec (.shuttleRoute r port vc 0) s = .next s :=
  (exec_shuttleRoute hok 0 h).trans (congrArg Host.Outcome.next (if_neg (Bool.eq_false_iff.mp hvs)))

end

end Sys2Proof.Machine

open Sys2Proof Sys2Proof.Machine

/-- Settles O18: the equations of `State.route` name the way of the head, `discard_popBuf` and `eject_after` say what a discarded and an ejected
shuttle leave, and a shuttle that goes onto a link changes the sending end alone. -/
theorem shuttleRouting : Obligations.ShuttleRouting := by
  unfold Obligations.ShuttleRouting
  intro s r port vc sh rest hok
  dsimp only
  refine ⟨fun h e => exec_shuttleRoute_empty hok s port vc e h, fun hvs => ?dark, fun hvs h hv => ⟨fun hk => ?kind,
    fun hk h1 hm hc hd => ?multicast, fun hk h1 h2 h3 => ⟨fun hp => ?noWay, fun hp hd => ?deaf, fun hp hd => ⟨?clean, ?corrected, ?double⟩, fun p hlt hp => ⟨fun h0 => ?hop,
    fun h0 hl => ?stays, fun n q h0 hl hn => ?mesh⟩⟩⟩, fun hvs h hp4 hvc hv hk hp => ?spool⟩
  case dark =>
    match hb : s.buf r.toNat port.val vc.val with
    | [] => exact exec_shuttleRoute_empty hok s port vc 0 hb
    | x :: xs => exact exec_shuttleRoute_dark hok hb hvs
  case kind => exact ⟨_, (exec_shuttleRoute_clean hok h hvs).trans (congrArg _ (route_kind hk)), discard_popBuf h (by decide) 8 _⟩
  case multicast =>
    obtain ⟨c, hcopy⟩ := copyOut_local (port := port.val) (sh := sh) hc hd
    refine ⟨_, (exec_shuttleRoute_clean hok h hvs).trans (congrArg _ ((route_multicast hk hv h1 hm).trans (maskPorts_local ▸ hcopy))), ?_⟩
    obtain ⟨hleft, hpop, hbank⟩ := popBuf_leaves (s := { s.eject r.toNat sh with weft := { (s.eject r.toNat sh).weft with copied := c } })
      ((buf_eject ..).trans h)
    have hstart := OnlyBuf.of_recordsOnly r.toNat port.val vc.val (recordsOnly_refl s)
    obtain ⟨⟨⟨-, htiles⟩, hbufs, -⟩, hbank'⟩ := eject_after hstart h (x := sh) rfl rfl
    refine ⟨⟨⟨hleft, fun b hb => (hpop.tiles b hb).trans (htiles b hb)⟩, fun k hk => (hpop.bufs k hk).trans (hbufs k hk), ?_⟩,
      hbank.trans hbank'⟩
    rw [← withOutbox_tEjected rfl rfl, hpop.tile, ← State.tile_setTile_same s r.toNat (tEjected sh _), ← eject_eq]
    rfl
  case noWay =>
    exact ⟨_, (exec_shuttleRoute_clean hok h hvs).trans (congrArg _ (route_noWay hk hv h1 h2 h3 hp)), discard_popBuf h (by decide) 1 _⟩
  case deaf =>
    exact ⟨_, (exec_shuttleRoute_clean hok h hvs).trans (congrArg _ (route_deaf hk hv h1 h2 h3 hp hd)), discard_popBuf h (by decide) 2 _⟩
  case clean =>
    obtain ⟨hbuf, hpop, hbank⟩ := popBuf_leaves h
    obtain ⟨hejected, hbank'⟩ := eject_after hpop hbuf (x := sh) rfl rfl
    exact ⟨_, (exec_shuttleRoute_clean hok h hvs).trans (congrArg _ (route_eject hk hv h1 h2 h3 hp hd)), hejected, hbank'.trans hbank⟩
  case corrected =>
    have hrec := recordsOnly_corrected s r.toNat
    have hread := OnlyBuf.of_recordsOnly r.toNat port.val vc.val hrec
    obtain ⟨hbuf, hpop, hbank⟩ := popBuf_leaves ((buf_of_recordsOnly hrec).trans h)
    obtain ⟨hejected, hbank'⟩ := eject_after (hread.trans hpop) hbuf (x := sh) rfl rfl
    have hroute := route_eject hk hv h1 h2 h3 ((hread.unicastPort ..).trans hp) ((hread.deaf (domOn_corrected s _)).trans hd) (port := port.val)
    refine ⟨_, (exec_shuttleRoute_corrected hok h hvs).trans (congrArg _ hroute), hejected, ?_⟩
    rw [get_of_bank (hbank'.trans hbank), State.get_add_same _ _ _ _ (by decide)]
  case double =>
    obtain ⟨hhead, hread, hue, hregs⟩ := bufRead_double h
    obtain ⟨hbuf, hpop, hbank⟩ := popBuf_leaves hhead
    obtain ⟨hejected, hbank'⟩ := eject_after (hread.trans hpop) hbuf (hKind_poisoned sh) (hSrc_poisoned sh)
    have hroute := route_eject (sh := poisoned sh) (by rwa [hKind_poisoned]) (by rwa [hVc_poisoned]) (by rwa [hKind_poisoned])
      (by rwa [hKind_poisoned]) (by rwa [hKind_poisoned]) ((hread.unicastPort ..).trans ((unicastPort_poisoned ..).trans hp))
      ((hread.deaf (domOn_of_sameRegs hregs (by decide))).trans hd) (port := port.val)
    exact ⟨_, (exec_shuttleRoute_double hok h hvs).trans (congrArg _ hroute), hejected, (get_of_bank (hbank'.trans hbank) _ _).trans hue⟩
  case hop =>
    exact ⟨_, (exec_shuttleRoute_clean hok h hvs).trans (congrArg _ (route_hop hk hv h1 h2 h3 hlt hp h0)), discard_popBuf h (by decide) 0 _⟩
  case stays =>
    exact (exec_shuttleRoute_clean hok h hvs).trans (congrArg _ ((route_forward hk hv h1 h2 h3 hlt hp h0).trans (if_neg (by simp [hl]))))
  case mesh =>
    obtain ⟨hbuf, hpop, hbank⟩ := popBuf_leaves h
    refine ⟨_, (exec_shuttleRoute_clean hok h hvs).trans (congrArg _ ((route_forward hk hv h1 h2 h3 hlt hp h0).trans ((if_pos hl).trans
      (leave_mesh _ hn hlt _)))), ⟨hbuf, hpop.tiles⟩, hpop.bufs, hbank, ?_, hpop.inbox, ?_⟩
    · exact (congrArg State.out hpop.rest).trans rfl
    · rw [← show (s.popBuf r.toNat port.val vc.val).weft.txAt (linkKey r.toNat p) = s.weft.txAt (linkKey r.toNat p) by rw [hpop.rest]; rfl]
      exact txAt_send_mesh hn _ _
  case spool =>
    have hkind : kindVc (hKind sh.hdr) = some vc.val := by rw [hk, hvc]; rfl
    have hroute := route_spool hkind (hv.trans hvc.symm) (by omega) (by omega) (by omega) hp (port := port.val)
    refine ⟨fun ht => ?_, fun ht => ?_⟩
    · exact (exec_shuttleRoute_clean hok h hvs).trans (congrArg _ (hroute.trans (if_neg (by simp [ht]))))
    · obtain ⟨hbuf, hpop, hbank⟩ := popBuf_leaves h
      have htile : ∀ b, (s.popBuf r.toNat port.val vc.val).tile b = s.tile b := fun b => congrArg (smGet Tile.empty b) (tiles_popBuf hp4)
      refine ⟨_, (exec_shuttleRoute_clean hok h hvs).trans (congrArg _ (hroute.trans (if_pos ht))), ?_⟩
      rw [toController_eq hk]
      refine ⟨?_, hbank, ?_, fun b hb => ?_⟩
      · unfold State.buf at hbuf ⊢
        rw [if_neg hp4] at hbuf ⊢
        exact hbuf
      · rw [State.tile_setTile_same, htile]
      · rw [State.tile_setTile_other _ hb, htile]

end

section
/-!
PROOFS. Folds (R170, R171): what an arrival makes of the combine slots of its router, and when a slot is combined.
-/
namespace Sys2Proof.Machine

/-- The combine slots replaced. -/
def State.withSlots (s : State) (l : List CombSlot) : State := { s with weft := { s.weft with slots := l } }

/-- The slot that the first arrival of a key opens (R170). -/
def openedSlot (r port : Nat) (sh : Shuttle) : CombSlot :=
  ⟨r, hGroup sh.hdr, hChunk sh.hdr, hPick sh.hdr, hKind sh.hdr, hFmt sh.hdr, hNblk sh.hdr, [port], foldVals sh, hContrib sh.hdr, hHops sh.hdr,
    hPoison sh.hdr, sh.hdr⟩

/-! ### FOLD_ARRIVAL -/

section
variable {s : State} {r port : Nat} {sh : Shuttle} {rest : List Shuttle} {coll : Bool} {mask out n : Nat}

theorem foldArrive_empty (h : s.buf r port 0 = []) : s.foldArrive r port = s := by
  unfold State.foldArrive
  rw [h]

theorem kindVc_fold {k : Nat} (h : k = 2 ∨ k = 3) : kindVc k = some 0 := by
  rcases h with rfl | rfl <;> rfl

variable (h : s.buf r port 0 = sh :: rest) (hk : hKind sh.hdr = 2 ∨ hKind sh.hdr = 3)
  (he : s.weft.foldEntry r (hGroup sh.hdr) = some (coll, mask, out, n)) (hm : bitAt mask port = true)
include h hk he hm

/-- The first arrival of a key opens a slot, or waits while eight are in use. -/
theorem foldArrive_first (hf : s.weft.slots.find? (fun c => c.is r (hGroup sh.hdr) (hChunk sh.hdr) (hPick sh.hdr)) = none) :
    s.foldArrive r port = if 8 ≤ (s.weft.slotsAt r).length then s
      else (s.popBuf r port 0).withSlots ((s.popBuf r port 0).weft.slots ++ [openedSlot r port sh]) := by
  unfold State.foldArrive
  simp [h, kindVc_fold hk, he, hf, hm, State.withSlots, openedSlot]

/-- An arrival of another port of the mask, in the slot's format, is combined into its slot. -/
theorem foldArrive_joins {c : CombSlot} (hf : s.weft.slots.find? (fun c => c.is r (hGroup sh.hdr) (hChunk sh.hdr) (hPick sh.hdr)) = some c)
    (hport : port ∉ c.ports) (hfmt : hFmt sh.hdr = c.fmt) (hnblk : hNblk sh.hdr = c.nblk) :
    s.foldArrive r port = (s.popBuf r port 0).withSlots ((s.popBuf r port 0).weft.slots.map fun x =>
      if x.is r (hGroup sh.hdr) (hChunk sh.hdr) (hPick sh.hdr) then x.arrive port false sh else x) := by
  unfold State.foldArrive
  simp [h, kindVc_fold hk, he, hf, hm, hport, hfmt, hnblk, State.withSlots]

end

/-- A well-formed arrival of a further port (R170). -/
theorem arrive_joins {c : CombSlot} {port : Nat} {sh : Shuttle} (hport : port ∉ c.ports) (hkind : hKind sh.hdr = c.kind)
    (hfmt : hFmt sh.hdr = c.fmt) (hnblk : hNblk sh.hdr = c.nblk) : c.arrive port false sh =
      { c with vals := if c.vals = [] then foldVals sh else foldCombine c.kind c.vals (foldVals sh), contrib := c.contrib + hContrib sh.hdr,
               hops := min c.hops (hHops sh.hdr), poison := c.poison || hPoison sh.hdr, ports := c.ports ++ [port] } := by
  unfold CombSlot.arrive
  simp [hport, hkind, hfmt, hnblk]

/-- After the head has left its buffer for a slot. -/
theorem withSlots_popBuf {s : State} {r port vc : Nat} {sh : Shuttle} {rest : List Shuttle} (h : s.buf r port vc = sh :: rest)
    (l : List CombSlot) :
    let t := (s.popBuf r port vc).withSlots l
    t.buf r port vc = rest ∧ t.bank = s.bank ∧ ∀ b, b ≠ r → t.tile b = s.tile b := by
  obtain ⟨hbuf, hpop, hbank⟩ := popBuf_leaves h
  exact ⟨hbuf, hbank, hpop.tiles⟩

theorem slots_popBuf {s : State} {r port vc : Nat} {sh : Shuttle} {rest : List Shuttle} (h : s.buf r port vc = sh :: rest) :
    (s.popBuf r port vc).weft.slots = s.weft.slots := by
  obtain ⟨-, hpop, -⟩ := popBuf_leaves h
  rw [hpop.rest]

/-! ### FOLD_COMBINE_COMPLETE -/

theorem all_maskPorts (mask : Nat) (l : List Nat) :
    ((maskPorts mask).all fun p => decide (p ∈ l)) = true ↔ ∀ p, p < 6 → bitAt mask p = true → p ∈ l := by
  simp only [maskPorts, List.all_eq_true, List.mem_filter, mem_rangeFrom, decide_eq_true_eq, Nat.zero_le, true_and, Nat.zero_add, and_imp]

section
variable {s : State} {r g ch pk : Nat} {c : CombSlot} {coll : Bool} {mask out n : Nat}
  (hf : s.weft.slots.find? (fun c => c.is r g ch pk) = some c) (he : s.weft.foldEntry r g = some (coll, mask, out, n))
include hf he

theorem foldDone_waits (hw : ∃ p, p < 6 ∧ bitAt mask p = true ∧ p ∉ c.ports) : s.foldDone r g ch pk = s := by
  obtain ⟨p, hp, hbit, hnot⟩ := hw
  have hall : ¬ ((maskPorts mask).all fun p => decide (p ∈ c.ports)) = true := fun h => hnot ((all_maskPorts ..).mp h p hp hbit)
  unfold State.foldDone
  simp only [hf, he, if_neg hall]

/-- The state in which the collector ejects: the slot is free, and a count of contributions other than the table's is reported (R171). -/
def State.collected (s : State) (r g ch pk n : Nat) (c : CombSlot) : State :=
  let free := s.withSlots (s.weft.slots.filter fun x => !(x.is r g ch pk))
  if c.contrib ≠ n then free.foldErr F.WFT_STATUS_FOLD_COUNT 3 r 4 c.contrib else free

theorem foldDone_collects (hall : ∀ p, p < 6 → bitAt mask p = true → p ∈ c.ports) (hc : coll = true) (hd : s.deaf r = false) :
    s.foldDone r g ch pk = (s.collected r g ch pk n c).eject r (c.shuttle (c.poison || decide (c.contrib ≠ n))) := by
  unfold State.foldDone
  simp only [hf, he, if_pos ((all_maskPorts ..).mpr hall), if_pos hc, hd, if_neg Bool.false_ne_true]
  rfl

end

theorem collected_effect (s : State) (r g ch pk n : Nat) (c : CombSlot) :
    recordsOnly (s.withSlots (s.weft.slots.filter fun x => !(x.is r g ch pk))) (s.collected r g ch pk n c) ∧
      if c.contrib = n then (s.collected r g ch pk n c).bank = s.bank else (s.collected r g ch pk n c).get F.WFT_STATUS_FOLD_COUNT = 1 := by
  unfold State.collected
  by_cases hn : c.contrib = n
  · simp only [hn, ne_eq, not_true_eq_false, if_false, if_true]
    exact ⟨recordsOnly_refl _, rfl⟩
  · simp only [hn, ne_eq, not_false_eq_true, if_false, if_true]
    obtain ⟨hbit, -, hrec, -⟩ := report_shows (s.withSlots (s.weft.slots.filter fun x => !(x.is r g ch pk)))
      (show reportable F.WFT_STATUS_FOLD_COUNT F.WFT_FOLD_ERR_COUNT_FOLDS by decide) 3 r 4 0 c.contrib 6 13 2 r _
    exact ⟨hrec, hbit⟩

/-! ### On a device with one slot -/

theorem find_single {c : CombSlot} {r g ch pk : Nat} (h : c.is r g ch pk = true) : [c].find? (fun c => c.is r g ch pk) = some c := by
  rw [List.find?_cons, h]

theorem filter_single {c : CombSlot} {r g ch pk : Nat} (h : c.is r g ch pk = true) : [c].filter (fun x => !(x.is r g ch pk)) = [] := by
  rw [List.filter_cons, h]
  rfl

section
variable {r : TileAddr} (hok : tileOk r.toNat = true) (s : State)
include hok

theorem exec_foldArrival (port : Fin 6) : exec (.foldArrival r port) s = .next (s.foldArrive r.toNat port.val) :=
  onTile_next hok s fun _ => s.foldArrive r.toNat port.val

theorem exec_foldCombineComplete (group chunk : BitVec 12) (pick : BitVec 16) :
    exec (.foldCombineComplete r group chunk pick) s = .next (s.foldDone r.toNat group.toNat chunk.toNat pick.toNat) :=
  onTile_next hok s fun _ => s.foldDone r.toNat group.toNat chunk.toNat pick.toNat

end

end Sys2Proof.Machine

open Sys2Proof Sys2Proof.Machine

/-- Settles O19: an arrival opens a slot (`foldArrive_first`) or joins one (`foldArrive_joins`), and a slot with every port of the mask is ejected by
the collector (`foldDone_collects`). -/
theorem folds : Obligations.Folds := by
  unfold Obligations.Folds
  intro s r port sh rest coll mask out n hok
  dsimp only
  have harrival := exec_foldArrival hok s port
  refine ⟨fun h => harrival.trans (congrArg _ (foldArrive_empty h)),
    fun h hv hk he hm => ⟨fun hf => ?first, fun c hs hc hport hkind hfmt hnblk => ?joins⟩,
    fun c group chunk pick hs hc he => ?complete⟩
  case first =>
    have hfirst := foldArrive_first h hk he hm hf
    refine ⟨fun hlt => ⟨_, harrival.trans (congrArg _ (hfirst.trans (if_neg (Nat.not_le.mpr hlt)))), ?_⟩,
      fun hle => harrival.trans (congrArg _ (hfirst.trans (if_pos hle)))⟩
    obtain ⟨hbuf, hbank, htiles⟩ := withSlots_popBuf h ((s.popBuf r.toNat port.val 0).weft.slots ++ [openedSlot r.toNat port.val sh])
    exact ⟨hbuf, congrArg (· ++ [openedSlot r.toNat port.val sh]) (slots_popBuf h), hbank, htiles⟩
  case joins =>
    refine ⟨_, harrival.trans (congrArg _ (foldArrive_joins h hk he hm (hs ▸ find_single hc) hport hfmt hnblk)), ?_⟩
    obtain ⟨hbuf, hbank, -⟩ := withSlots_popBuf h ((s.popBuf r.toNat port.val 0).weft.slots.map fun x =>
      if x.is r.toNat (hGroup sh.hdr) (hChunk sh.hdr) (hPick sh.hdr) then x.arrive port.val false sh else x)
    refine ⟨hbuf, hbank, ?_⟩
    show (s.popBuf r.toNat port.val 0).weft.slots.map _ = _
    rw [slots_popBuf h, hs, List.map_singleton, if_pos hc, arrive_joins hport hkind hfmt hnblk]
  case complete =>
    have hcomplete := exec_foldCombineComplete hok s group chunk pick
    have hf := hs ▸ find_single hc
    refine ⟨fun hw => hcomplete.trans (congrArg _ (foldDone_waits hf he hw)), fun hall hcoll hd hkind => ?_⟩
    refine ⟨_, hcomplete.trans (congrArg _ (foldDone_collects hf he hall hcoll hd)), ?_⟩
    obtain ⟨hrec, hcount⟩ := collected_effect s r.toNat group.toNat chunk.toNat pick.toNat n c
    have htile : ∀ b, (s.collected r.toNat group.toNat chunk.toNat pick.toNat n c).tile b = s.tile b :=
      fun b => tile_of_recordsOnly hrec b
    have hweft : (s.collected r.toNat group.toNat chunk.toNat pick.toNat n c).weft = { s.weft with slots := [] } := by
      unfold recordsOnly at hrec
      rw [hrec, ← filter_single hc, ← hs]
      rfl
    rw [eject_eq, State.bank_setTile, State.get_setTile]
    refine ⟨by rw [State.weft_setTile, hweft], by rw [State.weft_setTile, hweft], fun b hb => ?_, ?_, hcount⟩
    · rw [State.tile_setTile_other _ hb, htile]
    · rw [State.tile_setTile_same, htile]
      unfold tEjected
      rw [if_neg hkind]

end

section
/-!
PROOFS. Link states put (R175) and swatch tests of a seam (R181, R182): the refusals in their order, the test begun, and its end.
-/
namespace Sys2Proof.Machine

/-! ### Link states -/

/-- Of the weft at most link states differ. -/
def linksOnly (w v : Weft) : Prop := v = { w with links := v.links }

theorem linksOnly_setLink (w : Weft) (r port v : Nat) : linksOnly w (w.setLink r port v) := by
  unfold Weft.setLink
  split <;> rfl

theorem linksOnly_foldl {α : Type} {f : Weft → α → Weft} (hf : ∀ u x, linksOnly u (f u x)) (l : List α) (w : Weft) :
    linksOnly w (l.foldl f w) := by
  induction l generalizing w with
  | nil => rfl
  | cons x l ih =>
    have hx := hf w x
    have hl := ih (f w x)
    unfold linksOnly at hx hl ⊢
    rw [List.foldl_cons, hl, hx]

/-! ### WFT_SWATCH_START -/

/-- The seam and the channel of a test exist (R182). -/
abbrev swatchExists (sm ch : Nat) : Prop := sm ≤ 119 ∧ (ch = 127 ∨ ch < seamChannels sm)

section
variable (s : State) (depth sm ch k : Nat)

/-- The loaded pattern routes traffic through a channel under test outside IDLE (R182). -/
abbrev State.swatchUsed : Prop :=
  s.pickState ≠ 0 ∧ s.get F.WRP_STATUS_LOADED = 1 ∧ (swatchChannels sm ch).any (fun c => s.seamUsed sm c) = true

/-- A channel under test is in training. -/
abbrev State.swatchTraining : Prop :=
  (swatchChannels sm ch).any (fun c => decide (s.linkState (seamPort sm c).1 (seamPort sm c).2 = 2)) = true

/-- The fields of the request stand in WFT_SWATCH_CTRL. -/
def State.swatchAsked : State :=
  (((s.set F.WFT_SWATCH_CTRL_DEPTH depth).set F.WFT_SWATCH_CTRL_SEAM sm).set F.WFT_SWATCH_CTRL_CHANNEL ch).set F.WFT_SWATCH_CTRL_FLITS_K k

/-- The weft with the channels under test in SWATCH. -/
def Weft.swatchBegin (w : Weft) : Weft :=
  { (swatchChannels sm ch).foldl (fun u c => u.setLink (seamPort sm c).1 (seamPort sm c).2 5) w with
    swatch := some (sm, (swatchChannels sm ch).map fun c => (c, smGet 0 (linkKey (seamPort sm c).1 (seamPort sm c).2) w.links)) }

/-- What the registers show once a test runs. -/
def State.swatchShown : State :=
  (((s.set F.WFT_SWATCH_STAT_RESULT 1).set F.WFT_SWATCH_STAT_ERR_FLITS 0).set F.WFT_STATUS_SWATCH_DONE 0).set F.WFT_SWATCH_CH_VALID 0

/-- The test runs. -/
def State.swatchStarted : State := { s.swatchAsked depth sm ch k with weft := s.weft.swatchBegin sm ch }.swatchShown

variable {s sm ch}

theorem wftSwatch_missing (h : ¬ swatchExists sm ch) :
    s.wftSwatch depth sm ch k = (s.swatchAsked depth sm ch k).set F.WFT_SWATCH_STAT_RESULT 6 := if_pos (by omega)

variable (h : swatchExists sm ch)
include h

theorem wftSwatch_running (hw : s.weft.swatch ≠ none) :
    s.wftSwatch depth sm ch k = (s.swatchAsked depth sm ch k).set F.WFT_SWATCH_STAT_RESULT 4 :=
  (if_neg (by omega)).trans (if_pos (Option.isSome_iff_ne_none.mpr hw))

variable (hw : s.weft.swatch = none)
include hw

theorem wftSwatch_dark (hp : s.seamPower sm = false) :
    s.wftSwatch depth sm ch k = (s.swatchAsked depth sm ch k).set F.WFT_SWATCH_STAT_RESULT 5 :=
  (if_neg (by omega)).trans ((if_neg (by simp [hw])).trans (if_pos hp))

variable (hp : s.seamPower sm = true)
include hp

theorem wftSwatch_busy (hb : s.swatchUsed sm ch ∨ s.swatchTraining sm ch) :
    s.wftSwatch depth sm ch k = (s.swatchAsked depth sm ch k).set F.WFT_SWATCH_STAT_RESULT 4 := by
  refine (if_neg (by omega)).trans ((if_neg (by simp [hw])).trans ((if_neg (by simp [hp])).trans ?_))
  by_cases hu : s.swatchUsed sm ch
  · exact if_pos hu
  · exact (if_neg hu).trans (if_pos (hb.resolve_left hu))

theorem wftSwatch_starts (hu : ¬ s.swatchUsed sm ch) (ht : ¬ s.swatchTraining sm ch) :
    s.wftSwatch depth sm ch k = s.swatchStarted depth sm ch k :=
  (if_neg (by omega)).trans ((if_neg (by simp [hw])).trans ((if_neg (by simp [hp])).trans ((if_neg hu).trans (if_neg ht))))

end

section
variable (s : State) (depth sm ch k : Nat)

theorem onlyRegs_swatchAsked : onlyRegs s (s.swatchAsked depth sm ch k) [R.WFT_SWATCH_CTRL] :=
  onlyRegs_trans (onlyRegs_trans (onlyRegs_trans (onlyRegs_set s F.WFT_SWATCH_CTRL_DEPTH depth 0 (by decide))
    (onlyRegs_set _ F.WFT_SWATCH_CTRL_SEAM sm 0 (by decide))) (onlyRegs_set _ F.WFT_SWATCH_CTRL_CHANNEL ch 0 (by decide)))
    (onlyRegs_set _ F.WFT_SWATCH_CTRL_FLITS_K k 0 (by decide))

/-- A refusal shows its code, and beside it only the request is stored. -/
theorem swatchRefused {code : Nat} (hc : code < 16) :
    let t := (s.swatchAsked depth sm ch k).set F.WFT_SWATCH_STAT_RESULT code
    t.get F.WFT_SWATCH_STAT_RESULT = code ∧ onlyRegs s t [R.WFT_SWATCH_CTRL, R.WFT_SWATCH_STAT] :=
  ⟨(State.get_set_same _ _ _ _ (by decide)).trans (Nat.mod_eq_of_lt hc),
    onlyRegs_trans (onlyRegs_mono (onlyRegs_swatchAsked ..) (by decide)) (onlyRegs_set _ F.WFT_SWATCH_STAT_RESULT code 0 (by decide))⟩

theorem bufs_swatchBegin (w : Weft) : (w.swatchBegin sm ch).bufs = w.bufs := by
  have h := linksOnly_foldl (fun u c => linksOnly_setLink u (seamPort sm c).1 (seamPort sm c).2 5) (swatchChannels sm ch) w
  unfold linksOnly at h
  unfold Weft.swatchBegin
  rw [h]

theorem swatchShown_shows :
    let t := s.swatchShown
    (t.get F.WFT_SWATCH_STAT_RESULT = 1 ∧ t.get F.WFT_SWATCH_STAT_ERR_FLITS = 0 ∧ t.get F.WFT_STATUS_SWATCH_DONE = 0) ∧
      onlyRegs s t [R.WFT_SWATCH_STAT, R.WFT_STATUS, R.WFT_SWATCH_CH] := by
  refine ⟨?_, onlyRegs_trans (onlyRegs_trans (onlyRegs_trans (onlyRegs_set s F.WFT_SWATCH_STAT_RESULT 1 0 (by decide))
    (onlyRegs_set _ F.WFT_SWATCH_STAT_ERR_FLITS 0 0 (by decide))) (onlyRegs_set _ F.WFT_STATUS_SWATCH_DONE 0 0 (by decide)))
    (onlyRegs_set _ F.WFT_SWATCH_CH_VALID 0 0 (by decide))⟩
  unfold State.swatchShown
  refine ⟨?_, ?_, ?_⟩ <;> simp (disch := decide) only [get_set_apart, State.get_set_same] <;> rfl

theorem swatchStarted_frame :
    let t := s.swatchStarted depth sm ch k
    t.weft = s.weft.swatchBegin sm ch ∧ t = { s with bank := t.bank, weft := t.weft } ∧
      sameRegs s t [R.WFT_SWATCH_CTRL, R.WFT_SWATCH_STAT, R.WFT_STATUS, R.WFT_SWATCH_CH] := by
  obtain ⟨hasked, hregs⟩ := onlyRegs_swatchAsked s depth sm ch k
  obtain ⟨-, hshown, hregs'⟩ := swatchShown_shows { s.swatchAsked depth sm ch k with weft := s.weft.swatchBegin sm ch }
  unfold onlyBank at hasked hshown
  dsimp only
  unfold State.swatchStarted
  refine ⟨by rw [hshown], by rw [hshown, hasked], fun i hi => ?_⟩
  simp only [List.mem_cons, not_or] at hi
  exact (hregs' i (by simp [hi])).trans (hregs i (by simp [hi]))

end

/-! ### WFT_SWATCH_COMPLETE -/

theorem swatchEnd_ends (w : Weft) : w.swatchEnd.swatch = none ∧ w.swatchEnd.bufs = w.bufs := by
  unfold Weft.swatchEnd
  split
  · next h => exact ⟨h, rfl⟩
  · next sm old h =>
    have hl := linksOnly_foldl
      (fun u (c : Nat × Nat) => linksOnly_setLink u (seamPort sm c.1).1 (seamPort sm c.1).2 (if c.2 = 4 then 2 else c.2)) old w
    unfold linksOnly at hl
    rw [hl]
    exact ⟨rfl, rfl⟩

theorem wftSwatchEnd_shows (s : State) {result : Nat} (hr : result < 16) (errs : Nat) (first : Option Nat) :
    let t := s.wftSwatchEnd result errs first
    t.weft = s.weft.swatchEnd ∧ t.get F.WFT_STATUS_SWATCH_DONE = 1 ∧ t.get F.WFT_SWATCH_STAT_RESULT = result ∧
      t.get F.WFT_SWATCH_STAT_ERR_FLITS = min errs (2 ^ 28 - 1) ∧
      ∀ c, first = some c → t.get F.WFT_SWATCH_CH_CH = c % 2 ^ 7 ∧ t.get F.WFT_SWATCH_CH_VALID = 1 := by
  have herrs : min errs (2 ^ 28 - 1) % 2 ^ 28 = min errs (2 ^ 28 - 1) := Nat.mod_eq_of_lt (by omega)
  have hres : result % 2 ^ 4 = result := Nat.mod_eq_of_lt hr
  unfold State.wftSwatchEnd
  cases first with
  | none =>
    refine ⟨rfl, ?_, ?_, ?_, fun _ hc => nomatch hc⟩ <;> simp (disch := decide) only [get_set_apart, State.get_set_same, herrs, hres]
    rfl
  | some c =>
    refine ⟨rfl, ?_, ?_, ?_, ?_⟩ <;> simp (disch := decide) only [get_set_apart, State.get_set_same, herrs, hres]
    · rfl
    · rintro _ ⟨⟩
      exact ⟨rfl, rfl⟩

theorem exec_wftSwatchStart (s : State) (depth : BitVec 2) (seam channel : BitVec 7) (k : BitVec 15) :
    exec (.wftSwatchStart depth seam channel k) s = .next (s.wftSwatch depth.toNat seam.toNat channel.toNat k.toNat) := rfl

theorem exec_wftSwatchComplete (s : State) (errs : Nat) (first : BitVec 7) : exec (.wftSwatchComplete errs first) s = .next
    (if s.weft.swatch.isSome then (if errs = 0 then s.wftSwatchEnd 2 0 none else s.wftSwatchEnd 3 errs (some first.toNat)) else s) := rfl

end Sys2Proof.Machine

open Sys2Proof Sys2Proof.Machine

/-- Settles O22: the refusals in the order of `State.wftSwatch`, the test begun by `swatchShown_shows` and
`swatchStarted_frame`, and its end by `wftSwatchEnd_shows`. -/
theorem seamTests : Obligations.SeamTests := by
  unfold Obligations.SeamTests
  intro s depth seam channel flitsK errs first
  dsimp only
  have hstart := exec_wftSwatchStart s depth seam channel flitsK
  refine ⟨fun h => ⟨_, hstart.trans (congrArg _ (wftSwatch_missing _ _ h)), swatchRefused _ _ _ _ _ (by decide)⟩,
    fun h hw => ⟨_, hstart.trans (congrArg _ (wftSwatch_running _ _ h hw)), swatchRefused _ _ _ _ _ (by decide)⟩,
    fun h hw hp => ⟨_, hstart.trans (congrArg _ (wftSwatch_dark _ _ h hw hp)), swatchRefused _ _ _ _ _ (by decide)⟩,
    fun h hw hp => ⟨fun hb => ⟨_, hstart.trans (congrArg _ (wftSwatch_busy _ _ h hw hp hb)), swatchRefused _ _ _ _ _ (by decide)⟩,
      fun hu ht => ?starts⟩,
    fun hw => ?idle, fun hw => ?ends⟩
  case starts =>
    obtain ⟨hweft, hframe, hregs⟩ := swatchStarted_frame s depth.toNat seam.toNat channel.toNat flitsK.toNat
    obtain ⟨⟨hresult, herrs, hdone⟩, -⟩ := swatchShown_shows
      { s.swatchAsked depth.toNat seam.toNat channel.toNat flitsK.toNat with weft := s.weft.swatchBegin seam.toNat channel.toNat }
    refine ⟨_, hstart.trans (congrArg _ (wftSwatch_starts _ _ h hw hp hu ht)), hresult, herrs, ?_, hdone, hframe, ?_, hregs⟩
    · rw [hweft]
      rfl
    · rw [hweft, bufs_swatchBegin]
  case idle => exact (exec_wftSwatchComplete ..).trans (congrArg _ (if_neg (by simp [hw])))
  case ends =>
    refine ⟨_, (exec_wftSwatchComplete ..).trans (congrArg _ (if_pos (Option.isSome_iff_ne_none.mpr hw))), ?_⟩
    obtain ⟨hnone, hbufs⟩ := swatchEnd_ends s.weft
    by_cases he : errs = 0
    · obtain ⟨hweft, hdone, hresult, herrs, -⟩ := wftSwatchEnd_shows s (show 2 < 16 by decide) 0 none
      rw [if_pos he, if_pos he, he]
      exact ⟨hweft ▸ hnone, hdone, hresult, herrs, hweft ▸ hbufs, fun h => absurd rfl h⟩
    · obtain ⟨hweft, hdone, hresult, herrs, hch⟩ := wftSwatchEnd_shows s (show 3 < 16 by decide) errs (some first.toNat)
      obtain ⟨hchannel, hvalid⟩ := hch _ rfl
      rw [if_neg he, if_neg he]
      exact ⟨hweft ▸ hnone, hdone, hresult, herrs, hweft ▸ hbufs, fun _ => ⟨hchannel.trans (Nat.mod_eq_of_lt first.isLt), hvalid⟩⟩

end

section
/-!
PROOFS. The watchdog (R178), congestion maps (R180, R192) and the counts of the weft (R185).
-/
namespace Sys2Proof.Machine

/-! ### The watchdog -/

section
variable (s : State) (r port vc : Nat)

/-- The buffers reported since WDOG was last cleared (R178). -/
def State.wdogSeen : List Nat := if s.get F.WFT_STATUS_WDOG = 1 then s.weft.wdog else []

theorem notMem_wdogSeen (k : Nat) : k ∉ s.wdogSeen ↔ s.get F.WFT_STATUS_WDOG = 0 ∨ k ∉ s.weft.wdog := by
  have hbit : s.get F.WFT_STATUS_WDOG < 2 := bitsOf_lt ..
  unfold State.wdogSeen
  by_cases h : s.get F.WFT_STATUS_WDOG = 1
  · rw [if_pos h, h]
    simp
  · rw [if_neg h]
    simp only [List.not_mem_nil, not_false_eq_true, true_iff]
    omega

/-- A stalled buffer not yet reported. -/
abbrev State.stalled : Prop :=
  s.get F.WFT_CTRL_WDOG_EN = 1 ∧ s.buf r port vc ≠ [] ∧ bufKey r port vc ∉ s.wdogSeen

theorem stalled_iff : s.stalled r port vc ↔ s.get F.WFT_CTRL_WDOG_EN = 1 ∧ s.buf r port vc ≠ [] ∧
    (s.get F.WFT_STATUS_WDOG = 0 ∨ bufKey r port vc ∉ s.weft.wdog) := by
  rw [State.stalled, notMem_wdogSeen]

/-- The buffers reported. -/
def State.withWdog (l : List Nat) : State := { s with weft := { s.weft with wdog := l } }

variable {s r port vc}

theorem watchdog_reports (h : s.stalled r port vc) : ∃ info d, s.watchdog r port vc =
    (((s.withWdog (bufKey r port vc :: s.wdogSeen)).set F.WFT_STATUS_WDOG 1).weftCap 5 r port vc info).raise 8 13 5 r d := ⟨_, _, if_pos h⟩

theorem watchdog_quiet (h : ¬ s.stalled r port vc) : s.watchdog r port vc = s := if_neg h

theorem watchdog_effect (h : s.stalled r port vc) :
    let t := s.watchdog r port vc
    t.get F.WFT_STATUS_WDOG = 1 ∧ bufKey r port vc ∈ t.weft.wdog ∧ t.weft.bufs = s.weft.bufs ∧ t.tiles = s.tiles ∧
      sameRegs s t [R.WFT_STATUS, R.WFT_ERR_CAP0, R.WFT_ERR_CAP1, R.DMP_SUPPRESSED, R.DMP_STATUS] := by
  obtain ⟨info, d, heq⟩ := watchdog_reports h
  obtain ⟨hrec, hregs⟩ := capRaise_frame ((s.withWdog (bufKey r port vc :: s.wdogSeen)).set F.WFT_STATUS_WDOG 1) 5 r port vc info 8 13 5 r d
  have hmarked : sameRegs s ((s.withWdog (bufKey r port vc :: s.wdogSeen)).set F.WFT_STATUS_WDOG 1) [R.WFT_STATUS] :=
    (onlyRegs_set (s.withWdog _) F.WFT_STATUS_WDOG 1 0 (by decide)).2
  dsimp only
  rw [heq]
  refine ⟨(get_eq_of_sameRegs hregs (by decide)).trans (get_one (by decide) _), ?_, ?_, ?_,
    sameRegs_trans (sameRegs_mono hmarked (by decide)) (sameRegs_mono hregs (by decide))⟩
  all_goals
    unfold recordsOnly at hrec
    rw [hrec]
  · exact List.mem_cons_self
  · rfl
  · rfl

end

/-! ### Congestion maps -/

section
variable (s : State) (l : List (TileAddr × BitVec 32))

theorem clearBlocks_eq (b : SMap Word) : clearBlocks b = bankClear [R.WFT_RTR_BLOCK] b := by
  unfold clearBlocks bankClear
  simp only [List.mem_singleton, ne_eq]

/-- The counts start again, and the beacon has the codes of the fields. -/
def State.cmapNoted : State := { s with bank := clearBlocks s.bank, weft := { s.weft with cmapCodes := cmapMax l } }

theorem cmapNoted_regs : (∀ k, k % 2 ^ 26 ≠ R.WFT_RTR_BLOCK → bankReg k (s.cmapNoted l).bank = bankReg k s.bank) ∧
    ∀ r, (s.cmapNoted l).reg R.WFT_RTR_BLOCK r = regReset (rkey R.WFT_RTR_BLOCK r) := by
  refine ⟨fun k hk => ?_, fun r => ?_⟩
  · show bankReg k (clearBlocks s.bank) = _
    rw [clearBlocks_eq, bankReg_bankClear, if_neg (by simpa using hk)]
  · show bankReg _ (clearBlocks s.bank) = _
    rw [clearBlocks_eq, bankReg_bankClear, if_pos (by rw [rkey_mod]; decide)]

theorem get_cmapNoted {f : Fld} (h : f.reg % 2 ^ 26 ≠ R.WFT_RTR_BLOCK) : (s.cmapNoted l).get f = s.get f :=
  congrArg (fldOf f) ((cmapNoted_regs s l).1 _ (by rwa [rkey_mod]))

/-- A field of another register set leaves the counts of the new interval alone. -/
theorem block_set {f : Fld} (h : f.reg % 2 ^ 26 ≠ R.WFT_RTR_BLOCK) (t : State) (v r : Nat) :
    (t.set f v).reg R.WFT_RTR_BLOCK r = t.reg R.WFT_RTR_BLOCK r := by
  refine (onlyRegs_set t f v 0 List.mem_cons_self (ks := [rkey f.reg 0])).2 _ fun hm => h ?_
  have hmod := congrArg (· % 2 ^ 26) (List.mem_singleton.mp hm)
  rw [rkey_mod, rkey_mod] at hmod
  exact hmod.symm

/-- What a congestion map leaves alone. -/
def cmapFrame (s t : State) : Prop := t = { s with bank := t.bank, weft := { s.weft with cmapCodes := t.weft.cmapCodes }, out := t.out }

theorem cmapFrame_noted : cmapFrame s (s.cmapNoted l) := rfl

theorem cmapFrame_set {s t : State} (h : cmapFrame s t) (f : Fld) (v : Nat) : cmapFrame s (t.set f v) := by
  unfold cmapFrame at h ⊢
  rw [h]
  rfl

theorem cmapFrame_emit {s t : State} (h : cmapFrame s t) (o : List Out) : cmapFrame s (t.emit o) := by
  unfold cmapFrame at h ⊢
  rw [h]
  rfl

theorem cmap_off (h : s.get F.WFT_CTRL_CMAP_EN ≠ 1) : s.cmap l = s.cmapNoted l := if_neg h

theorem cmap_late (h : s.get F.WFT_CTRL_CMAP_EN = 1) (hp : s.hostPort 0 = none) :
    s.cmap l = (s.cmapNoted l).set F.WFT_STATUS_CMAP_LATE 1 := by
  unfold State.cmap
  rw [if_pos h, hp]
  rfl

/-- Where the ring entry of a sequence number stands (R180). -/
def State.cmapAt (seq : Nat) : Nat :=
  s.get F.WFT_CMAP_BASE_LO_ADDR_LO * 4096 + s.get F.WFT_CMAP_BASE_HI_ADDR_HI * 2 ^ 32 +
    (seq - 1) % (if s.get F.WFT_CMAP_DEPTH_DEPTH = 0 then 256 else s.get F.WFT_CMAP_DEPTH_DEPTH) * 139264

theorem cmap_sent {p : Nat} (h : s.get F.WFT_CTRL_CMAP_EN = 1) (hp : s.hostPort 0 = some p) :
    let seq := s.get F.WFT_CMAP_SEQ_SEQ + 1
    s.cmap l = ((s.cmapNoted l).set F.WFT_CMAP_SEQ_SEQ seq).emit (memWrs p 2 (s.cmapAt seq) ((s.cmapNoted l).cmapBytes seq l)) := by
  dsimp only
  unfold State.cmapAt
  rw [← get_cmapNoted s l (f := F.WFT_CMAP_SEQ_SEQ) (by decide), ← get_cmapNoted s l (f := F.WFT_CMAP_BASE_LO_ADDR_LO) (by decide),
    ← get_cmapNoted s l (f := F.WFT_CMAP_BASE_HI_ADDR_HI) (by decide), ← get_cmapNoted s l (f := F.WFT_CMAP_DEPTH_DEPTH) (by decide)]
  unfold State.cmap
  rw [if_pos h, hp]
  rfl

theorem length_rangeFrom (a n : Nat) : (rangeFrom a n).length = n := by
  induction n generalizing a with
  | zero => rfl
  | succ n ih => rw [rangeFrom, List.length_cons, ih]

theorem length_fieldMap (f : Nat) : (fieldMap l f).length = 2304 := by
  unfold fieldMap
  rw [List.length_map, length_rangeFrom]

/-- A map begins with its sequence number, and has 64 bytes of header and 2,304 bytes for each of 60 fields (R180). -/
theorem cmapBytes_shape (seq : Nat) : (s.cmapBytes seq l).take 8 = leBytes 8 seq ∧ (s.cmapBytes seq l).length = 138304 := by
  have hseq := length_leBytes 8 seq
  constructor
  · unfold State.cmapBytes
    simp only [List.append_assoc]
    exact List.take_left' hseq
  · unfold State.cmapBytes
    simp [length_leBytes, zeroBytes, List.length_flatMap, length_fieldMap, length_rangeFrom]

end

/-! ### Counts -/

/-- A register of WFT_ resets to the same word whatever its index: the block stands at 0xD0000 (R523). -/
theorem regReset_weft {a : Nat} (h : a / 2 ^ 16 = 13) (i : Nat) : regReset (rkey a i) = regReset a := by
  have hset : R.VPA_VL_SETPT + 28 ≤ 13 * 2 ^ 16 := by decide
  have hport : R.HLS_PORT_STAT < 13 * 2 ^ 16 := by decide
  have hv : ¬ (R.VPA_VL_SETPT ≤ a ∧ a < R.VPA_VL_SETPT + 28) := by omega
  have hp : a ≠ R.HLS_PORT_STAT := by omega
  unfold regReset
  dsimp only
  rw [rkey_mod, Nat.mod_eq_of_lt (show a < 2 ^ 26 by omega), if_neg hv, if_neg hv, if_neg hp, if_neg hp]

/-- A count of the weft reads 0 once cleared, in every router. -/
theorem get_wftClr (s : State) {f : Fld} (hf : f.reg % 2 ^ 26 ∈ weftCountKeys) (hw : f.reg / 2 ^ 16 = 13)
    (h0 : fldOf f (regReset f.reg) = 0) (i : Nat) : s.wftClr.get f i = 0 := by
  rw [(bankClear_regs (s := s) (t := s.wftClr) rfl).2 f i hf, regReset_weft hw, h0]

end Sys2Proof.Machine

open Sys2Proof Sys2Proof.Machine

/-- Settles O21: the watchdog by `watchdog_effect`, the map by where it goes (`cmap_off`, `cmap_late`, `cmap_sent`), the counts by `get_wftClr`. -/
theorem watchdogMapAndCounts : Obligations.WatchdogMapAndCounts := by
  unfold Obligations.WatchdogMapAndCounts
  refine fun s => ⟨fun r port vc hok => ?watchdog, fun l => ?map, ?counts⟩
  case watchdog =>
    have hexec : exec (.weftWatchdog r port vc) s = .next (s.watchdog r.toNat port.val vc.val) :=
      onTile_next hok s fun _ => s.watchdog r.toNat port.val vc.val
    dsimp only
    split
    · next h => exact ⟨_, hexec, watchdog_effect ((stalled_iff ..).mpr h)⟩
    · next h => exact hexec.trans (congrArg _ (watchdog_quiet (mt (stalled_iff ..).mp h)))
  case map =>
    refine ⟨s.cmap l, rfl, ?_⟩
    obtain ⟨hothers, hblocks⟩ := cmapNoted_regs s l
    by_cases h : s.get F.WFT_CTRL_CMAP_EN = 1
    · rw [if_pos h]
      cases hp : s.hostPort 0 with
      | none =>
        rw [cmap_late s l h hp]
        exact ⟨cmapFrame_set (cmapFrame_noted s l) .., fun r => (block_set (by decide) ..).trans (hblocks r), get_one (by decide) _,
          State.out_set ..⟩
      | some p =>
        obtain ⟨hseq, hlen⟩ := cmapBytes_shape (s.cmapNoted l) l (s.get F.WFT_CMAP_SEQ_SEQ + 1)
        rw [cmap_sent s l h hp]
        refine ⟨cmapFrame_emit (cmapFrame_set (cmapFrame_noted s l) ..) _, fun r => ?_, ?_, _, hseq, hlen, ?_⟩
        · rw [State.reg_emit, block_set (by decide), hblocks r]
        · rw [State.get_emit, State.get_set_same _ _ _ _ (by decide)]
        · rw [State.out_emit, State.out_set]
          rfl
    · rw [if_neg h, cmap_off s l h]
      exact ⟨cmapFrame_noted s l, hblocks, rfl, hothers⟩
  case counts =>
    obtain ⟨hothers, -⟩ := bankClear_regs (s := s) (t := s.wftClr) rfl
    exact ⟨s.wftClr, rfl, rfl, hothers, get_wftClr s (by decide) (by decide) (by decide) 0, get_wftClr s (by decide) (by decide) (by decide) 0,
      get_wftClr s (by decide) (by decide) (by decide) 0, get_wftClr s (by decide) (by decide) (by decide) 0,
      get_wftClr s (by decide) (by decide) (by decide) 0, get_wftClr s (by decide) (by decide) (by decide)⟩

end

section
/-!
PROOFS. The link protocol (R161, R174 to R177): a flit received, a NAK, a retrain and the end of a training, outcome by outcome.
-/
namespace Sys2Proof.Machine

/-- The weft replaced. -/
def State.withWeft (s : State) (w : Weft) : State := { s with weft := w }

@[simp] theorem weft_withWeft (s : State) (w : Weft) : (s.withWeft w).weft = w := rfl

/-! ### A flit received (R176) -/

section
variable (s : State) (r port : Nat)

/-- A NAK for the expected SEQ goes out. -/
def State.nakSent : State :=
  { s with weft := { s.weft with nak := smSet false (linkKey r port) true s.weft.nak },
           out := s.out ++ [.weftNak r port (smGet 0 (linkKey r port) s.weft.rxSeq)] }

/-- The weft that expects the next flit of a link, no NAK being out. -/
def Weft.expecting (w : Weft) (want : Nat) : Weft :=
  { w with nak := smSet false (linkKey r port) false w.nak, rxSeq := smSet 0 (linkKey r port) ((want + 1) % 64) w.rxSeq }

/-- The weft after the flit expected has been accepted. -/
def Weft.accepted (w : Weft) (want : Nat) (flit : List Byte) (side : Nat) : Weft :=
  (if w.voided r port want then w.expecting r port want else (w.expecting r port want).takeFlit r port flit side).acked r port want

variable {s r port} (hinj : ∀ x, crcTarget r port = some x → s.injHas 4 x = false) {xovr : Bool} {flit : List Byte} {side : Nat}
include hinj

/-- Without an injected error on the channel. -/
theorem flitIn_eq : s.flitIn r port xovr flit side =
      if s.linkState r port ≠ 3 then s
      else if xovr = true ∧ (portSeam r port).isSome = true then (s.crossOver 1).flitBad r port
      else if crc16 (flit ++ leBytes 2 (side / 65536)) ≠ side % 65536 then s.flitBad r port
      else if bitsOf side 21 6 ≠ smGet 0 (linkKey r port) s.weft.rxSeq then
        if smGet false (linkKey r port) s.weft.nak = true then s else s.nakSent r port
      else s.withWeft (s.weft.accepted r port (smGet 0 (linkKey r port) s.weft.rxSeq) flit side) := by
  unfold State.flitIn
  cases hc : crcTarget r port with
  | none =>
    simp only [Bool.not_false, Bool.and_true, Bool.and_eq_true, decide_eq_false_iff_not, Bool.false_eq_true, if_false]
    rfl
  | some x =>
    simp only [hinj x hc, Bool.not_false, Bool.and_true, Bool.and_eq_true, decide_eq_false_iff_not, Bool.false_eq_true, if_false]
    rfl

theorem flitIn_down (h : s.linkState r port ≠ 3) : s.flitIn r port xovr flit side = s := (flitIn_eq hinj).trans (if_pos h)

variable (h3 : s.linkState r port = 3)
include h3

theorem flitIn_overrun (hx : xovr = true ∧ (portSeam r port).isSome = true) :
    s.flitIn r port xovr flit side = (s.crossOver 1).flitBad r port := by
  rw [flitIn_eq hinj, if_neg (not_not.mpr h3), if_pos hx]

variable (hx : ¬ (xovr = true ∧ (portSeam r port).isSome = true))
include hx

theorem flitIn_bad (hg : crc16 (flit ++ leBytes 2 (side / 65536)) ≠ side % 65536) : s.flitIn r port xovr flit side = s.flitBad r port := by
  rw [flitIn_eq hinj, if_neg (not_not.mpr h3), if_neg hx, if_pos hg]

variable (hg : crc16 (flit ++ leBytes 2 (side / 65536)) = side % 65536)
include hg

theorem flitIn_accepts (hw : bitsOf side 21 6 = smGet 0 (linkKey r port) s.weft.rxSeq) :
    s.flitIn r port xovr flit side = s.withWeft (s.weft.accepted r port (smGet 0 (linkKey r port) s.weft.rxSeq) flit side) := by
  rw [flitIn_eq hinj, if_neg (not_not.mpr h3), if_neg hx, if_neg (not_not.mpr hg), if_neg (not_not.mpr hw)]

theorem flitIn_gap (hw : bitsOf side 21 6 ≠ smGet 0 (linkKey r port) s.weft.rxSeq) : s.flitIn r port xovr flit side =
    if smGet false (linkKey r port) s.weft.nak = true then s else s.nakSent r port := by
  rw [flitIn_eq hinj, if_neg (not_not.mpr h3), if_neg hx, if_neg (not_not.mpr hg), if_pos hw]

end

section
variable (s : State) (r port : Nat)

theorem flitBad_effect : let t := s.flitBad r port
    t.bank = (s.add F.WFT_CRC_COUNT_CRC 1).bank ∧ t.out = s.out ++ [.weftNak r port (smGet 0 (linkKey r port) s.weft.rxSeq)] ∧
      t.weft.rxSeq = s.weft.rxSeq ∧ t.weft.bufs = s.weft.bufs ∧ t.tiles = s.tiles := by
  unfold State.flitBad
  simp only [State.out_add, State.weft_add, State.tiles_add, and_self]

/-- The count of a flit that fails, and the registers that stand beside it. -/
theorem flitBad_counts :
    (s.flitBad r port).get F.WFT_CRC_COUNT_CRC = min (2 ^ F.WFT_CRC_COUNT_CRC.w - 1) (s.get F.WFT_CRC_COUNT_CRC + 1) ∧
      sameRegs s (s.flitBad r port) [R.WFT_CRC_COUNT] := by
  obtain ⟨hbank, -⟩ := flitBad_effect s r port
  refine ⟨?_, fun k hk => ?_⟩
  · rw [get_of_bank hbank, State.get_add_same _ _ _ _ (by decide)]
  · rw [hbank]
    exact (onlyRegs_add s F.WFT_CRC_COUNT_CRC 1 0 (by decide)).2 k hk

@[simp] theorem weft_crossOver (c : Nat) : (s.crossOver c).weft = s.weft := by simp only [State.crossOver, State.weft_add, State.weft_set]
@[simp] theorem out_crossOver (c : Nat) : (s.crossOver c).out = s.out := by simp only [State.crossOver, State.out_add, State.out_set]
@[simp] theorem tiles_crossOver (c : Nat) : (s.crossOver c).tiles = s.tiles := by simp only [State.crossOver, State.tiles_add, State.tiles_set]

theorem crossOver_effect : let u := s.crossOver 1
    u.get F.WFT_CRC_COUNT_CRC = s.get F.WFT_CRC_COUNT_CRC ∧ u.get F.CLK_STATUS_XOVR = 1 ∧
      sameRegs s u [R.CLK_STATUS, rkey R.CLK_XCLASS_STAT 1] := by
  have hregs := onlyRegs_trans (onlyRegs_set s F.CLK_STATUS_XOVR 1 0 (ks := [R.CLK_STATUS, rkey R.CLK_XCLASS_STAT 1]) (by decide))
    (onlyRegs_add (s.set F.CLK_STATUS_XOVR 1) F.CLK_XCLASS_STAT_OVERRUNS 1 1 (by decide))
  refine ⟨get_eq_of_sameRegs hregs.2 (by decide), ?_, hregs.2⟩
  unfold State.crossOver
  rw [State.get_add_other _ _ _ _ _ _ (.inl (rkey_ne (by decide) _ _)), get_one (by decide)]

end

section
variable (w : Weft) (r port want : Nat) (flit : List Byte) (side : Nat)

theorem acked_frame : w.acked r port want = { w with tx := (w.acked r port want).tx } := by
  unfold Weft.acked
  split
  · rfl
  · dsimp only
    split <;> rfl

theorem takeFlit_frame : w.takeFlit r port flit side =
    { w with bufs := (w.takeFlit r port flit side).bufs, part := (w.takeFlit r port flit side).part } := by
  unfold Weft.takeFlit
  dsimp only
  split
  · rfl
  · split <;> rfl
  · split <;> rfl
  · split <;> rfl

variable {w r port want side}

/-- The oldest flit of the sender's retry buffer acknowledged. -/
theorem txAt_acked {n p : Nat} {f : WFlit} {fs : List WFlit} (hl : linkEnd r port = some (n, p))
    (hk : (w.txAt (linkKey n p)).keep = f :: fs) (hf : f.seq = want) :
    (w.acked r port want).txAt (linkKey n p) = { w.txAt (linkKey n p) with keep := fs }.pump (retryCap n p) := by
  have hfind : (f :: fs).findIdx? (fun f => decide (f.seq = want)) = some 0 := by simp [List.findIdx?_cons, hf]
  unfold Weft.acked
  simp only [hl, hk, hfind]
  exact smGet_smSet_same ..

variable (h1 : bitsOf side 18 2 = 1)
include h1

theorem takeFlit_single (h : bitAt side 20 = true) :
    w.takeFlit r port flit side = w.deliver (bufKey r port (bitsOf side 16 2)) flit := by
  unfold Weft.takeFlit
  simp only [h1, h, if_true]

theorem takeFlit_head (h : bitAt side 20 = false) : w.takeFlit r port flit side =
    { w with part := smSet [] (bufKey r port (bitsOf side 16 2)) flit w.part } := by
  unfold Weft.takeFlit
  simp only [h1, h, if_false, Bool.false_eq_true]

end

theorem expecting_expects (w : Weft) (r port want : Nat) : smGet 0 (linkKey r port) (w.expecting r port want).rxSeq = (want + 1) % 64 ∧
    smGet false (linkKey r port) (w.expecting r port want).nak = false := by
  simp only [Weft.expecting, smGet_smSet_same, and_self]

section
variable {w : Weft} {r port want : Nat} (flit : List Byte) (side : Nat) (hv : w.voided r port want = false)
include hv

theorem accepted_eq : w.accepted r port want flit side = { (w.expecting r port want).takeFlit r port flit side with
    tx := (((w.expecting r port want).takeFlit r port flit side).acked r port want).tx } := by
  unfold Weft.accepted
  rw [hv, if_neg Bool.false_ne_true]
  exact acked_frame ..

theorem accepted_expects : smGet 0 (linkKey r port) (w.accepted r port want flit side).rxSeq = (want + 1) % 64 ∧
    smGet false (linkKey r port) (w.accepted r port want flit side).nak = false ∧ (w.accepted r port want flit side).links = w.links := by
  obtain ⟨hseq, hnak⟩ := expecting_expects w r port want
  rw [accepted_eq flit side hv, takeFlit_frame]
  exact ⟨hseq, hnak, rfl⟩

theorem accepted_takes : (w.accepted r port want flit side).bufs = ((w.expecting r port want).takeFlit r port flit side).bufs ∧
    (w.accepted r port want flit side).part = ((w.expecting r port want).takeFlit r port flit side).part := by
  rw [accepted_eq flit side hv]
  exact ⟨rfl, rfl⟩

theorem txAt_accepted {n p : Nat} {f : WFlit} {fs : List WFlit} (hl : linkEnd r port = some (n, p))
    (hk : (w.txAt (linkKey n p)).keep = f :: fs) (hf : f.seq = want) :
    (w.accepted r port want flit side).txAt (linkKey n p) = { w.txAt (linkKey n p) with keep := fs }.pump (retryCap n p) := by
  have htx : ((w.expecting r port want).takeFlit r port flit side).txAt (linkKey n p) = w.txAt (linkKey n p) := by
    rw [takeFlit_frame]
    rfl
  unfold Weft.accepted
  rw [hv, if_neg Bool.false_ne_true, txAt_acked hl (htx ▸ hk) hf, htx]

end

theorem buf_mesh (s : State) (r vc : Nat) {port : Nat} (h : port < 4) : s.buf r port vc = smGet [] (bufKey r port vc) s.weft.bufs :=
  if_neg (by omega)

/-! ### A NAK (R176) -/

section
variable {s : State} {r port seq : Nat}

theorem nakIn_unknown (h : ∀ f ∈ (s.weft.txAt (linkKey r port)).keep, f.seq ≠ seq) : s.nakIn r port seq = s := by
  have hnone : (s.weft.txAt (linkKey r port)).keep.findIdx? (fun f => decide (f.seq = seq)) = none :=
    List.findIdx?_eq_none_iff.mpr fun f hf => decide_eq_false (h f hf)
  unfold State.nakIn
  simp only [hnone]

/-- The weft that resends from place `i` of a retry buffer; how often this flit has been resent is kept (R177). -/
def Weft.resending (w : Weft) (r port seq i : Nat) : Weft :=
  { w.txPut (linkKey r port) ({ w.txAt (linkKey r port) with keep := (w.txAt (linkKey r port)).keep.drop i }.pump (retryCap r port)) with
    resent := smSet (0, 0) (linkKey r port) (seq,
      if (smGet (0, 0) (linkKey r port) w.resent).1 = seq then (smGet (0, 0) (linkKey r port) w.resent).2 + 1 else 1) w.resent }

theorem nakIn_resends {i : Nat} (h : (s.weft.txAt (linkKey r port)).keep.findIdx? (fun f => decide (f.seq = seq)) = some i) :
    let n := ((s.weft.txAt (linkKey r port)).keep.drop i).length
    (s.nakIn r port seq).out = s.out ++ [.weftResend r port seq n] ∧ (s.nakIn r port seq).weft = s.weft.resending r port seq i ∧
      (s.nakIn r port seq).bank = (s.add F.WFT_RTR_RETRY_RETRIES n r).bank := by
  unfold State.nakIn
  simp only [h, State.weft_add, State.out_add, Weft.resending, and_self]

theorem resending_effect (w : Weft) (i : Nat) :
    (w.resending r port seq i).bufs = w.bufs ∧ (smGet (0, 0) (linkKey r port) (w.resending r port seq i).resent).1 = seq ∧
      (w.resending r port seq i).txAt (linkKey r port) =
        { w.txAt (linkKey r port) with keep := (w.txAt (linkKey r port)).keep.drop i }.pump (retryCap r port) := by
  refine ⟨rfl, ?_, smGet_smSet_same ..⟩
  unfold Weft.resending
  rw [smGet_smSet_same]

end

/-! ### Link states put (R175, R177) -/

section
variable (s : State) (r port : Nat)

theorem links_setLink (w : Weft) (v : Nat) : smGet 0 (linkKey r port) (w.setLink r port v).links = v := by
  have hboth : ∀ k, smGet 0 (linkKey r port) (smSet 0 k v (smSet 0 (linkKey r port) v w.links)) = v := fun k => by
    by_cases hk : linkKey r port = k
    · rw [hk, smGet_smSet_same]
    · rw [smGet_smSet_other _ _ hk, smGet_smSet_same]
  unfold Weft.setLink
  split
  · exact hboth _
  · exact hboth _
  · exact smGet_smSet_same ..

theorem resent_setLink (w : Weft) (v : Nat) : (w.setLink r port v).resent = w.resent := by
  have h := linksOnly_setLink w r port v
  unfold linksOnly at h
  rw [h]

/-- A link that failed: its state, and LINK_FAIL (R177). -/
theorem linkFailed_effect : let t := s.linkFailed r port
    t.weft = s.weft.setLink r port 4 ∧ t.tiles = s.tiles ∧ t.get F.WFT_STATUS_LINK_FAIL = 1 := by
  have hraise : ∀ (u : State) (d : Nat), (u.raise 9 13 4 r d).get F.WFT_STATUS_LINK_FAIL = u.get F.WFT_STATUS_LINK_FAIL :=
    fun u d => get_eq_of_sameRegs (sameRegs_raise u 9 13 4 r d false) (by decide)
  have hget : ∀ u : State, ((u.set F.WFT_STATUS_LINK_FAIL 1).weftCap 7 r port 0 0).get F.WFT_STATUS_LINK_FAIL = 1 :=
    fun u => (get_weftCap _ _ _ _ _ _ (by decide)).trans (get_one (by decide) u)
  dsimp only
  unfold State.linkFailed
  dsimp only
  split
  · next sm ch _ =>
    have hseam : fldsApart (F.WFT_SEAM_FAIL_SEAMS.nth (sm / 32)) F.WFT_STATUS_LINK_FAIL := by
      refine .inl ?_
      show 0xd0000 ≠ 0xd0030 + 4 * (sm / 32)
      omega
    rw [hraise, get_set_apart _ hseam, hget]
    simp only [State.weft_raise, State.tiles_raise, State.weft_set, State.tiles_set, weft_weftCap, tiles_weftCap, and_self]
  · rw [hraise, hget]
    simp only [State.weft_raise, State.tiles_raise, State.weft_set, State.tiles_set, weft_weftCap, tiles_weftCap, and_self]

/-- The weft in which a link counts resends anew. -/
def Weft.forgetResent (w : Weft) : Weft := { w with resent := smSet (0, 0) (linkKey r port) (0, 0) w.resent }

variable {s r port}

theorem linkRetrain_quiet (h : s.linkState r port ≠ 3 ∨ (smGet (0, 0) (linkKey r port) s.weft.resent).2 < 8) : s.linkRetrain r port = s :=
  if_neg (by omega)

variable (h3 : s.linkState r port = 3) (h8 : 8 ≤ (smGet (0, 0) (linkKey r port) s.weft.resent).2)
include h3 h8

theorem linkRetrain_seam (hs : (portSeam r port).isSome = true) :
    s.linkRetrain r port = s.withWeft ((s.weft.forgetResent r port).setLink r port 2) := by
  obtain ⟨x, hx⟩ := Option.isSome_iff_exists.mp hs
  unfold State.linkRetrain
  simp only [if_pos (And.intro h3 h8), hx]
  rfl

theorem linkRetrain_mesh (hs : ¬ (portSeam r port).isSome = true) :
    s.linkRetrain r port = (s.withWeft (s.weft.forgetResent r port)).linkFailed r port := by
  have hx : portSeam r port = none := by simpa using hs
  unfold State.linkRetrain
  simp only [if_pos (And.intro h3 h8), hx]
  rfl

end

/-! ### The end of a training (R174, R175) -/

section
variable (s : State) (sm ch : Nat)

theorem links_resume (w : Weft) (r port : Nat) : (w.resume r port).links = w.links := by
  unfold Weft.resume
  dsimp only
  split <;> rfl

/-- The weft in which a trained channel carries traffic. -/
def Weft.trained (w : Weft) : Weft :=
  (w.setLink (seamPort sm ch).1 (seamPort sm ch).2 3).resume (seamPort sm ch).1 (seamPort sm ch).2

theorem links_trained (w : Weft) : smGet 0 (linkKey (seamPort sm ch).1 (seamPort sm ch).2) (w.trained sm ch).links = 3 := by
  unfold Weft.trained
  rw [links_resume, links_setLink]

/-- The FIFO shows fill 4. -/
theorem get_seamFill : (s.seamFill sm ch).get F.CLK_SEAM_FILL_NOW (sm * 128 + ch) = 4 := by
  unfold State.seamFill
  rw [State.get_set_other _ _ _ _ _ _ (.inr (by decide)), State.get_set_other _ _ _ _ _ _ (.inr (by decide)),
    State.get_set_same _ _ _ _ (by decide)]
  rfl

variable {s sm ch}

theorem seamTrained_idle (h : s.linkState (seamPort sm ch).1 (seamPort sm ch).2 ≠ 2) (ok : Bool) : s.seamTrained sm ch ok = s := if_neg h

variable (h : s.linkState (seamPort sm ch).1 (seamPort sm ch).2 = 2)
include h

theorem seamTrained_fails : s.seamTrained sm ch false = s.linkFailed (seamPort sm ch).1 (seamPort sm ch).2 := by
  unfold State.seamTrained
  dsimp only
  rw [if_pos h, if_neg Bool.false_ne_true]

theorem seamTrained_up : let t := s.seamTrained sm ch true
    t.tiles = s.tiles ∧ t.weft = s.weft.trained sm ch ∧ t.get F.CLK_SEAM_FILL_NOW (sm * 128 + ch) = 4 := by
  have hup : s.seamTrained sm ch true =
      if smGet 0 (linkKey (seamPort sm ch).1 (seamPort sm ch).2) s.weft.links = 2 then
        (((s.withWeft (s.weft.trained sm ch)).seamFill sm ch).set F.WFT_STATUS_RETRAIN 1).add F.WFT_RETRAIN_COUNT_RETRAINS 1
      else (s.withWeft (s.weft.trained sm ch)).seamFill sm ch := by
    unfold State.seamTrained
    dsimp only
    rw [if_pos h, if_pos rfl]
    rfl
  dsimp only
  rw [hup]
  split
  · rw [State.tiles_add, State.tiles_set, State.weft_add, State.weft_set, State.get_add_other _ _ _ _ _ _ (.inl (rkey_ne (by decide) _ _)),
      State.get_set_other _ _ _ _ _ _ (.inl (rkey_ne (by decide) _ _)), get_seamFill]
    unfold State.seamFill
    simp only [State.tiles_set, State.weft_set]
    exact ⟨rfl, rfl, trivial⟩
  · rw [get_seamFill]
    unfold State.seamFill
    simp only [State.tiles_set, State.weft_set]
    exact ⟨rfl, rfl, trivial⟩

end

/-! ### The commands of a link -/

section
variable {r : TileAddr} (hok : tileOk r.toNat = true) (s : State) (port : Fin 4)
include hok

theorem exec_flitReceive (flit : List (BitVec 8)) (side : BitVec 32) (xovr : Bool) :
    exec (.flitReceive r port flit side xovr) s = .next (s.flitIn r.toNat port.val xovr flit side.toNat) :=
  onTile_next hok s fun _ => s.flitIn r.toNat port.val xovr flit side.toNat

theorem exec_nakReceived (seq : BitVec 6) : exec (.nakReceived r port seq) s =
    .next (if s.linkState r.toNat port.val = 3 then s.nakIn r.toNat port.val seq.toNat else s) :=
  onTile_next hok s fun _ => if s.linkState r.toNat port.val = 3 then s.nakIn r.toNat port.val seq.toNat else s

theorem exec_linkRetrain : exec (.linkRetrain r port) s = .next (s.linkRetrain r.toNat port.val) :=
  onTile_next hok s fun _ => s.linkRetrain r.toNat port.val

end

theorem exec_seamTrainingComplete (seam : Fin 120) (channel : BitVec 7) (ok : Bool) (s : State) :
    exec (.seamTrainingComplete seam channel ok) s =
      if channel.toNat < seamChannels seam.val then .next (s.seamTrained seam.val channel.toNat ok) else .fault .noTile := rfl

end Sys2Proof.Machine

open Sys2Proof Sys2Proof.Machine

/-- Settles O20: a flit by the outcomes of `flitIn_eq`, a NAK by `nakIn_resends`, a retrain by `linkRetrain_seam` and `linkRetrain_mesh`, the end of a
training by `seamTrained_up` and `seamTrained_fails`. -/
theorem weftLinks : Obligations.WeftLinks := by
  unfold Obligations.WeftLinks
  intro s r port hok
  dsimp only
  refine ⟨fun xovr flit side hinj => ?flit, fun seq => ⟨fun h3 => ?nakDown, fun hnot => ?nakUnknown, fun i h3 hi => ?nakResends⟩,
    fun h3 h8 => ?retrain, fun h => (exec_linkRetrain hok s port).trans (congrArg _ (linkRetrain_quiet h)), fun seam channel ok => ?training⟩
  case flit =>
    have hexec := exec_flitReceive hok s port flit side xovr
    refine ⟨fun h3 => hexec.trans (congrArg _ (flitIn_down hinj h3)), fun h3 hx => ?overrun, fun h3 hx hg => ?bad,
      fun h3 hx hg hw hv => ?accepted, fun h3 hx hg hw => ⟨fun hn => ?quiet, fun hn => ?gap⟩⟩
    case overrun =>
      refine ⟨_, hexec.trans (congrArg _ (flitIn_overrun hinj h3 hx)), ?_⟩
      obtain ⟨hcrc, hxovr, hregs⟩ := crossOver_effect s
      obtain ⟨-, hout, hseq, hbufs, htiles⟩ := flitBad_effect (s.crossOver 1) r.toNat port.val
      obtain ⟨hcount, hregs'⟩ := flitBad_counts (s.crossOver 1) r.toNat port.val
      rw [hcrc] at hcount
      rw [weft_crossOver] at hout hseq hbufs
      rw [out_crossOver] at hout
      refine ⟨⟨hcount, hout, hseq, hbufs, htiles.trans (tiles_crossOver s 1)⟩, ?_, ?_⟩
      · exact (get_eq_of_sameRegs hregs' (by decide)).trans hxovr
      · exact sameRegs_trans (sameRegs_mono hregs (by decide)) (sameRegs_mono hregs' (by decide))
    case bad =>
      refine ⟨_, hexec.trans (congrArg _ (flitIn_bad hinj h3 hx hg)), ?_⟩
      obtain ⟨-, hout, hseq, hbufs, htiles⟩ := flitBad_effect s r.toNat port.val
      obtain ⟨hcount, hregs⟩ := flitBad_counts s r.toNat port.val
      exact ⟨⟨hcount, hout, hseq, hbufs, htiles⟩, hregs⟩
    case accepted =>
      refine ⟨_, hexec.trans (congrArg _ (flitIn_accepts hinj h3 hx hg hw)), rfl, ?_⟩
      obtain ⟨hseq, hnak, hlinks⟩ := accepted_expects flit side.toNat hv
      obtain ⟨hbufs, hpart⟩ := accepted_takes flit side.toNat hv
      refine ⟨hseq, hnak, hlinks, fun h1 hs => ?_, fun h1 hs => ⟨?_, ?_⟩, fun n p f fs hl hk hf => txAt_accepted flit side.toNat hv hl hk hf⟩
      · rw [buf_mesh _ _ _ port.isLt, buf_mesh _ _ _ port.isLt, weft_withWeft, hbufs, takeFlit_single flit h1 hs]
        exact smGet_smSet_same ..
      · rw [weft_withWeft, hbufs, takeFlit_head flit h1 hs]
        rfl
      · rw [weft_withWeft, hpart, takeFlit_head flit h1 hs]
        exact smGet_smSet_same ..
    case quiet => exact hexec.trans (congrArg _ ((flitIn_gap hinj h3 hx hg hw).trans (if_pos hn)))
    case gap =>
      refine ⟨_, hexec.trans (congrArg _ ((flitIn_gap hinj h3 hx hg hw).trans (if_neg (Bool.eq_false_iff.mp hn)))), rfl, rfl, rfl, ?_⟩
      simp only [State.nakSent, smGet_smSet_same]
  case nakDown => exact (exec_nakReceived hok s port seq).trans (congrArg _ (if_neg h3))
  case nakUnknown =>
    refine (exec_nakReceived hok s port seq).trans (congrArg _ ?_)
    rw [nakIn_unknown hnot, ite_self]
  case nakResends =>
    obtain ⟨hout, hweft, hbank⟩ := nakIn_resends hi
    obtain ⟨hbufs, hresent, htx⟩ := resending_effect (r := r.toNat) (port := port.val) (seq := seq.toNat) s.weft i
    refine ⟨_, (exec_nakReceived hok s port seq).trans (congrArg _ (if_pos h3)), hout, ?_, ?_, ?_, ?_⟩
    · rw [hweft, hbufs]
    · rw [get_of_bank hbank, State.get_add_same _ _ _ _ (by decide)]
    · rw [hweft, htx]
    · rw [hweft, hresent]
  case retrain =>
    by_cases hs : (portSeam r.toNat port.val).isSome = true
    · refine ⟨_, (exec_linkRetrain hok s port).trans (congrArg _ (linkRetrain_seam h3 h8 hs)), ?_⟩
      dsimp only
      rw [if_pos hs, if_pos hs, weft_withWeft, links_setLink, resent_setLink]
      refine ⟨rfl, ?_, rfl⟩
      simp only [Weft.forgetResent, smGet_smSet_same]
    · refine ⟨_, (exec_linkRetrain hok s port).trans (congrArg _ (linkRetrain_mesh h3 h8 hs)), ?_⟩
      obtain ⟨hweft, -, hfail⟩ := linkFailed_effect (s.withWeft (s.weft.forgetResent r.toNat port.val)) r.toNat port.val
      rw [if_neg hs, if_neg hs, hweft, links_setLink, resent_setLink]
      refine ⟨rfl, ?_, hfail⟩
      simp only [Weft.forgetResent, weft_withWeft, smGet_smSet_same]
  case training =>
    have hexec := exec_seamTrainingComplete seam channel ok s
    refine ⟨fun hn => hexec.trans (if_neg (Nat.not_lt.mpr hn)), fun hlt h2 => ?_, fun hlt h2 => ⟨_, hexec.trans (if_pos hlt), ?_⟩⟩
    · exact (hexec.trans (if_pos hlt)).trans (congrArg _ (seamTrained_idle h2 ok))
    · cases ok with
      | true =>
        obtain ⟨htiles, hweft, hfill⟩ := seamTrained_up h2
        rw [if_pos rfl, if_pos rfl, hweft]
        exact ⟨htiles, links_trained .., hfill⟩
      | false =>
        obtain ⟨hweft, htiles, hfail⟩ := linkFailed_effect s (seamPort seam.val channel.toNat).1 (seamPort seam.val channel.toNat).2
        rw [seamTrained_fails h2, if_neg Bool.false_ne_true, if_neg Bool.false_ne_true, hweft]
        exact ⟨htiles, links_setLink .., hfail⟩

end

section
/-!
PROOFS. Spool writes (R197, R211, R218, R219): a write that no controller has, or without a translation, waits; a mapped one is forwarded, ended
with a fault, held back by a full buffer, or accepted into the home channel.
-/
namespace Sys2Proof.Machine

/-! ### A write answered -/

section
variable {s w : State} {t id : Nat} {rest : List SpoolReq} {r : SpoolReq} {fault : Bool}

theorem spool_answer (d : List Byte) : (w.answer t rest r fault d).spool = w.spool := by
  unfold State.answer
  exact (spool_fromController ..).trans (State.spool_setTile ..)

/-- The write at the head of a tile's requests is answered: its response is one shuttle without data (R56, R160). -/
def acknowledged (s : State) (t : Nat) (rest : List SpoolReq) (r : SpoolReq) (v : State) (fault : Bool) : Prop :=
  (∀ b, b ≠ t → v.tile b = s.tile b) ∧
    v.tile t = { s.tile t with spReqs := rest, spOut := (s.tile t).spOut ++ [⟨r.id, true, r.line, fault, [], r.ctrl, 1⟩] } ∧
    v.buf r.ctrl 5 2 = s.buf r.ctrl 5 2 ++ spoolShuttles 5 2 t r.ctrl false r.line r.sva []

theorem answer_acknowledged (htile : ∀ b, w.tile b = s.tile b) (hweft : w.weft = s.weft) (hwr : r.write = true) :
    acknowledged s t rest r (w.answer t rest r fault []) fault := by
  refine ⟨fun b hb => ?_, ?_, ?_⟩
  · unfold State.answer
    exact (tile_fromController ..).trans ((State.tile_setTile_other w hb _).trans (htile b))
  · rw [tile_answer, htile, hwr]
    rfl
  · unfold State.answer
    rw [buf_fromController, buf_of_weft (w := w.setTile ..) (s := s) ((State.weft_setTile ..).trans hweft)]

/-! ### Which request a write takes -/

theorem spoolWrite_idle (h : ∀ q ∈ (s.tile t).spReqs, q.write = false ∨ q.away ≠ 0) (root used : Nat) : s.spoolWrite t id root used = s := by
  have hnone : takeReq (fun r => r.write && decide (r.away = 0)) (s.tile t).spReqs = none :=
    takeReq_none fun q hq => by rcases h q hq with hw | ha <;> simp [*]
  simp only [State.spoolWrite, hnone]

section
variable (hreqs : (s.tile t).spReqs = r :: rest) (hwr : r.write = true) (haway : r.away = 0)
include hreqs hwr haway

theorem takeReq_write : takeReq (fun r => r.write && decide (r.away = 0)) (s.tile t).spReqs = some (r, rest) := by
  rw [hreqs]
  exact takeReq_head (by simp [hwr, haway]) rest

theorem spoolWrite_untranslated (hx : r.xlat = none) (hmiss : s.spool.xcFind (fieldOf t) id r.sva = none) (root used : Nat) :
    s.spoolWrite t id root used = s := by
  simp only [State.spoolWrite, takeReq_write hreqs hwr haway, State.reqFrame, hx, hmiss, Option.map_none]

theorem spoolWrite_mapped {f : Nat} (hx : r.xlat = some (some f)) (root used : Nat) :
    s.spoolWrite t id root used = s.writeTo t id rest r f used := by
  simp only [State.spoolWrite, takeReq_write hreqs hwr haway, State.reqFrame, hx, State.countHit]

end

/-! ### A write whose frame is known -/

section
variable {f used : Nat}

theorem writeTo_forward (h : s.ctrlOf (svaBand r.sva) (readBsa r f) ≠ r.ctrl) :
    s.writeTo t id rest r f used = s.forward t rest r f (s.ctrlOf (svaBand r.sva) (readBsa r f)) := if_pos h

variable (hat : s.ctrlOf (svaBand r.sva) (readBsa r f) = r.ctrl)
include hat

theorem writeTo_down (h : s.chDown (svaBand r.sva) (readBsa r f) r.data.length = true) :
    s.writeTo t id rest r f used = s.failReq t id rest r 7 := (if_neg (not_not_intro hat)).trans (if_pos h)

variable (hup : s.chDown (svaBand r.sva) (readBsa r f) r.data.length = false)
include hup

theorem writeTo_full (h : 64 < s.wbufUsed (s.chanAt (svaBand r.sva) (readBsa r f)) used + (r.data.length + 1023) / 1024) :
    s.writeTo t id rest r f used = s.set F.SPL_STATUS_WBUF_STALL 1 :=
  (if_neg (not_not_intro hat)).trans ((if_neg (Bool.not_eq_true _ ▸ hup)).trans (if_pos h))

theorem writeTo_accept (h : s.wbufUsed (s.chanAt (svaBand r.sva) (readBsa r f)) used + (r.data.length + 1023) / 1024 ≤ 64) :
    s.writeTo t id rest r f used = s.acceptWrite t id rest r f used :=
  (if_neg (not_not_intro hat)).trans ((if_neg (Bool.not_eq_true _ ▸ hup)).trans (if_neg (Nat.not_lt.mpr h)))

end

/-! ### A write that ends in a fault -/

/-- After the capture a spool fault touches XLAT, the count and the registers of a fault record. -/
theorem spoolFault_afterCapture (code field sva : Nat) (inj : Bool) :
    sameRegs (spoolCaptured s code field id sva) (s.spoolFault code field id sva inj)
      [R.SPL_STATUS, R.SPL_XLAT_COUNT, R.DMP_SUPPRESSED, R.DMP_STATUS] := by
  refine sameRegs_trans (onlyRegs_set _ F.SPL_STATUS_XLAT 1 0 (by decide)).2 ?_
  refine sameRegs_trans (onlyRegs_add _ F.SPL_XLAT_COUNT_FAULTS 1 0 (by decide)).2 ?_
  exact sameRegs_mono (sameRegs_raise _ _ _ _ _ _ _) (by decide)

/-- The first spool fault is captured (R236). -/
theorem spoolFault_captures (h : s.get F.SPL_STATUS_XLAT = 0) (code field sva : Nat) (inj : Bool) :
    (s.spoolFault code field id sva inj).reg R.SPL_FAULT_CAP0 = BitVec.ofNat 32 (code * 2 ^ 28 + field * 2 ^ 22 + id) := by
  rw [reg_eq_of_sameRegs (spoolFault_afterCapture code field sva inj) (by decide)]
  unfold spoolCaptured
  rw [if_neg (by omega), reg_eq_of_sameRegs (onlyRegs_setReg _ R.SPL_FAULT_CAP2 _ 0 (List.mem_singleton_self _)).2 (by decide),
    reg_eq_of_sameRegs (onlyRegs_setReg _ R.SPL_FAULT_CAP1 _ 0 (List.mem_singleton_self _)).2 (by decide), State.reg_setReg_same]

/-- Every spool fault is counted (R236). -/
theorem spoolFault_counts (code field sva : Nat) (inj : Bool) :
    (s.spoolFault code field id sva inj).get F.SPL_XLAT_COUNT_FAULTS =
      min (2 ^ F.SPL_XLAT_COUNT_FAULTS.w - 1) (s.get F.SPL_XLAT_COUNT_FAULTS + 1) := by
  have hcap := get_eq_of_sameRegs (spoolCaptured_keeps s code field id sva).2 (f := F.SPL_XLAT_COUNT_FAULTS) (by decide)
  unfold State.spoolFault
  dsimp only
  rw [get_eq_of_sameRegs (sameRegs_raise _ _ _ _ _ _ _) (by decide), State.get_add_same _ _ _ _ (by decide), get_set_apart _ (by decide), ← hcap]
  rfl

theorem failReq_effect (hwr : r.write = true) (code : Nat) :
    let v := s.failReq t id rest r code
    acknowledged s t rest r v true ∧ v.spool = s.spool ∧ v.get F.SPL_STATUS_XLAT = 1 ∧
      v.get F.SPL_XLAT_COUNT_FAULTS = min (2 ^ F.SPL_XLAT_COUNT_FAULTS.w - 1) (s.get F.SPL_XLAT_COUNT_FAULTS + 1) ∧
      (s.get F.SPL_STATUS_XLAT = 0 → v.reg R.SPL_FAULT_CAP0 = BitVec.ofNat 32 (code * 2 ^ 28 + fieldOf t * 2 ^ 22 + id)) := by
  obtain ⟨htile, hweft, hspool⟩ := spoolFault_units s code (fieldOf t) id r.sva false
  dsimp only
  unfold State.failReq
  refine ⟨answer_acknowledged htile hweft hwr, (spool_answer _).trans hspool, ?_, ?_, fun h => ?_⟩
  · exact (get_of_bank bank_answer ..).trans (spoolFault_status ..).1
  · exact (get_of_bank bank_answer ..).trans (spoolFault_counts ..)
  · exact (reg_eq_of_sameRegs (sameRegs_of_bank bank_answer []) (by simp)).trans (spoolFault_captures h ..)

/-! ### A write accepted -/

/-- A range inside one unit of 1 KiB is one piece (R199). -/
theorem pieces_unit {bsa n : Nat} (hn : n ≠ 0) (h : bsa % 1024 + n ≤ 1024) : pieces bsa n = [(bsa, n)] := by
  have hlast : (bsa + n - 1) / 1024 = bsa / 1024 := by omega
  have hlo : max bsa (bsa / 1024 * 1024) = bsa := by omega
  have hhi : min (bsa + n) ((bsa / 1024 + 1) * 1024) - bsa = n := by omega
  simp [pieces, hn, hlast, rangeFrom, hlo, hhi]

/-- Bytes written inside one unit of a band pool lie together in the home channel. -/
theorem dram_poolWrite_unit {band bsa d o : Nat} {bs : List Byte} (hbs : bs ≠ []) (h : bsa % 1024 + bs.length ≤ 1024)
    (hat : s.pat.bsaAt band bsa = some (d, o)) : (s.poolWrite band bsa bs).spool.dram = smSetBytes (dramKey d o) bs s.spool.dram := by
  have hlen : bs.length ≠ 0 := by simpa using hbs
  simp [State.poolWrite, pieces_unit hlen h, hat]

theorem weft_withSpool (s : State) (p : Spool) : (s.withSpool p).weft = s.weft := rfl

/-- The bytes that an accepted write stores: those of its request, marked where its pass was poisoned (R202). -/
def writtenBytes (r : SpoolReq) : List Byte :=
  if r.poison then markPoison (statusAt (svaArea r.sva) (svaOff r.sva) r.data.length) r.data else r.data

/-- An accepted write changes the cache's order, the buffer's occupancy and the bytes of the pool (R211). -/
theorem acceptWrite_spool (f used : Nat) :
    let c := s.chanAt (svaBand r.sva) (readBsa r f)
    let stored := (s.poolWrite (svaBand r.sva) (readBsa r f) (writtenBytes r)).spool
    (s.acceptWrite t id rest r f used).spool = { stored.xcUse (fieldOf t) id r.sva f with
      wbuf := smSet 0 c (s.wbufUsed c used + (r.data.length + 1023) / 1024) stored.wbuf } := by
  unfold State.acceptWrite
  dsimp only
  rw [spool_answer]
  rfl

theorem acceptWrite_acknowledged (hwr : r.write = true) (f used : Nat) :
    acknowledged s t rest r (s.acceptWrite t id rest r f used) false := by
  unfold State.acceptWrite
  dsimp only
  refine answer_acknowledged (fun b => ?_) ?_ hwr
  · exact (tile_withSpool ..).trans (State.tile_set ..)
  · exact (weft_withSpool ..).trans (State.weft_set ..)

theorem acceptWrite_bytes {f used d o : Nat} (hp : r.poison = false) (hdata : r.data ≠ []) (hunit : readBsa r f % 1024 + r.data.length ≤ 1024)
    (hat : s.pat.bsaAt (svaBand r.sva) (readBsa r f) = some (d, o)) (x : Nat) :
    smGet 0 x (s.acceptWrite t id rest r f used).spool.dram =
      if dramKey d o ≤ x ∧ x < dramKey d o + r.data.length then r.data.getD (x - dramKey d o) 0 else smGet 0 x s.spool.dram := by
  have hbytes : writtenBytes r = r.data := if_neg (by simp [hp])
  rw [acceptWrite_spool, hbytes]
  show smGet 0 x (s.poolWrite _ _ _).spool.dram = _
  rw [dram_poolWrite_unit hdata hunit hat]
  split
  · next h =>
    obtain ⟨hlo, hhi⟩ := h
    exact smGet_smSetBytes_in _ _ _ hlo hhi
  · next h => exact smGet_smSetBytes_out _ _ _ (by omega)

end

theorem exec_spoolWriteAccept {t : TileAddr} (h : tileOk t.toNat = true) (s : State) (skein : BitVec 12) (root : BitVec 26) (used : Nat) :
    exec (.spoolWriteAccept t skein root used) s = .next (s.spoolWrite t.toNat skein.toNat root.toNat used) :=
  onTile_next h s fun _ => s.spoolWrite t.toNat skein.toNat root.toNat used

end Sys2Proof.Machine

open Sys2Proof Sys2Proof.Machine

/-- Settles O23: the request taken by `spoolWrite_mapped`, and its ways by `forward_effect`, `failReq_effect` and the lemmas on `acceptWrite`. -/
theorem spoolWrites : Obligations.SpoolWrites := by
  unfold Obligations.SpoolWrites
  intro s t skein root used r rest hok
  dsimp only
  have hexec := exec_spoolWriteAccept hok s skein root used
  refine ⟨fun hidle => hexec.trans (congrArg _ (spoolWrite_idle hidle ..)),
    fun hreqs hwr haway hx hmiss => hexec.trans (congrArg _ (spoolWrite_untranslated hreqs hwr haway hx hmiss ..)),
    fun f hreqs hwr haway hx => ?_⟩
  have hmapped := hexec.trans (congrArg _ (spoolWrite_mapped hreqs hwr haway hx root.toNat used))
  refine ⟨fun hfwd => ⟨_, hmapped, ?forwarded⟩, fun hat => ⟨fun hdown => ⟨_, hmapped, ?down⟩, fun hup hfull => ⟨_, hmapped, ?full⟩,
    fun hup hroom => ⟨_, hmapped, ?accepted⟩⟩⟩
  case forwarded =>
    rw [writeTo_forward hfwd]
    exact forward_effect hx _
  case down =>
    rw [writeTo_down hat hdown]
    exact failReq_effect hwr 7
  case full =>
    rw [writeTo_full hat hup hfull]
    exact setsFld_set s F.SPL_STATUS_WBUF_STALL 1 0 (by decide) (by decide)
  case accepted =>
    rw [writeTo_accept hat hup hroom]
    refine ⟨acceptWrite_acknowledged hwr .., ?_, ?_, ?_, fun d o hp hdata hunit hbsa x => acceptWrite_bytes hp hdata hunit hbsa x⟩
    all_goals rw [acceptWrite_spool]
    · rfl
    · rfl
    · exact smGet_smSet_same ..

end

section
/-!
SUPPORT. Registers cleared and restarted together (R234, R235, R240): reading a sparse map after a change of its values and after the pairs that
hold the reset value are dropped, and what SPL_CLR_COUNTS leaves in every register.
-/
namespace Sys2Proof.Machine

/-! ### Maps with distinct keys -/

section
variable {α : Type}

theorem smGet_notMem (d : α) {k : Nat} {m : SMap α} (h : k ∉ m.map Prod.fst) : smGet d k m = d := by
  induction m with
  | nil => rfl
  | cons q m ih =>
    obtain ⟨j, v⟩ := q
    rw [List.map_cons, List.mem_cons, not_or] at h
    rw [smGet, if_neg (Ne.symm h.1), ih h.2]

theorem notMem_of_smAbove {k : Nat} {m : SMap α} (h : smAbove k m = true) : k ∉ m.map Prod.fst := by
  suffices hlt : ∀ j ∈ m.map Prod.fst, k < j from fun hk => Nat.lt_irrefl k (hlt k hk)
  induction m with
  | nil => simp
  | cons q m ih =>
    simp only [smAbove, Bool.and_eq_true, decide_eq_true_eq] at h
    rw [List.map_cons, List.forall_mem_cons]
    exact ⟨h.1, ih h.2⟩

theorem nodup_of_smWf [DecidableEq α] {d : Nat → α} {m : SMap α} (h : smWf d m = true) : (m.map Prod.fst).Nodup := by
  induction m with
  | nil => exact List.nodup_nil
  | cons q m ih =>
    simp only [smWf, Bool.and_eq_true] at h
    obtain ⟨⟨-, habove⟩, hwf⟩ := h
    exact List.nodup_cons.mpr ⟨notMem_of_smAbove habove, ih hwf⟩

/-- Dropping pairs that hold what an unlisted key holds changes no reading. -/
theorem smGet_dropDefaults (d : Nat → α) {p : Nat × α → Bool} (hp : ∀ j v, p (j, v) = false → v = d j) (k : Nat) {m : SMap α}
    (h : (m.map Prod.fst).Nodup) : smGet (d k) k (m.filter p) = smGet (d k) k m := by
  induction m with
  | nil => rfl
  | cons q m ih =>
    obtain ⟨j, v⟩ := q
    obtain ⟨hj, hm⟩ := List.nodup_cons.mp h
    cases hv : p (j, v) with
    | true => simp only [List.filter_cons, hv, if_true, smGet, ih hm]
    | false =>
      rw [List.filter_cons, hv, if_neg Bool.false_ne_true, ih hm, smGet]
      split
      · next hk =>
        subst hk
        rw [smGet_notMem _ hj, hp _ _ hv]
      · rfl

/-- Changing every value, where the value of an unlisted key stays. -/
theorem smGet_mapVals (d : α) (g : Nat → α → α) {k : Nat} (h : g k d = d) (m : SMap α) :
    smGet d k (m.map fun kv => (kv.1, g kv.1 kv.2)) = g k (smGet d k m) := by
  induction m with
  | nil => exact h.symm
  | cons q m ih =>
    obtain ⟨j, v⟩ := q
    by_cases hk : j = k
    · simp [smGet, hk]
    · simp [smGet, hk, ih]

end

/-! ### Registers of the spool -/

/-- A field at any index, in a register that is not of the list. -/
theorem get_inst_of_sameRegs {s t : State} {ks : List Nat} (h : sameRegs s t ks) {f : Fld} (hf : ∀ k ∈ ks, k % 2 ^ 26 ≠ f.reg % 2 ^ 26)
    (i : Nat) : t.get f i = s.get f i :=
  congrArg (fldOf f) (h _ fun hm => hf _ hm (rkey_mod ..))

/-- A field in a register at another address, whatever the instances. -/
theorem get_set_otherReg {s : State} {f g : Fld} (h : g.reg % 2 ^ 26 ≠ f.reg % 2 ^ 26) {v i j : Nat} : (s.set f v i).get g j = s.get g j :=
  State.get_set_other _ _ _ _ _ _ (.inl (rkey_ne h _ _))

/-- A register of SPL_ resets to the same word whatever its index: the block stands at 0xC0000 (R523). -/
theorem regReset_spool {k a : Nat} (hk : k % 2 ^ 26 = a) (h : a / 2 ^ 16 = 12) : regReset k = regReset a := by
  have hset : R.VPA_VL_SETPT + 28 ≤ 12 * 2 ^ 16 := by decide
  have hport : R.HLS_PORT_STAT < 12 * 2 ^ 16 := by decide
  have hv : ¬ (R.VPA_VL_SETPT ≤ a ∧ a < R.VPA_VL_SETPT + 28) := by omega
  have hp : a ≠ R.HLS_PORT_STAT := by omega
  unfold regReset
  dsimp only
  rw [hk, Nat.mod_eq_of_lt (show a < 2 ^ 26 by omega), if_neg hv, if_neg hv, if_neg hp, if_neg hp]

theorem rkey_inj {a i j : Nat} (h : rkey a i = rkey a j) : i = j := by
  unfold rkey at h
  omega

/-! ### MIN starts again at FREE (R235) -/

/-- MIN of some band pools set to FREE. -/
def minsRestarted (l : List Nat) (b : SMap Word) : SMap Word :=
  l.foldl (fun m k => bankSet F.SPL_POOL_MIN_MIN k (bankGet F.SPL_POOL_FREE_FREE k m) m) b

theorem bankReg_minsRestarted {k : Nat} (hk : k % 2 ^ 26 ≠ R.SPL_POOL_MIN) (l : List Nat) (b : SMap Word) :
    bankReg k (minsRestarted l b) = bankReg k b :=
  l.foldlRecOn (motive := fun m => bankReg k m = bankReg k b) _ rfl fun m hm j _ =>
    (bankReg_bankSet_other _ _ _ (fun he => hk (by rw [he, rkey_mod]; rfl)) m).trans hm

theorem minsRestarted_wf {b : SMap Word} (h : smWf regReset b = true) (l : List Nat) : smWf regReset (minsRestarted l b) = true :=
  l.foldlRecOn (motive := fun m => smWf regReset m = true) _ h fun _ hm _ _ => bankSet_wf _ _ _ _ hm

theorem min_minsRestarted {k : Nat} (l : List Nat) (b : SMap Word)
    (h : k ∈ l ∨ bankGet F.SPL_POOL_MIN_MIN k b = bankGet F.SPL_POOL_FREE_FREE k b) :
    bankGet F.SPL_POOL_MIN_MIN k (minsRestarted l b) = bankGet F.SPL_POOL_FREE_FREE k b := by
  induction l generalizing b with
  | nil => exact h.resolve_left List.not_mem_nil
  | cons j l ih =>
    have hfree : bankGet F.SPL_POOL_FREE_FREE k (bankSet F.SPL_POOL_MIN_MIN j (bankGet F.SPL_POOL_FREE_FREE j b) b) =
        bankGet F.SPL_POOL_FREE_FREE k b := bankGet_bankSet_other _ _ _ _ _ _ (.inl (rkey_ne (by decide) _ _))
    rw [minsRestarted, List.foldl_cons, ← hfree]
    refine ih _ ?_
    rw [hfree]
    by_cases hj : k = j
    · subst hj
      exact .inr ((bankGet_bankSet_same _ _ _ _ (by decide)).trans (Nat.mod_eq_of_lt (bitsOf_lt ..)))
    · exact h.imp (fun hm => (List.mem_cons.mp hm).resolve_left hj)
        fun hm => (bankGet_bankSet_other _ _ _ _ _ _ (.inl fun he => hj (rkey_inj he))).trans hm

/-! ### SPL_CLR_COUNTS (R234, R235, R240) -/

/-- WBUF_MAX cleared in a channel's register. -/
def wbufCleared (k : Nat) (w : Word) : Word := if k % 2 ^ 26 = R.SPL_CH_STATE then fldPut F.SPL_CH_STATE_WBUF_MAX 0 w else w

theorem wbufCleared_reset (k : Nat) : wbufCleared k (regReset k) = regReset k := by
  unfold wbufCleared
  split
  · next h =>
    rw [regReset_spool h (by decide)]
    decide
  · rfl

theorem onlyBank_splClr (s : State) : onlyBank s s.splClr := by
  unfold onlyBank State.splClr
  dsimp only

section
variable {s : State} (h : canonical s)
include h

theorem bankReg_splClr (k : Nat) :
    bankReg k s.splClr.bank = wbufCleared k (bankReg k (minsRestarted (rangeFrom 0 128) (bankClear splCountRegs s.bank))) := by
  have hwf : smWf regReset (minsRestarted (rangeFrom 0 128) (bankClear splCountRegs s.bank)) = true :=
    minsRestarted_wf (smWf_filter regReset _ _ h.1) _
  have hvals : (fun kv : Nat × Word => if kv.1 % 2 ^ 26 = R.SPL_CH_STATE then (kv.1, fldPut F.SPL_CH_STATE_WBUF_MAX 0 kv.2) else kv) =
      fun kv => (kv.1, wbufCleared kv.1 kv.2) := by
    funext kv
    unfold wbufCleared
    split <;> rfl
  unfold State.splClr
  dsimp only
  unfold minsRestarted at hwf ⊢
  rw [hvals, bankReg, smGet_dropDefaults regReset (fun _ _ hv => not_not.mp (of_decide_eq_false hv)),
    smGet_mapVals _ _ (wbufCleared_reset k)]
  · rfl
  · rw [List.map_map]
    exact nodup_of_smWf hwf

/-- What is no count, no MIN and no channel's register stays. -/
theorem splClr_keeps {k : Nat} (hk : k % 2 ^ 26 ∉ R.SPL_POOL_MIN :: R.SPL_CH_STATE :: splCountRegs) :
    bankReg k s.splClr.bank = bankReg k s.bank := by
  simp only [List.mem_cons, not_or] at hk
  obtain ⟨hmin, hch, hcount⟩ := hk
  rw [bankReg_splClr h, wbufCleared, if_neg hch, bankReg_minsRestarted hmin, bankReg_bankClear, if_neg (by simpa using hcount)]

/-- Every count reads 0. -/
theorem splClr_counts {f : Fld} (hf : f.reg ∈ splCountRegs) (hw : fldOf f (regReset f.reg) = 0) (i : Nat) : s.splClr.get f i = 0 := by
  have hplace : ∀ a ∈ splCountRegs, a % 2 ^ 26 = a ∧ a / 2 ^ 16 = 12 ∧ a ≠ R.SPL_CH_STATE ∧ a ≠ R.SPL_POOL_MIN := by decide
  obtain ⟨hmod, hblock, hch, hmin⟩ := hplace _ hf
  have hkey : rkey f.reg i % 2 ^ 26 = f.reg := (rkey_mod ..).trans hmod
  unfold State.get bankGet
  rw [bankReg_splClr h, wbufCleared, if_neg (by rwa [hkey]), bankReg_minsRestarted (by rwa [hkey]), bankReg_bankClear,
    if_pos (by rwa [hkey]), regReset_spool hkey hblock, hw]

theorem splClr_channel (i : Nat) : s.splClr.get F.SPL_CH_STATE_WBUF_MAX i = 0 ∧ s.splClr.chState i = s.chState i := by
  have hkey : rkey R.SPL_CH_STATE i % 2 ^ 26 = R.SPL_CH_STATE := rkey_mod ..
  have hword : bankReg (rkey R.SPL_CH_STATE i) s.splClr.bank = fldPut F.SPL_CH_STATE_WBUF_MAX 0 (bankReg (rkey R.SPL_CH_STATE i) s.bank) := by
    rw [bankReg_splClr h, wbufCleared, if_pos hkey, bankReg_minsRestarted (by rw [hkey]; decide), bankReg_bankClear, if_neg (by rw [hkey]; decide)]
  unfold State.chState State.get bankGet
  rw [hword]
  exact ⟨fldOf_fldPut_same F.SPL_CH_STATE_WBUF_MAX 0 _ (by decide), fldOf_fldPut_other _ F.SPL_CH_STATE_STATE _ _ (by decide) (.inl (by decide))⟩

theorem splClr_min {b : Nat} (hb : b < 128) : s.splClr.get F.SPL_POOL_MIN_MIN b = s.get F.SPL_POOL_FREE_FREE b := by
  have hmin : rkey R.SPL_POOL_MIN b % 2 ^ 26 = R.SPL_POOL_MIN := rkey_mod ..
  have hfree : rkey R.SPL_POOL_FREE b % 2 ^ 26 = R.SPL_POOL_FREE := rkey_mod ..
  have hword : s.splClr.get F.SPL_POOL_MIN_MIN b =
      bankGet F.SPL_POOL_MIN_MIN b (minsRestarted (rangeFrom 0 128) (bankClear splCountRegs s.bank)) := by
    unfold State.get bankGet
    rw [bankReg_splClr h, wbufCleared, if_neg (by rw [hmin]; decide)]
  rw [hword, min_minsRestarted _ _ (.inl (mem_rangeFrom.mpr ⟨Nat.zero_le b, by omega⟩))]
  unfold State.get bankGet
  rw [bankReg_bankClear, if_neg (by rw [hfree]; decide)]

end

end Sys2Proof.Machine
end

section
/-!
PROOFS. Channels, scrub and loopback tests of the spool (R197, R230, R231, R237): what is logged and counted, the channel that fails, and a test
refused, begun and ended.
-/
namespace Sys2Proof.Machine

/-! ### Scrub and the log (R230, R237) -/

section
variable (s : State)

/-- A count increased, and nothing else differs. -/
theorem setsFld_add (f : Fld) (n i : Nat) (hw : f.lo + f.w ≤ 32) : setsFld s (s.add f n i) f i (min (2 ^ f.w - 1) (s.get f i + n)) :=
  ⟨State.get_add_same s f n i hw, onlyRegs_add s f n i List.mem_cons_self, onlyFld_set s f _ i⟩

/-- A further uncorrectable line shows in OVF alone. -/
theorem eccLog_full (h : s.get F.SPL_ECC_LOG0_VALID = 1) (c line : Nat) (scrub : Bool) :
    s.eccLog c line scrub = s.set F.SPL_ECC_LOG0_OVF 1 := if_pos h

/-- The first uncorrectable line is logged whole. -/
theorem eccLog_first (h : s.get F.SPL_ECC_LOG0_VALID ≠ 1) {c line : Nat} (hc : c < 64 * 64) (hl : line < 2 ^ 25) (scrub : Bool) :
    let t := s.eccLog c line scrub
    t.get F.SPL_ECC_LOG0_VALID = 1 ∧ t.get F.SPL_ECC_LOG0_SCRUB = b2n scrub ∧ t.get F.SPL_ECC_LOG0_FIELD = c / 64 ∧
      t.get F.SPL_ECC_LOG0_CHANNEL = c % 64 ∧ t.get F.SPL_ECC_LOG1_LINE = line := by
  have hfield : c / 64 % 2 ^ 6 = c / 64 := Nat.mod_eq_of_lt (by omega)
  have hchan : c % 64 % 2 ^ 6 = c % 64 := Nat.mod_eq_of_lt (by omega)
  have hline : line % 2 ^ 25 = line := Nat.mod_eq_of_lt hl
  have hscrub : b2n scrub % 2 ^ 1 = b2n scrub := by cases scrub <;> rfl
  dsimp only
  rw [State.eccLog, if_neg h]
  refine ⟨?_, ?_, ?_, ?_, ?_⟩ <;> simp (disch := decide) only [get_set_apart, State.get_set_same, hfield, hchan, hline, hscrub]
  rfl

theorem onlyRegs_eccLog (c line : Nat) (scrub : Bool) : onlyRegs s (s.eccLog c line scrub) [R.SPL_ECC_LOG0, R.SPL_ECC_LOG1] := by
  unfold State.eccLog
  split
  · exact onlyRegs_set s F.SPL_ECC_LOG0_OVF 1 0 (by decide)
  · exact onlyRegs_trans (onlyRegs_trans (onlyRegs_trans (onlyRegs_trans (onlyRegs_set s F.SPL_ECC_LOG0_VALID 1 0 (by decide))
      (onlyRegs_set _ F.SPL_ECC_LOG0_SCRUB _ 0 (by decide))) (onlyRegs_set _ F.SPL_ECC_LOG0_FIELD _ 0 (by decide)))
      (onlyRegs_set _ F.SPL_ECC_LOG0_CHANNEL _ 0 (by decide))) (onlyRegs_set _ F.SPL_ECC_LOG1_LINE _ 0 (by decide))

/-- Reading SPL_ECC_LOG1 empties the log and leaves OVF. -/
theorem emptyEccLog_effect : let t := s.emptyEccLog
    onlyRegs s t [R.SPL_ECC_LOG0, R.SPL_ECC_LOG1] ∧ t.get F.SPL_ECC_LOG0_VALID = 0 ∧ t.get F.SPL_ECC_LOG1_LINE = 0 ∧
      t.get F.SPL_ECC_LOG0_OVF = s.get F.SPL_ECC_LOG0_OVF := by
  dsimp only
  unfold State.emptyEccLog
  refine ⟨?_, ?_, ?_, ?_⟩
  · exact onlyRegs_trans (onlyRegs_trans (onlyRegs_trans (onlyRegs_trans (onlyRegs_set s F.SPL_ECC_LOG0_VALID 0 0 (by decide))
      (onlyRegs_set _ F.SPL_ECC_LOG0_SCRUB 0 0 (by decide))) (onlyRegs_set _ F.SPL_ECC_LOG0_FIELD 0 0 (by decide)))
      (onlyRegs_set _ F.SPL_ECC_LOG0_CHANNEL 0 0 (by decide))) (onlyRegs_set _ F.SPL_ECC_LOG1_LINE 0 0 (by decide))
  all_goals simp (disch := decide) only [get_set_apart, State.get_set_same]
  all_goals rfl

section
variable (f : Fin 60) (ch : Fin 64) (line : BitVec 25)

theorem exec_spoolScrub_off (h : s.get F.SPL_CTRL_SCRUB_EN = 0 ∨ s.chState (f.val * 64 + ch.val) ≠ 2) (e : Fin 3) :
    exec (.spoolScrub f ch line e) s = .next s := congrArg Host.Outcome.next (if_pos h)

variable (hon : s.get F.SPL_CTRL_SCRUB_EN = 1) (hch : s.chState (f.val * 64 + ch.val) = 2)
include hon hch

/-- A scrub of a channel in service, by the errors of the line. -/
theorem exec_spoolScrub_on (e : Fin 3) : exec (.spoolScrub f ch line e) s = .next (match e.val with
    | 1 => s.add F.SPL_ECC_CE_CE 1
    | 2 => (s.set F.SPL_STATUS_SCRUB_UE 1).eccLog (f.val * 64 + ch.val) line.toNat true
    | _ => s) :=
  congrArg Host.Outcome.next (if_neg (by rw [hon, hch]; decide))

end

/-- What a scrub leaves that met an uncorrectable line. -/
theorem scrubUe_effect (f : Fin 60) (ch : Fin 64) (line : BitVec 25) :
    let t := (s.set F.SPL_STATUS_SCRUB_UE 1).eccLog (f.val * 64 + ch.val) line.toNat true
    t.get F.SPL_STATUS_SCRUB_UE = 1 ∧ onlyRegs s t [R.SPL_STATUS, R.SPL_ECC_LOG0, R.SPL_ECC_LOG1] ∧
      if s.get F.SPL_ECC_LOG0_VALID = 1 then t.get F.SPL_ECC_LOG0_OVF = 1
      else t.get F.SPL_ECC_LOG0_VALID = 1 ∧ t.get F.SPL_ECC_LOG0_SCRUB = 1 ∧ t.get F.SPL_ECC_LOG0_FIELD = f.val ∧
        t.get F.SPL_ECC_LOG0_CHANNEL = ch.val ∧ t.get F.SPL_ECC_LOG1_LINE = line.toNat := by
  have hlog := onlyRegs_eccLog (s.set F.SPL_STATUS_SCRUB_UE 1) (f.val * 64 + ch.val) line.toNat true
  have hvalid : (s.set F.SPL_STATUS_SCRUB_UE 1).get F.SPL_ECC_LOG0_VALID = s.get F.SPL_ECC_LOG0_VALID := get_set_apart _ (by decide) _
  refine ⟨(get_eq_of_sameRegs hlog.2 (by decide)).trans (get_one (by decide) _),
    onlyRegs_trans (onlyRegs_set s F.SPL_STATUS_SCRUB_UE 1 0 (by decide)) (onlyRegs_mono hlog (by decide)), ?_⟩
  split
  · next h =>
    rw [eccLog_full _ (hvalid.trans h)]
    exact get_one (by decide) _
  · next h =>
    have hfield : (f.val * 64 + ch.val) / 64 = f.val := by omega
    have hchan : (f.val * 64 + ch.val) % 64 = ch.val := by omega
    have hfirst := eccLog_first _ (hvalid ▸ h) (c := f.val * 64 + ch.val) (by omega) line.isLt true
    rwa [hfield, hchan] at hfirst

end

/-! ### A channel that fails (R197) -/

section
variable {s : State} {f ch : Nat}

/-- A region goes dark without consequence while no pattern is loaded or being loaded. -/
theorem darkRegion_unloaded (hl : s.get F.WRP_STATUS_LOADED = 0) (hld : s.ld.load = none) (r : Nat) : s.darkRegion r = s := by
  simp [State.darkRegion, State.patUses, hl, hld]

/-- The channel shown FAILED, with its fault record. -/
def State.channelDown (s : State) (f ch : Nat) : State :=
  ((s.set F.SPL_CH_STATE_STATE 3 (f * 64 + ch)).set F.SPL_STATUS_CH_FAIL 1).raise 5 12 2 f (s.reg R.SPL_FAULT_CAP0).toNat

theorem channelFail_absent (h : s.chState (f * 64 + ch) = 0) : s.channelFail f ch = s := if_pos h

theorem channelFail_unloaded (h : s.chState (f * 64 + ch) ≠ 0) (hl : s.get F.WRP_STATUS_LOADED = 0) (hld : s.ld.load = none) :
    s.channelFail f ch = s.channelDown f ch := by
  have hloaded : (s.channelDown f ch).get F.WRP_STATUS_LOADED = 0 := by
    rw [State.channelDown, get_eq_of_sameRegs (sameRegs_raise _ _ _ _ _ _ _) (by decide), get_set_otherReg (by decide),
      get_set_otherReg (by decide), hl]
  exact (if_neg h).trans (darkRegion_unloaded hloaded (by simpa [State.channelDown] using hld) _)

theorem channelDown_effect : let t := s.channelDown f ch
    t.chState (f * 64 + ch) = 3 ∧ t.get F.SPL_STATUS_CH_FAIL = 1 ∧ t = { s with bank := t.bank, flt := t.flt } := by
  dsimp only
  refine ⟨?_, ?_, recordsOnly_trans (recordsOnly_of_onlyBank ?_) (recordsOnly_raise ..)⟩
  · rw [State.chState, State.channelDown, get_inst_of_sameRegs (sameRegs_raise _ _ _ _ _ _ _) (by decide),
      get_set_otherReg (by decide), State.get_set_same _ _ _ _ (by decide)]
    rfl
  · rw [State.channelDown, get_eq_of_sameRegs (sameRegs_raise _ _ _ _ _ _ _) (by decide), get_one (by decide)]
  · exact (onlyRegs_trans (onlyRegs_set s F.SPL_CH_STATE_STATE 3 _ (List.mem_cons_self (l := [R.SPL_STATUS])))
      (onlyRegs_set _ F.SPL_STATUS_CH_FAIL 1 0 (by simp))).1

end

/-! ### Loopback tests (R231) -/

section
variable (s : State) (f ch depth : Nat)

/-- The fields of a test's request stand in SPL_SWATCH_CTRL. -/
def State.splAsked : State := ((s.set F.SPL_SWATCH_CTRL_FIELD f).set F.SPL_SWATCH_CTRL_CHANNEL ch).set F.SPL_SWATCH_CTRL_DEPTH depth

theorem onlyRegs_splAsked : onlyRegs s (s.splAsked f ch depth) [R.SPL_SWATCH_CTRL] :=
  onlyRegs_trans (onlyRegs_trans (onlyRegs_set s F.SPL_SWATCH_CTRL_FIELD f 0 (by decide))
    (onlyRegs_set _ F.SPL_SWATCH_CTRL_CHANNEL ch 0 (by decide))) (onlyRegs_set _ F.SPL_SWATCH_CTRL_DEPTH depth 0 (by decide))

/-- A refusal shows its code, and beside it only the request is stored. -/
theorem splRefused {code : Nat} (hc : code < 16) :
    let t := (s.splAsked f ch depth).set F.SPL_SWATCH_STAT_RESULT code
    t.get F.SPL_SWATCH_STAT_RESULT = code ∧ onlyRegs s t [R.SPL_SWATCH_CTRL, R.SPL_SWATCH_STAT] :=
  ⟨(State.get_set_same _ _ _ _ (by decide)).trans (Nat.mod_eq_of_lt hc),
    onlyRegs_trans (onlyRegs_mono (onlyRegs_splAsked ..) (by decide)) (onlyRegs_set _ F.SPL_SWATCH_STAT_RESULT code 0 (by decide))⟩

/-- The channel under test, and what the registers show while the test runs. -/
def State.splShown (s : State) (c : Nat) : State :=
  (((s.set F.SPL_CH_STATE_STATE 4 c).set F.SPL_SWATCH_STAT_RESULT 1).set F.SPL_SWATCH_STAT_ERR_WORDS 0).set F.SPL_STATUS_SWATCH_DONE 0

/-- The request taken: the channel's state is kept for the test's end. -/
def State.splTaken : State :=
  (s.splAsked f ch depth).withSpool { s.spool with swatch := some (f * 64 + ch, s.chState (f * 64 + ch)) }

/-- The test runs. -/
def State.splStarted : State := (s.splTaken f ch depth).splShown (f * 64 + ch)

variable {s f ch}

theorem splSwatch_missing (h : 59 < f) : s.splSwatch f ch depth = (s.splAsked f ch depth).set F.SPL_SWATCH_STAT_RESULT 6 := if_pos h

section
variable (h : f ≤ 59)
include h

theorem splSwatch_dark (hp : s.vmOn f = false) : s.splSwatch f ch depth = (s.splAsked f ch depth).set F.SPL_SWATCH_STAT_RESULT 5 :=
  (if_neg (Nat.not_lt.mpr h)).trans (if_pos hp)

variable (hp : s.vmOn f = true)
include hp

theorem splSwatch_busy (hb : s.spool.swatch ≠ none ∨ s.chState (f * 64 + ch) ≠ 2) :
    s.splSwatch f ch depth = (s.splAsked f ch depth).set F.SPL_SWATCH_STAT_RESULT 4 :=
  (if_neg (Nat.not_lt.mpr h)).trans ((if_neg (by simp [hp])).trans
    (if_pos (hb.imp Option.isSome_iff_ne_none.mpr fun hc => .inl hc)))

theorem splSwatch_starts (hw : s.spool.swatch = none) (hc : s.chState (f * 64 + ch) = 2) (hs : s.pickState = 0) :
    s.splSwatch f ch depth = s.splStarted f ch depth := by
  refine (if_neg (Nat.not_lt.mpr h)).trans ((if_neg (by simp [hp])).trans ((if_neg (by simp [hw, hc, hs])).trans ?_))
  simp only [State.splStarted, State.splTaken, State.withSpool, State.splShown, State.splAsked, State.spool_set]

end

theorem splShown_shows (s : State) (c : Nat) : (s.splShown c).get F.SPL_SWATCH_STAT_RESULT = 1 ∧ (s.splShown c).chState c = 4 := by
  unfold State.splShown
  constructor
  · simp (disch := decide) only [get_set_apart, State.get_set_same]
    rfl
  · simp (disch := decide) only [State.chState, get_set_otherReg, State.get_set_same]
    rfl

theorem onlyBank_splShown (s : State) (c : Nat) : onlyBank s (s.splShown c) := by
  have hregs : onlyRegs s (s.splShown c) [rkey R.SPL_CH_STATE c, R.SPL_SWATCH_STAT, R.SPL_STATUS] :=
    onlyRegs_trans (onlyRegs_trans (onlyRegs_trans (onlyRegs_set s F.SPL_CH_STATE_STATE 4 c (by simp))
      (onlyRegs_set _ F.SPL_SWATCH_STAT_RESULT 1 0 (by simp))) (onlyRegs_set _ F.SPL_SWATCH_STAT_ERR_WORDS 0 0 (by simp)))
      (onlyRegs_set _ F.SPL_STATUS_SWATCH_DONE 0 0 (by simp))
  exact hregs.1

theorem splStarted_frame (s : State) (f ch depth : Nat) : let t := s.splStarted f ch depth
    t.spool = { s.spool with swatch := some (f * 64 + ch, s.chState (f * 64 + ch)) } ∧ t = { s with bank := t.bank, spool := t.spool } := by
  obtain ⟨hasked, -⟩ := onlyRegs_splAsked s f ch depth
  have hshown := onlyBank_splShown (s.splTaken f ch depth) (f * 64 + ch)
  unfold onlyBank at hasked hshown
  dsimp only
  unfold State.splStarted
  rw [hshown]
  unfold State.splTaken State.withSpool
  exact ⟨rfl, by rw [hasked]⟩

theorem splSwatchEnd_idle (h : s.spool.swatch = none) (result errs : Nat) : s.splSwatchEnd result errs = s := by
  simp only [State.splSwatchEnd, h]

/-- The test is no longer under way; a channel that is still under test has its state again. -/
def State.channelBack (s : State) (c old : Nat) : State :=
  let s1 := s.withSpool { s.spool with swatch := none }
  if s.chState c = 4 then s1.set F.SPL_CH_STATE_STATE old c else s1

theorem channelBack_effect (s : State) (c : Nat) {old : Nat} (ho : old < 2 ^ F.SPL_CH_STATE_STATE.w) :
    (s.channelBack c old).spool = { s.spool with swatch := none } ∧
      (s.channelBack c old).chState c = if s.chState c = 4 then old else s.chState c := by
  unfold State.channelBack
  dsimp only
  split
  · exact ⟨State.spool_set .., (State.get_set_same _ _ _ _ (by decide)).trans (Nat.mod_eq_of_lt ho)⟩
  · exact ⟨rfl, rfl⟩

theorem splSwatchEnd_under {c old : Nat} (h : s.spool.swatch = some (c, old)) (result errs : Nat) : s.splSwatchEnd result errs =
    (((s.channelBack c old).set F.SPL_SWATCH_STAT_RESULT result).set F.SPL_SWATCH_STAT_ERR_WORDS (min errs (2 ^ 28 - 1))).set
      F.SPL_STATUS_SWATCH_DONE 1 := by
  simp only [State.splSwatchEnd, h]
  rfl

/-- The end of a test: the channel has its state again unless it failed meanwhile, and the result shows. -/
theorem splSwatchEnd_ends {c old : Nat} (h : s.spool.swatch = some (c, old)) (ho : old < 2 ^ F.SPL_CH_STATE_STATE.w) {result : Nat}
    (hr : result < 16) (errs : Nat) : let t := s.splSwatchEnd result errs
    t.chState c = (if s.chState c = 4 then old else s.chState c) ∧ t.spool = { s.spool with swatch := none } ∧
      t.get F.SPL_SWATCH_STAT_RESULT = result ∧ t.get F.SPL_SWATCH_STAT_ERR_WORDS = min errs (2 ^ 28 - 1) ∧
      t.get F.SPL_STATUS_SWATCH_DONE = 1 := by
  have hres : result % 2 ^ 4 = result := Nat.mod_eq_of_lt hr
  have herrs : min errs (2 ^ 28 - 1) % 2 ^ 28 = min errs (2 ^ 28 - 1) := Nat.mod_eq_of_lt (by omega)
  dsimp only
  rw [splSwatchEnd_under h]
  obtain ⟨hspool, hstate⟩ := channelBack_effect s c ho
  generalize s.channelBack c old = w at hspool hstate
  refine ⟨?_, ?_, ?_, ?_, ?_⟩
  · rw [← hstate]
    simp (disch := decide) only [State.chState, get_set_otherReg]
  · simp only [State.spool_set, hspool]
  all_goals simp (disch := decide) only [get_set_apart, State.get_set_same, hres, herrs]
  rfl

end

end Sys2Proof.Machine

open Sys2Proof Sys2Proof.Machine

/-- Settles O25: the scrub by `scrubUe_effect`, a failure by `channelDown_effect`, tests by `splRefused`, `splShown_shows` and
`splSwatchEnd_ends`, and the counts by the lemmas on `splClr`. -/
theorem spoolMaintenance : Obligations.SpoolMaintenance := by
  unfold Obligations.SpoolMaintenance
  intro s f ch
  dsimp only
  refine ⟨fun temp => ⟨_, rfl, setsFld_set s F.SPL_CH_STATE_TEMP _ _ (by decide) temp.isLt⟩,
    fun line => ⟨fun h e => exec_spoolScrub_off s f ch line h e, fun hon hch => ?scrub⟩,
    fun h => congrArg Host.Outcome.next (channelFail_absent h), fun h hl hld => ?fails, fun field chan depth => ?tests, fun errs => ?ends,
    ⟨_, rfl, rfl⟩, fun hcan => ?counts, ⟨_, rfl, emptyEccLog_effect s⟩⟩
  case scrub =>
    have hexec := exec_spoolScrub_on s f ch line hon hch
    exact ⟨hexec 0, ⟨_, hexec 1, setsFld_add s F.SPL_ECC_CE_CE 1 0 (by decide)⟩, ⟨_, hexec 2, scrubUe_effect s f ch line⟩⟩
  case fails => exact ⟨_, congrArg Host.Outcome.next (channelFail_unloaded h hl hld), channelDown_effect⟩
  case tests =>
    have hexec : exec (.splSwatchStart field chan depth) s = .next (s.splSwatch field.toNat chan.toNat depth.toNat) := rfl
    refine ⟨fun hf => ⟨_, hexec.trans (congrArg _ (splSwatch_missing _ hf)), splRefused _ _ _ _ (by decide)⟩,
      fun hf hp => ⟨_, hexec.trans (congrArg _ (splSwatch_dark _ hf hp)), splRefused _ _ _ _ (by decide)⟩,
      fun hf hp hb => ⟨_, hexec.trans (congrArg _ (splSwatch_busy _ hf hp hb)), splRefused _ _ _ _ (by decide)⟩,
      fun hf hp hw hc hs => ⟨_, hexec.trans (congrArg _ (splSwatch_starts _ hf hp hw hc hs)), ?_⟩⟩
    obtain ⟨hresult, hstate⟩ := splShown_shows (s.splTaken field.toNat chan.toNat depth.toNat) (field.toNat * 64 + chan.toNat)
    obtain ⟨hspool, hframe⟩ := splStarted_frame s field.toNat chan.toNat depth.toNat
    rw [hc] at hspool
    exact ⟨hresult, hstate, hspool, hframe⟩
  case ends =>
    have hexec : exec (.splSwatchComplete errs) s = .next (s.splSwatchEnd (if errs = 0 then 2 else 3) errs) := rfl
    exact ⟨fun h => hexec.trans (congrArg _ (splSwatchEnd_idle h ..)),
      fun d old h ho => ⟨_, hexec, splSwatchEnd_ends h ho (by split <;> decide) errs⟩⟩
  case counts =>
    exact ⟨s.splClr, rfl, onlyBank_splClr s, splClr_counts hcan (by decide) (by decide) 0, splClr_counts hcan (by decide) (by decide) 0,
      splClr_counts hcan (by decide) (by decide) 0, fun k => ⟨splClr_counts hcan (by decide) (by decide) k,
        splClr_counts hcan (by decide) (by decide) k, splClr_channel hcan k⟩, fun b hb => splClr_min hcan hb, fun k hk => splClr_keeps hcan hk⟩

end

section
/-!
SUPPORT. Entries of skeins put one at a time, and what the pools' registers, spool faults and host accesses leave alone (R222, R224, R236, R398).
-/
namespace Sys2Proof.Machine

/-! ### One entry put -/

/-- The entry of one skein takes a value, and every other entry stands. -/
structure EntryPut (s t : State) (id : Nat) (k : Skein) : Prop where
  entry : t.sk id = k
  others : ∀ j, j ≠ id → t.sk j = s.sk j

theorem sk_of_skeins {s t : State} (h : t.reed.skeins = s.reed.skeins) (j : Nat) : t.sk j = s.sk j := congrArg (smGet Skein.empty j) h

section
variable {s t u : State} {id : Nat} {k : Skein}

theorem entryPut_setSk (s : State) (id : Nat) (k : Skein) : EntryPut s (s.setSk id k) id k :=
  ⟨smGet_smSet_same .., fun _ hj => smGet_smSet_other _ _ hj _ _⟩

theorem get_setSk (s : State) (id : Nat) (k : Skein) (f : Fld) (i : Nat) : (s.setSk id k).get f i = s.get f i := rfl

theorem EntryPut.after (h : EntryPut t u id k) (hs : t.reed.skeins = s.reed.skeins) : EntryPut s u id k :=
  ⟨h.entry, fun j hj => (h.others j hj).trans (sk_of_skeins hs j)⟩

theorem EntryPut.before (h : EntryPut s t id k) (hs : u.reed.skeins = t.reed.skeins) : EntryPut s u id k :=
  ⟨(sk_of_skeins hs id).trans h.entry, fun j hj => (sk_of_skeins hs j).trans (h.others j hj)⟩

/-- The last value put at a key counts. -/
theorem EntryPut.trans {k' : Skein} (h : EntryPut s t id k') (h' : EntryPut t u id k) : EntryPut s u id k :=
  ⟨h'.entry, fun j hj => (h'.others j hj).trans (h.others j hj)⟩

end

/-! ### Prompt units asked for (R251) -/

section
variable {s t u : State} {id : Nat}

/-- At most the prompt units of one skein differ, kept or asked for. -/
def unitsPut (s t : State) (id : Nat) : Prop := ∃ held asked, EntryPut s t id { s.sk id with units := held, unitsAsked := asked }

theorem unitsPut_refl (s : State) (id : Nat) : unitsPut s s id := ⟨_, _, rfl, fun _ _ => rfl⟩

theorem unitsPut.trans (h : unitsPut s t id) (h' : unitsPut t u id) : unitsPut s u id := by
  obtain ⟨held, asked, hput⟩ := h
  obtain ⟨held', asked', hput'⟩ := h'
  refine ⟨held', asked', hput.trans ?_⟩
  rwa [hput.entry] at hput'

theorem unitsPut_askUnit (s : State) (id u : Nat) : unitsPut s (s.askUnit id u) id := by
  unfold State.askUnit
  dsimp only
  split
  · exact ⟨_, _, (entryPut_setSk s id _).before (congrArg Reed.skeins (reed_hostRead ..))⟩
  · exact unitsPut_refl s id

theorem unitsPut_keepUnits (s : State) (id : Nat) : unitsPut s (s.keepUnits id) id := by
  unfold State.keepUnits
  dsimp only
  refine unitsPut.trans ?_ ((unitsPut_askUnit ..).trans (unitsPut_askUnit ..))
  split
  · exact unitsPut_refl s id
  · exact ⟨_, _, entryPut_setSk ..⟩

end

/-! ### Nothing but registers -/

theorem onlyBank_trans {s t u : State} (h : onlyBank s t) (h' : onlyBank t u) : onlyBank s u := by
  unfold onlyBank at *
  rw [h', h]

theorem onlyBank_add (s : State) (f : Fld) (n i : Nat) : onlyBank s (s.add f n i) := (onlyRegs_add s f n i (List.mem_singleton_self _)).1

theorem onlyBank_setReg (s : State) (a : Nat) (v : Word) (i : Nat) : onlyBank s (s.setReg a v i) :=
  (onlyRegs_setReg s a v i (List.mem_singleton_self _)).1

theorem onlyBank_foldl {α : Type} {f : State → α → State} (hf : ∀ u x, onlyBank u (f u x)) (l : List α) (s : State) :
    onlyBank s (l.foldl f s) :=
  l.foldlRecOn f (motive := fun u => onlyBank s u) rfl fun u hu x _ => onlyBank_trans hu (hf u x)

theorem onlyBank_poolMarks (s : State) (band : Nat) : onlyBank s (s.poolMarks band) := by
  unfold State.poolMarks
  dsimp only
  refine onlyBank_trans ?_ (onlyBank_set ..)
  refine onlyBank_trans ?_ (onlyBank_set ..)
  refine onlyBank_trans ?_ (onlyBank_set ..)
  exact onlyBank_set ..

theorem reed_of_onlyBank {s t : State} (h : onlyBank s t) : t.reed = s.reed := by rw [h]
theorem spool_of_onlyBank {s t : State} (h : onlyBank s t) : t.spool = s.spool := by rw [h]
theorem host_of_onlyBank {s t : State} (h : onlyBank s t) : t.host = s.host := by rw [h]

/-- A spool fault changes registers and fault records alone. -/
theorem recordsOnly_spoolFault (s : State) (code field id sva : Nat) (inj : Bool) : recordsOnly s (s.spoolFault code field id sva inj) := by
  have hcap : onlyBank s (spoolCaptured s code field id sva) := by
    unfold spoolCaptured
    split
    · rfl
    · exact onlyBank_trans (onlyBank_trans (onlyBank_setReg ..) (onlyBank_setReg ..)) (onlyBank_setReg ..)
  have hcount : onlyBank s (((spoolCaptured s code field id sva).set F.SPL_STATUS_XLAT 1).add F.SPL_XLAT_COUNT_FAULTS 1) :=
    onlyBank_trans hcap (onlyBank_trans (onlyBank_set ..) (onlyBank_add ..))
  exact recordsOnly_trans (recordsOnly_of_onlyBank hcount) (recordsOnly_raise ..)

/-- A fault of the spool with COPY_ERR (R197, R233). -/
def State.copyFault (s : State) (code field id sva : Nat) : State := (s.spoolFault code field id sva).set F.SPL_STATUS_COPY_ERR 1

theorem copyFault_effect (s : State) (code field id sva : Nat) : let t := s.copyFault code field id sva
    recordsOnly s t ∧ t.get F.SPL_STATUS_COPY_ERR = 1 ∧ t.get F.SPL_STATUS_XLAT = 1 := by
  refine ⟨recordsOnly_trans (recordsOnly_spoolFault ..) (recordsOnly_of_onlyBank (onlyBank_set ..)), get_one (by decide) _, ?_⟩
  exact (get_set_apart _ (by decide) _).trans (spoolFault_status ..).1

theorem reed_of_recordsOnly {s t : State} (h : recordsOnly s t) : t.reed = s.reed := by
  unfold recordsOnly at h
  rw [h]

theorem spool_of_recordsOnly {s t : State} (h : recordsOnly s t) : t.spool = s.spool := by
  unfold recordsOnly at h
  rw [h]

theorem pm_of_recordsOnly {s t : State} (h : recordsOnly s t) : t.pm = s.pm := by
  unfold recordsOnly at h
  rw [h]

/-! ### Pages copied (R222, R224) -/

/-- The registers of a band's pool (R235). -/
def poolRegs : List Nat := [R.SPL_POOL_FREE, R.SPL_POOL_MIN, R.SPL_STATUS, R.SPL_TBL_FREE]

/-- Nothing but the spool and the registers of the pools differs. -/
structure PoolMoves (s t : State) : Prop where
  rest : t = { s with bank := t.bank, spool := t.spool }
  regs : ∀ k, k % 2 ^ 26 ∉ poolRegs → bankReg k t.bank = bankReg k s.bank

namespace PoolMoves
variable {s t u : State}

theorem trans (h : PoolMoves s t) (h' : PoolMoves t u) : PoolMoves s u := by
  refine ⟨?_, fun k hk => (h'.regs k hk).trans (h.regs k hk)⟩
  rw [h'.rest, h.rest]

theorem of_spool (h : t = { s with spool := t.spool }) : PoolMoves s t := by
  rw [h]
  exact ⟨rfl, fun _ _ => rfl⟩

theorem refl (s : State) : PoolMoves s s := of_spool rfl

theorem foldl {α : Type} {f : State → α → State} (hf : ∀ u x, PoolMoves u (f u x)) (l : List α) (s : State) : PoolMoves s (l.foldl f s) :=
  l.foldlRecOn f (refl s) fun u hu x _ => hu.trans (hf u x)

theorem set {f : Fld} (h : f.reg % 2 ^ 26 ∈ poolRegs) (s : State) (v i : Nat) : PoolMoves s (s.set f v i) := by
  refine ⟨by cases s; rfl, fun k hk => ?_⟩
  rw [State.bank_set]
  exact bankReg_bankSet_other _ _ _ (fun he => hk (by rwa [he, rkey_mod])) _

theorem reed (h : PoolMoves s t) : t.reed = s.reed := by rw [h.rest]

theorem get (h : PoolMoves s t) {f : Fld} (hf : f.reg % 2 ^ 26 ∉ poolRegs) (i : Nat) : t.get f i = s.get f i :=
  congrArg (fldOf f) (h.regs _ (by rwa [rkey_mod]))

end PoolMoves

theorem poolMoves_poolMarks (s : State) (band : Nat) : PoolMoves s (s.poolMarks band) := by
  unfold State.poolMarks
  dsimp only
  exact (((PoolMoves.set (by decide) _ _ _).trans (PoolMoves.set (by decide) _ _ _)).trans (PoolMoves.set (by decide) _ _ _)).trans
    (PoolMoves.set (by decide) _ _ _)

theorem poolMoves_allocFrame {s t : State} {id root sva f : Nat} (h : s.allocFrame id root sva = .inr (f, t)) : PoolMoves s t := by
  unfold State.allocFrame at h
  dsimp only at h
  split at h
  · cases h
  · split at h
    · cases h
    · cases h
      exact PoolMoves.trans (.of_spool rfl) (poolMoves_poolMarks ..)

theorem poolMoves_copyRange (s : State) (srcRoot dst dstRoot sva n : Nat) : PoolMoves s (s.copyRange srcRoot dst dstRoot sva n) := by
  unfold State.copyRange
  split
  · exact .refl s
  · split
    · exact .of_spool rfl
    · split
      · exact .refl s
      · next h => exact (poolMoves_allocFrame h).trans (.of_spool rfl)

theorem poolMoves_copyPage (s : State) (srcRoot dst dstRoot g : Nat) : PoolMoves s (s.copyPage srcRoot dst dstRoot g) :=
  PoolMoves.foldl (fun u _ => PoolMoves.foldl (fun v _ => poolMoves_copyRange v ..) _ u) _ s

end Sys2Proof.Machine
end

section
/-!
PROOFS. Release of a skein's frames and copies of shared blocks (R223, R224, R248, R264).
-/
namespace Sys2Proof.Machine

/-! ### Release (R223, R248) -/

section
variable (s : State) (id root : Nat)

/-- With a root, what the skein held is taken out of the spool, and the registers of the pools follow. -/
theorem releaseFrames_root (h : root ≠ 0) : ∃ (p : Spool) (bands : List Nat), p.dram = s.spool.dram ∧
    p.owned = smClear (id * 128) (id * 128 + 127) s.spool.owned ∧
    s.releaseFrames id root = bands.foldl (fun u b => u.poolMarks b) ((s.withSpool p).poolMarks 0) := by
  unfold State.releaseFrames
  rw [if_neg h]
  refine ⟨_, _, ?_, ?_, rfl⟩
  · rfl
  · rfl

/-- Frames and tables given back: neither the spool's bytes nor a skein's entry differ, and what the skein held is taken back. -/
theorem releaseFrames_effect : let t := s.releaseFrames id root
    t.reed = s.reed ∧ t.host = s.host ∧ t.spool.dram = s.spool.dram ∧
      (root ≠ 0 → ∀ b, b < 128 → smGet 0 (id * 128 + b) t.spool.owned = 0) := by
  dsimp only
  by_cases h : root = 0
  · rw [State.releaseFrames, if_pos h]
    exact ⟨rfl, rfl, rfl, fun h' => absurd h h'⟩
  · obtain ⟨p, bands, hdram, howned, heq⟩ := releaseFrames_root s id root h
    have hmarks : onlyBank (s.withSpool p) (s.releaseFrames id root) := by
      rw [heq]
      exact onlyBank_trans (onlyBank_poolMarks ..) (onlyBank_foldl onlyBank_poolMarks ..)
    rw [spool_of_onlyBank hmarks]
    refine ⟨(reed_of_onlyBank hmarks).trans rfl, (host_of_onlyBank hmarks).trans rfl, hdram, fun _ b hb => ?_⟩
    exact (congrArg (smGet 0 _) howned).trans (smGet_smClear_in 0 (by omega) _)

variable {s id}

theorem frameRelease_waits (h : (s.sk id).releasing = none ∨ s.copiedFrom id = true ∨ (s.sk id).swapOut = true ∨ (s.sk id).restore = true) :
    s.frameRelease id = s := by
  unfold State.frameRelease
  dsimp only
  split
  · rfl
  · next ring tag hr => exact if_pos (h.resolve_left (by simp [hr]))

/-- The skein's entry free, its frames back and its fetches dropped. -/
def State.freed (s : State) (id : Nat) : State :=
  let u := (s.releaseFrames id (s.sk id).ptRoot).setSk id Skein.empty
  { u with host := u.host.dropSkein id }

theorem frameRelease_frees {ring tag : Nat} (hr : (s.sk id).releasing = some (ring, tag)) (hc : s.copiedFrom id = false)
    (ho : (s.sk id).swapOut = false) (hi : (s.sk id).restore = false) : s.frameRelease id = (s.freed id).complete ring 0x14 0 tag id 0 := by
  unfold State.frameRelease
  simp only [hr, hc, ho, hi, Bool.false_eq_true, or_self, if_false]
  rfl

theorem freed_effect (s : State) (id : Nat) : let t := s.freed id
    EntryPut s t id Skein.empty ∧ t.spool.dram = s.spool.dram ∧ t.host.compWr = s.host.compWr ∧
      ((s.sk id).ptRoot ≠ 0 → ∀ b, b < 128 → smGet 0 (id * 128 + b) t.spool.owned = 0) := by
  obtain ⟨hreed, hhost, hdram, howned⟩ := releaseFrames_effect s id (s.sk id).ptRoot
  unfold State.freed
  dsimp only
  generalize s.releaseFrames id (s.sk id).ptRoot = u at hreed hhost hdram howned
  exact ⟨((entryPut_setSk u id Skein.empty).after (congrArg Reed.skeins hreed)).before rfl, hdram, (congrArg HostIf.compWr hhost :), howned⟩

/-- A completion is one more of its ring; the reed and the spool do not see it. -/
theorem complete_effect (u : State) (ring op status tag env : Nat) : let t := u.complete ring op status tag id env
    t.reed = u.reed ∧ t.spool = u.spool ∧ smGet 0 ring t.host.compWr = smGet 0 ring u.host.compWr + 1 := by
  unfold State.complete
  dsimp only
  exact ⟨reed_hostWrite .., (entriesMove_hostWrite u ..).spool, smGet_smSet_same ..⟩

end

/-! ### Prefix copies (R224, R264) -/

section
variable {s : State} {id : Nat}

/-- The copies of a skein end: what is left of them is dropped, with the lookup. -/
def State.copiesEnded (s : State) (id : Nat) : State := s.setSk id { s.sk id with copies := [], pfxLook := false }

theorem prefixCopy_idle (h : (s.sk id).copies = []) : s.prefixCopy id = s := by
  simp only [State.prefixCopy, h]

section
variable {g src : Nat} {rest : List (Nat × Nat)} (h : (s.sk id).copies = (g, src) :: rest)
include h

theorem prefixCopy_bad (hbad : ¬ ((s.sk src).sourceOk g = true ∧ s.spool.copySource (s.sk src).ptRoot g = true)) :
    s.prefixCopy id = s.copiesEnded id := by
  rw [← Bool.and_eq_true, Bool.not_eq_true] at hbad
  simp only [State.prefixCopy, h, hbad, if_true]
  rfl

variable (hgood : (s.sk src).sourceOk g = true ∧ s.spool.copySource (s.sk src).ptRoot g = true)
include hgood

theorem prefixCopy_down (hdown : s.copyDown (s.sk src).ptRoot g = true) :
    s.prefixCopy id = (s.copiesEnded id).copyFault 7 (s.pat.stuOf 0) id (mkSva 0 0 (g * 65536)) := by
  simp only [State.prefixCopy, h, hgood, hdown, Bool.and_self, Bool.true_eq_false, if_true, if_false]
  rfl

variable (hup : s.copyDown (s.sk src).ptRoot g = false)
include hup

theorem prefixCopy_full (hfull : s.copyFits (s.sk src).ptRoot (s.sk id).ptRoot g = false) : s.prefixCopy id = s.copiesEnded id := by
  simp only [State.prefixCopy, h, hgood, hup, hfull, Bool.and_self, Bool.true_eq_false, Bool.false_eq_true, if_false]
  rfl

/-- The block is copied: a hit is counted, and the next one follows. -/
theorem prefixCopy_copies (hfits : s.copyFits (s.sk src).ptRoot (s.sk id).ptRoot g = true)
    (hwhole : (s.copyPage (s.sk src).ptRoot id (s.sk id).ptRoot g).spool.copyWhole (s.sk src).ptRoot (s.sk id).ptRoot g = true)
    (hdst : (s.copyPage (s.sk src).ptRoot id (s.sk id).ptRoot g).copyDown (s.sk id).ptRoot g = false) :
    s.prefixCopy id = ((s.copyPage (s.sk src).ptRoot id (s.sk id).ptRoot g).setSk id
      { s.sk id with copies := rest, pfxBlocks := (s.sk id).pfxBlocks + 1 }).add F.SKN_PFX_HITS_HITS 1 := by
  simp only [State.prefixCopy, h, hgood, hup, hfits, hwhole, hdst, Bool.and_self, Bool.true_eq_false, Bool.false_eq_true, if_false, if_true]

end

/-! ### The end of the copies (R250, R264) -/

/-- The lengths stand after the copied blocks. -/
def State.copiesTaken (s : State) (id : Nat) : State :=
  let k := s.sk id
  s.setSk id { k with pfxRun := false, committed := 64 * k.pfxBlocks, next := 64 * k.pfxBlocks, hash := k.hashTo k.pfxBlocks, blk := [] }

theorem prefixDone_not (h : (s.sk id).pfxRun = false ∨ (s.sk id).pfxLook = true ∨ (s.sk id).copies ≠ []) : s.prefixDone id = s := by
  refine if_neg fun hdone => ?_
  obtain ⟨hrun, hlook, hcopies⟩ := hdone
  rcases h with h | h | h
  · simp [h] at hrun
  · simp [h] at hlook
  · exact h hcopies

/-- PREFIX_HIT goes to the host where a block was copied. -/
def State.hitShown (s : State) (id n : Nat) : State := if n = 0 then s else s.event 0x85 id n

theorem entriesMove_hitShown (s : State) (id n : Nat) : EntriesMove s (s.hitShown id n) := by
  unfold State.hitShown
  split
  · exact .refl s
  · exact entriesMove_event ..

theorem reed_hitShown (s : State) (id n : Nat) : (s.hitShown id n).reed = s.reed := by
  unfold State.hitShown
  split
  · rfl
  · exact reed_event ..

theorem prefixDone_done (hrun : (s.sk id).pfxRun = true) (hlook : (s.sk id).pfxLook = false) (hcopies : (s.sk id).copies = []) :
    s.prefixDone id = ((s.copiesTaken id).hitShown id (s.sk id).pfxBlocks).keepUnits id := if_pos ⟨hrun, hlook, hcopies⟩

theorem copiesDone_effect (s : State) (id : Nat) : let k := s.sk id
    let t := ((s.copiesTaken id).hitShown id k.pfxBlocks).keepUnits id
    (t.sk id).committed = 64 * k.pfxBlocks ∧ (t.sk id).next = 64 * k.pfxBlocks ∧ (t.sk id).pfxRun = false ∧ (t.sk id).state = k.state ∧
      (∀ j, j ≠ id → t.sk j = s.sk j) ∧ t.spool = s.spool := by
  have hput : EntryPut s ((s.copiesTaken id).hitShown id (s.sk id).pfxBlocks) id _ :=
    (entryPut_setSk s id _).before (congrArg Reed.skeins (reed_hitShown ..))
  obtain ⟨held, asked, hunits⟩ := unitsPut_keepUnits ((s.copiesTaken id).hitShown id (s.sk id).pfxBlocks) id
  have hspool : (((s.copiesTaken id).hitShown id (s.sk id).pfxBlocks).keepUnits id).spool = s.spool :=
    ((entriesMove_hitShown ..).trans (entriesMove_keepUnits ..)).spool
  obtain ⟨hentry, hothers⟩ := hput.trans hunits
  rw [hput.entry] at hentry
  dsimp only
  rw [hentry]
  exact ⟨rfl, rfl, rfl, rfl, hothers, hspool⟩

end

end Sys2Proof.Machine

open Sys2Proof Sys2Proof.Machine

/-- Settles O31: a release by `frameRelease_frees` and `releaseFrames_effect`, a copy by the equations of `State.prefixCopy` with
`copyFault_effect` and `poolMoves_copyPage`, and the end of the copies by `copiesDone_effect`. -/
theorem prefixCopies : Obligations.PrefixCopies := by
  unfold Obligations.PrefixCopies
  intro s id
  dsimp only
  have hrelease : exec (.frameRelease id) s = .next (s.frameRelease id.toNat) := rfl
  have hcopy : exec (.prefixCopy id) s = .next (s.prefixCopy id.toNat) := rfl
  have hdone : exec (.prefixCopyComplete id) s = .next (s.prefixDone id.toNat) := rfl
  refine ⟨fun h => hrelease.trans (congrArg _ (frameRelease_waits h)), fun ring tag hr hc ho hi => ?released,
    fun h => hcopy.trans (congrArg _ (prefixCopy_idle h)), fun g src rest hcopies => ⟨fun h => ?stops, fun hgood hdown => ?down,
      fun hgood hup hfits hwhole hdst => ?copied⟩,
    fun hrun hlook hcopies => ⟨_, hdone.trans (congrArg _ (prefixDone_done hrun hlook hcopies)), copiesDone_effect s id.toNat⟩,
    fun h => hdone.trans (congrArg _ (prefixDone_not h))⟩
  case released =>
    obtain ⟨hput, hdram, hcount, howned⟩ := freed_effect s id.toNat
    obtain ⟨hreed, hspool, hcomp⟩ := complete_effect (id := id.toNat) (s.freed id.toNat) ring 0x14 0 tag 0
    obtain ⟨hentry, hothers⟩ := hput.before (congrArg Reed.skeins hreed)
    refine ⟨_, hrelease.trans (congrArg _ (frameRelease_frees hr hc ho hi)), hentry, hothers, ?_, ?_, ?_⟩
    · rw [hcomp, hcount]
    · rw [hspool, hdram]
    · rw [hspool]
      exact howned
  case stops =>
    have heq : s.prefixCopy id.toNat = s.copiesEnded id.toNat := by
      by_cases hgood : (s.sk src).sourceOk g = true ∧ s.spool.copySource (s.sk src).ptRoot g = true
      · obtain ⟨hup, hfull⟩ := h.resolve_left (not_not_intro hgood)
        exact prefixCopy_full hcopies hgood hup hfull
      · exact prefixCopy_bad hcopies hgood
    obtain ⟨hentry, hothers⟩ := entryPut_setSk s id.toNat { s.sk id.toNat with copies := [], pfxLook := false }
    exact ⟨_, hcopy.trans (congrArg _ heq), ⟨hentry, hothers⟩, rfl⟩
  case down =>
    obtain ⟨hrec, herr, hxlat⟩ := copyFault_effect (s.copiesEnded id.toNat) 7 (s.pat.stuOf 0) id.toNat (mkSva 0 0 (g * 65536))
    obtain ⟨hentry, hothers⟩ := (entryPut_setSk s id.toNat { s.sk id.toNat with copies := [], pfxLook := false }).before
      (congrArg Reed.skeins (reed_of_recordsOnly hrec))
    exact ⟨_, hcopy.trans (congrArg _ (prefixCopy_down hcopies hgood hdown)), ⟨hentry, hothers⟩,
      (spool_of_recordsOnly hrec).trans rfl, herr, hxlat⟩
  case copied =>
    have hpage := poolMoves_copyPage s (s.sk src).ptRoot id.toNat (s.sk id.toNat).ptRoot g
    have hput := ((entryPut_setSk (s.copyPage (s.sk src).ptRoot id.toNat (s.sk id.toNat).ptRoot g) id.toNat
      { s.sk id.toNat with copies := rest, pfxBlocks := (s.sk id.toNat).pfxBlocks + 1 }).after (congrArg Reed.skeins hpage.reed))
    obtain ⟨hentry, hothers⟩ := hput.before (congrArg Reed.skeins (State.reed_add _ F.SKN_PFX_HITS_HITS 1 0))
    refine ⟨_, hcopy.trans (congrArg _ (prefixCopy_copies hcopies hgood hup hfits hwhole hdst)), hentry, hothers, ?_⟩
    rw [State.get_add_same _ _ _ _ (by decide), get_setSk, hpage.get (by decide)]

end

section
/-!
PROOFS. Pre-emption, swap out and restore (R220, R225, R265, R399): the skein chosen and parked, the frames written out and asked back, and what
each end of a swap shows.
-/
namespace Sys2Proof.Machine

/-! ### Swaps as they show (R270) -/

/-- A key that reads as something else than an unlisted one is listed. -/
theorem mem_of_smGet_ne {α : Type} {d : α} {k : Nat} {m : SMap α} (h : smGet d k m ≠ d) : (k, smGet d k m) ∈ m := by
  induction m with
  | nil => exact absurd rfl h
  | cons q m ih =>
    obtain ⟨j, v⟩ := q
    rw [smGet] at h ⊢
    split
    · next hj =>
      subst hj
      exact List.mem_cons_self
    · next hj =>
      rw [if_neg hj] at h
      exact List.mem_cons_of_mem _ (ih h)

section
variable (s : State) {id : Nat}

/-- A skein that is swapped out or restored shows in SWAP_RUN. -/
theorem swapRuns_of_sk (h : (s.sk id).swapOut = true ∨ (s.sk id).restore = true) : s.swapRuns = true := by
  have hne : s.sk id ≠ Skein.empty := fun he => by
    rw [he] at h
    exact absurd h (by decide)
  exact List.any_eq_true.mpr ⟨_, mem_of_smGet_ne hne, by simpa [State.sk] using h⟩

theorem reed_showSwap : s.showSwap.reed = s.reed := State.reed_set ..
theorem spool_showSwap : s.showSwap.spool = s.spool := State.spool_set ..

theorem get_showSwap {f : Fld} (h : fldsApart F.SKN_STATUS_SWAP_RUN f) : s.showSwap.get f = s.get f := get_set_apart _ h _

theorem showSwap_runs (h : (s.sk id).swapOut = true ∨ (s.sk id).restore = true) : s.showSwap.get F.SKN_STATUS_SWAP_RUN = 1 := by
  rw [State.showSwap, swapRuns_of_sk s h]
  exact get_one (by decide) s

/-- The end of a swap or restore: the entry put, its count, its event, and SWAP_RUN. -/
def State.swapEnded (id : Nat) (k : Skein) (count : Fld) (code data : Nat) : State :=
  (((s.setSk id k).add count 1).event code id data).showSwap

theorem swapEnded_effect (id : Nat) (k : Skein) {count : Fld} (h : count = F.SKN_SWAPS_OUT ∨ count = F.SKN_SWAPS_IN) (code data : Nat) :
    let t := s.swapEnded id k count code data
    EntryPut s t id k ∧ t.spool = s.spool ∧ t.get count = min (2 ^ count.w - 1) (s.get count + 1) := by
  have hcount : count.lo + count.w ≤ 32 ∧ count.reg ∉ servingRegs ∧ fldsApart F.SKN_STATUS_SWAP_RUN count := by
    rcases h with rfl | rfl <;> decide
  obtain ⟨hw, hreg, hap⟩ := hcount
  have hevent := entriesMove_event ((s.setSk id k).add count 1) code id data
  refine ⟨(entryPut_setSk s id k).before (congrArg Reed.skeins ?_), ?_, ?_⟩
  · exact (reed_showSwap _).trans ((reed_event ..).trans (State.reed_add ..))
  · exact (spool_showSwap _).trans (hevent.spool.trans (State.spool_add ..))
  · rw [State.swapEnded, get_showSwap _ hap, get_eq_of_sameRegs hevent.regs hreg, State.get_add_same _ _ _ _ hw, get_setSk]

end

/-! ### Skeins that leave the ring (R246) -/

section
variable (s : State) (id : Nat)

/-- Settling a skein changes its own entry: reason and restore stand, and one that waits to park is parked or waits on. -/
theorem settleSk_put : ∃ k, EntryPut s (s.settleSk id) id k ∧ k.reason = (s.sk id).reason ∧ k.restore = (s.sk id).restore ∧
    ((s.sk id).state ≠ 5 → (s.sk id).parkPend = true → k.parkPend = true ∨ k.state = 4) := by
  have hput : ∀ (k : Skein) (code data : Nat), EntryPut s ((s.setSk id k).event code id data) id k := fun k code data =>
    (entryPut_setSk s id k).before (congrArg Reed.skeins (reed_event ..))
  unfold State.settleSk
  dsimp only
  split
  · split
    · next h5 => exact ⟨_, hput .., rfl, rfl, fun h => absurd h5 h⟩
    · split
      · exact ⟨_, hput .., rfl, rfl, fun _ _ => .inr rfl⟩
      · exact ⟨s.sk id, ⟨rfl, fun _ _ => rfl⟩, rfl, rfl, fun _ h => .inl h⟩
  · exact ⟨s.sk id, ⟨rfl, fun _ _ => rfl⟩, rfl, rfl, fun _ h => .inl h⟩

variable {id}

theorem pendPark_parks (h : inRing (s.sk id).state = true) : ∃ k, EntryPut s (s.pendPark id) id k ∧ (k.parkPend = true ∨ k.state = 4) := by
  have hstate : (s.sk id).state ≠ 5 := fun h5 => by
    rw [h5] at h
    exact absurd h (by decide)
  have hput := entryPut_setSk s id { s.sk id with parkPend := true }
  obtain ⟨k, hk, -, -, hparks⟩ := settleSk_put (s.setSk id { s.sk id with parkPend := true }) id
  rw [hput.entry] at hparks
  unfold State.pendPark
  dsimp only
  rw [if_pos h]
  exact ⟨k, hput.trans hk, hparks hstate rfl⟩

theorem drainSk_put (reason : Nat) : ∃ k, EntryPut s (s.drainSk id reason) id k ∧ k.reason = reason ∧ k.restore = (s.sk id).restore := by
  have hput := entryPut_setSk s id
    { s.sk id with state := 5, reason := reason, parkPend := false, copies := [], pfxRun := false, pfxLook := false }
  obtain ⟨k, hk, hreason, hrestore, -⟩ := settleSk_put (s.setSk id
    { s.sk id with state := 5, reason := reason, parkPend := false, copies := [], pfxRun := false, pfxLook := false }) id
  rw [hput.entry] at hreason hrestore
  exact ⟨k, hput.trans hk, hreason, hrestore⟩

end

/-! ### Pre-emption (R265) -/

section
variable {s t : State}

/-- The skein that pre-emption parks to swap it out. -/
def State.withTarget (s : State) (x : Option Nat) : State := { s with reed := { s.reed with target := x } }

theorem skeins_withTarget (s : State) (x : Option Nat) : (s.withTarget x).reed.skeins = s.reed.skeins := rfl
theorem target_withTarget (s : State) (x : Option Nat) : (s.withTarget x).reed.target = x := rfl
theorem spool_withTarget (s : State) (x : Option Nat) : (s.withTarget x).spool = s.spool := rfl
theorem target_setSk (s : State) (id : Nat) (k : Skein) : (s.setSk id k).reed.target = s.reed.target := rfl
theorem spool_setSk (s : State) (id : Nat) (k : Skein) : (s.setSk id k).spool = s.spool := rfl

theorem EntriesMove.target (h : EntriesMove s t) : t.reed.target = s.reed.target := by rw [h.rest]

theorem preemptOrder_congr (hr : t.reed = s.reed) (hp : t.pm = s.pm) : t.preemptOrder = s.preemptOrder := by
  unfold State.preemptOrder State.preemptable State.admitKey State.sk
  rw [hr, hp]

theorem inRing_of_preemptOrder {id : Nat} (h : id ∈ s.preemptOrder) : inRing (s.sk id).state = true := by
  rw [State.preemptOrder, List.mem_reverse, List.mem_filter] at h
  obtain ⟨-, hp⟩ := h
  simp only [State.preemptable, Bool.and_eq_true] at hp
  obtain ⟨⟨hring, -⟩, -⟩ := hp
  exact hring

theorem nextTarget_none (h : s.preemptOrder = []) : s.nextTarget = s.withTarget none := by
  simp only [State.nextTarget, h]
  rfl

theorem nextTarget_first {id : Nat} {rest : List Nat} (h : s.preemptOrder = id :: rest) : s.nextTarget = (s.withTarget (some id)).pendPark id := by
  simp only [State.nextTarget, h]
  rfl

theorem nextTarget_parks {id : Nat} {rest : List Nat} (h : s.preemptOrder = id :: rest) :
    s.nextTarget.reed.target = some id ∧ ∃ k, EntryPut s s.nextTarget id k ∧ (k.parkPend = true ∨ k.state = 4) := by
  rw [nextTarget_first h]
  obtain ⟨k, hput, hk⟩ := pendPark_parks (s.withTarget (some id)) (inRing_of_preemptOrder (h ▸ List.mem_cons_self))
  exact ⟨(entriesMove_pendPark ..).target, k, hput.after rfl, hk⟩

theorem preempt_idle (h : s.get F.SPL_STATUS_FREE_LOW = 0) : s.preempt = s := if_neg (by omega)

theorem preempt_chooses (hlow : s.get F.SPL_STATUS_FREE_LOW = 1) (hcrit : s.critNow = false) (hruns : s.swapRuns = false)
    (ht : s.reed.target = none) : s.preempt = s.nextTarget := by
  simp only [State.preempt, hlow, hcrit, hruns, ht, Bool.false_eq_true, or_self, if_true, if_false]

end

/-! ### Swap out (R225, R265, R399) -/

section
variable {s : State} {id : Nat}

/-- The parked skein that pre-emption chose, which nothing keeps from being swapped out. -/
abbrev State.swapChosen (s : State) (id : Nat) : Prop :=
  s.reed.target = some id ∧ (s.sk id).state = 4 ∧ (s.sk id).swapped = false ∧ s.swapRuns = false ∧ s.copiedFrom id = false ∧
    s.get F.SPL_STATUS_FREE_LOW = 1 ∧ s.hostPorts ≠ []

theorem swapOut_unchosen (h : ¬ s.swapChosen id) : s.swapOut id = s := if_neg h

/-- Without a window the swap is a fault, and pre-emption goes on. -/
theorem swapOut_windowless (h : s.swapChosen id) (hsize : s.get F.SPL_SWAP_SIZE_SIZE = 0) :
    ∃ field sva, s.swapOut id = (s.copyFault 10 field id sva).nextTarget := ⟨_, _, (if_pos h).trans (if_pos hsize)⟩

theorem swapOut_starts (h : s.swapChosen id) (hsize : s.get F.SPL_SWAP_SIZE_SIZE ≠ 0) (hslots : s.spool.framesAll id ≤ s.slotsFree)
    (hup : (s.spool.leaves (s.sk id).ptRoot).find? s.leafDown = none) : s.swapOut id =
      (((((s.swapOutAll id (s.sk id).ptRoot).withTarget none).setSk id { s.sk id with swapOut := true }).swapFlushes id).showSwap) := by
  refine (if_pos h).trans ((if_neg hsize).trans ((if_neg (Nat.not_lt.mpr hslots)).trans ?_))
  rw [hup]
  rfl

theorem swapFrame_emits (s : State) (band frame slot : Nat) : ∃ o, s.swapFrame band frame slot = s.emit o := by
  unfold State.swapFrame
  split
  · exact ⟨[], by simp [State.emit]⟩
  · exact ⟨_, rfl⟩

theorem reed_withSpool (s : State) (p : Spool) : (s.withSpool p).reed = s.reed := rfl

theorem spool_withSpool (s : State) (p : Spool) : (s.withSpool p).spool = p := rfl

/-- Tables, slots, frames and counts of the spool replaced. -/
def Spool.moved (p : Spool) (tbl : SMap Nat) (slots : List (Nat × Nat)) (frames : SMap (List Nat)) (owned : SMap Nat) : Spool :=
  { p with tbl := tbl, slots := slots, frames := frames, owned := owned }

theorem dram_moved (p : Spool) (tbl : SMap Nat) (slots : List (Nat × Nat)) (frames : SMap (List Nat)) (owned : SMap Nat) :
    (p.moved tbl slots frames owned).dram = p.dram := rfl

/-- A leaf SWAPPED, its slot taken and its frame returned (R225). -/
def State.slotTaken (u : State) (id slot : Nat) (l : Nat × Nat × Nat) : State :=
  u.withSpool (u.spool.moved (smSet 0 l.2.1 (mkSwapped (u.swapAddr slot)) u.spool.tbl)
    (insertBy Prod.fst (slot, u.swapAddr slot) u.spool.slots)
    (smSet [] (svaBand l.1) ((smGet [] (svaBand l.1) u.spool.frames).filter fun f => decide (f ≠ eFrame l.2.2)) u.spool.frames)
    (smSet 0 (id * 128 + svaBand l.1) (smGet 0 (id * 128 + svaBand l.1) u.spool.owned - 1) u.spool.owned))

theorem slotTaken_keeps (u : State) (id slot : Nat) (l : Nat × Nat × Nat) :
    (u.slotTaken id slot l).reed = u.reed ∧ (u.slotTaken id slot l).spool.dram = u.spool.dram :=
  ⟨reed_withSpool .., (congrArg Spool.dram (spool_withSpool ..)).trans (dram_moved ..)⟩

/-- The frame of one leaf written out to the lowest free slot (R225). -/
def State.leafOut (id : Nat) (u : State) (l : Nat × Nat × Nat) : State :=
  if eSwapped l.2.2 then u else
  let slot := lowestFree 0 (u.spool.slots.map Prod.fst)
  (u.swapFrame (svaBand l.1) (eFrame l.2.2) slot).slotTaken id slot l

/-- The translations of a skein dropped, and the registers of every pool. -/
def State.poolsShown (s : State) (id : Nat) : State := (rangeFrom 0 128).foldl (fun u b => u.poolMarks b) (s.withSpool (s.spool.xcDrop id))

theorem onlyBank_poolsShown (s : State) (id : Nat) : onlyBank (s.withSpool (s.spool.xcDrop id)) (s.poolsShown id) :=
  onlyBank_foldl onlyBank_poolMarks ..

theorem swapOutAll_eq (s : State) (id root : Nat) : s.swapOutAll id root = ((s.spool.leaves root).foldl (State.leafOut id) s).poolsShown id := rfl

theorem leafOut_keeps (id : Nat) (u : State) (l : Nat × Nat × Nat) :
    (u.leafOut id l).reed = u.reed ∧ (u.leafOut id l).spool.dram = u.spool.dram := by
  unfold State.leafOut
  split
  · exact ⟨rfl, rfl⟩
  · obtain ⟨o, ho⟩ := swapFrame_emits u (svaBand l.1) (eFrame l.2.2) (lowestFree 0 (u.spool.slots.map Prod.fst))
    have hkeeps := slotTaken_keeps (u.emit o) id (lowestFree 0 (u.spool.slots.map Prod.fst)) l
    dsimp only
    rw [ho]
    rwa [State.reed_emit, State.spool_emit] at hkeeps

/-- Frames written out: leaves, slots and frames of the pools differ, but no entry of a skein and no byte of the pools. -/
theorem swapOutAll_keeps (s : State) (id root : Nat) :
    (s.swapOutAll id root).reed = s.reed ∧ (s.swapOutAll id root).spool.dram = s.spool.dram := by
  rw [swapOutAll_eq]
  have hkeeps := List.foldlRecOn (motive := fun u : State => u.reed = s.reed ∧ u.spool.dram = s.spool.dram) (s.spool.leaves root)
    (State.leafOut id) ⟨rfl, rfl⟩ fun u hu l _ => (leafOut_keeps id u l).imp (·.trans hu.1) (·.trans hu.2)
  generalize (s.spool.leaves root).foldl (State.leafOut id) s = w at hkeeps
  have hshown := onlyBank_poolsShown w id
  exact ⟨(reed_of_onlyBank hshown).trans hkeeps.1, (congrArg Spool.dram (spool_of_onlyBank hshown)).trans hkeeps.2⟩

theorem swapFlushes_keeps (s : State) (id : Nat) : (s.swapFlushes id).reed = s.reed ∧ (s.swapFlushes id).spool = s.spool := by
  unfold State.swapFlushes
  refine List.foldlRecOn (motive := fun u : State => u.reed = s.reed ∧ u.spool = s.spool) _ _ ⟨rfl, rfl⟩ fun u hu p _ => ?_
  exact ⟨(reed_hostRead ..).trans hu.1, (entriesMove_hostRead u ..).spool.trans hu.2⟩

theorem swapStarted_effect (s : State) (id : Nat) (k : Skein) (root : Nat) :
    let t := ((((s.swapOutAll id root).withTarget none).setSk id { k with swapOut := true }).swapFlushes id).showSwap
    EntryPut s t id { k with swapOut := true } ∧ t.reed.target = none ∧ t.spool.dram = s.spool.dram ∧ t.get F.SKN_STATUS_SWAP_RUN = 1 := by
  obtain ⟨hreed, hdram⟩ := swapOutAll_keeps s id root
  dsimp only
  generalize s.swapOutAll id root = w at hreed hdram
  have hset := (entryPut_setSk (w.withTarget none) id { k with swapOut := true }).after
    ((skeins_withTarget w none).trans (congrArg Reed.skeins hreed))
  obtain ⟨hreed', hspool⟩ := swapFlushes_keeps ((w.withTarget none).setSk id { k with swapOut := true }) id
  generalize ((w.withTarget none).setSk id { k with swapOut := true }).swapFlushes id = v at hreed' hspool
  have hput := hset.before (congrArg Reed.skeins hreed')
  refine ⟨hput.before (congrArg Reed.skeins (reed_showSwap v)), ?_, ?_, showSwap_runs v (.inl (congrArg Skein.swapOut hput.entry))⟩
  · rw [reed_showSwap, hreed', target_setSk, target_withTarget]
  · rw [spool_showSwap, hspool, spool_setSk, spool_withTarget, hdram]

theorem swapOutDone_ends (ho : (s.sk id).swapOut = true) (hr : s.reading (.swapFlush id) = false) : s.swapOutDone id =
    s.swapEnded id { s.sk id with swapOut := false, swapped := true } F.SKN_SWAPS_OUT 0x82 (s.spool.swappedLeaves (s.sk id).ptRoot).length :=
  if_pos ⟨ho, hr⟩

theorem swapOutDone_waits (h : (s.sk id).swapOut = false ∨ s.reading (.swapFlush id) = true) : s.swapOutDone id = s :=
  if_neg fun hdone => by rcases h with h | h <;> simp [h] at hdone

/-! ### Restore (R225, R255, R265) -/

theorem restoreStart_idle (h : s.firstSwapped = none) : s.restoreStart = s := by
  simp only [State.restoreStart, h]

/-- The pressure is gone and every pool has room for the frames of a skein. -/
abbrev State.restoreRoom (s : State) (id : Nat) : Prop :=
  s.get F.SPL_STATUS_FREE_LOW = 0 ∧ s.swapRuns = false ∧
    ∀ b, b < 128 → s.cfg F.SKN_RESTORE_MARK + s.spool.restoreNeeds (s.sk id).ptRoot ≤ s.spool.free b

theorem restoreStart_first (h : s.firstSwapped = some id) : s.restoreStart =
    if s.restoreRoom id then (s.setSk id { s.sk id with restore := true }).showSwap else s := by
  have hall : (rangeFrom 0 128).all (fun b => decide (s.cfg F.SKN_RESTORE_MARK + s.spool.restoreNeeds (s.sk id).ptRoot ≤ s.spool.free b)) = true ↔
      ∀ b, b < 128 → s.cfg F.SKN_RESTORE_MARK + s.spool.restoreNeeds (s.sk id).ptRoot ≤ s.spool.free b := by
    simp [mem_rangeFrom]
  simp only [State.restoreStart, h, hall]

theorem restoreStarted_effect (s : State) (id : Nat) : let t := (s.setSk id { s.sk id with restore := true }).showSwap
    EntryPut s t id { s.sk id with restore := true } ∧ t.get F.SKN_STATUS_SWAP_RUN = 1 := by
  have hput := entryPut_setSk s id { s.sk id with restore := true }
  exact ⟨hput.before (congrArg Reed.skeins (reed_showSwap _)), showSwap_runs _ (.inr (congrArg Skein.restore hput.entry))⟩

theorem restoreRun_idle (h : (s.sk id).restore = false ∨ s.spool.swappedLeaves (s.sk id).ptRoot = [] ∨ ∃ c ∈ s.spool.coming, c.id = id) :
    s.restoreRun id = s := by
  refine if_neg fun hrun => ?_
  obtain ⟨hr, hl, hc⟩ := hrun
  rcases h with h | h | ⟨c, hmem, h⟩
  · simp [h] at hr
  · exact hl h
  · exact of_decide_eq_true (List.all_eq_true.mp hc c hmem) h

section
variable {l : Nat × Nat × Nat} (hr : (s.sk id).restore = true) (hc : ∀ c ∈ s.spool.coming, c.id ≠ id)
  (hl : s.spool.leaves (s.sk id).ptRoot = [l]) (he : eSwapped l.2.2 = true)
include hr hc hl he

/-- A restore of a single frame, by where its host address lies. -/
theorem restoreRun_single : s.restoreRun id =
    if s.inWindow (eHost l.2.2) = false then s.swapFault 10 id l.1
    else if s.spool.free (svaBand l.1) < 1 then (s.set F.SPL_STATUS_NO_FRAME 1).swapFault 4 id l.1
    else s.restoreAll id (s.sk id).ptRoot := by
  have hleaves : s.spool.swappedLeaves (s.sk id).ptRoot = [l] := by simp [Spool.swappedLeaves, hl, he]
  have hcoming : s.spool.coming.all (fun c => decide (c.id ≠ id)) = true := List.all_eq_true.mpr fun c hmem => decide_eq_true (hc c hmem)
  refine (if_pos ⟨hr, by simp [hleaves], hcoming⟩).trans ?_
  rw [hleaves]
  by_cases hw : s.inWindow (eHost l.2.2) = false
  · simp [hw]
  · by_cases hf : s.spool.free (svaBand l.1) < 1 <;> simp [hw, hf]

end

/-- Nothing of a skein is on its way, so that the end of its restore gives nothing back. -/
theorem restoreStop_keeps (hc : ∀ c ∈ s.spool.coming, c.id ≠ id) : (s.restoreStop id).reed = s.reed ∧ (s.restoreStop id).spool = s.spool := by
  have hgone : s.spool.coming.filter (fun c => decide (c.id = id)) = [] := List.filter_eq_nil_iff.mpr fun c hmem => by simpa using hc c hmem
  have hstay : s.spool.coming.filter (fun c => decide (c.id ≠ id)) = s.spool.coming :=
    List.filter_eq_self.mpr fun c hmem => decide_eq_true (hc c hmem)
  unfold State.restoreStop
  dsimp only
  rw [hgone, hstay]
  exact ⟨rfl, rfl⟩

/-- A fault of a restore ends the skein with reason SWAP (R220, R265). -/
theorem swapFault_ends (hc : ∀ c ∈ s.spool.coming, c.id ≠ id) (h1 : 1 ≤ (s.sk id).state) (h4 : (s.sk id).state ≤ 4) (code sva : Nat) :
    let t := s.swapFault code id sva
    (∃ k, EntryPut s t id k ∧ k.reason = 6 ∧ k.restore = false) ∧ t.get F.SPL_STATUS_COPY_ERR = 1 ∧ t.spool = s.spool := by
  obtain ⟨hreed, hspool⟩ := restoreStop_keeps hc
  have heq : s.swapFault code id sva = ((((s.restoreStop id).setSk id { s.sk id with swapOut := false, restore := false }).copyFault code
      (s.pat.stuOf (svaBand sva)) id sva).drainSk id 6).showSwap := congrArg State.showSwap (if_pos ⟨h1, h4⟩)
  generalize s.restoreStop id = w at hreed hspool heq
  have hset := (entryPut_setSk w id { s.sk id with swapOut := false, restore := false }).after (s := s) (congrArg Reed.skeins hreed :)
  obtain ⟨hrec, herr, -⟩ :=
    copyFault_effect (w.setSk id { s.sk id with swapOut := false, restore := false }) code (s.pat.stuOf (svaBand sva)) id sva
  generalize (w.setSk id { s.sk id with swapOut := false, restore := false }).copyFault code (s.pat.stuOf (svaBand sva)) id sva = v
    at hrec herr heq
  have hfault := hset.before (congrArg Reed.skeins (reed_of_recordsOnly hrec))
  obtain ⟨k, hput, hreason, hrestore⟩ := drainSk_put v (id := id) 6
  have hdrain := entriesMove_drainSk v id 6
  rw [hfault.entry] at hrestore
  rw [heq]
  refine ⟨⟨k, (hfault.trans hput).before (congrArg Reed.skeins (reed_showSwap _)), hreason, hrestore⟩, ?_, ?_⟩
  · rw [get_showSwap _ (by decide), get_eq_of_sameRegs hdrain.regs (by decide), herr]
  · rw [spool_showSwap, hdrain.spool, spool_of_recordsOnly hrec]
    exact hspool

/-! ### Frames asked back (R225, R399) -/

/-- Every read of host memory is one more, issued or waiting. -/
theorem length_hostRead (s : State) (pref addr len : Nat) (why : Purpose) :
    (s.hostRead pref addr len why).host.reads.length = s.host.reads.length + 1 := by
  unfold State.hostRead
  dsimp only
  split
  · exact List.length_append
  · split
    · exact List.length_append
    · exact List.length_append

theorem hostReads_keep (pref : State → Nat) (addr : Nat → Nat) (len : Nat) (why : Nat → Purpose) (l : List Nat) (s : State) :
    let t := l.foldl (fun v i => v.hostRead (pref v) (addr i) len (why i)) s
    t.reed = s.reed ∧ t.spool = s.spool ∧ t.host.reads.length = s.host.reads.length + l.length := by
  induction l generalizing s with
  | nil => exact ⟨rfl, rfl, rfl⟩
  | cons i l ih =>
    obtain ⟨hreed, hspool, hlen⟩ := ih (s.hostRead (pref s) (addr i) len (why i))
    refine ⟨hreed.trans (reed_hostRead ..), hspool.trans (entriesMove_hostRead s ..).spool, ?_⟩
    rw [length_hostRead] at hlen
    rw [List.foldl_cons, hlen, List.length_cons, Nat.add_right_comm, Nat.add_assoc]

/-- The frame of one swapped leaf asked back: a frame allocated and 16 reads (R225). -/
def State.leafBack (id : Nat) (u : State) (l : Nat × Nat × Nat) : State :=
  if eSwapped l.2.2 = false then u else
  let band := svaBand l.1
  let used := smGet [] band u.spool.frames
  let f := lowestFree 0 used
  let slot := ((u.spool.slots.find? fun x => decide (x.2 = eHost l.2.2)).map Prod.fst).getD 0
  let u1 := u.withSpool { u.spool with
    frames := smSet [] band (insertAsc f used) u.spool.frames
    coming := u.spool.coming ++ [⟨id, l.2.1, band, f, 16⟩] }
  (rangeFrom 0 16).foldl (fun v i =>
    v.hostRead (v.hostPorts.getD (slot % v.hostPorts.length) 0) (eHost l.2.2 + 4096 * i) 4096 (.restore id l.2.1 i)) u1

theorem restoreAll_eq (s : State) (id root : Nat) : s.restoreAll id root = ((s.spool.leaves root).foldl (State.leafBack id) s).poolsShown id := rfl

/-- Of the spool a leaf asked back changes the frames of its pool and what is on its way. -/
theorem leafBack_effect (id : Nat) (u : State) {l : Nat × Nat × Nat} (he : eSwapped l.2.2 = true) : let t := u.leafBack id l
    t.reed = u.reed ∧ t.host.reads.length = u.host.reads.length + 16 ∧ t.spool.tbl = u.spool.tbl ∧ t.spool.slots = u.spool.slots ∧
      t.spool.coming = u.spool.coming ++ [⟨id, l.2.1, svaBand l.1, lowestFree 0 (smGet [] (svaBand l.1) u.spool.frames), 16⟩] := by
  dsimp only
  unfold State.leafBack
  rw [if_neg (by simp [he])]
  dsimp only
  obtain ⟨hreed, hspool, hlen⟩ := hostReads_keep
    (fun v => v.hostPorts.getD (((u.spool.slots.find? fun x => decide (x.2 = eHost l.2.2)).map Prod.fst).getD 0 % v.hostPorts.length) 0)
    (fun i => eHost l.2.2 + 4096 * i) 4096 (fun i => .restore id l.2.1 i) (rangeFrom 0 16) (u.withSpool { u.spool with
      frames := smSet [] (svaBand l.1) (insertAsc (lowestFree 0 (smGet [] (svaBand l.1) u.spool.frames)) (smGet [] (svaBand l.1) u.spool.frames))
        u.spool.frames
      coming := u.spool.coming ++ [⟨id, l.2.1, svaBand l.1, lowestFree 0 (smGet [] (svaBand l.1) u.spool.frames), 16⟩] })
  rw [hreed, hspool, hlen, length_rangeFrom]
  exact ⟨rfl, rfl, rfl, rfl, rfl⟩

/-- A restore of a single frame. -/
theorem restoreAll_single (s : State) (id : Nat) {root : Nat} {l : Nat × Nat × Nat} (hl : s.spool.leaves root = [l]) (he : eSwapped l.2.2 = true) :
    let t := s.restoreAll id root
    t.reed = s.reed ∧ t.host.reads.length = s.host.reads.length + 16 ∧ t.spool.tbl = s.spool.tbl ∧ t.spool.slots = s.spool.slots ∧
      t.spool.coming = s.spool.coming ++ [⟨id, l.2.1, svaBand l.1, lowestFree 0 (smGet [] (svaBand l.1) s.spool.frames), 16⟩] := by
  dsimp only
  rw [restoreAll_eq, hl, List.foldl_cons, List.foldl_nil]
  have hback := leafBack_effect id s he
  generalize s.leafBack id l = w at hback
  have hshown := onlyBank_poolsShown w id
  rw [reed_of_onlyBank hshown, host_of_onlyBank hshown, spool_of_onlyBank hshown]
  exact hback

theorem restoreDone_ends (hr : (s.sk id).restore = true) (hin : s.restoring id = false) (hl : s.spool.swappedLeaves (s.sk id).ptRoot = []) :
    s.restoreDone id = s.swapEnded id { s.sk id with restore := false, swapped := false, resumed := true } F.SKN_SWAPS_IN 0x83
      (s.spool.framesAll id) := if_pos ⟨hr, hin, hl⟩

theorem restoreDone_waits (h : (s.sk id).restore = false ∨ s.restoring id = true ∨ s.spool.swappedLeaves (s.sk id).ptRoot ≠ []) :
    s.restoreDone id = s := by
  refine if_neg fun hdone => ?_
  obtain ⟨hr, hin, hl⟩ := hdone
  rcases h with h | h | h
  · simp [h] at hr
  · simp [h] at hin
  · exact h hl

end

end Sys2Proof.Machine

open Sys2Proof Sys2Proof.Machine

/-- Settles O32: pre-emption by `nextTarget_parks`, a swap out by `swapOut_windowless`, `swapStarted_effect` and `swapEnded_effect`, and a restore
by `restoreStart_first`, `restoreRun_single`, `swapFault_ends` and `restoreAll_single`. -/
theorem swapAndRestore : Obligations.SwapAndRestore := by
  unfold Obligations.SwapAndRestore
  intro s id
  dsimp only
  have hpreempt : exec .preempt s = .next s.preempt := rfl
  have hout : exec (.swapOut id) s = .next (s.swapOut id.toNat) := rfl
  have houtDone : exec (.swapOutComplete id) s = .next (s.swapOutDone id.toNat) := rfl
  have hstart : exec .restoreStart s = .next s.restoreStart := rfl
  have hrestore : exec (.restore id) s = .next (s.restoreRun id.toNat) := rfl
  have hinDone : exec (.restoreComplete id) s = .next (s.restoreDone id.toNat) := rfl
  refine ⟨fun h => hpreempt.trans (congrArg _ (preempt_idle h)), fun j rest hlow hcrit hruns ht horder => ?chooses,
    fun h => hout.trans (congrArg _ (swapOut_unchosen h)), fun h hsize horder => ?windowless,
    fun h hsize hslots hup => ?swapsOut, fun ho hr => ?swappedOut, fun h => houtDone.trans (congrArg _ (swapOutDone_waits h)),
    fun h => hstart.trans (congrArg _ (restoreStart_idle h)), fun j hj => ⟨fun hmay => ?starts, fun hmay => ?waits⟩,
    fun h => hrestore.trans (congrArg _ (restoreRun_idle h)), fun l hr hc hl he => ⟨fun hw h1 h4 => ?outside, fun hw hfree => ?asked⟩,
    fun hr hin hl => ?swappedIn, fun h => hinDone.trans (congrArg _ (restoreDone_waits h))⟩
  case chooses =>
    obtain ⟨htarget, k, ⟨hentry, hothers⟩, hk⟩ := nextTarget_parks horder
    exact ⟨_, hpreempt.trans (congrArg _ (preempt_chooses hlow hcrit hruns ht)), htarget, by rwa [hentry], hothers⟩
  case windowless =>
    obtain ⟨field, sva, heq⟩ := swapOut_windowless h hsize
    obtain ⟨hrec, herr, hxlat⟩ := copyFault_effect s 10 field id.toNat sva
    have hreed := reed_of_recordsOnly hrec
    rw [nextTarget_none ((preemptOrder_congr hreed (pm_of_recordsOnly hrec)).trans horder)] at heq
    exact ⟨_, hout.trans (congrArg _ heq), sk_of_skeins (congrArg Reed.skeins hreed :) _, herr, hxlat, rfl, (spool_of_recordsOnly hrec :),
      fun j _ => sk_of_skeins (congrArg Reed.skeins hreed :) j⟩
  case swapsOut =>
    obtain ⟨⟨hentry, hothers⟩, htarget, hdram, hruns⟩ := swapStarted_effect s id.toNat (s.sk id.toNat) (s.sk id.toNat).ptRoot
    exact ⟨_, hout.trans (congrArg _ (swapOut_starts h hsize hslots hup)), hentry, htarget, hdram, hruns, hothers⟩
  case swappedOut =>
    obtain ⟨⟨hentry, hothers⟩, hspool, hcount⟩ := swapEnded_effect s id.toNat
      { s.sk id.toNat with swapOut := false, swapped := true } (.inl rfl) 0x82 (s.spool.swappedLeaves (s.sk id.toNat).ptRoot).length
    exact ⟨_, houtDone.trans (congrArg _ (swapOutDone_ends ho hr)), hentry, hothers, hspool, hcount⟩
  case starts =>
    obtain ⟨⟨hentry, hothers⟩, hruns⟩ := restoreStarted_effect s j
    exact ⟨_, hstart.trans (congrArg _ ((restoreStart_first hj).trans (if_pos hmay))), hentry, hothers, hruns⟩
  case waits => exact hstart.trans (congrArg _ ((restoreStart_first hj).trans (if_neg hmay)))
  case outside =>
    obtain ⟨⟨k, ⟨hentry, hothers⟩, hreason, hstopped⟩, herr, hspool⟩ := swapFault_ends hc h1 h4 10 l.1
    exact ⟨_, hrestore.trans (congrArg _ ((restoreRun_single hr hc hl he).trans (if_pos hw))), hentry ▸ hreason, hentry ▸ hstopped, herr,
      hspool, hothers⟩
  case asked =>
    obtain ⟨hreed, hreads, htbl, hslots, hcoming⟩ := restoreAll_single s id.toNat hl he
    exact ⟨_, hrestore.trans (congrArg _ ((restoreRun_single hr hc hl he).trans ((if_neg (by simp [hw])).trans (if_neg (by omega))))),
      sk_of_skeins (congrArg Reed.skeins hreed) _, fun j _ => sk_of_skeins (congrArg Reed.skeins hreed) j, hreads, htbl, hslots, hcoming⟩
  case swappedIn =>
    obtain ⟨⟨hentry, hothers⟩, hspool, hcount⟩ := swapEnded_effect s id.toNat
      { s.sk id.toNat with restore := false, swapped := false, resumed := true } (.inr rfl) 0x83 (s.spool.framesAll id.toNat)
    exact ⟨_, hinDone.trans (congrArg _ (restoreDone_ends hr hin hl)), hentry, hothers, hspool, hcount⟩

end

section
/-!
SUPPORT. Completion records (R394, R398): what the record of a ring rests on, which operations leave that alone, and the record that a command's
answer writes.
-/
namespace Sys2Proof.Machine

/-! ### Nothing but what goes to the host -/

/-- Nothing but the host interface and what leaves the block differs. -/
def hostOnly (s t : State) : Prop := t = { s with host := t.host, out := t.out }

section
variable {s t : State} (h : hostOnly s t)
include h

theorem hostOnly.reed : t.reed = s.reed := by unfold hostOnly at h; rw [h]
theorem hostOnly.spool : t.spool = s.spool := by unfold hostOnly at h; rw [h]
theorem hostOnly.bank : t.bank = s.bank := by unfold hostOnly at h; rw [h]
theorem hostOnly.tiles : t.tiles = s.tiles := by unfold hostOnly at h; rw [h]
theorem hostOnly.sk (j : Nat) : t.sk j = s.sk j := sk_of_skeins (congrArg Reed.skeins h.reed) j

end

theorem hostOnly_hostWrite (s : State) (cls addr : Nat) (data : List Byte) : hostOnly s (s.hostWrite cls addr data) := by
  unfold State.hostWrite
  dsimp only
  split
  · rfl
  · split
    · rfl
    · split
      · split <;> rfl
      · rfl

theorem hostOnly_complete (s : State) (ring op status tag id env : Nat) : hostOnly s (s.complete ring op status tag id env) := by
  have hwrite := hostOnly_hostWrite s (clsComp ring)
    (s.ctlAddr (clsComp ring) 0 + 64 + 16 * (smGet 0 ring s.host.compWr % 2 ^ s.sqLog2 ring))
    (recBytes op status tag id env (phaseOf (smGet 0 ring s.host.compWr) (s.sqLog2 ring)) s.pm.pick)
  unfold hostOnly State.complete at *
  dsimp only
  rw [hwrite]

/-! ### What a completion rests on -/

/-- What the next completion record of a ring rests on: the ring's and the ports' registers, the pick, the records counted, the port last used,
and, where nothing stood in the class's way, nothing that does. -/
structure RingStays (ring : Fin 16) (s t : State) : Prop where
  hls : ∀ k, k % 2 ^ 26 / 2 ^ 16 = 8 → k % 2 ^ 26 ≠ R.HLS_STATUS → bankReg k t.bank = bankReg k s.bank
  pick : t.pm.pick = s.pm.pick
  count : smGet 0 ring.val t.host.compWr = smGet 0 ring.val s.host.compWr
  port : smGet none (clsComp ring.val) t.host.clsPort = smGet none (clsComp ring.val) s.host.clsPort
  held : s.clsHeld (clsComp ring.val) = false → t.clsHeld (clsComp ring.val) = false
  queue : (∀ w ∈ s.host.queue, w.cls ≠ clsComp ring.val) → ∀ w ∈ t.host.queue, w.cls ≠ clsComp ring.val

namespace RingStays
variable {ring : Fin 16} {s t u : State}

theorem refl (ring : Fin 16) (s : State) : RingStays ring s s := ⟨fun _ _ _ => rfl, rfl, rfl, rfl, id, id⟩

theorem trans (h : RingStays ring s t) (h' : RingStays ring t u) : RingStays ring s u where
  hls k hk hs := (h'.hls k hk hs).trans (h.hls k hk hs)
  pick := h'.pick.trans h.pick
  count := h'.count.trans h.count
  port := h'.port.trans h.port
  held hs := h'.held (h.held hs)
  queue hs := h'.queue (h.queue hs)

theorem foldl {α : Type} {f : State → α → State} (hf : ∀ u x, RingStays ring u (f u x)) (l : List α) (s : State) :
    RingStays ring s (l.foldl f s) :=
  l.foldlRecOn f (refl ring s) fun u hu x _ => hu.trans (hf u x)

/-- Where the registers of HLS_ stand, only a change of the host interface could matter. -/
theorem of_regs (hr : ∀ k, k % 2 ^ 26 / 2 ^ 16 = 8 → k % 2 ^ 26 ≠ R.HLS_STATUS → bankReg k t.bank = bankReg k s.bank) (hp : t.pm = s.pm)
    (hh : t.host = s.host) : RingStays ring s t where
  hls := hr
  pick := by rw [hp]
  count := by rw [hh]
  port := by rw [hh]
  held hs := by rwa [State.clsHeld, State.reading, hh]
  queue hs := by rwa [hh]

theorem of_host (hb : t.bank = s.bank) (hp : t.pm = s.pm) (hh : t.host = s.host) : RingStays ring s t :=
  of_regs (fun k _ _ => by rw [hb]) hp hh

/-- A register of another block, or HLS_STATUS, takes a value. -/
theorem set {f : Fld} (hf : f.reg % 2 ^ 26 / 2 ^ 16 ≠ 8 ∨ f.reg % 2 ^ 26 = R.HLS_STATUS) (s : State) (v i : Nat) :
    RingStays ring s (s.set f v i) := by
  refine of_regs (fun k hk hs => ?_) (State.pm_set ..) (State.host_set ..)
  rw [State.bank_set]
  refine bankReg_bankSet_other _ _ _ (fun he => ?_) _
  rw [he, rkey_mod] at hk hs
  exact hf.elim (fun h => h hk) fun h => hs h

theorem get (h : RingStays ring s t) {f : Fld} (hf : f.reg % 2 ^ 26 / 2 ^ 16 = 8 ∧ f.reg % 2 ^ 26 ≠ R.HLS_STATUS) (i : Nat) :
    t.get f i = s.get f i := by
  obtain ⟨hblock, hstat⟩ := hf
  exact congrArg (fldOf f) (h.hls _ (by rwa [rkey_mod]) (by rwa [rkey_mod]))

theorem hostPorts (h : RingStays ring s t) : t.hostPorts = s.hostPorts := by
  unfold State.hostPorts State.upPorts State.portState State.portRole
  simp only [h.get (f := F.HLS_PORT_STAT_STATE) (by decide), h.get (f := F.HLS_PORT_STAT_ROLE) (by decide)]

theorem sqLog2 (h : RingStays ring s t) : t.sqLog2 ring.val = s.sqLog2 ring.val := by
  have hreg : ∀ r : Fin 16, (F.HLS_SQ_LO_LOG2.nth r.val).reg % 2 ^ 26 / 2 ^ 16 = 8 ∧ (F.HLS_SQ_LO_LOG2.nth r.val).reg % 2 ^ 26 ≠ R.HLS_STATUS := by
    decide
  exact h.get (hreg ring) 0

theorem ctlAddr (h : RingStays ring s t) : t.ctlAddr (clsComp ring.val) 0 = s.ctlAddr (clsComp ring.val) 0 := by
  have hregs : ∀ r : Fin 16, ∀ f ∈ [F.HLS_SQ_LO_ADDR_LO, F.HLS_SQ_HI_ADDR_HI, F.HLS_SQ_LO_LOG2],
      (f.nth r.val).reg % 2 ^ 26 / 2 ^ 16 = 8 ∧ (f.nth r.val).reg % 2 ^ 26 ≠ R.HLS_STATUS := by decide
  simp only [List.forall_mem_cons, List.not_mem_nil, false_implies, implies_true, and_true] at hregs
  obtain ⟨hlo, hhi, hlog⟩ := hregs ring
  have hring : clsComp ring.val - 4096 = ring.val := Nat.add_sub_cancel_left ..
  unfold State.ctlAddr
  simp only [hring, h.get hlo, h.get hhi, h.get hlog, h.get (f := F.HLS_EVQ_LO_ADDR_LO) (by decide),
    h.get (f := F.HLS_EVQ_HI_ADDR_HI) (by decide)]

theorem clsHostPort (h : RingStays ring s t) : t.clsHostPort (clsComp ring.val) = s.clsHostPort (clsComp ring.val) := by
  have hreg : ∀ r : Fin 16, (F.HLS_SQ_LO_PORT.nth r.val).reg % 2 ^ 26 / 2 ^ 16 = 8 ∧ (F.HLS_SQ_LO_PORT.nth r.val).reg % 2 ^ 26 ≠ R.HLS_STATUS := by
    decide
  have hring : clsComp ring.val - 4096 = ring.val := Nat.add_sub_cancel_left ..
  unfold State.clsHostPort State.hostPort
  simp only [hring, h.hostPorts, h.get (hreg ring)]

end RingStays

/-! ### The record of a completion -/

section
variable {ring : Fin 16} {s t u : State}

/-- A completion counts from an earlier state, where nothing that it rests on has changed since. -/
theorem RingStays.completes (h : RingStays ring s u) {op status tag id : Nat} (hc : completes u t ring.val op status tag id) :
    completes s t ring.val op status tag id := by
  unfold Machine.completes at hc ⊢
  dsimp only at hc ⊢
  rw [h.count, h.clsHostPort, h.port, h.ctlAddr, h.sqLog2, h.pick] at hc
  obtain ⟨hcount, hrec⟩ := hc
  exact ⟨hcount, fun p hp hport hheld hqueue => hrec p hp hport (h.held hheld) (h.queue hqueue)⟩

/-- With nothing in its way a record leaves on the port that its class used last. -/
theorem hostWrite_leaves {cls p : Nat} (hp : s.clsHostPort cls = some p) (hport : smGet none cls s.host.clsPort = some p)
    (hheld : s.clsHeld cls = false) (hqueue : ∀ w ∈ s.host.queue, w.cls ≠ cls) (addr : Nat) (data : List Byte) :
    (s.hostWrite cls addr data).out.getLast? = some (.memWr p (clsTc cls) addr data) := by
  have hfree : s.host.queue.any (fun w => decide (w.cls = cls)) = false :=
    List.any_eq_false.mpr fun w hw => by simpa using hqueue w hw
  unfold State.hostWrite
  simp [hheld, hfree, hp, hport]

theorem completes_complete (s : State) (ring : Fin 16) (op status tag id : Nat) :
    completes s (s.complete ring.val op status tag id 0) ring.val op status tag id := by
  obtain ⟨-, -, hcount⟩ := complete_effect (id := id) s ring.val op status tag 0
  refine ⟨hcount, fun p hp hport hheld hqueue => ?_⟩
  have htc : clsTc (clsComp ring.val) = 1 := if_neg (by unfold clsComp clsAgain; omega)
  have hlast := hostWrite_leaves hp hport hheld hqueue
  rw [htc] at hlast
  exact hlast _ _

/-- The answer of a command: its completion record after what the command did, and nothing else. -/
theorem answerCmd_effect (h : RingStays ring s u) (op tag id status : Nat) : let t := answerCmd ring.val op tag id (u, status)
    completes s t ring.val op status tag (id % 4096) ∧ hostOnly u t :=
  ⟨h.completes (completes_complete ..), hostOnly_complete ..⟩

/-- A command refused: its completion record alone. -/
theorem answerCmd_refused (s : State) (ring : Fin 16) (op tag id status : Nat) : let t := answerCmd ring.val op tag id (s, status)
    completes s t ring.val op status tag (id % 4096) ∧ t.reed = s.reed ∧ t.spool = s.spool ∧ t.bank = s.bank := by
  obtain ⟨hc, honly⟩ := answerCmd_effect (.refl ring s) op tag id status
  exact ⟨hc, honly.reed, honly.spool, honly.bank⟩

end

/-! ### Operations that a completion does not see -/

section
variable (ring : Fin 16) (s : State)

theorem ringStays_setSk (id : Nat) (k : Skein) : RingStays ring s (s.setSk id k) := .of_host rfl rfl rfl

/-- A record of another class is written. -/
theorem ringStays_hostWrite {cls : Nat} (h : cls ≠ clsComp ring.val) (addr : Nat) (data : List Byte) :
    RingStays ring s (s.hostWrite cls addr data) := by
  have hqueue : (∀ w ∈ s.host.queue, w.cls ≠ clsComp ring.val) →
      ∀ w ∈ s.host.queue ++ [(⟨cls, addr, data⟩ : HostWrite)], w.cls ≠ clsComp ring.val := fun hq =>
    List.forall_mem_append.mpr ⟨hq, List.forall_mem_singleton.mpr h⟩
  have hport : ∀ p : Nat, smGet none (clsComp ring.val) (smSet none cls (some p) s.host.clsPort) =
      smGet none (clsComp ring.val) s.host.clsPort := fun p => smGet_smSet_other _ _ h.symm _ _
  unfold State.hostWrite
  dsimp only
  split
  · exact ⟨fun _ _ _ => rfl, rfl, rfl, rfl, id, hqueue⟩
  · split
    · exact ⟨fun _ _ _ => rfl, rfl, rfl, rfl, id, hqueue⟩
    · split
      · split
        · refine ⟨fun _ _ _ => rfl, rfl, rfl, rfl, fun hheld => ?_, hqueue⟩
          simp only [State.clsHeld, State.reading, List.any_append, Bool.or_eq_false_iff] at hheld ⊢
          exact ⟨hheld, by simp [h]⟩
        · exact ⟨fun _ _ _ => rfl, rfl, rfl, hport _, id, id⟩
      · exact ⟨fun _ _ _ => rfl, rfl, rfl, hport _, id, id⟩

/-- Host memory is read, with no FLUSH of records. -/
theorem ringStays_hostRead {why : Purpose} (h : why ≠ .flush (clsComp ring.val)) (pref addr len : Nat) :
    RingStays ring s (s.hostRead pref addr len why) := by
  have hheld : ∀ r : HostRead, r.why = why → s.host.reads.any (fun x => decide (x.why = .flush (clsComp ring.val))) = false →
      (s.host.reads ++ [r]).any (fun x => decide (x.why = .flush (clsComp ring.val))) = false := fun r hr hs => by
    rw [List.any_append, hs]
    simpa [hr] using h
  unfold State.hostRead
  dsimp only
  split
  · exact ⟨fun _ _ _ => rfl, rfl, rfl, rfl, hheld _ rfl, id⟩
  · split
    · exact ⟨fun _ _ _ => rfl, rfl, rfl, rfl, hheld _ rfl, id⟩
    · exact ⟨fun _ _ _ => rfl, rfl, rfl, rfl, hheld _ rfl, id⟩

theorem ringStays_event (code id data : Nat) : RingStays ring s (s.event code id data) := by
  have hcls : clsEvent ≠ clsComp ring.val := by unfold clsEvent clsComp; omega
  unfold State.event
  dsimp only
  split
  · exact (ringStays_hostWrite ring s hcls ..).trans ⟨fun _ _ _ => rfl, rfl, rfl, rfl, fun h => h, fun h => h⟩
  · split
    · exact ⟨fun _ _ _ => rfl, rfl, rfl, rfl, fun h => h, fun h => h⟩
    · exact (RingStays.set (by decide) s 1 0).trans (.of_host rfl rfl rfl)

theorem ringStays_settleSk (id : Nat) : RingStays ring s (s.settleSk id) := by
  unfold State.settleSk
  dsimp only
  split
  · split
    · exact (ringStays_setSk ..).trans (ringStays_event ..)
    · split
      · exact (ringStays_setSk ..).trans (ringStays_event ..)
      · exact .refl ring s
  · exact .refl ring s

theorem ringStays_drainSk (id reason : Nat) : RingStays ring s (s.drainSk id reason) :=
  (ringStays_setSk ..).trans (ringStays_settleSk ..)

theorem ringStays_pendPark (id : Nat) : RingStays ring s (s.pendPark id) := by
  unfold State.pendPark
  dsimp only
  split
  · exact (ringStays_setSk ..).trans (ringStays_settleSk ..)
  · exact .refl ring s

theorem ringStays_askUnit (id u : Nat) : RingStays ring s (s.askUnit id u) := by
  unfold State.askUnit
  dsimp only
  split
  · exact (ringStays_setSk ..).trans (ringStays_hostRead _ _ Purpose.noConfusion ..)
  · exact .refl ring s

theorem ringStays_keepUnits (id : Nat) : RingStays ring s (s.keepUnits id) := by
  unfold State.keepUnits
  dsimp only
  refine RingStays.trans ?_ ((ringStays_askUnit ..).trans (ringStays_askUnit ..))
  split
  · exact .refl ring s
  · exact ringStays_setSk ..

theorem ringStays_poolMarks (band : Nat) : RingStays ring s (s.poolMarks band) := by
  unfold State.poolMarks
  dsimp only
  exact (((RingStays.set (by decide) _ _ _).trans (RingStays.set (by decide) _ _ _)).trans (RingStays.set (by decide) _ _ _)).trans
    (RingStays.set (by decide) _ _ _)

end

end Sys2Proof.Machine
end

section
/-!
PROOFS. Commands of the host on a skein (R246, R248, R249, R263): the entry that a skein which leaves the ring is left with, and what each
command answers.
-/
namespace Sys2Proof.Machine

/-! ### The entry of a skein that leaves the ring (R246) -/

/-- An entry once the ring has been looked at: with no lane there a skein in DRAINING is DONE or FAULTED, and one that waits to park PARKED. -/
def Skein.settled (k : Skein) (out : Bool) : Skein :=
  if out then
    if k.state = 5 then { k with state := if k.reason ≤ 3 then 6 else 7, parkPend := false, slot := 16383 }
    else if k.parkPend = true ∧ inRing k.state = true then { k with state := 4, parkPend := false, slot := 16383 }
    else k
  else k

/-- An entry in DRAINING with its reason. -/
def Skein.drained (k : Skein) (reason : Nat) : Skein :=
  { k with state := 5, reason := reason, parkPend := false, copies := [], pfxRun := false, pfxLook := false }

/-- An entry with HOLD as given (R248). -/
def Skein.withHold (k : Skein) (hold : Bool) : Skein := { k with hold := hold }

/-- An entry with PRIO and DEADLINE set; MISSED falls where the deadline lies after the pick (R248). -/
def Skein.scheduled (k : Skein) (prio deadline pick : Nat) : Skein :=
  { k with prio := prio, deadline := deadline, missed := k.missed && !(later deadline pick) }

/-- An entry that waits to park. -/
def Skein.pending (k : Skein) : Skein := { k with parkPend := true }

theorem settled_drained (k : Skein) (reason : Nat) (out : Bool) : let v := (k.drained reason).settled out
    v.reason = reason ∧ v.state = (if out then (if reason ≤ 3 then 6 else 7) else 5) ∧ v.committed = k.committed ∧ v.units = k.units := by
  cases out
  · exact ⟨rfl, rfl, rfl, rfl⟩
  · exact ⟨rfl, rfl, rfl, rfl⟩

theorem settled_pending {k : Skein} (h : inRing k.state = true) (out : Bool) : let v := k.pending.settled out
    v.hold = k.hold ∧ v.part = k.part ∧
      if out then v.state = 4 ∧ v.parkPend = false else v.state = k.state ∧ v.parkPend = true := by
  have h5 : k.state ≠ 5 := fun h5 => by
    rw [h5] at h
    exact absurd h (by decide)
  cases out <;> simp [Skein.settled, Skein.pending, h, h5]

section
variable (s : State) (id : Nat)

theorem settleSk_entry : EntryPut s (s.settleSk id) id ((s.sk id).settled (s.outOfRing id)) := by
  have hput : ∀ (k : Skein) (code data : Nat), EntryPut s ((s.setSk id k).event code id data) id k := fun k code data =>
    (entryPut_setSk s id k).before (congrArg Reed.skeins (reed_event ..))
  unfold State.settleSk Skein.settled
  dsimp only
  split
  · split
    · exact hput ..
    · split
      · exact hput ..
      · exact ⟨rfl, fun _ _ => rfl⟩
  · exact ⟨rfl, fun _ _ => rfl⟩

/-- An entry put and settled. -/
theorem settleSk_setSk_entry (k : Skein) : EntryPut s ((s.setSk id k).settleSk id) id (k.settled (s.outOfRing id)) := by
  have hput := entryPut_setSk s id k
  have hsettled := settleSk_entry (s.setSk id k) id
  rw [hput.entry] at hsettled
  exact hput.trans hsettled

theorem drainSk_entry (reason : Nat) : EntryPut s (s.drainSk id reason) id (((s.sk id).drained reason).settled (s.outOfRing id)) :=
  settleSk_setSk_entry ..

variable {id}

theorem pendPark_entry (h : inRing (s.sk id).state = true) : EntryPut s (s.pendPark id) id ((s.sk id).pending.settled (s.outOfRing id)) := by
  unfold State.pendPark
  dsimp only
  rw [if_pos h]
  exact settleSk_setSk_entry ..

theorem pendPark_outside (h : inRing (s.sk id).state = false) : s.pendPark id = s := if_neg (by simp [h])

end

/-! ### Answers (R249, R394) -/

section
variable {s u : State} {ring : Fin 16} {id : Nat}

/-- Every other skein, the lanes and the spool stand. -/
def othersStand (s t : State) (id : Nat) : Prop := (∀ j, j ≠ id → t.sk j = s.sk j) ∧ t.reed.lanes = s.reed.lanes ∧ t.spool = s.spool

/-- A command that puts the entry of its skein. -/
theorem answerCmd_put {k : Skein} (hput : EntryPut s u id k) (hmove : EntriesMove s u) (hring : RingStays ring s u) (op tag status : Nat) :
    let t := answerCmd ring.val op tag id (u, status)
    completes s t ring.val op status tag (id % 4096) ∧ othersStand s t id ∧ t.sk id = k := by
  obtain ⟨hc, honly⟩ := answerCmd_effect hring op tag id status
  refine ⟨hc, ⟨fun j hj => ?_, ?_, honly.spool.trans hmove.spool⟩, (honly.sk id).trans hput.entry⟩
  · exact (honly.sk j).trans (hput.others j hj)
  · rw [honly.reed, hmove.lanes]

/-- A command whose answer is its status alone. -/
theorem answers_refused {c : Instr} {r : State × Nat} {op tag status : Nat} (he : exec c s = .next (answerCmd ring.val op tag id r))
    (hr : r = (s, status)) : answers c s fun t =>
      completes s t ring.val op status tag (id % 4096) ∧ t.reed = s.reed ∧ t.spool = s.spool ∧ t.bank = s.bank :=
  ⟨_, he.trans (congrArg (fun x => Host.Outcome.next (answerCmd ring.val op tag id x)) hr), answerCmd_refused ..⟩

/-- A command taken: its skein's entry put, and status 0. -/
theorem answers_taken {c : Instr} {r : State × Nat} {op tag : Nat} {k : Skein} {P : Skein → Prop}
    (he : exec c s = .next (answerCmd ring.val op tag id r)) (hr : r = (u, 0)) (hput : EntryPut s u id k) (hmove : EntriesMove s u)
    (hring : RingStays ring s u) (hP : P k) : answers c s fun t =>
      completes s t ring.val op 0 tag (id % 4096) ∧ othersStand s t id ∧ P (t.sk id) := by
  obtain ⟨hc, hothers, hentry⟩ := answerCmd_put hput hmove hring op tag 0
  exact ⟨_, he.trans (congrArg (fun x => Host.Outcome.next (answerCmd ring.val op tag id x)) hr), hc, hothers, hentry ▸ hP⟩

end

/-! ### CANCEL, PARK and RESUME (R248) -/

section
variable {s : State} {id : Nat}

/-- The states in which a skein takes CANCEL, PARK and RESUME. -/
abbrev Skein.live (k : Skein) : Prop := 1 ≤ k.state ∧ k.state ≤ 4

theorem live_refused (h : 4095 < id) : s.cancel id = (s, 1) ∧ s.park id = (s, 1) ∧ s.resume id = (s, 1) :=
  ⟨if_pos h, if_pos h, if_pos h⟩

section
variable (hid : id ≤ 4095)
include hid

theorem notLive_refused (h : ¬ (s.sk id).live) : s.cancel id = (s, 3) ∧ s.park id = (s, 3) ∧ s.resume id = (s, 3) := by
  have hfar := Nat.not_lt.mpr hid
  exact ⟨(if_neg hfar).trans (if_neg h), (if_neg hfar).trans (if_neg h), (if_neg hfar).trans (if_neg h)⟩

variable (h : (s.sk id).live)
include h

theorem cancel_live : s.cancel id = (s.drainSk id 3, 0) := (if_neg (Nat.not_lt.mpr hid)).trans (if_pos h)

theorem park_live : s.park id = ((s.setSk id ((s.sk id).withHold true)).pendPark id, 0) := (if_neg (Nat.not_lt.mpr hid)).trans (if_pos h)

theorem resume_live : s.resume id = (s.setSk id ((s.sk id).withHold false), 0) := (if_neg (Nat.not_lt.mpr hid)).trans (if_pos h)

end

/-- PARK holds the skein; in the ring it is parked, at once where it has no lane there. -/
theorem park_entry (s : State) (id : Nat) : ∃ k, EntryPut s ((s.setSk id ((s.sk id).withHold true)).pendPark id) id k ∧ k.hold = true ∧
    if inRing (s.sk id).state then
      (if s.outOfRing id then k.state = 4 ∧ k.parkPend = false else k.state = (s.sk id).state ∧ k.parkPend = true)
    else k = (s.sk id).withHold true := by
  have hput := entryPut_setSk s id ((s.sk id).withHold true)
  have hstate : ((s.setSk id ((s.sk id).withHold true)).sk id).state = (s.sk id).state := (congrArg Skein.state hput.entry :)
  by_cases hin : inRing (s.sk id).state = true
  · have hparked := pendPark_entry (s.setSk id ((s.sk id).withHold true)) (id := id) (by rwa [hstate])
    rw [hput.entry] at hparked
    obtain ⟨hhold, -, hends⟩ := settled_pending (k := (s.sk id).withHold true) hin (s.outOfRing id)
    refine ⟨_, hput.trans hparked, hhold, ?_⟩
    rw [if_pos hin]
    exact hends
  · rw [pendPark_outside _ (by rw [hstate]; simpa using hin)]
    refine ⟨_, hput, rfl, ?_⟩
    rw [if_neg hin]

end

/-! ### RELEASE and SET (R248, R263) -/

section
variable {s : State} {ring tag id : Nat}

theorem releaseCmd_refused {status : Nat} (h : s.release' ring tag id = (s, some status)) :
    s.releaseCmd ring tag id = answerCmd ring 0x14 tag id (s, status) := by
  simp only [State.releaseCmd, h]
  rfl

/-- The entry waits for its frames, and its blocks leave the index. -/
def State.releaseBegun (s : State) (ring tag id : Nat) : State :=
  let u := s.setSk id { s.sk id with releasing := some (ring, tag) }
  { u with reed := u.reed.dropPrefix id }

theorem releaseCmd_begins (hid : id ≤ 4095) (h : (s.sk id).state = 6 ∨ (s.sk id).state = 7) (hr : (s.sk id).releasing = none) :
    s.releaseCmd ring tag id = s.releaseBegun ring tag id := by
  have heq : s.release' ring tag id = (s.releaseBegun ring tag id, none) := (if_neg (Nat.not_lt.mpr hid)).trans (if_pos ⟨h, hr⟩)
  simp only [State.releaseCmd, heq]

theorem release_refused (hid : id ≤ 4095) (h : ((s.sk id).state ≠ 6 ∧ (s.sk id).state ≠ 7) ∨ (s.sk id).releasing ≠ none) :
    s.release' ring tag id = (s, some 3) := by
  refine (if_neg (Nat.not_lt.mpr hid)).trans (if_neg fun hd => ?_)
  obtain ⟨hstate, hr⟩ := hd
  rcases h with ⟨h6, h7⟩ | h
  · exact hstate.elim h6 h7
  · exact h hr

theorem releaseBegun_entry (s : State) (ring tag id : Nat) :
    EntryPut s (s.releaseBegun ring tag id) id { s.sk id with releasing := some (ring, tag) } := (entryPut_setSk ..).before rfl

theorem mem_prefixIdx_releaseBegun (s : State) (ring tag id : Nat) (e : PfxEntry) :
    e ∈ (s.releaseBegun ring tag id).reed.prefixIdx ↔ e ∈ s.reed.prefixIdx ∧ e.source ≠ id :=
  List.mem_filter.trans (and_congr_right' decide_eq_true_iff)

theorem setCmd_free (hid : id ≤ 4095) (h : (s.sk id).state = 0) (prio deadline : Nat) : s.setCmd id prio deadline = (s, 3) :=
  (if_neg (Nat.not_lt.mpr hid)).trans (if_pos h)

theorem setCmd_used (hid : id ≤ 4095) (h : (s.sk id).state ≠ 0) (prio deadline : Nat) : s.setCmd id prio deadline =
    (s.setSk id ((s.sk id).scheduled prio deadline s.pm.pick), 0) :=
  (if_neg (Nat.not_lt.mpr hid)).trans (if_neg h)

end

end Sys2Proof.Machine

open Sys2Proof Sys2Proof.Machine

/-- Settles O27: a command refused by `answers_refused`, one that is taken by `answers_taken` with the entry it puts, and RELEASE by
`releaseBegun_entry`. -/
theorem skeinCommands : Obligations.SkeinCommands := by
  unfold Obligations.SkeinCommands
  intro s ring tag id prio deadline
  dsimp only
  have hcancel : exec (.cancel ring tag id) s = .next (answerCmd ring.val 0x11 tag.toNat id.toNat (s.cancel id.toNat)) := rfl
  have hpark : exec (.park ring tag id) s = .next (answerCmd ring.val 0x12 tag.toNat id.toNat (s.park id.toNat)) := rfl
  have hresume : exec (.resume ring tag id) s = .next (answerCmd ring.val 0x13 tag.toNat id.toNat (s.resume id.toNat)) := rfl
  have hrelease : exec (.release ring tag id) s = .next (s.releaseCmd ring.val tag.toNat id.toNat) := rfl
  have hset : exec (.set ring tag id prio deadline) s =
    .next (answerCmd ring.val 0x15 tag.toNat id.toNat (s.setCmd id.toNat prio.toNat deadline.toNat)) := rfl
  have hreleased : ∀ {status}, s.release' ring.val tag.toNat id.toNat = (s, some status) →
      exec (.release ring tag id) s = .next (answerCmd ring.val 0x14 tag.toNat id.toNat (s, status)) := fun h =>
    hrelease.trans (congrArg _ (releaseCmd_refused h))
  refine ⟨fun hfar => ?far, fun hid hdead => ?dead, fun hid hlive => ⟨?cancels, ?parks, ?resumes⟩, fun hid hstate hr => ?releases,
    fun hid h => answers_refused (hreleased (release_refused hid h)) rfl,
    fun hid h => answers_refused hset (setCmd_free hid h ..), fun hid h => ?sets⟩
  case far =>
    obtain ⟨hc, hp, hr⟩ := live_refused (s := s) hfar
    exact ⟨answers_refused hcancel hc, answers_refused hpark hp, answers_refused hresume hr,
      answers_refused (hreleased (if_pos hfar)) rfl, answers_refused hset (if_pos hfar)⟩
  case dead =>
    obtain ⟨hc, hp, hr⟩ := notLive_refused hid hdead
    exact ⟨answers_refused hcancel hc, answers_refused hpark hp, answers_refused hresume hr⟩
  case cancels =>
    obtain ⟨hreason, hstate, hlen, -⟩ := settled_drained (s.sk id.toNat) 3 (s.outOfRing id.toNat)
    exact answers_taken hcancel (cancel_live hid hlive) (drainSk_entry ..) (entriesMove_drainSk ..) (ringStays_drainSk ..)
      (P := fun k => k.reason = 3 ∧ k.state = (if s.outOfRing id.toNat then 6 else 5) ∧ k.committed = (s.sk id.toNat).committed)
      ⟨hreason, hstate, hlen⟩
  case parks =>
    obtain ⟨k, hput, hhold, hends⟩ := park_entry s id.toNat
    exact answers_taken hpark (park_live hid hlive) hput ((entriesMove_setSk ..).trans (entriesMove_pendPark ..))
      ((ringStays_setSk ..).trans (ringStays_pendPark ..))
      (P := fun k => k.hold = true ∧ if inRing (s.sk id.toNat).state then
        (if s.outOfRing id.toNat then k.state = 4 ∧ k.parkPend = false else k.state = (s.sk id.toNat).state ∧ k.parkPend = true)
        else k = (s.sk id.toNat).withHold true) ⟨hhold, hends⟩
  case resumes =>
    exact answers_taken hresume (resume_live hid hlive) (entryPut_setSk ..) (entriesMove_setSk ..) (ringStays_setSk ..)
      (P := fun k => k = (s.sk id.toNat).withHold false) rfl
  case releases =>
    obtain ⟨hentry, hothers⟩ := releaseBegun_entry s ring.val tag.toNat id.toNat
    exact ⟨_, hrelease.trans (congrArg _ (releaseCmd_begins hid hstate hr)), ⟨hothers, rfl, rfl⟩, rfl, hentry,
      mem_prefixIdx_releaseBegun s ring.val tag.toNat id.toNat⟩
  case sets =>
    exact answers_taken hset (setCmd_used hid h ..) (entryPut_setSk ..) (entriesMove_setSk ..) (ringStays_setSk ..)
      (P := fun k => k = (s.sk id.toNat).scheduled prio.toNat deadline.toNat s.pm.pick) rfl

end

section
/-!
PROOFS. ADMIT (R248, R249): the status that the command answers, and the entry that it fills.
-/
namespace Sys2Proof.Machine

/-! ### The status (R249) -/

section
variable {s : State} {id : Nat} {a : AdmitArgs}

theorem partAdmits_iff (p : Nat) : s.partAdmits p = true ↔ s.get (F.SKN_PART_STAT_PRESENT.nth p) = 1 ∧
    s.get (F.SKN_PART_STAT_ENABLED.nth p) = 1 ∧ s.get (F.SKN_PART_STAT_STOPPING.nth p) = 0 := by
  simp [State.partAdmits, State.partPresent, and_assoc]

theorem admitSeq_refused {n : Nat} (h : s.admitStatus id a = n) (hn : n ≠ 0) : s.admitSeq id a = (s, n) := by
  simp only [State.admitSeq, h, hn, if_false]

theorem admitSeq_taken (h : s.admitStatus id a = 0) : s.admitSeq id a = (s.admitOk id a, 0) := by
  simp only [State.admitSeq, h, if_true]

theorem admitStatus_far (h : 4095 < id) : s.admitStatus id a = 1 := if_pos h

variable (hid : id ≤ 4095)
include hid

theorem admitStatus_used (h : (s.sk id).state ≠ 0) : s.admitStatus id a = 2 := by
  rw [State.admitStatus, if_neg (Nat.not_lt.mpr hid), if_pos h]

variable (hfree : (s.sk id).state = 0)
include hfree

theorem admitStatus_closed (h : s.partAdmits a.part = false) : s.admitStatus id a = 4 := by
  rw [State.admitStatus, if_neg (Nat.not_lt.mpr hid), if_neg (not_not.mpr hfree), if_pos h]

variable (hpart : s.partAdmits a.part = true)
include hpart

theorem admitStatus_ring (h : ¬ (6 ≤ a.ringLog2 ∧ a.ringLog2 ≤ 19)) : s.admitStatus id a = 5 := by
  rw [State.admitStatus, if_neg (Nat.not_lt.mpr hid), if_neg (not_not.mpr hfree), if_neg (by simp [hpart]), if_pos (by omega)]

variable (hring : 6 ≤ a.ringLog2 ∧ a.ringLog2 ≤ 19)
include hring

theorem admitStatus_prompt (h : ¬ (a.promptLen ≠ 0 ∧ a.promptLen ≤ a.limit ∧ a.limit < 2 ^ 40 - 1)) : s.admitStatus id a = 6 := by
  rw [State.admitStatus, if_neg (Nat.not_lt.mpr hid), if_neg (not_not.mpr hfree), if_neg (by simp [hpart]), if_neg (by omega),
    if_pos (by omega)]

/-- With a prompt and a limit in range, the sampler's entry and the free table blocks are left to look at. -/
theorem admitStatus_inRange (h : a.promptLen ≠ 0 ∧ a.promptLen ≤ a.limit ∧ a.limit < 2 ^ 40 - 1) : s.admitStatus id a =
    if bitAt (s.reed.sampEntry (s.sampOf a.sampler a.part)) 23 = false then 7 else if s.spool.newBlock.isNone then 8 else 0 := by
  rw [State.admitStatus, if_neg (Nat.not_lt.mpr hid), if_neg (not_not.mpr hfree), if_neg (by simp [hpart]), if_neg (by omega),
    if_neg (by omega)]

end

/-! ### The entry filled (R248) -/

/-- The entry that ADMIT fills: QUEUED, with the root of its table. -/
def AdmitArgs.entry (a : AdmitArgs) (root : Nat) (look : Bool) : Skein :=
  { Skein.empty with
    state := 1, part := a.part, prio := a.prio, sampler := a.sampler, pfxUse := a.pfxUse, pfxPub := a.pfxPub, hold := a.hold,
    deadline := a.deadline, limit := a.limit, seed := a.seed, ptRoot := root, ringLog2 := a.ringLog2,
    ringBase := a.ringBase / 4096 * 4096, promptBase := a.promptBase / 4 * 4, promptLen := a.promptLen, pfxRun := look, pfxLook := look }

/-- The table allocated, the entry put and its first prompt units asked for. -/
def State.admitted (s : State) (id : Nat) (p : Spool) (k : Skein) : State := (((s.withSpool p).setSk id k).poolMarks 0).keepUnits id

theorem admitOk_eq {s : State} {b : Nat} {p : Spool} (h : s.spool.newBlock = some (b, p)) (id : Nat) (a : AdmitArgs) :
    ∃ look, s.admitOk id a = s.admitted id p (a.entry (2 * b) look) := by
  unfold State.admitOk
  rw [h]
  exact ⟨_, rfl⟩

theorem admitted_effect (s : State) (id : Nat) (p : Spool) (k : Skein) (ring : Fin 16) : let t := s.admitted id p k
    (∃ held asked, EntryPut s t id { k with units := held, unitsAsked := asked }) ∧ t.spool = p ∧ t.reed.lanes = s.reed.lanes ∧
      RingStays ring s t := by
  unfold State.admitted
  have hmarks := onlyBank_poolMarks ((s.withSpool p).setSk id k) 0
  have hreed := reed_of_onlyBank hmarks
  have hput : EntryPut s (((s.withSpool p).setSk id k).poolMarks 0) id k := (entryPut_setSk s id k).before (congrArg Reed.skeins hreed :)
  have hmove := entriesMove_keepUnits (((s.withSpool p).setSk id k).poolMarks 0) id
  have hring : RingStays ring s ((s.withSpool p).setSk id k) := .of_host rfl rfl rfl
  obtain ⟨held, asked, hunits⟩ := unitsPut_keepUnits (((s.withSpool p).setSk id k).poolMarks 0) id
  rw [hput.entry] at hunits
  refine ⟨⟨held, asked, hput.trans hunits⟩, ?_, ?_, hring.trans ((ringStays_poolMarks ..).trans (ringStays_keepUnits ..))⟩
  · exact hmove.spool.trans (spool_of_onlyBank hmarks)
  · exact hmove.lanes.trans (congrArg Reed.lanes hreed :)

end Sys2Proof.Machine

open Sys2Proof Sys2Proof.Machine

/-- Settles O26: the status of each cause by the equations of `State.admitStatus`, and the entry filled by `admitted_effect`. -/
theorem admission : Obligations.Admission := by
  unfold Obligations.Admission
  intro s ring tag id part prio sampler pfxUse pfxPub hold deadline limit seed ringBase promptBase ringLog2 promptLen
  dsimp only
  obtain ⟨a, ha⟩ : ∃ a : AdmitArgs, a = ⟨part.toNat, prio.toNat, sampler.toNat, pfxUse, pfxPub, hold, deadline.toNat, limit.toNat,
    seed.toNat, ringBase.toNat, promptBase.toNat, ringLog2.toNat, promptLen.toNat⟩ := ⟨_, rfl⟩
  have hexec : exec (.admitSeq ring tag id part prio sampler pfxUse pfxPub hold deadline limit seed ringBase promptBase ringLog2 promptLen) s =
    .next (answerCmd ring.val 0x10 tag.toNat id.toNat (s.admitSeq id.toNat a)) := ha ▸ rfl
  have refused : ∀ {n : Nat}, s.admitStatus id.toNat a = n → n ≠ 0 → answers (.admitSeq ring tag id part prio sampler pfxUse pfxPub hold
      deadline limit seed ringBase promptBase ringLog2 promptLen) s fun t => completes s t ring.val 0x10 n tag.toNat (id.toNat % 4096) ∧
        t.reed = s.reed ∧ t.spool = s.spool ∧ t.bank = s.bank := fun h hn => answers_refused hexec (admitSeq_refused h hn)
  have hfields : part.toNat = a.part ∧ sampler.toNat = a.sampler ∧ ringLog2.toNat = a.ringLog2 ∧ promptLen.toNat = a.promptLen ∧
    limit.toNat = a.limit := by rw [ha]; exact ⟨rfl, rfl, rfl, rfl, rfl⟩
  obtain ⟨hap, has, har, hal, ham⟩ := hfields
  have hadmits := partAdmits_iff (s := s) part.toNat
  rw [has, hap, har, hal, ham]
  rw [hap] at hadmits
  refine ⟨fun h => refused (admitStatus_far h) (by decide), fun hid h => refused (admitStatus_used hid h) (by decide), ?_, ?_, ?_, ?_, ?_, ?_⟩
  · rintro ⟨hid, hfree⟩ h
    exact refused (admitStatus_closed hid hfree (by simpa [← hadmits] using h)) (by decide)
  · rintro ⟨hid, hfree⟩ hpart h
    exact refused (admitStatus_ring hid hfree (hadmits.mpr hpart) h) (by decide)
  · rintro ⟨hid, hfree⟩ hpart hring h
    exact refused (admitStatus_prompt hid hfree (hadmits.mpr hpart) hring h) (by decide)
  · rintro ⟨hid, hfree⟩ hpart hring hprompt h
    exact refused ((admitStatus_inRange hid hfree (hadmits.mpr hpart) hring hprompt).trans (if_pos h)) (by decide)
  · rintro ⟨hid, hfree⟩ hpart hring hprompt h hblock
    exact refused ((admitStatus_inRange hid hfree (hadmits.mpr hpart) hring hprompt).trans
      ((if_neg (by simp [h])).trans (if_pos (by simp [hblock])))) (by decide)
  · rintro b p ⟨hid, hfree⟩ hpart hring hprompt h hblock
    have hstatus : s.admitStatus id.toNat a = 0 := (admitStatus_inRange hid hfree (hadmits.mpr hpart) hring hprompt).trans
      ((if_neg (by simp [h])).trans (if_neg (by simp [hblock])))
    obtain ⟨look, hok⟩ := admitOk_eq hblock id.toNat a
    obtain ⟨⟨held, asked, hput⟩, hspool, hlanes, hstays⟩ := admitted_effect s id.toNat p (a.entry (2 * b) look) ring
    obtain ⟨hc, honly⟩ := answerCmd_effect hstays 0x10 tag.toNat id.toNat 0
    have hentry := (honly.sk id.toNat).trans hput.entry
    have htaken : s.admitSeq id.toNat a = (s.admitted id.toNat p (a.entry (2 * b) look), 0) := by rw [admitSeq_taken hstatus, hok]
    refine ⟨_, hexec.trans (congrArg (fun x => Host.Outcome.next (answerCmd ring.val 0x10 tag.toNat id.toNat x)) htaken), hc,
      honly.spool.trans hspool, fun j hj => (honly.sk j).trans (hput.others j hj), (congrArg Reed.lanes honly.reed).trans hlanes, ?_⟩
    rw [hentry, ha]
    exact ⟨rfl, rfl, rfl, rfl, rfl, rfl, rfl, rfl, rfl, rfl, rfl, rfl, rfl, rfl, rfl, rfl, rfl, rfl⟩

end

section
/-!
PROOFS. Partitions and the stop of service (R266 to R268, R274): skeins in the ring that wait to park, a partition that stops, and the drain.
-/
namespace Sys2Proof.Machine

/-! ### Skeins in the ring that wait to park (R246) -/

/-- A skein waits to park, or is PARKED. -/
abbrev Skein.parks (k : Skein) : Prop := k.parkPend = true ∨ k.state = 4

/-- At most the parking of a skein in the ring lies between two entries. -/
def Skein.mayPark (k v : Skein) : Prop := v = k ∨ (inRing k.state = true ∧ v.part = k.part ∧ v.parks)

section
variable {k v w : Skein}

theorem Skein.mayPark.trans (h : k.mayPark v) (h' : v.mayPark w) : k.mayPark w := by
  rcases h with rfl | ⟨hin, hpart, hparks⟩
  · exact h'
  · rcases h' with rfl | ⟨-, hpart', hparks'⟩
    · exact .inr ⟨hin, hpart, hparks⟩
    · exact .inr ⟨hin, hpart'.trans hpart, hparks'⟩

theorem Skein.mayPark.part (h : k.mayPark v) : v.part = k.part := by
  rcases h with rfl | ⟨-, hpart, -⟩
  · rfl
  · exact hpart

theorem Skein.mayPark.parks (h : k.mayPark v) (hk : k.parks) : v.parks := by
  rcases h with rfl | ⟨-, -, hparks⟩
  · exact hk
  · exact hparks

theorem Skein.mayPark.outside (h : k.mayPark v) (hk : inRing k.state = false) : v = k :=
  h.resolve_right fun hr => by simp [hk] at hr

end

section
variable (s : State)

theorem pendPark_mayPark (i j : Nat) : (s.sk j).mayPark ((s.pendPark i).sk j) := by
  by_cases hin : inRing (s.sk i).state = true
  · obtain ⟨k, hput, hparks⟩ := pendPark_parks s hin
    by_cases hj : j = i
    · subst hj
      obtain ⟨-, hpart, -⟩ := settled_pending hin (s.outOfRing j)
      have hentry := pendPark_entry s hin
      refine .inr ⟨hin, ?_, hput.entry ▸ hparks⟩
      rw [hentry.entry, hpart]
    · exact .inl (hput.others j hj)
  · rw [pendPark_outside s (by simpa using hin)]
    exact .inl rfl

theorem foldl_pendPark_mayPark (l : List Nat) (j : Nat) : (s.sk j).mayPark ((l.foldl State.pendPark s).sk j) :=
  l.foldlRecOn State.pendPark (motive := fun u => (s.sk j).mayPark (u.sk j)) (.inl rfl) fun u hu i _ => hu.trans (pendPark_mayPark u i j)

/-- Every skein of a list that is in the ring waits to park, or is parked. -/
theorem foldl_pendPark_parks {l : List Nat} {j : Nat} (hj : j ∈ l) (hin : inRing (s.sk j).state = true) :
    ((l.foldl State.pendPark s).sk j).parks := by
  induction l generalizing s with
  | nil => exact absurd hj List.not_mem_nil
  | cons i l ih =>
    have hlater := foldl_pendPark_mayPark (s.pendPark i) l j
    rcases List.mem_cons.mp hj with rfl | hj
    · obtain ⟨k, hput, hparks⟩ := pendPark_parks s hin
      exact hlater.parks (hput.entry ▸ hparks)
    · rcases pendPark_mayPark s i j with heq | ⟨-, -, hparks⟩
      · exact ih (s.pendPark i) hj (heq ▸ hin)
      · exact hlater.parks hparks

theorem entriesMove_foldl_pendPark (l : List Nat) : EntriesMove s (l.foldl State.pendPark s) :=
  l.foldlRecOn State.pendPark (EntriesMove.refl s) fun u hu i _ => hu.trans (entriesMove_pendPark u i)

/-- A skein in the ring is listed. -/
theorem mem_skeins_of_inRing {j : Nat} (h : inRing (s.sk j).state = true) : (j, s.sk j) ∈ s.reed.skeins :=
  mem_of_smGet_ne fun he => by
    rw [State.sk, he] at h
    exact absurd h (by decide)

end

/-! ### The registers of a partition (R266, R267) -/

section
variable (q : Fin 8)

theorem partReg_notMem : ∀ f ∈ [F.SKN_PART_STAT_ENABLED, F.SKN_PART_STAT_STOPPING], (f.nth q.val).reg ∉ servingRegs := by
  revert q
  decide

theorem partReg_apart : ∀ f ∈ [F.SKN_PART_STAT_ENABLED, F.SKN_PART_STAT_STOPPING],
    (f.nth q.val).reg % 2 ^ 26 / 2 ^ 16 ≠ 8 ∨ (f.nth q.val).reg % 2 ^ 26 = R.HLS_STATUS := by
  revert q
  decide

theorem enabled_set_stopping (s : State) (v : Nat) :
    (s.set (F.SKN_PART_STAT_STOPPING.nth q.val) v).get (F.SKN_PART_STAT_ENABLED.nth q.val) = s.get (F.SKN_PART_STAT_ENABLED.nth q.val) :=
  get_set_apart s (.inr ⟨Nat.le_of_ble_eq_true rfl, .inr (Nat.le_of_ble_eq_true rfl)⟩) v

theorem stopping_set_enabled (s : State) (v : Nat) :
    (s.set (F.SKN_PART_STAT_ENABLED.nth q.val) v).get (F.SKN_PART_STAT_STOPPING.nth q.val) = s.get (F.SKN_PART_STAT_STOPPING.nth q.val) :=
  get_set_apart s (.inr ⟨Nat.le_of_ble_eq_true rfl, .inl (Nat.le_of_ble_eq_true rfl)⟩) v

theorem get_partFld_set (s : State) {f : Fld} (hf : f ∈ [F.SKN_PART_STAT_ENABLED, F.SKN_PART_STAT_STOPPING]) (v : Nat) :
    (s.set (f.nth q.val) v).get (f.nth q.val) = v % 2 := by
  have hw : ∀ g ∈ [F.SKN_PART_STAT_ENABLED, F.SKN_PART_STAT_STOPPING], g.lo + g.w ≤ 32 ∧ g.w = 1 := by decide
  obtain ⟨hlo, hw⟩ := hw f hf
  exact (State.get_set_same s (f.nth q.val) v 0 hlo).trans (congrArg (v % 2 ^ ·) hw)

/-- A partition stopped: neither stopping nor enabled (R267). -/
def State.partOff (s : State) (p : Nat) : State := (s.set (F.SKN_PART_STAT_STOPPING.nth p) 0).set (F.SKN_PART_STAT_ENABLED.nth p) 0

theorem partOff_get (s : State) : (s.partOff q.val).get (F.SKN_PART_STAT_ENABLED.nth q.val) = 0 ∧
    (s.partOff q.val).get (F.SKN_PART_STAT_STOPPING.nth q.val) = 0 := by
  refine ⟨get_partFld_set q _ (by decide) 0, ?_⟩
  rw [State.partOff, stopping_set_enabled, get_partFld_set q _ (by decide)]

end

/-! ### PART_ENABLE and PART_DISABLE (R267) -/

section
variable {s : State} {p : Nat}

/-- No lane of the ring belongs to a skein of the partition. -/
def State.partGone (s : State) (p : Nat) : Prop :=
  ∀ kv ∈ s.reed.lanes, (∀ i, kv.2.owner = some i → (s.sk i).part ≠ p) ∧ ∀ st, kv.2.step = some st → (s.sk st.skein).part ≠ p

theorem partGone_iff (s : State) (p : Nat) : s.reed.lanes.all (fun kv => (match kv.2.owner with
      | some id => decide ((s.sk id).part ≠ p)
      | none => true) && (match kv.2.step with
      | some st => decide ((s.sk st.skein).part ≠ p)
      | none => true)) = true ↔ s.partGone p := by
  rw [List.all_eq_true]
  refine forall₂_congr fun kv _ => ?_
  obtain ⟨key, owner, step⟩ := kv
  cases owner <;> cases step <;> simp

theorem partSettle_stops (hstop : s.get (F.SKN_PART_STAT_STOPPING.nth p) = 1) (hgone : s.partGone p) :
    s.partSettle p = (s.partOff p).event 0x86 0 p := if_pos ⟨hstop, (partGone_iff s p).mpr hgone⟩

theorem partSettle_waits (h : ¬ s.partGone p) : s.partSettle p = s := if_neg fun hc => h ((partGone_iff s p).mp hc.2)

theorem partSettle_off {q : Fin 8} (hstop : s.get (F.SKN_PART_STAT_STOPPING.nth q.val) = 1) (hgone : s.partGone q.val) (ring : Fin 16) :
    let t := s.partSettle q.val
    t.get (F.SKN_PART_STAT_ENABLED.nth q.val) = 0 ∧ t.get (F.SKN_PART_STAT_STOPPING.nth q.val) = 0 ∧ t.reed = s.reed ∧ RingStays ring s t := by
  obtain ⟨henabled, hstopping⟩ := partOff_get q s
  have hreed : (s.partOff q.val).reed = s.reed := by rw [State.partOff, State.reed_set, State.reed_set]
  have hstays : RingStays ring s (s.partOff q.val) :=
    (RingStays.set (partReg_apart q _ (by decide)) s 0 0).trans (RingStays.set (partReg_apart q _ (by decide)) _ 0 0)
  rw [partSettle_stops hstop hgone]
  generalize s.partOff q.val = u at *
  have hmove := entriesMove_event u 0x86 0 q.val
  exact ⟨(get_eq_of_sameRegs hmove.regs (partReg_notMem q _ (by decide))).trans henabled,
    (get_eq_of_sameRegs hmove.regs (partReg_notMem q _ (by decide))).trans hstopping, (reed_event ..).trans hreed,
    hstays.trans (ringStays_event ..)⟩

/-- The partition of every skein and the lanes standing, the same lanes belong to it. -/
theorem partGone_congr {t : State} (hl : t.reed.lanes = s.reed.lanes) (hk : ∀ j, (t.sk j).part = (s.sk j).part) : t.partGone p ↔ s.partGone p := by
  unfold State.partGone
  simp only [hl, hk]

theorem partEnable_present (h : s.get (F.SKN_PART_STAT_PRESENT.nth p) = 1) :
    s.partEnable p = ((s.set (F.SKN_PART_STAT_ENABLED.nth p) 1).set (F.SKN_PART_STAT_STOPPING.nth p) 0, 0) := if_pos (decide_eq_true h)

theorem part_absent (h : s.get (F.SKN_PART_STAT_PRESENT.nth p) = 0) : s.partEnable p = (s, 4) ∧ s.partDisable p = (s, 4) := by
  have hp : ¬ s.partPresent p = true := by simp [State.partPresent, h]
  exact ⟨if_neg hp, if_neg hp⟩

/-- The skeins of a partition in the ring. -/
def State.partSkeins (s : State) (p : Nat) : List Nat := (s.reed.skeins.filter fun kv => inRing kv.2.state && decide (kv.2.part = p)).map Prod.fst

/-- A partition stopping, with its skeins in the ring waiting to park. -/
def State.partStopping (s : State) (p : Nat) : State :=
  let u := s.set (F.SKN_PART_STAT_STOPPING.nth p) 1
  (u.partSkeins p).foldl State.pendPark u

theorem partSkeins_congr {t : State} (h : t.reed = s.reed) (p : Nat) : t.partSkeins p = s.partSkeins p := by
  unfold State.partSkeins
  rw [h]

section
variable (hp : s.get (F.SKN_PART_STAT_PRESENT.nth p) = 1)
include hp

theorem partDisable_off (h : s.get (F.SKN_PART_STAT_ENABLED.nth p) = 0 ∨ s.get (F.SKN_PART_STAT_STOPPING.nth p) = 1) :
    s.partDisable p = (s, 0) := (if_pos (decide_eq_true hp)).trans (if_pos h)

theorem partDisable_on (he : s.get (F.SKN_PART_STAT_ENABLED.nth p) = 1) (hs : s.get (F.SKN_PART_STAT_STOPPING.nth p) = 0) :
    s.partDisable p = ((s.partStopping p).partSettle p, 0) := by
  have hon : ¬ (s.get (F.SKN_PART_STAT_ENABLED.nth p) = 0 ∨ s.get (F.SKN_PART_STAT_STOPPING.nth p) = 1) := by
    rw [he, hs]
    decide
  have hpresent : s.partPresent p = true := decide_eq_true hp
  unfold State.partDisable
  rw [if_pos hpresent, if_neg hon]
  rfl

end

theorem mem_partSkeins {j : Nat} (hin : inRing (s.sk j).state = true) (hpart : (s.sk j).part = p) : j ∈ s.partSkeins p :=
  List.mem_map.mpr ⟨_, List.mem_filter.mpr ⟨mem_skeins_of_inRing s hin, by simp [hin, hpart]⟩, rfl⟩

theorem partSkeins_nil (h : ∀ kv ∈ s.reed.skeins, inRing kv.2.state = true → kv.2.part ≠ p) : s.partSkeins p = [] := by
  refine List.map_eq_nil_iff.mpr (List.filter_eq_nil_iff.mpr fun kv hkv => ?_)
  simpa using h kv hkv

/-- What the stop of a partition leaves alone, and what its registers show. -/
theorem partStopping_effect (s : State) (q : Fin 8) (ring : Fin 16) : let t := s.partStopping q.val
    t.get (F.SKN_PART_STAT_STOPPING.nth q.val) = 1 ∧ t.get (F.SKN_PART_STAT_ENABLED.nth q.val) = s.get (F.SKN_PART_STAT_ENABLED.nth q.val) ∧
      ReedQuiet s t ∧ RingStays ring s t ∧ (t.partGone q.val ↔ s.partGone q.val) := by
  have hblock : ∀ q : Fin 8, (F.SKN_PART_STAT_STOPPING.nth q.val).reg % 2 ^ 26 / 2 ^ 16 ≠ 10 := by decide
  have hget := get_partFld_set q s (f := F.SKN_PART_STAT_STOPPING) (by decide) 1
  have henabled := enabled_set_stopping q s 1
  have hquiet := reedQuiet_set s (f := F.SKN_PART_STAT_STOPPING.nth q.val) 1 0 (hblock q)
  have hstays := RingStays.set (ring := ring) (partReg_apart q F.SKN_PART_STAT_STOPPING (by decide)) s 1 0
  have hreed := s.reed_set (F.SKN_PART_STAT_STOPPING.nth q.val) 1 0
  unfold State.partStopping
  dsimp only
  generalize s.set (F.SKN_PART_STAT_STOPPING.nth q.val) 1 = u at *
  have hmove := entriesMove_foldl_pendPark u (u.partSkeins q.val)
  have hpart : ∀ j, (((u.partSkeins q.val).foldl State.pendPark u).sk j).part = (s.sk j).part := fun j =>
    (foldl_pendPark_mayPark u (u.partSkeins q.val) j).part.trans (congrArg Skein.part (sk_of_skeins (congrArg Reed.skeins hreed) j))
  refine ⟨?_, ?_, hquiet.trans hmove.reedQuiet, hstays.trans (RingStays.foldl (fun v i => ringStays_pendPark ring v i) _ _),
    partGone_congr (hmove.lanes.trans (congrArg Reed.lanes hreed)) hpart⟩
  · exact (get_eq_of_sameRegs hmove.regs (partReg_notMem q _ (by decide))).trans hget
  · exact (get_eq_of_sameRegs hmove.regs (partReg_notMem q _ (by decide))).trans henabled

/-- The skeins of the partition in the ring wait to park, and without one the reed stands. -/
theorem partStopping_parks (s : State) (p : Nat) : let t := s.partStopping p
    (∀ j, inRing (s.sk j).state = true → (s.sk j).part = p → (t.sk j).parkPend = true ∨ (t.sk j).state = 4) ∧
      ((∀ kv ∈ s.reed.skeins, inRing kv.2.state = true → kv.2.part ≠ p) → t.reed = s.reed) := by
  have hreed := s.reed_set (F.SKN_PART_STAT_STOPPING.nth p) 1 0
  unfold State.partStopping
  dsimp only
  generalize s.set (F.SKN_PART_STAT_STOPPING.nth p) 1 = u at *
  rw [partSkeins_congr hreed]
  refine ⟨fun j hin hpart => ?_, fun hnone => ?_⟩
  · refine foldl_pendPark_parks u (mem_partSkeins hin hpart) ?_
    rwa [sk_of_skeins (congrArg Reed.skeins hreed)]
  · rw [partSkeins_nil hnone]
    exact hreed

end

/-! ### Answers of a partition's commands (R394) -/

theorem ReedQuiet.tiles {s t : State} (h : ReedQuiet s t) : t.tiles = s.tiles := by rw [h.rest]
theorem ReedQuiet.free {s t : State} (h : ReedQuiet s t) : t.free = s.free := by rw [h.rest]

/-- The answer of a command on a partition: its completion record, with a free value as its skein. -/
theorem answers_part {c : Instr} {s u : State} {r : State × Nat} {ring : Fin 16} {op tag status : Nat}
    (he : exec c s = .next (answerPart ring.val op tag r)) (hr : r = (u, status)) (hf : u.free = s.free) (h : RingStays ring s u) :
    ∃ t, exec c s = .next t ∧ completes s t ring.val op status tag ((Config.freeWord s.free).toNat % 4096) ∧ t.reed = u.reed ∧ t.bank = u.bank ∧
      t.tiles = u.tiles := by
  obtain ⟨hc, honly⟩ := answerCmd_effect h op tag (Config.freeWord u.free).toNat status
  rw [hf] at hc
  exact ⟨_, he.trans (congrArg (fun x => Host.Outcome.next (answerPart ring.val op tag x)) hr), hf ▸ hc, honly.reed, honly.bank, honly.tiles⟩

/-! ### The drain that stops (R131, R268) -/

theorem beginDrain_frame (s : State) (stop fast : Bool) (target : Option (Nat × Nat)) (host : Bool) : let t := s.beginDrain stop fast target host
    t.reed = s.reed ∧ t.tiles = s.tiles ∧ t.spool = s.spool := by
  unfold State.beginDrain
  dsimp only
  split
  · have hset := onlyBank_set s F.PCK_STATUS_STATE 2 0
    unfold onlyBank at hset
    generalize s.set F.PCK_STATUS_STATE 2 = u at hset
    rw [hset]
    exact ⟨rfl, rfl, rfl⟩
  · split
    · exact ⟨rfl, rfl, rfl⟩
    · split
      · exact ⟨rfl, rfl, rfl⟩
      · exact ⟨rfl, rfl, rfl⟩

/-- Every skein in the ring waits to park, as service stops. -/
def State.serviceParked (s : State) : State := (s.skeinsIn inRing).foldl State.pendPark s

theorem serviceParked_effect (s : State) : let t := s.serviceParked
    EntriesMove s t ∧ t.pm = s.pm ∧ t.pickState = s.pickState ∧
      ∀ j, if inRing (s.sk j).state = true then (t.sk j).parkPend = true ∨ (t.sk j).state = 4 else t.sk j = s.sk j := by
  have hmove := entriesMove_foldl_pendPark s (s.skeinsIn inRing)
  refine ⟨hmove, hmove.reedReach.pm, get_eq_of_sameRegs hmove.regs (by decide), fun j => ?_⟩
  split
  · next hin =>
    exact foldl_pendPark_parks s (List.mem_map.mpr ⟨_, List.mem_filter.mpr ⟨mem_skeins_of_inRing s hin, hin⟩, rfl⟩) hin
  · next hin => exact (foldl_pendPark_mayPark s (s.skeinsIn inRing) j).outside (by simpa using hin)

theorem serviceParked_none {s : State} (h : ∀ kv ∈ s.reed.skeins, inRing kv.2.state = false) : s.serviceParked = s := by
  have hnone : s.skeinsIn inRing = [] := List.map_eq_nil_iff.mpr (List.filter_eq_nil_iff.mpr fun kv hkv => by simp [h kv hkv])
  unfold State.serviceParked
  rw [hnone]
  rfl

end Sys2Proof.Machine

open Sys2Proof Sys2Proof.Machine

/-- Settles O28: the commands on a partition by `answers_part` with `partStopping_effect`, and STOP_SERVICE by `serviceParked_effect` and the
equations of `State.beginDrain`. -/
theorem partitions : Obligations.Partitions := by
  unfold Obligations.Partitions
  intro s ring tag part
  dsimp only
  let q : Fin 8 := ⟨part.toNat, part.isLt⟩
  have henable : exec (.partEnable ring tag part) s = .next (answerPart ring.val 0x18 tag.toNat (s.partEnable part.toNat)) := rfl
  have hdisable : exec (.partDisable ring tag part) s = .next (answerPart ring.val 0x19 tag.toNat (s.partDisable part.toNat)) := rfl
  have hstop : exec .stopService s = .next (s.serviceParked.beginDrain true false none false) := rfl
  refine ⟨fun hp => ⟨?enableAbsent, ?disableAbsent⟩, fun hp => ?enables, fun hp hoff => ?alreadyOff,
    fun hp he hs => ⟨fun hgone => ?stops, fun hlane => ?waits⟩, ?service, fun hrun hnone => ?serviceIdle⟩
  case enableAbsent =>
    obtain ⟨t, ht, hc, hreed, hbank, -⟩ := answers_part henable (part_absent hp).1 rfl (.refl ring s)
    exact ⟨t, ht, hc, hbank, hreed⟩
  case disableAbsent =>
    obtain ⟨t, ht, hc, hreed, hbank, -⟩ := answers_part hdisable (part_absent hp).2 rfl (.refl ring s)
    exact ⟨t, ht, hc, hbank, hreed⟩
  case enables =>
    obtain ⟨t, ht, hc, hreed, hbank, -⟩ := answers_part henable (partEnable_present hp) (by rw [State.free_set, State.free_set])
      ((RingStays.set (partReg_apart q _ (by decide)) s 1 0).trans (RingStays.set (partReg_apart q _ (by decide)) _ 0 0))
    have hregs := sameRegs_trans (onlyRegs_set s (F.SKN_PART_STAT_ENABLED.nth q.val) 1 0 (ks := [(F.SKN_PART_STAT_ENABLED.nth q.val).reg])
      (by rw [rkey_zero]; exact List.mem_cons_self)).2 (onlyRegs_set _ (F.SKN_PART_STAT_STOPPING.nth q.val) 0 0
      (by rw [rkey_zero]; exact List.mem_cons_self)).2
    refine ⟨t, ht, hc, ?_, ?_, hreed.trans (by rw [State.reed_set, State.reed_set]), sameRegs_trans hregs (sameRegs_of_bank hbank _)⟩
    · rw [get_of_bank hbank, enabled_set_stopping q, get_partFld_set q s (by decide)]
    · rw [get_of_bank hbank, get_partFld_set q _ (by decide)]
  case alreadyOff =>
    obtain ⟨t, ht, hc, hreed, hbank, -⟩ := answers_part hdisable (partDisable_off hp hoff) rfl (.refl ring s)
    exact ⟨t, ht, hc, hbank, hreed⟩
  case stops =>
    obtain ⟨hstopping, -, hquiet, hstays, hgone'⟩ := partStopping_effect s q ring
    obtain ⟨-, hnone⟩ := partStopping_parks s part.toNat
    obtain ⟨henabled, hstopped, hsettled, hstays'⟩ := partSettle_off hstopping (hgone'.mpr hgone) ring
    have hall := hquiet.trans (reedQuiet_partSettle (s.partStopping part.toNat) part.isLt)
    obtain ⟨t, ht, hc, hreed, hbank, htiles⟩ := answers_part hdisable (partDisable_on hp he hs) hall.free (hstays.trans hstays')
    refine ⟨t, ht, hc, ?_, ?_, ?_, htiles.trans hall.tiles, fun h => ?_⟩
    · exact (get_of_bank hbank _ 0).trans henabled
    · exact (get_of_bank hbank _ 0).trans hstopped
    · rw [hreed, hall.lanes]
    · exact hreed.trans (hsettled.trans (hnone h))
  case waits =>
    obtain ⟨hstopping, henabled, hquiet, hstays, hgone⟩ := partStopping_effect s q ring
    obtain ⟨hparks, -⟩ := partStopping_parks s part.toNat
    obtain ⟨kv, hkv, i, howner, hpart⟩ := hlane
    have hsettle : (s.partStopping part.toNat).partSettle part.toNat = s.partStopping part.toNat :=
      partSettle_waits fun hg => (hgone.mp hg kv hkv).1 i howner hpart
    obtain ⟨t, ht, hc, hreed, hbank, htiles⟩ := answers_part hdisable ((partDisable_on hp he hs).trans (congrArg (·, 0) hsettle)) hquiet.free hstays
    refine ⟨t, ht, hc, ?_, ?_, ?_, htiles.trans hquiet.tiles, fun j hin hj => ?_⟩
    · exact (get_of_bank hbank _ 0).trans (henabled.trans he)
    · exact (get_of_bank hbank _ 0).trans hstopping
    · rw [hreed, hquiet.lanes]
    · rw [sk_of_skeins (congrArg Reed.skeins hreed)]
      exact hparks j hin hj
  case service =>
    obtain ⟨hmove, hpm, hstate, hparks⟩ := serviceParked_effect s
    obtain ⟨hreed, htiles, hspool⟩ := beginDrain_frame s.serviceParked true false none false
    have hsk : ∀ j, (s.serviceParked.beginDrain true false none false).sk j = s.serviceParked.sk j := sk_of_skeins (congrArg Reed.skeins hreed)
    refine ⟨_, hstop, fun j => ?_, ?_, htiles.trans hmove.reedReach.tiles, hspool.trans hmove.spool, fun hrun => ?_, fun hrest => ?_⟩
    · rw [hsk]
      exact hparks j
    · rw [hreed, hmove.lanes]
    · obtain ⟨-, hdrain, -, hcount, hstops, htarget⟩ := beginDrain_run (hstate.trans hrun) true
      exact ⟨hdrain, hstops, htarget, hcount⟩
    · rw [beginDrain_rest (by rwa [hstate])]
      exact ⟨hstate, hpm⟩
  case serviceIdle =>
    obtain ⟨hframe, hdrain, -, hcount, hstops, htarget⟩ := beginDrain_run hrun true
    rw [serviceParked_none hnone] at hstop
    exact ⟨_, hstop, hdrain, hstops, htarget, hcount, hframe⟩

end

section
/-!
PROOFS. Prompt units, ring counts and deadlines (R245, R251, R253, R254, R264).
-/
namespace Sys2Proof.Machine

/-! ### A lookup of shared blocks (R264) -/

/-- A skein's entry may differ, but for the prompt units it holds; every other skein, the lanes, the tiles and the spool stand. -/
structure LookupMoves (s t : State) (id : Nat) : Prop where
  entry : ∃ k, EntryPut s t id k ∧ k.units = (s.sk id).units
  lanes : t.reed.lanes = s.reed.lanes
  tiles : t.tiles = s.tiles
  spool : t.spool = s.spool

namespace LookupMoves
variable {s t u : State} {id : Nat}

theorem refl (s : State) (id : Nat) : LookupMoves s s id := ⟨⟨_, ⟨rfl, fun _ _ => rfl⟩, rfl⟩, rfl, rfl, rfl⟩

theorem trans (h : LookupMoves s t id) (h' : LookupMoves t u id) : LookupMoves s u id := by
  obtain ⟨k, hput, hk⟩ := h.entry
  obtain ⟨k', hput', hk'⟩ := h'.entry
  refine ⟨⟨k', hput.trans hput', ?_⟩, h'.lanes.trans h.lanes, h'.tiles.trans h.tiles, h'.spool.trans h.spool⟩
  rw [hk', hput.entry, hk]

theorem setSk (s : State) {k : Skein} (h : k.units = (s.sk id).units) : LookupMoves s (s.setSk id k) id := ⟨⟨k, entryPut_setSk .., h⟩, rfl, rfl, rfl⟩

theorem add (s : State) (id : Nat) (f : Fld) (n : Nat) : LookupMoves s (s.add f n) id :=
  ⟨⟨_, ⟨rfl, fun j _ => sk_of_skeins (congrArg Reed.skeins (State.reed_add ..)) j⟩, congrArg Skein.units
    (sk_of_skeins (congrArg Reed.skeins (State.reed_add ..)) id)⟩, congrArg Reed.lanes (State.reed_add ..), State.tiles_add .., State.spool_add ..⟩

theorem askUnit (s : State) (id u : Nat) : LookupMoves s (s.askUnit id u) id := by
  have hmove := entriesMove_askUnit s id u
  refine ⟨?_, hmove.lanes, hmove.reedReach.tiles, hmove.spool⟩
  unfold State.askUnit
  dsimp only
  split
  · exact ⟨_, (entryPut_setSk s id { s.sk id with unitsAsked := (s.sk id).unitsAsked ++ [u] }).before (congrArg Reed.skeins (reed_hostRead ..)), rfl⟩
  · exact ⟨_, ⟨rfl, fun _ _ => rfl⟩, rfl⟩

theorem lookEnd (s : State) (id : Nat) : LookupMoves s (s.lookEnd id) id := setSk s rfl

/-- A lookup goes on block by block: it ends, asks for the units of the next block, or notes a block and goes on. -/
theorem lookup (s : State) (id n : Nat) : LookupMoves s (s.lookup id n) id := by
  induction n generalizing s with
  | zero => exact refl s id
  | succ n ih =>
    unfold State.lookup
    dsimp only
    split
    · exact refl s id
    · split
      · exact lookEnd s id
      · split
        · exact lookEnd s id
        · split
          · exact (askUnit ..).trans (askUnit ..)
          · have hcount := add s id F.SKN_PFX_LOOKUPS_LOOKUPS 1
            split
            · exact hcount.trans (lookEnd ..)
            · refine hcount.trans ((setSk _ ?_).trans (ih _))
              have hunits := congrArg Skein.units
                (sk_of_skeins (congrArg Reed.skeins (s.reed_add F.SKN_PFX_LOOKUPS_LOOKUPS 1 0)) id)
              exact hunits.symm

end LookupMoves

theorem lookup_off {s : State} {id : Nat} (h : (s.sk id).pfxLook = false) (n : Nat) : s.lookup id n = s := by
  cases n with
  | zero => rfl
  | succ n => exact if_pos h

/-! ### A prompt unit that arrives (R251) -/

section
variable {s : State} {id u : Nat}

/-- The tokens of a prompt unit as it is stored. -/
def Skein.unitTokens (k : Skein) (u : Nat) (toks : List Nat) : List Nat := (toks.take (k.unitBytes u / 4)).map fun t => t % 2 ^ 18

/-- An entry with a prompt unit stored that was asked for. -/
def Skein.withUnit (k : Skein) (u : Nat) (ts : List Nat) : Skein :=
  { k with unitsAsked := k.unitsAsked.filter (fun x => decide (x ≠ u)), units := smSet [] u ts k.units }

/-- The unit stored. -/
def State.unitStored (s : State) (id u : Nat) (toks : List Nat) : State :=
  s.setSk id ((s.sk id).withUnit u ((s.sk id).unitTokens u toks))

theorem unitStored_entry (s : State) (id u : Nat) (toks : List Nat) :
    EntryPut s (s.unitStored id u toks) id ((s.sk id).withUnit u ((s.sk id).unitTokens u toks)) := entryPut_setSk ..

/-- Every token of a unit lies in the vocabulary. -/
def State.tokensGood (s : State) (ts : List Nat) : Prop := ∀ x ∈ ts, x < Config.vocabSize s.pat.serial

theorem tokensBad_iff (s : State) (ts : List Nat) :
    ts.any (fun t => decide (Config.vocabSize s.pat.serial ≤ t)) = true ↔ ¬ s.tokensGood ts := by
  simp [State.tokensGood]

theorem promptUnit_unasked (h : u ∉ (s.sk id).unitsAsked) (toks : List Nat) : s.promptUnit id u toks = s := if_neg h

variable (h : u ∈ (s.sk id).unitsAsked) {toks : List Nat}
include h

theorem promptUnit_good (hgood : s.tokensGood ((s.sk id).unitTokens u toks)) :
    s.promptUnit id u toks = (s.unitStored id u toks).lookup id (((s.sk id).unitTokens u toks).length / 64 + 4) :=
  (if_pos h).trans (if_neg fun hbad => (tokensBad_iff s _).mp hbad hgood)

theorem promptUnit_bad (hbad : ¬ s.tokensGood ((s.sk id).unitTokens u toks)) : s.promptUnit id u toks =
    if (s.sk id).live then (s.unitStored id u toks).drainSk id 5 else s.unitStored id u toks :=
  (if_pos h).trans (if_pos ((tokensBad_iff s _).mpr hbad))

/-- A bad token ends the skein with BAD_TOKEN (R245). -/
theorem promptUnit_ends (hbad : ¬ s.tokensGood ((s.sk id).unitTokens u toks)) (hlive : (s.sk id).live) :
    EntryPut s (s.promptUnit id u toks) id
      ((((s.sk id).withUnit u ((s.sk id).unitTokens u toks)).drained 5).settled (s.outOfRing id)) := by
  have hput := unitStored_entry s id u toks
  have hdrain := drainSk_entry (s.unitStored id u toks) id 5
  rw [hput.entry] at hdrain
  rw [promptUnit_bad h hbad, if_pos hlive]
  exact hput.trans hdrain

/-- Whatever its tokens, a unit that was asked for is stored. -/
theorem promptUnit_stores : let t := s.promptUnit id u toks
    smGet [] u (t.sk id).units = (s.sk id).unitTokens u toks ∧ (∀ j, j ≠ id → t.sk j = s.sk j) ∧ t.reed.lanes = s.reed.lanes ∧
      t.tiles = s.tiles ∧ t.spool = s.spool := by
  have hput := unitStored_entry s id u toks
  have hunit : smGet [] u ((s.sk id).withUnit u ((s.sk id).unitTokens u toks)).units = (s.sk id).unitTokens u toks := smGet_smSet_same ..
  by_cases hgood : s.tokensGood ((s.sk id).unitTokens u toks)
  · have hlook := LookupMoves.lookup (s.unitStored id u toks) id (((s.sk id).unitTokens u toks).length / 64 + 4)
    obtain ⟨k, hput', hk⟩ := hlook.entry
    rw [hput.entry] at hk
    rw [promptUnit_good h hgood]
    obtain ⟨hentry, hothers⟩ := hput.trans hput'
    exact ⟨by rw [hentry, hk, hunit], hothers, hlook.lanes, hlook.tiles, hlook.spool⟩
  · by_cases hlive : (s.sk id).live
    · have hends := promptUnit_ends h hgood hlive
      obtain ⟨-, -, -, hunits⟩ := settled_drained ((s.sk id).withUnit u ((s.sk id).unitTokens u toks)) 5 (s.outOfRing id)
      have hmove := entriesMove_drainSk (s.unitStored id u toks) id 5
      dsimp only
      rw [hends.entry, hunits, hunit]
      refine ⟨rfl, hends.others, ?_⟩
      rw [promptUnit_bad h hgood, if_pos hlive]
      exact ⟨hmove.lanes, hmove.reedReach.tiles, hmove.spool⟩
    · rw [promptUnit_bad h hgood, if_neg hlive]
      dsimp only
      rw [hput.entry, hunit]
      exact ⟨rfl, hput.others, rfl, rfl, rfl⟩

/-- Without a lookup a unit of good tokens is stored, and nothing else differs. -/
theorem promptUnit_alone (hgood : s.tokensGood ((s.sk id).unitTokens u toks)) (hlook : (s.sk id).pfxLook = false) :
    s.promptUnit id u toks = s.unitStored id u toks := by
  rw [promptUnit_good h hgood]
  refine lookup_off ?_ _
  rw [(unitStored_entry s id u toks).entry]
  exact hlook

end

/-! ### Deadlines (R253) -/

/-- An entry whose deadline has been looked at in a pick. -/
def Skein.checked (k : Skein) (pick : Nat) : Skein := { k with missed := k.missed || later pick k.deadline }

theorem checked_checked (k : Skein) (pick : Nat) : (k.checked pick).checked pick = k.checked pick := by
  simp [Skein.checked]

section
variable (s : State)

theorem missSk_entry (id : Nat) : EntryPut s (s.missSk id) id ((s.sk id).checked s.pm.pick) := by
  unfold State.missSk Skein.checked
  dsimp only
  split
  · next h =>
    obtain ⟨hmissed, hlater⟩ := h
    rw [hmissed, hlater]
    exact (entryPut_setSk s id { s.sk id with missed := true }).before (congrArg Reed.skeins ((State.reed_add ..).trans (reed_event ..)))
  · next h =>
    have hstands : ((s.sk id).missed || later s.pm.pick (s.sk id).deadline) = (s.sk id).missed := by
      cases hm : (s.sk id).missed
      · simpa [hm] using h
      · rfl
    rw [hstands]
    exact ⟨rfl, fun _ _ => rfl⟩

/-- The deadlines of a list of skeins looked at, once or more. -/
theorem foldl_missSk_sk (l : List Nat) (j : Nat) : (l.foldl State.missSk s).sk j = if j ∈ l then (s.sk j).checked s.pm.pick else s.sk j := by
  induction l generalizing s with
  | nil => rfl
  | cons i l ih =>
    have hput := missSk_entry s i
    have hpm := (entriesMove_missSk s i).reedReach.pm
    rw [List.foldl_cons, ih (s.missSk i), hpm]
    by_cases hj : j = i
    · subst hj
      simp [hput.entry, checked_checked]
    · simp [hput.others j hj, hj]

theorem lanes_foldl_missSk (l : List Nat) : (l.foldl State.missSk s).reed.lanes = s.reed.lanes :=
  l.foldlRecOn State.missSk (motive := fun u => u.reed.lanes = s.reed.lanes) rfl fun u hu i _ => (entriesMove_missSk u i).lanes.trans hu

end

/-- Under distinct keys a listed value is what its key reads as. -/
theorem smGet_of_mem {α : Type} (d : α) {k : Nat} {v : α} {m : SMap α} (hd : (m.map Prod.fst).Nodup) (h : (k, v) ∈ m) : smGet d k m = v := by
  induction m with
  | nil => exact absurd h List.not_mem_nil
  | cons q m ih =>
    obtain ⟨j, w⟩ := q
    obtain ⟨hj, hd⟩ := List.nodup_cons.mp hd
    rcases List.mem_cons.mp h with heq | h
    · cases heq
      exact if_pos rfl
    · have hjk : j ≠ k := fun he => hj (List.mem_map.mpr ⟨_, h, he.symm⟩)
      exact (if_neg hjk).trans (ih hd h)

/-- Under distinct keys the skeins in some state are those whose entry stands in it. -/
theorem mem_skeinsIn_iff {s : State} (hd : (s.reed.skeins.map Prod.fst).Nodup) {p : Nat → Bool} (hp : p Skein.empty.state = false) (j : Nat) :
    j ∈ s.skeinsIn p ↔ p (s.sk j).state = true := by
  unfold State.skeinsIn
  simp only [List.mem_map, List.mem_filter]
  refine ⟨fun h => ?_, fun h => ⟨(j, s.sk j), ⟨mem_of_smGet_ne fun he => ?_, h⟩, rfl⟩⟩
  · obtain ⟨⟨i, k⟩, ⟨hmem, hk⟩, rfl⟩ := h
    rwa [State.sk, smGet_of_mem _ hd hmem]
  · rw [State.sk, he, hp] at h
    exact absurd h Bool.false_ne_true

theorem deadlines_sk {s : State} (hd : (s.reed.skeins.map Prod.fst).Nodup) (j : Nat) : s.deadlines.sk j =
    { s.sk j with missed := (s.sk j).missed ||
        ((decide ((s.sk j).state = 1) || decide ((s.sk j).state = 4)) && later s.pm.pick (s.sk j).deadline) } := by
  have hmem := mem_skeinsIn_iff hd (p := fun st => decide (st = 1) || decide (st = 4)) (by decide) j
  refine (foldl_missSk_sk s _ j).trans ?_
  cases hin : decide ((s.sk j).state = 1) || decide ((s.sk j).state = 4)
  · rw [if_neg (by rw [hmem, hin]; decide), Bool.false_and, Bool.or_false]
  · rw [if_pos (hmem.mpr hin), Bool.true_and]
    rfl

end Sys2Proof.Machine

open Sys2Proof Sys2Proof.Machine

/-- Settles O30: a prompt unit by `promptUnit_stores`, `promptUnit_alone` and `promptUnit_ends`, and a check of deadlines by `deadlines_sk`. -/
theorem fetchesAndDeadlines : Obligations.FetchesAndDeadlines := by
  unfold Obligations.FetchesAndDeadlines
  intro s id
  dsimp only
  refine ⟨fun u toks => ?units, fun count => ⟨fun h => congrArg Host.Outcome.next (if_pos h), fun h => ?counted⟩,
    fun hd => ⟨_, rfl, deadlines_sk hd, lanes_foldl_missSk ..⟩⟩
  case units =>
    have hexec : exec (.promptUnitArrival id u toks) s = .next (s.promptUnit id.toNat u (toks.map BitVec.toNat)) := rfl
    refine ⟨fun h => hexec.trans (congrArg _ (promptUnit_unasked h _)), fun h => ⟨_, hexec, promptUnit_stores h⟩,
      fun h hgood hlook => ?_, fun h hbad h1 h4 => ?_⟩
    · obtain ⟨hentry, hothers⟩ := unitStored_entry s id.toNat u (toks.map BitVec.toNat)
      exact ⟨_, hexec.trans (congrArg _ (promptUnit_alone h hgood hlook)), hentry, hothers, rfl⟩
    · obtain ⟨x, hx, hvocab⟩ := hbad
      obtain ⟨hentry, hothers⟩ := promptUnit_ends h (fun hgood => Nat.not_lt.mpr hvocab (hgood x hx)) ⟨h1, h4⟩
      obtain ⟨hreason, hstate, -⟩ := settled_drained ((s.sk id.toNat).withUnit u ((s.sk id.toNat).unitTokens u (toks.map BitVec.toNat))) 5
        (s.outOfRing id.toNat)
      exact ⟨_, hexec, hentry ▸ hreason, hentry ▸ hstate, hothers⟩
  case counted =>
    obtain ⟨hentry, hothers⟩ := entryPut_setSk s id.toNat { s.sk id.toNat with ringRd := count.toNat % 2 ^ 20 }
    exact ⟨_, congrArg Host.Outcome.next (if_neg h), hentry, hothers, rfl⟩

end

section
/-!
PROOFS. The registers of SKN_ (R259, R270, R273, R275): counts cleared, an entry latched, a sampler word for the next strobe, and the count of
commits read.
-/
namespace Sys2Proof.Machine

section
variable (s : State)

/-! ### The sentinel's check leaves the reed alone (R535, R538, R539) -/

theorem reed_sntCapture (id crc : Nat) (write : Bool) : (s.sntCapture id crc write).reed = s.reed := by
  unfold State.sntCapture
  split <;> simp

theorem reed_sntReport (id crc : Nat) (write : Bool) : (s.sntReport id crc write).reed = s.reed := by
  simp [State.sntReport, reed_sntCapture]

theorem reed_withSnt (x : Sentinel) : ({ s with snt := x } : State).reed = s.reed := rfl

theorem reed_sntRestart (id : Nat) : (s.sntRestart id).reed = s.reed := by
  unfold State.sntRestart
  dsimp only
  split
  · rfl
  · split
    · exact (reed_withSnt ..).trans (by simp)
    · exact (reed_withSnt ..).trans (State.reed_add ..)

theorem reed_sntWrite (id off : Nat) : (s.sntWrite id off).reed = s.reed := by
  unfold State.sntWrite
  dsimp only
  split
  · rw [reed_sntReport, reed_sntRestart]
  · exact reed_sntRestart ..

/-! ### Counts, the latched entry and the sampler table -/

theorem sknClr_counts {f : Fld} (hf : f.reg % 2 ^ 26 ∈ sknCountRegs ∧ fldOf f (regReset f.reg) = 0) : s.sknClr.get f = 0 := by
  obtain ⟨hreg, hreset⟩ := hf
  unfold State.get bankGet
  rw [rkey_zero]
  refine (congrArg (fldOf f) ?_).trans hreset
  exact (bankReg_bankClear sknCountRegs f.reg s.bank).trans (if_pos hreg)

/-- The selector that SKN_ENT_SEL takes from a written word. -/
def State.selShown (s : State) (v : Word) : State := (s.set F.SKN_ENT_SEL_WORD (bitsOf v.toNat 16 4)).set F.SKN_ENT_SEL_ID (bitsOf v.toNat 0 12)

theorem selShown_effect (v : Word) : let t := s.selShown v
    onlyRegs s t [R.SKN_ENT_SEL] ∧ t.get F.SKN_ENT_SEL_ID = v.toNat % 4096 ∧ t.get F.SKN_ENT_SEL_WORD = v.toNat / 65536 % 16 := by
  have hid : bitsOf v.toNat 0 12 = v.toNat % 4096 := rfl
  have hword : bitsOf v.toNat 16 4 = v.toNat / 65536 % 16 := congrArg (· % 16) (Nat.shiftRight_eq_div_pow v.toNat 16)
  refine ⟨onlyRegs_trans (onlyRegs_set s F.SKN_ENT_SEL_WORD _ 0 (by decide)) (onlyRegs_set _ F.SKN_ENT_SEL_ID _ 0 (by decide)), ?_, ?_⟩
  · rw [State.selShown, State.get_set_same _ _ _ _ (by decide), hid]
    exact Nat.mod_mod ..
  · rw [State.selShown, get_set_apart _ (by decide), State.get_set_same _ _ _ _ (by decide), hword]
    exact Nat.mod_mod ..

/-- An entry latched after registers were written. -/
def State.latched (s u : State) (entry : List Nat) : State := { u with reed := { s.reed with entry := entry } }

theorem latched_effect {s u : State} {ks : List Nat} (h : onlyRegs s u ks) (entry : List Nat) : let t := s.latched u entry
    t.reed = { s.reed with entry := entry } ∧ onlyRegs { s with reed := t.reed } t ks ∧ ∀ f, t.get f = u.get f := by
  obtain ⟨honly, hregs⟩ := h
  refine ⟨rfl, ⟨?_, hregs⟩, fun _ => rfl⟩
  unfold onlyBank State.latched at *
  rw [honly]

theorem entSel_eq (v : Word) : s.entSel v = s.latched (s.selShown v) (s.entryWords (v.toNat % 4096)) := by
  have hreed : (s.selShown v).reed = s.reed := by rw [State.selShown, State.reed_set, State.reed_set]
  have hentry : bitsOf v.toNat 0 12 = v.toNat % 4096 := rfl
  have heq : s.entSel v = { s.selShown v with reed := { (s.selShown v).reed with entry := s.entryWords (bitsOf v.toNat 0 12) } } := rfl
  rw [heq, hreed, hentry]
  rfl

/-- The selector written, and the entry that it names latched (R273). -/
theorem entSel_effect (v : Word) : let t := s.entSel v
    t.reed = { s.reed with entry := s.entryWords (v.toNat % 4096) } ∧ onlyRegs { s with reed := t.reed } t [R.SKN_ENT_SEL] ∧
      t.get F.SKN_ENT_SEL_ID = v.toNat % 4096 ∧ t.get F.SKN_ENT_SEL_WORD = v.toNat / 65536 % 16 := by
  obtain ⟨hregs, hid, hword⟩ := selShown_effect s v
  obtain ⟨hreed, honly, hget⟩ := latched_effect hregs (s.entryWords (v.toNat % 4096))
  rw [entSel_eq]
  exact ⟨hreed, honly, (hget _).trans hid, (hget _).trans hword⟩

theorem latchCommits_effect : let t := s.latchCommits
    t = { s with latch := t.latch } ∧ smGet none R.SKN_COMMITS_HI t.latch = some (BitVec.ofNat 32 (s.reed.commits / 2 ^ 32)) ∧
      ∀ k, k ≠ R.SKN_COMMITS_HI → smGet none k t.latch = smGet none k s.latch := by
  unfold State.latchCommits
  dsimp only
  exact ⟨rfl, smGet_smSet_same .., fun k hk => smGet_smSet_other none none hk _ s.latch⟩

/-- The word that SKN_SAMP_ADDR names (R259, R275). -/
def State.sampPlace (s : State) : Nat := 4 * s.get F.SKN_SAMP_ADDR_ENTRY + s.get F.SKN_SAMP_ADDR_WORD

theorem sampWrite_zero (h : s.get F.SKN_SAMP_ADDR_ENTRY = 0) (v : Word) : s.sampWrite v = s := if_pos h

theorem reed_sampWrite (h : s.get F.SKN_SAMP_ADDR_ENTRY ≠ 0) (v : Word) :
    (s.sampWrite v).reed = { s.reed with samplerNext := smSet none s.sampPlace (some v) s.reed.samplerNext } := by
  unfold State.sampWrite
  dsimp only
  rw [if_neg h]
  split
  · rfl
  · rw [reed_sntWrite]
    rfl

/-- The word named takes its value for the next strobe, and no other word does. -/
theorem sampWrite_effect (h : s.get F.SKN_SAMP_ADDR_ENTRY ≠ 0) (v : Word) : let r := (s.sampWrite v).reed
    smGet none s.sampPlace r.samplerNext = some v ∧ r.sampler = s.reed.sampler ∧ r.skeins = s.reed.skeins ∧
      ∀ x, x ≠ s.sampPlace → smGet none x r.samplerNext = smGet none x s.reed.samplerNext := by
  rw [reed_sampWrite s h v]
  dsimp only
  exact ⟨smGet_smSet_same .., rfl, rfl, fun x hx => smGet_smSet_other _ _ hx _ _⟩

/-- The counts of R275 cleared, and nothing else. -/
theorem sknClr_effect : let t := s.sknClr
    t.reed = { s.reed with commits := 0 } ∧ t = { s with bank := t.bank, reed := t.reed } ∧
      ∀ k, k % 2 ^ 26 ∉ sknCountRegs → bankReg k t.bank = bankReg k s.bank :=
  ⟨rfl, rfl, fun k hk => (bankReg_bankClear sknCountRegs k s.bank).trans (if_neg hk)⟩

end

end Sys2Proof.Machine

open Sys2Proof Sys2Proof.Machine

/-- Settles O33: the counts by `sknClr_counts`, the latch by `entSel_effect`, and the sampler word by `sampWrite_effect`. -/
theorem skeinRegisters : Obligations.SkeinRegisters := by
  unfold Obligations.SkeinRegisters
  intro s
  dsimp only
  refine ⟨?cleared, fun v => ⟨_, rfl, entSel_effect s v⟩,
    fun v => ⟨fun h => congrArg Host.Outcome.next (sampWrite_zero s h v), fun h => ⟨_, rfl, sampWrite_effect s h v⟩⟩,
    ⟨_, rfl, latchCommits_effect s⟩⟩
  obtain ⟨hreed, hrest, hregs⟩ := sknClr_effect s
  exact ⟨s.sknClr, rfl, hreed, hrest, hregs, sknClr_counts s (by decide), sknClr_counts s (by decide), sknClr_counts s (by decide),
    sknClr_counts s (by decide), sknClr_counts s (by decide), sknClr_counts s (by decide), sknClr_counts s (by decide)⟩

end

section
/-!
SUPPORT. The operations of the weight store (08_weight_store.md): what the start, the result and the end of an NVW_OP operation show and leave
alone (R307 to R309), and how far a fetch from the LWS reaches (R282, R405).
-/
namespace Sys2Proof.Machine

/-! ### Registers by address -/

/-- Registers at other addresses than those of the list read the same, at any index. -/
def WritesOnly (as : List Nat) (s t : State) : Prop := ∀ k, k % 2 ^ 26 ∉ as → bankReg k t.bank = bankReg k s.bank

namespace WritesOnly
variable {as cs : List Nat} {s t u : State}

theorem of_bank (h : t.bank = s.bank) : WritesOnly as s t := fun k _ => by rw [h]

theorem trans (h : WritesOnly as s t) (h' : WritesOnly as t u) : WritesOnly as s u := fun k hk => (h' k hk).trans (h k hk)

theorem set (h : WritesOnly as s t) {f : Fld} (hf : f.reg % 2 ^ 26 ∈ as) (v i : Nat) : WritesOnly as s (t.set f v i) :=
  h.trans fun k hk => (congrArg (bankReg k) (t.bank_set f v i)).trans
    (bankReg_bankSet_other f i v (fun he => hk (by rwa [he, rkey_mod])) t.bank)

theorem get (h : WritesOnly as s t) {f : Fld} (hf : f.reg % 2 ^ 26 ∉ as) (i : Nat) : t.get f i = s.get f i :=
  congrArg (fldOf f) (h _ (by rwa [rkey_mod]))

theorem foldl {α : Type} {f : State → α → State} (l : List α) (h : ∀ u, ∀ x ∈ l, WritesOnly as u (f u x)) (s : State) :
    WritesOnly as s (l.foldl f s) :=
  l.foldlRecOn f (motive := WritesOnly as s) (fun _ _ => rfl) fun u hu x hx => hu.trans (h u x hx)

end WritesOnly

theorem get_lt (s : State) (f : Fld) (i : Nat) : s.get f i < 2 ^ f.w := bitsOf_lt ..

/-! ### The result of an operation (R308, R309) -/

section
variable (s : State) {code tile : Nat}

/-- A field that a result leaves alone. -/
abbrev besideResult (g : Fld) : Prop := fldsApart F.NVW_OP_STAT_RESULT g ∧ fldsApart F.NVW_OP_INFO_TILE g

theorem onlyRegs_opResult : onlyRegs s (s.opResult code tile) [R.NVW_OP_STAT, R.NVW_OP_INFO] :=
  onlyRegs_trans (onlyRegs_set s _ _ _ (by decide)) (onlyRegs_set _ _ _ _ (by decide))

@[simp] theorem tiles_opResult : (s.opResult code tile).tiles = s.tiles := by simp only [State.opResult, State.tiles_set]
@[simp] theorem nvw_opResult : (s.opResult code tile).nvw = s.nvw := by simp only [State.opResult, State.nvw_set]
@[simp] theorem host_opResult : (s.opResult code tile).host = s.host := by simp only [State.opResult, State.host_set]
@[simp] theorem pm_opResult : (s.opResult code tile).pm = s.pm := by simp only [State.opResult, State.pm_set]

theorem result_opResult (h : code < 16) : (s.opResult code tile).get F.NVW_OP_STAT_RESULT = code := by
  unfold State.opResult
  rw [get_set_apart _ (by decide), State.get_set_same _ _ _ _ (by decide)]
  exact Nat.mod_eq_of_lt h

theorem shownTile_opResult (h : tile < 2 ^ 19) : (s.opResult code tile).get F.NVW_OP_INFO_TILE = tile := by
  unfold State.opResult
  rw [State.get_set_same _ _ _ _ (by decide)]
  exact Nat.mod_eq_of_lt h

theorem get_opResult {g : Fld} (h : besideResult g) : (s.opResult code tile).get g = s.get g :=
  (get_set_apart _ h.2 _).trans (get_set_apart _ h.1 _)

theorem onlyRegs_opWrite (op target : Nat) : onlyRegs s (s.opWrite op target) [R.NVW_OP] :=
  onlyRegs_trans (onlyRegs_set s _ _ _ (by decide)) (onlyRegs_set _ _ _ _ (by decide))

@[simp] theorem tiles_opWrite (op target : Nat) : (s.opWrite op target).tiles = s.tiles := by simp only [State.opWrite, State.tiles_set]
@[simp] theorem nvw_opWrite (op target : Nat) : (s.opWrite op target).nvw = s.nvw := by simp only [State.opWrite, State.nvw_set]
@[simp] theorem host_opWrite (op target : Nat) : (s.opWrite op target).host = s.host := by simp only [State.opWrite, State.host_set]
@[simp] theorem pm_opWrite (op target : Nat) : (s.opWrite op target).pm = s.pm := by simp only [State.opWrite, State.pm_set]

theorem get_opWrite (op target : Nat) {g : Fld} (h : g.reg ≠ R.NVW_OP) : (s.opWrite op target).get g = s.get g :=
  get_eq_of_sameRegs (onlyRegs_opWrite s op target).2 (by rwa [List.mem_singleton])

/-- A command that is refused writes NVW_OP and shows why, and does nothing else (R309). -/
theorem answers_opRefused {s : State} {c : Instr} {op target : Nat} (tile : Nat) (he : exec c s = .next ((s.opWrite op target).opResult code tile))
    (h : code < 16) : answers c s fun t => t.get F.NVW_OP_STAT_RESULT = code ∧ onlyRegs s t [R.NVW_OP, R.NVW_OP_STAT, R.NVW_OP_INFO] :=
  ⟨_, he, result_opResult _ h, onlyRegs_trans (onlyRegs_mono (onlyRegs_opWrite s op target) (by decide))
    (onlyRegs_mono (onlyRegs_opResult _) (by decide))⟩

/-! ### The start and the end of an operation (R309) -/

@[simp] theorem tiles_opStart (op : Nat) : (s.opStart op).tiles = s.tiles := by simp only [State.opStart, tiles_opResult, State.tiles_set]
@[simp] theorem nvw_opStart (op : Nat) : (s.opStart op).nvw = { s.nvw with op := op } := by
  simp only [State.opStart, nvw_opResult, State.nvw_set]
@[simp] theorem host_opStart (op : Nat) : (s.opStart op).host = s.host := by simp only [State.opStart, host_opResult, State.host_set]
@[simp] theorem pm_opStart (op : Nat) : (s.opStart op).pm = s.pm := by simp only [State.opStart, pm_opResult, State.pm_set]
@[simp] theorem tiles_opEnd : (s.opEnd code tile).tiles = s.tiles := by
  simp only [State.opEnd, tiles_opResult, State.tiles_set, State.fetchDrop]
@[simp] theorem nvw_opEnd : (s.opEnd code tile).nvw = { s.nvw with op := 0, fetch := none, jobs := [], backlog := [] } := by
  simp only [State.opEnd, nvw_opResult, State.nvw_set, State.fetchDrop]
@[simp] theorem pm_opEnd : (s.opEnd code tile).pm = s.pm := by simp only [State.opEnd, pm_opResult, State.pm_set, State.fetchDrop]

theorem opStart_shows (op : Nat) : let t := s.opStart op
    t.get F.NVW_STATUS_OP_BUSY = 1 ∧ t.get F.NVW_OP_STAT_RESULT = 1 ∧ t.get F.NVW_OP_STAT_DONE = 0 := by
  unfold State.opStart
  refine ⟨?_, result_opResult _ (by decide), ?_⟩
  · rw [get_opResult _ (by decide), get_set_apart _ (by decide), get_one (by decide)]
  · rw [get_opResult _ (by decide), State.get_set_same _ _ _ _ (by decide)]
    rfl

theorem get_opStart (op : Nat) {g : Fld} (hb : fldsApart F.NVW_STATUS_OP_BUSY g) (hd : fldsApart F.NVW_OP_STAT_DONE g) (hr : besideResult g) :
    (s.opStart op).get g = s.get g :=
  (get_opResult _ hr).trans ((get_set_apart _ hd _).trans (get_set_apart _ hb _))

/-- The operation has ended: none runs, nothing is fetched, and its result is shown with the tile concerned. -/
theorem opEnd_ends (hc : code < 16) (ht : tile < 2 ^ 19) : let t := s.opEnd code tile
    t.nvw.op = 0 ∧ t.nvw.fetch = none ∧ t.get F.NVW_STATUS_OP_BUSY = 0 ∧ t.get F.NVW_OP_STAT_RESULT = code ∧ t.get F.NVW_OP_INFO_TILE = tile := by
  unfold State.opEnd
  refine ⟨by simp [State.fetchDrop], by simp [State.fetchDrop], ?_, result_opResult _ hc, shownTile_opResult _ ht⟩
  rw [get_opResult _ (by decide), State.get_set_same _ _ _ _ (by decide)]
  rfl

theorem get_opEnd {g : Fld} (hb : fldsApart F.NVW_STATUS_OP_BUSY g) (hr : besideResult g) : (s.opEnd code tile).get g = s.get g :=
  (get_opResult _ hr).trans (get_set_apart _ hb _)

end

/-! ### Fetches from the LWS (R282, R405) -/

theorem hostOnly_hostRead (s : State) (pref addr len : Nat) (why : Purpose) : hostOnly s (s.hostRead pref addr len why) := by
  unfold State.hostRead
  dsimp only
  split
  · rfl
  · split <;> rfl

theorem hostOnly_objAsk (s : State) (kind off len : Nat) : hostOnly s (s.objAsk kind off len) := by
  unfold State.objAsk
  dsimp only
  split <;> rfl

theorem objs_objAsk (s : State) (kind off len : Nat) :
    (s.objAsk kind off len).host.objs = s.host.objs ++ [(s.host.nextTag, kind, off, len)] := by
  unfold State.objAsk
  dsimp only
  split <;> rfl

theorem hostOnly_fetchAsk (s : State) (f : Fetch) : hostOnly s (s.fetchAsk f) := by
  unfold State.fetchAsk
  split
  · rfl
  · split
    · exact hostOnly_objAsk ..
    · exact hostOnly_hostRead ..

theorem hostOnly.nvw {s t : State} (h : hostOnly s t) : t.nvw = s.nvw := by unfold hostOnly at h; rw [h]

/-- Nothing but the fetch of the weight store, the jobs it serves and what goes to the host differs. -/
def FetchMoves (s t : State) : Prop :=
  t = { s with nvw := { s.nvw with fetch := t.nvw.fetch, stage := t.nvw.stage, jobs := t.nvw.jobs }, host := t.host, out := t.out }

namespace FetchMoves
variable {s t u : State}

theorem trans (h : FetchMoves s t) (h' : FetchMoves t u) : FetchMoves s u := by
  unfold FetchMoves at h h' ⊢
  rw [h', h]

theorem of_work (s : State) (f : Option Fetch) (stage : Nat) (jobs : List (Nat × Nat)) :
    FetchMoves s { s with nvw := { s.nvw with fetch := f, stage := stage, jobs := jobs } } := rfl

theorem of_hostOnly (h : hostOnly s t) : FetchMoves s t := by
  unfold hostOnly at h
  unfold FetchMoves
  rw [h]

theorem bank (h : FetchMoves s t) : t.bank = s.bank := by rw [h]
theorem tiles (h : FetchMoves s t) : t.tiles = s.tiles := by rw [h]
theorem tile (h : FetchMoves s t) (b : Nat) : t.tile b = s.tile b := congrArg (smGet Tile.empty b) h.tiles
theorem get (h : FetchMoves s t) (f : Fld) (i : Nat := 0) : t.get f i = s.get f i := get_of_bank h.bank f i
theorem nvw (h : FetchMoves s t) : t.nvw = { s.nvw with fetch := t.nvw.fetch, stage := t.nvw.stage, jobs := t.nvw.jobs } := by
  unfold FetchMoves at h
  rw [h]

end FetchMoves

section
variable (s : State)

theorem fetchMoves_nvwNext (f : Fetch) (stage n : Nat) : FetchMoves s (s.nvwNext f stage n) :=
  (FetchMoves.of_work ..).trans (.of_hostOnly (hostOnly_fetchAsk ..))

theorem fetchMoves_fetchFrom (stage kind key off n : Nat) : FetchMoves s (s.fetchFrom stage kind key off n) :=
  (FetchMoves.of_work ..).trans (.of_hostOnly (hostOnly_fetchAsk ..))

theorem fetchMoves_jobStart : FetchMoves s s.jobStart := by
  unfold State.jobStart
  split
  · rfl
  · split
    · exact fetchMoves_fetchFrom ..
    · split
      · rfl
      · split <;> exact fetchMoves_fetchFrom ..

theorem fetchMoves_jobsPut (l : List (Nat × Nat)) : FetchMoves s (s.jobsPut l) := (FetchMoves.of_work ..).trans (fetchMoves_jobStart _)

end

end Sys2Proof.Machine
end

section
/-!
SUPPORT. Power domains of the regions switched off (R439, R465): which registers that writes, and that the weight store's own state stays.
-/
namespace Sys2Proof.Machine

/-- The registers that switching off VL, VA or VS of a region writes (R175, R182, R439, R459). -/
abbrev darkRegs : List Nat := [R.VPA_DOM_STAT, R.WFT_SWATCH_STAT, R.WFT_STATUS, R.CLK_PLL_STAT, R.WRP_EP_STAT]

/-- The weight store's own state and every register outside `darkRegs` stand. -/
structure DomsMove (s t : State) : Prop where
  nvw : t.nvw = s.nvw
  regs : WritesOnly darkRegs s t

namespace DomsMove
variable {s t u : State}

theorem refl (s : State) : DomsMove s s := ⟨rfl, .of_bank rfl⟩

theorem trans (h : DomsMove s t) (h' : DomsMove t u) : DomsMove s u := ⟨h'.nvw.trans h.nvw, h.regs.trans h'.regs⟩

theorem set (h : DomsMove s t) {f : Fld} (hf : f.reg % 2 ^ 26 ∈ darkRegs) (v i : Nat) : DomsMove s (t.set f v i) :=
  ⟨(t.nvw_set f v i).trans h.nvw, h.regs.set hf v i⟩

theorem foldl {α : Type} {f : State → α → State} (hf : ∀ u x, DomsMove u (f u x)) (l : List α) (s : State) : DomsMove s (l.foldl f s) :=
  l.foldlRecOn f (refl s) fun u hu x _ => hu.trans (hf u x)

theorem get (h : DomsMove s t) {f : Fld} (hf : f.reg % 2 ^ 26 ∉ darkRegs) (i : Nat := 0) : t.get f i = s.get f i := h.regs.get hf i

end DomsMove

section
variable (s : State)

theorem domsMove_weftTestLost (r : Nat) : DomsMove s (s.weftTestLost r) := by
  have hweft : DomsMove s { s with weft := s.weft.swatchEnd } := ⟨rfl, .of_bank rfl⟩
  have hended : DomsMove s (s.wftSwatchEnd 7 0 none) :=
    ((hweft.set (f := F.WFT_SWATCH_STAT_RESULT) (by decide) 7 0).set (f := F.WFT_SWATCH_STAT_ERR_FLITS) (by decide) _ 0).set
      (f := F.WFT_STATUS_SWATCH_DONE) (by decide) 1 0
  unfold State.weftTestLost
  split
  · split
    · exact hended
    · exact .refl s
  · exact .refl s

theorem domsMove_fabricOff (r : Nat) : DomsMove s (s.fabricOff r) := by
  have hplls : ∀ u : State, DomsMove u (u.plls (32 + r) 0) :=
    fun u => DomsMove.foldl (fun v n => (DomsMove.refl v).set (f := F.CLK_PLL_STAT_STATE) (by decide) 0 n) _ u
  have hends : ∀ u : State, DomsMove u ((fieldsOf r).foldl (fun u f => u.set F.WRP_EP_STAT_STATE 0 f) u) :=
    fun u => DomsMove.foldl (fun v n => (DomsMove.refl v).set (by decide) 0 n) _ u
  have hoff : ∀ u : State, DomsMove u
      { u with weft := u.weft.vsOff r, clk := { u.clk with stopped := u.clk.stopped.filter fun f => decide (regionOf f ≠ r) } } :=
    fun u => ⟨rfl, .of_bank rfl⟩
  exact (domsMove_weftTestLost s r).trans ((hoff _).trans ((hplls _).trans (hends _)))

theorem domsMove_tilesOff (r : Nat) (keep : Bool) : DomsMove s (s.tilesOff r keep) := ⟨rfl, .of_bank rfl⟩

theorem domsMove_domOff {d : Nat} (hd : d < 48) (cause : Nat) : DomsMove s (s.domOff d cause) := by
  have hput : DomsMove s (s.putDom d 0 cause) := ((DomsMove.refl s).set (by decide) _ _).set (by decide) _ _
  unfold State.domOff
  split
  · exact .refl s
  · refine hput.trans ?_
    unfold State.domLost
    rw [if_pos hd]
    split
    · exact domsMove_tilesOff ..
    · split
      · exact domsMove_tilesOff ..
      · exact domsMove_fabricOff ..

theorem domsMove_domsOff {r : Nat} (hr : r < 16) : DomsMove s (s.domsOff r) :=
  ((domsMove_domOff s (by omega) 1).trans (domsMove_domOff _ (by omega) 1)).trans (domsMove_domOff _ (by omega) 1)

theorem domsMove_allVlOff : DomsMove s s.allVlOff :=
  (rangeFrom 0 16).foldlRecOn (motive := DomsMove s) _ (.refl s) fun u hu d hd =>
    hu.trans (domsMove_domOff u (by have := (mem_rangeFrom.mp hd).2; omega) 1)

end

end Sys2Proof.Machine
end

section
/-!
PROOFS. PROGRAM_ALL and VERIFY_ALL (R276 to R284, R306 to R309): the fetch of the LWI, its chunks streamed to tiles, and the sections recorded.
-/
namespace Sys2Proof.Machine

/-! ### The request (R282, R309) -/

/-- Something runs, or the pick master is not IDLE: no pass over the store begins (R309). -/
def State.storeBusy (s : State) : Prop := s.opRuns = true ∨ s.loaderRuns = true ∨ s.pickState ≠ 0

section
variable {s : State} (target : Nat)

theorem programAll_busy (h : s.storeBusy) : s.programAll target = (s.opWrite 1 target).opResult 3 0 := if_pos h

theorem programAll_badSlot (h : ¬ s.storeBusy) (hslot : s.slotState (target % 4) ≠ 2) :
    s.programAll target = (s.opWrite 1 target).opResult 15 0 := (if_neg h).trans (if_pos hslot)

/-- What PROGRAM_ALL takes out of service before it fetches: a loaded pattern, with its domains VL. -/
def State.unloaded (s : State) : State :=
  if s.get F.WRP_STATUS_LOADED = 1 then ((s.opWrite 1 target).set F.WRP_STATUS_LOADED 0).allVlOff else s.opWrite 1 target

/-- The operation begun in a slot, with its first fetch. -/
def State.programBegun (s : State) (slot : Nat) : State :=
  let u := (s.set F.NVW_STATUS_PROGRAMMED 0).opStart 1
  { u with nvw := { u.nvw with slot := slot, fetch := some ⟨1, 1, 0, 0, 512, []⟩, stage := 0, chunk := 0, retried := false, secs := [] } }

theorem programAll_begins (h : ¬ s.storeBusy) (hslot : s.slotState (target % 4) = 2) :
    s.programAll target = ((s.unloaded target).programBegun (target % 4)).fetchAsk ⟨1, 1, 0, 0, 512, []⟩ :=
  (if_neg h).trans (if_neg (not_not.mpr hslot))

/-- A fetch from the LWS asks for its next piece there. -/
theorem fetchAsk_lws (s : State) {f : Fetch} (hw : f.want ≠ 0) (hsrc : f.src = 1) : s.fetchAsk f = s.objAsk f.kind f.off (min 4096 f.want) :=
  (if_neg hw).trans (if_pos hsrc)

theorem loaded_unloaded (s : State) : (s.unloaded target).get F.WRP_STATUS_LOADED = 0 := by
  unfold State.unloaded
  split
  · rw [(domsMove_allVlOff _).get (by decide), State.get_set_same _ _ _ _ (by decide)]
    rfl
  · next h =>
    have hlt := get_lt s F.WRP_STATUS_LOADED 0
    rw [get_opWrite _ _ _ (by decide)]
    simp only [F.WRP_STATUS_LOADED] at h hlt ⊢
    omega

theorem programBegun_shows (s : State) (slot : Nat) : let t := s.programBegun slot
    t.get F.WRP_STATUS_LOADED = s.get F.WRP_STATUS_LOADED ∧ t.get F.NVW_STATUS_PROGRAMMED = 0 ∧ t.get F.NVW_STATUS_OP_BUSY = 1 ∧
      t.get F.NVW_OP_STAT_RESULT = 1 ∧ t.get F.NVW_OP_STAT_DONE = 0 := by
  obtain ⟨hbusy, hresult, hdone⟩ := opStart_shows (s.set F.NVW_STATUS_PROGRAMMED 0) 1
  have hbank : (s.programBegun slot).bank = ((s.set F.NVW_STATUS_PROGRAMMED 0).opStart 1).bank := rfl
  simp only [get_of_bank hbank]
  refine ⟨?_, ?_, hbusy, hresult, hdone⟩
  · exact (get_opStart _ _ (by decide) (by decide) (by decide)).trans (get_set_apart _ (by decide) _)
  · exact (get_opStart _ _ (by decide) (by decide) (by decide)).trans (State.get_set_same _ _ _ _ (by decide))

/-- An accepted PROGRAM_ALL: nothing is loaded or programmed any more, and the header of the LWI is asked for. -/
theorem programAll_effect (h : ¬ s.storeBusy) (hslot : s.slotState (target % 4) = 2) : let t := s.programAll target
    (t.get F.WRP_STATUS_LOADED = 0 ∧ t.get F.NVW_STATUS_PROGRAMMED = 0 ∧ t.get F.NVW_STATUS_OP_BUSY = 1 ∧ t.get F.NVW_OP_STAT_RESULT = 1 ∧
      t.get F.NVW_OP_STAT_DONE = 0) ∧
    (t.nvw.op = 1 ∧ t.nvw.slot = target % 4 ∧ t.nvw.stage = 0 ∧ t.nvw.fetch = some ⟨1, 1, 0, 0, 512, []⟩) ∧
    t.tiles = (s.unloaded target).tiles ∧ t.host.objs.length = (s.unloaded target).host.objs.length + 1 := by
  rw [programAll_begins target h hslot]
  rw [fetchAsk_lws _ (by decide) rfl]
  have hask := hostOnly_objAsk ((s.unloaded target).programBegun (target % 4)) 1 0 (min 4096 512)
  obtain ⟨hloaded, hshown⟩ := programBegun_shows (s.unloaded target) (target % 4)
  rw [loaded_unloaded] at hloaded
  simp only [get_of_bank hask.bank, hask.nvw, hask.tiles, objs_objAsk, List.length_append]
  exact ⟨⟨hloaded, hshown⟩, ⟨rfl, rfl, rfl, rfl⟩, by simp [State.programBegun], by simp [State.programBegun]⟩

theorem unloaded_of_idle (h : s.get F.WRP_STATUS_LOADED = 0) : s.unloaded target = s.opWrite 1 target := if_neg (by rw [h]; decide)

/-! ### VERIFY_ALL (R284) -/

theorem verifyAll_busy (h : s.storeBusy) (bad : Option Nat) : s.verifyAll target bad = (s.opWrite 2 target).opResult 3 0 := if_pos h

/-- The sections that do not verify: the first that the model finds, else the one reported. -/
theorem verifyAll_eq (h : ¬ s.storeBusy) (bad : Option Nat) : ∃ n, s.verifyAll target bad = match s.badSection.or bad with
    | some a => (((s.opWrite 2 target).set F.NVW_STATUS_PROGRAMMED 0).set F.NVW_STATUS_VERIFY_FAIL 1).opResult 9 a
    | none => ((s.opWrite 2 target).set F.NVW_OP_STAT_DONE n).opResult 2 0 := by
  refine ⟨(s.tiles.filter fun kv => decide (kv.2.secRows ≠ 0)).length, ?_⟩
  refine (if_neg h).trans ?_
  cases s.badSection with
  | none => rfl
  | some a => rfl

theorem verifyFailed_shows (s : State) {a : Nat} (ha : a < 2 ^ 19) :
    let t := ((s.set F.NVW_STATUS_PROGRAMMED 0).set F.NVW_STATUS_VERIFY_FAIL 1).opResult 9 a
    t.tiles = s.tiles ∧ t.get F.NVW_STATUS_PROGRAMMED = 0 ∧ t.get F.NVW_STATUS_VERIFY_FAIL = 1 ∧ t.get F.NVW_OP_STAT_RESULT = 9 ∧
      t.get F.NVW_OP_INFO_TILE = a := by
  refine ⟨by simp, ?_, ?_, result_opResult _ (by decide), shownTile_opResult _ ha⟩
  · rw [get_opResult _ (by decide), get_set_apart _ (by decide), State.get_set_same _ _ _ _ (by decide)]
    rfl
  · rw [get_opResult _ (by decide), get_one (by decide)]

theorem verifyPassed_shows (s : State) (n : Nat) : let t := (s.set F.NVW_OP_STAT_DONE n).opResult 2 0
    t.tiles = s.tiles ∧ t.get F.NVW_OP_STAT_RESULT = 2 ∧ t.get F.NVW_STATUS_PROGRAMMED = s.get F.NVW_STATUS_PROGRAMMED :=
  ⟨by simp, result_opResult _ (by decide), (get_opResult _ (by decide)).trans (get_set_apart _ (by decide) _)⟩

end

/-! ### A section's part written to its tile (R276, R281) -/

theorem smGet_secBegin (t : Tile) (y : Nat) : smGet 0 y (secBegin t).nvw = if y < 128 * 61440 then 0 else smGet 0 y t.nvw := by
  unfold secBegin
  dsimp only
  split
  · exact smGet_smClear_in _ (by omega) _
  · exact smGet_smClear_out _ (by omega) _

/-- The whole of a section from the start of its chunk: its rows, zeros above them, and the column's rest as it was. -/
theorem smGet_secPut_whole {x : Section} (hoff : x.off = 0) {bs : List Byte} (hlen : 128 * x.rows ≤ bs.length)
    (t : Tile) (y : Nat) : smGet 0 y (secPut x 0 bs t).nvw = if y < 128 * x.rows then bs.getD y 0 else if y < 128 * 61440 then 0
      else smGet 0 y t.nvw := by
  have hput : (secPut x 0 bs t).nvw = smSetBytes 0 (bs.take (128 * x.rows)) (secBegin t).nvw := by
    simp [secPut, hoff, Nat.min_eq_left hlen]
  have htake : (bs.take (128 * x.rows)).length = 128 * x.rows := List.length_take_of_le hlen
  rw [hput]
  by_cases hy : y < 128 * x.rows
  · rw [if_pos hy, smGet_smSetBytes_in _ _ _ (Nat.zero_le y) (by omega), Nat.sub_zero, List.getD_eq_getElem?_getD, List.getElem?_take_of_lt hy,
      ← List.getD_eq_getElem?_getD]
  · rw [if_neg hy, smGet_smSetBytes_out _ _ _ (by omega), smGet_secBegin]

theorem secPut_begins {x : Section} (hoff : x.off = 0) (bs : List Byte) (t : Tile) :
    (secPut x 0 bs t).programming = true ∧ (secPut x 0 bs t).secRows = 0 := by
  simp [secPut, hoff, secBegin]

/-! ### Chunks (R282) -/

section
variable {s : State} {x : Section} {c0 : Nat} {bs : List Byte}

/-- Other parts of sections wait. -/
def State.backlogged (s : State) (l : List (Section × Nat × List Byte)) : State := { s with nvw := { s.nvw with backlog := l } }

/-- The last part that waits goes to its tile as soon as that programs already or may start. -/
theorem feed_takes (hb : s.nvw.backlog = [(x, c0, bs)]) (hd : secDone x (s.tile x.tile) = false)
    (hm : (s.tile x.tile).programming = true ∨ s.mayProgram = true) :
    s.feed 1 = (s.backlogged []).setTile x.tile (secPut x c0 bs (s.tile x.tile)) := by
  simp only [State.feed, hb, hd, Bool.false_eq_true, if_false]
  exact if_pos hm

theorem feed_waits (hb : s.nvw.backlog = [(x, c0, bs)]) (hd : secDone x (s.tile x.tile) = false)
    (hm : ¬ ((s.tile x.tile).programming = true ∨ s.mayProgram = true)) : s.feed 1 = s := by
  simp only [State.feed, hb, hd, Bool.false_eq_true, if_false]
  exact if_neg hm

/-- A chunk with one section that starts in it leaves that section's part to be fed. -/
theorem streamChunk_single (hs : s.nvw.secs = [x]) (hoff : x.off = 0) (hrows : 0 < x.rows) (hlen : 128 * x.rows ≤ bs.length) :
    s.streamChunk 0 bs = (s.backlogged [(x, 0, bs)]).feed 1 := by
  have hhere : (s.nvw.secs.filter fun y => decide (y.off < 0 + bs.length) && decide (0 < y.off + 128 * y.rows)) = [x] := by
    rw [hs, List.filter_cons_of_pos]
    · rfl
    · simp only [hoff, Bool.and_eq_true, decide_eq_true_eq]
      omega
  unfold State.streamChunk
  rw [hhere]
  rfl

end

/-- Nothing but registers, the weight store's own state and what goes to the host differs. -/
def storeReach (s t : State) : Prop := t = { s with bank := t.bank, nvw := t.nvw, host := t.host, out := t.out }

theorem storeReach_trans {s t u : State} (h : storeReach s t) (h' : storeReach t u) : storeReach s u := by
  unfold storeReach at h h' ⊢
  rw [h', h]

theorem storeReach_of_onlyBank {s t : State} (h : onlyBank s t) : storeReach s t := by
  unfold onlyBank at h
  unfold storeReach
  rw [h]

theorem storeReach_opEnd (s : State) (code tile : Nat) : storeReach s (s.opEnd code tile) := by
  cases s
  rfl

theorem FetchMoves.storeReach {s t : State} (h : FetchMoves s t) : storeReach s t := by
  unfold FetchMoves at h
  unfold Machine.storeReach
  rw [h]

theorem storeReach.tiles {s t : State} (h : storeReach s t) : t.tiles = s.tiles := by
  unfold storeReach at h
  rw [h]

/-- Between chunks the operation keeps its place, the count of sections done and the highest program count. -/
structure ProgramMoves (s t : State) : Prop where
  rest : storeReach s t
  chunk : t.nvw.chunk = s.nvw.chunk ∧ t.nvw.retried = s.nvw.retried
  done : t.get F.NVW_OP_STAT_DONE = s.get F.NVW_OP_STAT_DONE
  progMax : t.get F.NVW_PROG_MAX_COUNT = s.get F.NVW_PROG_MAX_COUNT

theorem ProgramMoves.refl (s : State) : ProgramMoves s s := ⟨rfl, ⟨rfl, rfl⟩, rfl, rfl⟩

theorem ProgramMoves.tile {s t : State} (h : ProgramMoves s t) (b : Nat) : t.tile b = s.tile b := congrArg (smGet Tile.empty b) h.rest.tiles

theorem FetchMoves.programMoves {s t : State} (h : FetchMoves s t) : ProgramMoves s t := by
  refine ⟨h.storeReach, ?_, h.get _, h.get _⟩
  rw [h.nvw]
  exact ⟨rfl, rfl⟩

section
variable (s : State)

/-- The state after the digest of the LWI is shown (R282, R313). -/
def State.digestPut (s : State) : State := { s with bank := putDigest F.NVW_LWI_DIGEST_DIGEST s.lwiDigest s.bank }

theorem get_digestPut {g : Fld} (h : g.reg < R.NVW_LWI_DIGEST) : s.digestPut.get g = s.get g := by
  change bankGet g 0 (putDigest F.NVW_LWI_DIGEST_DIGEST s.lwiDigest s.bank) = bankGet g 0 s.bank
  refine (rangeFrom 0 12).foldlRecOn (motive := fun b => bankGet g 0 b = bankGet g 0 s.bank) _ rfl fun b hb n _ => ?_
  refine (bankGet_bankSet_other _ _ _ _ _ _ (.inl ?_)).trans hb
  simp only [Fld.nth, rkey_zero, R.NVW_LWI_DIGEST] at h ⊢
  omega

theorem programMoves_programEnd : ProgramMoves s s.programEnd := by
  unfold State.programEnd
  split
  · refine ⟨?_, ?_, ?_, ?_⟩
    · exact storeReach_trans (storeReach_of_onlyBank (onlyBank_trans (t := s.digestPut) rfl (onlyBank_set ..))) (storeReach_opEnd ..)
    · simp
    · exact (get_opEnd _ (by decide) (by decide)).trans ((get_set_apart _ (by decide) _).trans (get_digestPut s (by decide)))
    · exact (get_opEnd _ (by decide) (by decide)).trans ((get_set_apart _ (by decide) _).trans (get_digestPut s (by decide)))
  · exact .refl s

theorem programMoves_chunkNext : ProgramMoves s s.chunkNext := by
  unfold State.chunkNext
  split
  · exact .refl s
  · split
    · exact .refl s
    · split
      · exact (fetchMoves_nvwNext ..).programMoves
      · exact programMoves_programEnd s

theorem chunkNext_backlog (h : s.nvw.backlog ≠ []) : s.chunkNext = s := by
  unfold State.chunkNext
  split
  · rfl
  · exact if_pos (.inl h)

end

section
variable {s : State} {f : Fetch} (hf : s.nvw.fetch = some f)
include hf

/-- The chunk that the operation waits for is complete. -/
abbrev State.chunkDue (s : State) (f : Fetch) : Prop :=
  s.nvw.op = 1 ∧ s.nvw.stage = 2 ∧ f.want = 0 ∧ s.nvw.backlog = [] ∧ s.nvw.chunk < lwiChunks s.nvw.hdr

/-- Its bytes have the hash that the table of the LWI gives. -/
abbrev State.chunkGood (s : State) (f : Fetch) : Prop :=
  sha384 f.buf = sliceB s.nvw.tables (32 * lwiSections s.nvw.hdr + 48 * s.nvw.chunk) 48

theorem chunkIn_notDue (h : ¬ s.chunkDue f) : s.chunkIn = s := by
  unfold State.chunkIn
  rw [hf]
  refine if_pos ?_
  simp only [State.chunkDue, not_and_or, Nat.not_lt] at h
  exact h

/-- The chunk is taken: the operation stands at chunk `i`. -/
def State.chunkTaken (s : State) (i : Nat) : State := { s with nvw := { s.nvw with chunk := i, retried := false } }

theorem chunkIn_due (h : s.chunkDue f) : s.chunkIn =
    if s.chunkGood f then
      ((s.chunkTaken (s.nvw.chunk + 1)).streamChunk (chunkBytes * s.nvw.chunk) f.buf).chunkNext
    else if s.nvw.retried then s.opEnd 8 0
    else { s with nvw := { s.nvw with retried := true } }.nvwNext { f with off := f.off - f.buf.length } 2 f.buf.length := by
  obtain ⟨hop, hstage, hwant, hback, hlt⟩ := h
  unfold State.chunkIn
  rw [hf]
  exact if_neg (by simp [hop, hstage, hwant, hback, hlt])

theorem chunkIn_again (h : s.chunkDue f) (hg : ¬ s.chunkGood f) (hr : s.nvw.retried = false) : let t := s.chunkIn
    t.nvw.retried = true ∧ t.nvw.chunk = s.nvw.chunk ∧ t.tiles = s.tiles ∧ t.bank = s.bank := by
  rw [chunkIn_due hf h, if_neg hg, hr]
  have hmoves := fetchMoves_nvwNext { s with nvw := { s.nvw with retried := true } } { f with off := f.off - f.buf.length } 2 f.buf.length
  obtain ⟨hchunk, hretried⟩ := hmoves.programMoves.chunk
  exact ⟨hretried, hchunk, hmoves.tiles, hmoves.bank⟩

theorem chunkIn_fails (h : s.chunkDue f) (hg : ¬ s.chunkGood f) (hr : s.nvw.retried = true) : s.chunkIn = s.opEnd 8 0 := by
  rw [chunkIn_due hf h, if_neg hg, hr]
  rfl

variable {x : Section} (h : s.chunkDue f) (hg : s.chunkGood f) (hi : s.nvw.chunk = 0) (hs : s.nvw.secs = [x]) (hoff : x.off = 0)
  (hrows : 0 < x.rows) (hlen : 128 * x.rows ≤ f.buf.length)
include h hg hi hs hoff hrows hlen

/-- A chunk with one section in it is fed to that section's tile, and the next is asked for. -/
theorem chunkIn_streams : s.chunkIn = (((s.chunkTaken 1).backlogged [(x, 0, f.buf)]).feed 1).chunkNext := by
  rw [chunkIn_due hf h, if_pos hg, hi, Nat.mul_zero, streamChunk_single (s := s.chunkTaken (0 + 1)) hs hoff hrows hlen]

variable (hd : secDone x (s.tile x.tile) = false)
include hd

theorem chunkIn_takes (hm : (s.tile x.tile).programming = true ∨ s.mayProgram = true) : let t := s.chunkIn
    t.nvw.chunk = 1 ∧ t.nvw.retried = false ∧ (∀ b, b ≠ x.tile → t.tile b = s.tile b) ∧
      t.tile x.tile = secPut x 0 f.buf (s.tile x.tile) := by
  have hfeed := feed_takes (s := (s.chunkTaken 1).backlogged [(x, 0, f.buf)]) rfl hd hm
  have hmoves := programMoves_chunkNext (((s.chunkTaken 1).backlogged []).setTile x.tile (secPut x 0 f.buf (s.tile x.tile)))
  rw [chunkIn_streams hf h hg hi hs hoff hrows hlen, hfeed]
  obtain ⟨hchunk, hretried⟩ := hmoves.chunk
  refine ⟨hchunk, hretried, fun b hb => ?_, ?_⟩
  · exact (hmoves.tile b).trans (State.tile_setTile_other _ hb _)
  · exact (hmoves.tile _).trans (State.tile_setTile_same ..)

theorem chunkIn_waits (hm : ¬ ((s.tile x.tile).programming = true ∨ s.mayProgram = true)) :
    s.chunkIn = (s.chunkTaken 1).backlogged [(x, 0, f.buf)] := by
  rw [chunkIn_streams hf h hg hi hs hoff hrows hlen, feed_waits (s := (s.chunkTaken 1).backlogged [(x, 0, f.buf)]) rfl hd hm]
  exact chunkNext_backlog _ (List.cons_ne_nil _ _)

end

end Sys2Proof.Machine
end

section
/-!
PROOFS. A section written and recorded (R281, R282, R312), the counts of R306, and the clauses of ProgramAndVerify.
-/
namespace Sys2Proof.Machine

/-! ### A section recorded (R281, R312) -/

section
variable {s : State} {a : Nat}

theorem sectionDone_idle (h : (s.tile a).programming = false) (ok : Bool) : s.sectionDone a ok = s := if_pos (.inl h)

theorem sectionDone_program {x : Section} (hp : (s.tile a).programming = true) (hop : s.nvw.op = 1) (hj : s.nvw.jobs = [])
    (hx : s.nvw.secs.find? (fun y => decide (y.tile = a)) = some x) (ok : Bool) : s.sectionDone a ok = s.sectionWritten x ok := by
  unfold State.sectionDone
  rw [if_neg (by simp [hp, hj]), if_pos hop, hx]

theorem exec_sectionProgramComplete {t : TileAddr} (h : tileOk t.toNat = true) (s : State) (ok : Bool) :
    exec (.sectionProgramComplete t ok) s = .next (s.sectionDone t.toNat ok) := onTile_next h s fun _ => s.sectionDone t.toNat ok

/-- One tile put, with what the weight store may change of the rest. -/
theorem onlyTile_of_storeReach {t : State} {v : Tile} (h : storeReach (s.setTile a v) t) :
    onlyTile { s with bank := t.bank, nvw := t.nvw, host := t.host, out := t.out } t a ∧ t.tile a = v := by
  have htile : ∀ b, t.tile b = (s.setTile a v).tile b := fun b => congrArg (smGet Tile.empty b) h.tiles
  refine ⟨⟨fun b hb => (htile b).trans (s.tile_setTile_other hb v), ?_⟩, (htile a).trans (s.tile_setTile_same a v)⟩
  unfold storeReach at h
  rw [h]
  rfl

/-- The record of a section of PROGRAM_ALL: the tile's own, under its own name. -/
def State.recorded (s : State) (x : Section) : State := s.secStore x.tile x.tile x.rows (columnCrc x.rows (s.tile x.tile))

theorem storeReach_recorded (x : Section) :
    storeReach (s.setTile x.tile (secEnd x.tile x.rows (columnCrc x.rows (s.tile x.tile)) (s.tile x.tile))) (s.recorded x) :=
  storeReach_of_onlyBank (onlyBank_set ..)

theorem recorded_shows (x : Section) : (s.recorded x).get F.NVW_PROG_MAX_COUNT =
      max (s.get F.NVW_PROG_MAX_COUNT) (min 65535 ((s.tile x.tile).programs + 1)) ∧
    (s.recorded x).get F.NVW_OP_STAT_DONE = s.get F.NVW_OP_STAT_DONE := by
  have hlt := get_lt s F.NVW_PROG_MAX_COUNT 0
  unfold State.recorded State.secStore
  refine ⟨?_, (get_set_apart _ (by decide) _).trans (State.get_setTile ..)⟩
  rw [State.get_set_same _ _ _ _ (by decide)]
  exact Nat.mod_eq_of_lt (by simp only [F.NVW_PROG_MAX_COUNT] at hlt ⊢; omega)

/-- A section whose rows read back right: counted, and the operation goes on. -/
theorem sectionWritten_counts {x : Section} (hb : s.nvw.backlog = []) (hcrc : columnCrc x.rows (s.tile x.tile) = x.crc) :
    let t := s.sectionWritten x true
    storeReach (s.recorded x) t ∧ t.get F.NVW_PROG_MAX_COUNT = (s.recorded x).get F.NVW_PROG_MAX_COUNT ∧
      t.get F.NVW_OP_STAT_DONE = min (2 ^ F.NVW_OP_STAT_DONE.w - 1) ((s.recorded x).get F.NVW_OP_STAT_DONE + 1) := by
  have heq : s.sectionWritten x true = ((s.recorded x).add F.NVW_OP_STAT_DONE 1).chunkNext := by
    unfold State.sectionWritten
    rw [hb]
    exact if_pos ⟨rfl, hcrc⟩
  have hmoves := programMoves_chunkNext ((s.recorded x).add F.NVW_OP_STAT_DONE 1)
  rw [heq]
  exact ⟨storeReach_trans (storeReach_of_onlyBank (onlyBank_add ..)) hmoves.rest, hmoves.progMax.trans (get_add_apart _ (by decide) _),
    hmoves.done.trans (State.get_add_same _ _ _ _ (by decide))⟩

/-- Any other ends the operation. -/
theorem sectionWritten_fails {x : Section} {ok : Bool} (h : ¬ (ok = true ∧ columnCrc x.rows (s.tile x.tile) = x.crc)) :
    s.sectionWritten x ok = ((s.recorded x).set F.NVW_STATUS_VERIFY_FAIL 1).opEnd 9 x.tile := if_neg h

end

/-! ### The counts (R306) -/

theorem nvwClr_clears (s : State) : let t := s.nvwClr
    onlyBank s t ∧ (∀ k, k % 2 ^ 26 ≠ R.NVW_COUNTS → bankReg k t.bank = bankReg k s.bank) ∧
      t.get F.NVW_COUNTS_DARNS = 0 ∧ t.get F.NVW_COUNTS_ROTATIONS = 0 := by
  obtain ⟨hkeep, hclear⟩ := bankClear_regs (s := s) (t := s.nvwClr) (as := [R.NVW_COUNTS]) rfl
  refine ⟨rfl, fun k hk => hkeep k (by rwa [List.mem_singleton]), (hclear _ 0 (by decide)).trans ?_, (hclear _ 0 (by decide)).trans ?_⟩
  all_goals decide +kernel

end Sys2Proof.Machine

open Sys2Proof Sys2Proof.Machine

/-- Settles O34: an accepted PROGRAM_ALL by `programAll_effect`, a chunk by `chunkIn_takes` and `chunkIn_waits`, a section by
`sectionWritten_counts` and `sectionWritten_fails`. -/
theorem programAndVerify : Obligations.ProgramAndVerify := by
  unfold Obligations.ProgramAndVerify
  intro s
  dsimp only
  refine ⟨fun target => ⟨fun h => ?busy, fun h hslot => ?badSlot, fun h hslot hl => ?begins, fun h hslot _ => ?unloads,
    fun bad => ⟨fun h => ?verifyBusy, fun a h hbad ha => ?foundBad, fun h hnone => ?verified⟩⟩, fun h => ?noFetch,
    fun f hf => ⟨fun h => ?notDue, fun h hg hr => ?again, fun h hg hr => ?hashFails, fun x h hg hi hs hoff hrows hmax hlen hd =>
      ⟨fun hm => ?takes, fun hm => ?waits⟩⟩,
    fun a ok hok => ⟨fun h => ?notProgramming, fun x hp hop hj hb hx hxa => ?recorded⟩, ?aborts, ⟨s.nvwClr, rfl, nvwClr_clears s⟩⟩
  case busy => exact answers_opRefused 0 (congrArg Host.Outcome.next (programAll_busy _ h)) (by decide)
  case badSlot => exact answers_opRefused 0 (congrArg Host.Outcome.next (programAll_badSlot _ h hslot)) (by decide)
  case begins =>
    obtain ⟨⟨-, hprog, hbusy, hresult, hdone⟩, ⟨hop, hsl, hstage, hfetch⟩, htiles, hobjs⟩ := programAll_effect target.toNat h hslot
    rw [unloaded_of_idle _ hl, tiles_opWrite] at htiles
    rw [unloaded_of_idle _ hl, host_opWrite] at hobjs
    exact ⟨_, rfl, hprog, hbusy, hresult, hdone, hop, hsl, hstage, hfetch, htiles, hobjs⟩
  case unloads =>
    obtain ⟨⟨hloaded, hprog, hbusy, -⟩, ⟨hop, -⟩, -⟩ := programAll_effect target.toNat h hslot
    exact ⟨_, rfl, hloaded, hprog, hbusy, hop⟩
  case verifyBusy => exact answers_opRefused 0 (congrArg Host.Outcome.next (verifyAll_busy _ h _)) (by decide)
  case foundBad =>
    obtain ⟨n, heq⟩ := verifyAll_eq target.toNat h (bad.map BitVec.toNat)
    rw [hbad, Option.some_or] at heq
    obtain ⟨htiles, hshown⟩ := verifyFailed_shows (s.opWrite 2 target.toNat) ha
    exact ⟨_, congrArg Host.Outcome.next heq, htiles.trans (tiles_opWrite ..), hshown⟩
  case verified =>
    obtain ⟨n, heq⟩ := verifyAll_eq target.toNat h (bad.map BitVec.toNat)
    rw [hnone, Option.none_or] at heq
    cases bad with
    | none =>
      obtain ⟨htiles, hresult, hprog⟩ := verifyPassed_shows (s.opWrite 2 target.toNat) n
      exact ⟨_, congrArg Host.Outcome.next heq, htiles.trans (tiles_opWrite ..), hresult, hprog.trans (get_opWrite _ _ _ (by decide))⟩
    | some a =>
      obtain ⟨htiles, hprog, -, hresult, htile⟩ := verifyFailed_shows (s.opWrite 2 target.toNat) a.isLt
      exact ⟨_, congrArg Host.Outcome.next heq, htiles.trans (tiles_opWrite ..), hprog, hresult, htile⟩
  case noFetch =>
    refine congrArg Host.Outcome.next ?_
    unfold State.chunkIn
    rw [h]
  case notDue => exact congrArg Host.Outcome.next (chunkIn_notDue hf h)
  case again => exact ⟨_, rfl, chunkIn_again hf h hg hr⟩
  case hashFails =>
    exact ⟨_, congrArg Host.Outcome.next (chunkIn_fails hf h hg hr), opEnd_ends s (by decide) (by decide), tiles_opEnd s⟩
  case takes =>
    obtain ⟨hchunk, hretried, hothers, htile⟩ := chunkIn_takes hf h hg hi hs hoff hrows hlen hd (hm.imp_right decide_eq_true)
    obtain ⟨hprog, hsec⟩ := secPut_begins hoff f.buf (s.tile x.tile)
    refine ⟨_, rfl, hchunk, hretried, hothers, ?_⟩
    rw [htile]
    exact ⟨hprog, hsec, smGet_secPut_whole hoff hlen (s.tile x.tile)⟩
  case waits =>
    have hwait := chunkIn_waits hf h hg hi hs hoff hrows hlen hd (fun hm' => hm (hm'.imp_right of_decide_eq_true))
    exact ⟨_, congrArg Host.Outcome.next hwait, rfl, rfl, rfl, rfl⟩
  case notProgramming => exact (exec_sectionProgramComplete hok s ok).trans (congrArg Host.Outcome.next (sectionDone_idle h ok))
  case recorded =>
    have hexec : exec (.sectionProgramComplete a ok) s = .next (s.sectionWritten x ok) :=
      (exec_sectionProgramComplete hok s ok).trans (congrArg Host.Outcome.next (sectionDone_program hp hop hj hx ok))
    obtain ⟨hmax, hdone⟩ := recorded_shows (s := s) x
    have hreach := storeReach_recorded (s := s) x
    rw [hxa] at hmax hreach
    refine ⟨_, hexec, ?_⟩
    dsimp only
    by_cases hgood : ok = true ∧ columnCrc x.rows (s.tile a.toNat) = x.crc
    · obtain ⟨rfl, hcrc⟩ := hgood
      obtain ⟨hmore, hmax', hdone'⟩ := sectionWritten_counts hb (x := x) (by rwa [hxa])
      obtain ⟨honly, htile⟩ := onlyTile_of_storeReach (storeReach_trans hreach hmore)
      rw [if_pos ⟨rfl, hcrc⟩]
      exact ⟨honly, hmax'.trans hmax, htile, hdone'.trans (by rw [hdone])⟩
    · rw [sectionWritten_fails (by rwa [hxa]), if_neg hgood, hxa]
      have hends := opEnd_ends ((s.recorded x).set F.NVW_STATUS_VERIFY_FAIL 1) (code := 9) (by decide) a.isLt
      have hmore := storeReach_trans (storeReach_of_onlyBank (onlyBank_set (s.recorded x) F.NVW_STATUS_VERIFY_FAIL 1 0)) (storeReach_opEnd _ 9 a.toNat)
      obtain ⟨honly, htile⟩ := onlyTile_of_storeReach (storeReach_trans hreach hmore)
      refine ⟨honly, ?_, htile, hends, ?_⟩
      · exact (get_opEnd _ (by decide) (by decide)).trans ((get_set_apart _ (by decide) _).trans hmax)
      · exact (get_opEnd _ (by decide) (by decide)).trans (get_one (by decide) _)
  case aborts =>
    exact answers_update_if rfl Iff.rfl fun _ => ⟨opEnd_ends s (by decide) (by decide), tiles_opEnd s⟩

end

section
/-!
SUPPORT. What the weight store notes: the darn log with its copies (R289), beacon and fault records, and the segments that the sentinel takes over (R536).
-/
namespace Sys2Proof.Machine

/-- The registers that a note may write: the log counts of the slots, the sentinel's reference, and those of a fault record (R289, R536, R557). -/
abbrev noteRegs : List Nat :=
  [R.WRP_SLOT, R.WRP_SLOT + 4, R.WRP_SLOT + 8, R.WRP_SLOT + 12, R.SNT_REF, R.DMP_SUPPRESSED, R.DMP_STATUS]

/-- Nothing but the darn log with its copy in the LWS, the records, the sentinel's state and registers of `noteRegs` differs. -/
structure NoteMoves (s t : State) : Prop where
  rest : t = { s with bank := t.bank, flt := t.flt, bcn := t.bcn, snt := t.snt, out := t.out,
                      nvw := { s.nvw with log := t.nvw.log, logOut := t.nvw.logOut } }
  regs : WritesOnly noteRegs s t

namespace NoteMoves
variable {s t u : State}

theorem refl (s : State) : NoteMoves s s := ⟨rfl, .of_bank rfl⟩

theorem trans (h : NoteMoves s t) (h' : NoteMoves t u) : NoteMoves s u := by
  refine ⟨?_, h.regs.trans h'.regs⟩
  rw [h'.rest, h.rest]

theorem set (s : State) {f : Fld} (hf : f.reg % 2 ^ 26 ∈ noteRegs) (v : Nat) : NoteMoves s (s.set f v) :=
  ⟨by cases s; rfl, WritesOnly.set (.of_bank rfl) hf v 0⟩

theorem get (h : NoteMoves s t) {f : Fld} (hf : f.reg % 2 ^ 26 ∉ noteRegs) : t.get f = s.get f := h.regs.get hf 0

theorem nvw (h : NoteMoves s t) : t.nvw = { s.nvw with log := t.nvw.log, logOut := t.nvw.logOut } := congrArg State.nvw h.rest

theorem tiles (h : NoteMoves s t) : t.tiles = s.tiles := by rw [h.rest]
theorem tile (h : NoteMoves s t) (b : Nat) : t.tile b = s.tile b := congrArg (smGet Tile.empty b) h.tiles
theorem pm (h : NoteMoves s t) : t.pm = s.pm := by rw [h.rest]
theorem timeUs (h : NoteMoves s t) : t.timeUs = s.timeUs := by rw [h.rest]

end NoteMoves

section
variable (s : State)

theorem noteMoves_raise (c b k u d : Nat) : NoteMoves s (s.raise c b k u d) := by
  refine ⟨?_, fun k hk => sameRegs_raise s c b _ u d false k fun hm => hk ?_⟩
  · rw [s.raise_frame c b k u d]
  · simp only [List.mem_cons, List.not_mem_nil, or_false] at hm
    rcases hm with rfl | rfl <;> decide

theorem noteMoves_beacon (k : Nat) (d : List Byte) : NoteMoves s (s.beacon k d) := ⟨by cases s; rfl, .of_bank (s.bank_beacon k d)⟩

theorem noteMoves_emit (o : List Out) : NoteMoves s (s.emit o) := ⟨by cases s; rfl, .of_bank (s.bank_emit o)⟩

theorem noteMoves_sntOwn (ids : List Nat) : NoteMoves s (s.sntOwn ids) := by
  have hrefs : NoteMoves s { s with snt := { s.snt with refs := ids.foldl s.sntRef s.snt.refs } } := ⟨rfl, .of_bank rfl⟩
  unfold State.sntOwn
  dsimp only
  split
  · exact hrefs.trans (.set _ (by decide) _)
  · exact hrefs

/-- The log count of the active slot goes up where it was whole (R319). -/
def State.logCounted (s : State) : State :=
  if s.get (F.WRP_SLOT_LOG_COUNT.nth (s.get F.WRP_STATUS_ACTIVE_SLOT)) = s.nvw.log.length then
    s.set (F.WRP_SLOT_LOG_COUNT.nth (s.get F.WRP_STATUS_ACTIVE_SLOT)) (s.nvw.log.length + 1) else s

/-- An entry stands at the end of the log. -/
def State.logged (s : State) (e : DarnEntry) : State := { s with nvw := { s.nvw with log := s.nvw.log ++ [e] } }

theorem noteMoves_logCounted : NoteMoves s s.logCounted := by
  have hslot : s.get F.WRP_STATUS_ACTIVE_SLOT < 4 := get_lt s F.WRP_STATUS_ACTIVE_SLOT 0
  unfold State.logCounted
  generalize s.get F.WRP_STATUS_ACTIVE_SLOT = n at hslot ⊢
  split
  · refine .set s ?_ _
    interval_cases n <;> decide
  · exact .refl s

theorem nvw_logCounted : s.logCounted.nvw = s.nvw := by
  unfold State.logCounted
  split
  · exact s.nvw_set ..
  · rfl

theorem noteMoves_logged (e : DarnEntry) : NoteMoves s (s.logged e) := ⟨rfl, .of_bank rfl⟩

/-- The copy of an entry leaves for the LWS, or waits for a port (R289). -/
def State.logCopied (s : State) (e : DarnEntry) : State :=
  match (s.upPorts 2).head? with
  | some p => s.emit [.objWr p e.bytes]
  | none => { s with nvw := { s.nvw with logOut := s.nvw.logOut ++ [e.bytes] } }

theorem logCopied_effect (e : DarnEntry) : NoteMoves s (s.logCopied e) ∧ (s.logCopied e).nvw.log = s.nvw.log := by
  unfold State.logCopied
  split
  · exact ⟨noteMoves_emit .., rfl⟩
  · exact ⟨⟨rfl, .of_bank rfl⟩, rfl⟩

/-- An entry of the log: appended while the log has room, and nothing at all once it is full (R289). -/
theorem logDarn_effect (fromT toT kind cause : Nat) : let t := s.logDarn fromT toT kind cause
    NoteMoves s t ∧ (s.logFull = false → t.nvw.log = s.nvw.log ++ [⟨fromT, toT, kind, cause, s.pm.pick, s.timeUs⟩]) := by
  by_cases hfull : s.logFull = true
  · have heq : s.logDarn fromT toT kind cause = s := if_pos hfull
    rw [heq]
    exact ⟨.refl s, fun h => absurd (hfull.symm.trans h) (by decide)⟩
  · obtain ⟨e, he⟩ : ∃ e : DarnEntry, e = ⟨fromT, toT, kind, cause, s.pm.pick, s.timeUs⟩ := ⟨_, rfl⟩
    have heq : s.logDarn fromT toT kind cause = (s.logCounted.logged e).logCopied e := by
      rw [he]
      exact if_neg hfull
    obtain ⟨hcopy, hlog⟩ := logCopied_effect (s.logCounted.logged e) e
    rw [heq, ← he]
    refine ⟨(noteMoves_logCounted s).trans ((noteMoves_logged _ e).trans hcopy), fun _ => ?_⟩
    exact hlog.trans (congrArg (fun x : Nvw => x.log ++ [e]) (nvw_logCounted s))

theorem noteMoves_logDarn (fromT toT kind cause : Nat) : NoteMoves s (s.logDarn fromT toT kind cause) := (logDarn_effect s ..).1

end

end Sys2Proof.Machine
end

section
/-!
PROOFS. Darns (R289 to R296, R307, R309): the host's request, the darn tile that a request takes, its end, and the switch.
-/
namespace Sys2Proof.Machine

/-! ### The host's request (R294, R309) -/

section
variable {s : State} {a : Nat}

/-- A request of a tile already waits. -/
def State.waits (s : State) (a : Nat) : Bool := s.nvw.queue.any fun q => decide (q.tile = a)

theorem hostDarn_busy (h : s.opRuns = true ∨ (16 ≤ s.nvw.queue.length ∧ s.waits a = false)) :
    s.hostDarn a = (s.opWrite 3 a).opResult 3 0 := if_pos h

theorem hostDarn_badTile (h : ¬ (s.opRuns = true ∨ (16 ≤ s.nvw.queue.length ∧ s.waits a = false))) (hb : s.bearsRole a = false) :
    s.hostDarn a = (s.opWrite 3 a).opResult 15 a := (if_neg h).trans (if_pos hb)

theorem opRuns_iff : s.opRuns = true ↔ s.nvw.op ≠ 0 ∨ s.nvw.run.isSome = true ∨ s.nvw.rot.isSome = true ∨ s.nvw.weave.isSome = true := by
  simp [State.opRuns, State.darning, or_assoc]

/-- A request that is not urgent, while nothing runs, waits at the end of the queue (R293). -/
theorem askDarn_queues {r : DarnReq} (hg : r.group ≠ 0) (hw : s.nvw.weave = none) (hr : s.nvw.run = none)
    (hq : s.waits r.tile = false) (hlen : s.nvw.queue.length < 16) :
    s.askDarn r = { s with nvw := { s.nvw with queue := s.nvw.queue ++ [r] } } := by
  have hput : queueReq r s.nvw.queue = s.nvw.queue ++ [r] := by
    unfold queueReq
    rw [if_neg (by simpa [State.waits] using hq), if_pos hlen]
  have hurgent : s.urgentHalt r.group = s := if_neg hg
  unfold State.askDarn
  rw [if_neg (by simp [hw]), if_neg (by simp [hg])]
  simp only [hurgent, hr, hput]

/-- A request accepted: it waits as the host's own, and the operation runs. -/
theorem hostDarn_queues (h : ¬ (s.opRuns = true ∨ (16 ≤ s.nvw.queue.length ∧ s.waits a = false))) (hb : s.bearsRole a = true)
    (hq : s.waits a = false) : let t := s.hostDarn a
    t.nvw.queue = s.nvw.queue ++ [⟨a, false, 5, 2, true⟩] ∧ t.nvw.op = 3 ∧ t.get F.NVW_STATUS_OP_BUSY = 1 ∧ t.get F.NVW_OP_STAT_RESULT = 1 ∧
      t.tiles = s.tiles ∧ t.pm = s.pm := by
  obtain ⟨hruns, hroom⟩ := not_or.mp h
  obtain ⟨-, hrun, -, hweave⟩ : s.nvw.op = 0 ∧ s.nvw.run = none ∧ s.nvw.rot = none ∧ s.nvw.weave = none := by
    simpa [opRuns_iff] using hruns
  have hlen : s.nvw.queue.length < 16 := not_le.mp fun hl => hroom ⟨hl, hq⟩
  have hnvw : ((s.opWrite 3 a).opStart 3).nvw = { s.nvw with op := 3 } := by simp
  have heq : s.hostDarn a = ((s.opWrite 3 a).opStart 3).askDarn ⟨a, false, 5, 2, true⟩ := (if_neg h).trans (if_neg (by rw [hb]; decide))
  obtain ⟨hbusy, hresult, -⟩ := opStart_shows (s.opWrite 3 a) 3
  have htiles : ((s.opWrite 3 a).opStart 3).tiles = s.tiles := by simp
  have hpm : ((s.opWrite 3 a).opStart 3).pm = s.pm := by simp
  rw [heq]
  generalize (s.opWrite 3 a).opStart 3 = u at hnvw hbusy hresult htiles hpm ⊢
  have hask : u.askDarn ⟨a, false, 5, 2, true⟩ = { u with nvw := { u.nvw with queue := u.nvw.queue ++ [⟨a, false, 5, 2, true⟩] } } :=
    askDarn_queues (Nat.succ_ne_zero 1) (by rw [hnvw]; exact hweave) (by rw [hnvw]; exact hrun) (by unfold State.waits; rw [hnvw]; exact hq)
      (by rw [hnvw]; exact hlen)
  rw [hask]
  exact ⟨(congrArg (fun x : Nvw => x.queue ++ [(⟨a, false, 5, 2, true⟩ : DarnReq)]) hnvw :), congrArg Nvw.op hnvw, hbusy, hresult, htiles, hpm⟩

end

/-! ### The end of a darn (R292) -/

/-- The darn that runs is dropped from the heddle controller's state. -/
def State.runDropped (s : State) : State := { s with nvw := { s.nvw with run := none } }

theorem darnOver_eq {s : State} {d : DarnRun} (h : s.nvw.run = some d) (code : Nat) : s.darnOver code =
    if s.nvw.op = 3 ∧ d.req.host = true then s.runDropped.opEnd code (if code = 2 then 0 else d.req.tile)
    else s.runDropped.opResult code (if code = 2 then 0 else d.req.tile) := by
  unfold State.darnOver
  rw [h]
  rfl

/-- The running darn has ended with a result, and beside the operation it belonged to nothing differs. -/
theorem darnOver_effect {s : State} {d : DarnRun} (h : s.nvw.run = some d) {code : Nat} (hc : code < 16) : let t := s.darnOver code
    (t.nvw.run = none ∧ t.nvw.queue = s.nvw.queue ∧ t.nvw.log = s.nvw.log ∧ t.nvw.rot = s.nvw.rot) ∧ t.tiles = s.tiles ∧
      t.get F.NVW_OP_STAT_RESULT = code ∧ ∀ g, fldsApart F.NVW_STATUS_OP_BUSY g → besideResult g → t.get g = s.get g := by
  rw [darnOver_eq h]
  split
  · refine ⟨?_, tiles_opEnd _, result_opResult _ hc, fun g hb hr => get_opEnd _ hb hr⟩
    rw [nvw_opEnd]
    exact ⟨rfl, rfl, rfl, rfl⟩
  · refine ⟨?_, tiles_opResult _, result_opResult _ hc, fun g _ hr => get_opResult _ hr⟩
    rw [nvw_opResult]
    exact ⟨rfl, rfl, rfl, rfl⟩

/-! ### The request that starts (R292, R293, R297) -/

section
variable (s : State) (r : DarnReq)

/-- Nothing starts: a darn, a re-weave, a load or another operation runs, or no pattern is loaded. -/
def State.darnIdle (s : State) : Prop :=
  s.darning = true ∨ s.nvw.weave.isSome = true ∨ s.loaderRuns = true ∨ s.nvw.op = 1 ∨ s.get F.WRP_STATUS_LOADED = 0

/-- The request has left the queue and runs, without a darn tile yet. -/
def State.darnTaken (s : State) (r : DarnReq) : State :=
  ({ s with nvw := { s.nvw with queue := s.nvw.queue.erase r, run := some ⟨r, 0, [], false, []⟩ } }.set F.NVW_OP_STAT_DONE 0).opResult 1 0

theorem nvw_darnTaken : (s.darnTaken r).nvw = { s.nvw with queue := s.nvw.queue.erase r, run := some ⟨r, 0, [], false, []⟩ } := by
  simp only [State.darnTaken, nvw_opResult, State.nvw_set]

theorem tiles_darnTaken : (s.darnTaken r).tiles = s.tiles := by simp only [State.darnTaken, tiles_opResult, State.tiles_set]

theorem tile_darnTaken (b : Nat) : (s.darnTaken r).tile b = s.tile b := congrArg (smGet Tile.empty b) (tiles_darnTaken s r)

theorem result_darnTaken : (s.darnTaken r).get F.NVW_OP_STAT_RESULT = 1 := result_opResult _ (by decide)

theorem activeSlot_darnTaken : (s.darnTaken r).get F.WRP_STATUS_ACTIVE_SLOT = s.get F.WRP_STATUS_ACTIVE_SLOT :=
  (get_opResult _ (by decide)).trans (get_set_apart _ (by decide) _)

/-- The nearest darn tile rests on the tiles, the pattern, the active slot and what the weight store holds beside its queue. -/
theorem nearest_darnTaken (a : Nat) (tried : List Nat) : (s.darnTaken r).nearest a tried = s.nearest a tried := by
  have hidle : ∀ b, (s.darnTaken r).idleIn b = s.idleIn b := fun b => by
    unfold State.idleIn
    rw [activeSlot_darnTaken, tile_darnTaken]
    simp only [State.darnTaken, State.opResult, State.pat_set]
  have hbad : ∀ b, (s.darnTaken r).effectiveBad b = s.effectiveBad b := fun b => by
    unfold State.effectiveBad State.goodTile
    rw [nvw_darnTaken]
  have hpos : ∀ b, (s.darnTaken r).darnPosOf b = s.darnPosOf b := fun b => by
    unfold State.darnPosOf
    rw [nvw_darnTaken]
    simp only [State.darnTaken, State.opResult, State.pat_set]
  unfold State.nearest State.darnTiles
  simp only [hidle, hbad, hpos, tiles_darnTaken, tile_darnTaken, nvw_darnTaken]

variable {s r}

/-- The request that is served next starts, where it is not urgent and the device is no chain. -/
theorem darnStart_eq (hi : ¬ s.darnIdle) (hp : s.darnPick = some r) (hg : r.group ≠ 0) (hc : s.chainLen ≤ 1) : s.darnStart =
    if s.bearsRole r.tile = false then (s.darnTaken r).darnOver 15
    else if s.logFull then (s.darnTaken r).darnOver 11 else (s.darnTaken r).darnNext r [] := by
  have hhalt : (s.darnTaken r).urgentHalt (if s.chainLen ≤ 1 then r.group else 0) = s.darnTaken r := by
    rw [if_pos hc]
    exact if_neg hg
  rw [← hhalt]
  unfold State.darnStart
  rw [hp]
  exact if_neg hi

theorem darnStart_stands (h : s.darnIdle ∨ s.darnPick = none) : s.darnStart = s := by
  unfold State.darnStart
  by_cases hi : s.darnIdle
  · exact if_pos hi
  · rw [h.resolve_left hi]
    exact if_neg hi

/-- A request that ends as it starts. -/
theorem darnTaken_ends {code : Nat} (hc : code < 16) : let t := (s.darnTaken r).darnOver code
    t.nvw.queue = s.nvw.queue.erase r ∧ t.nvw.run = none ∧ t.get F.NVW_OP_STAT_RESULT = code ∧ t.tiles = s.tiles := by
  have hnvw := nvw_darnTaken s r
  obtain ⟨⟨hrun, hqueue, -⟩, htiles, hresult, -⟩ := darnOver_effect (s := s.darnTaken r) (congrArg Nvw.run hnvw) hc
  exact ⟨hqueue.trans (congrArg Nvw.queue hnvw), hrun, hresult, htiles.trans (tiles_darnTaken s r)⟩

/-- Without a darn tile left a request that is not urgent ends, and the reserve is shown to be out (R296). -/
theorem darnNext_reserveOut (hg : r.group ≠ 0) (hn : s.nearest r.tile [] = none) : let t := (s.darnTaken r).darnNext r []
    t.nvw.queue = s.nvw.queue.erase r ∧ t.nvw.run = none ∧ t.get F.NVW_OP_STAT_RESULT = 11 ∧ t.get F.NVW_STATUS_RESERVE_OUT = 1 ∧
      t.tiles = s.tiles := by
  have heq : (s.darnTaken r).darnNext r [] = ((s.darnTaken r).set F.NVW_STATUS_RESERVE_OUT 1).darnOver 11 := by
    have hnone := (nearest_darnTaken s r r.tile []).trans hn
    unfold State.darnNext
    rw [hnone]
    exact (if_neg (by decide)).trans (if_pos hg)
  have hnvw : ((s.darnTaken r).set F.NVW_STATUS_RESERVE_OUT 1).nvw = _ := (State.nvw_set ..).trans (nvw_darnTaken s r)
  obtain ⟨⟨hrun, hqueue, -⟩, htiles, hresult, hother⟩ :=
    darnOver_effect (s := (s.darnTaken r).set F.NVW_STATUS_RESERVE_OUT 1) (congrArg Nvw.run hnvw) (code := 11) (by decide)
  rw [heq]
  exact ⟨hqueue.trans (congrArg Nvw.queue hnvw), hrun, hresult, (hother _ (by decide) (by decide)).trans (get_one (by decide) _),
    htiles.trans ((State.tiles_set ..).trans (tiles_darnTaken s r))⟩

/-- A darn runs. -/
def State.darnRuns (s : State) (x : DarnRun) : State := { s with nvw := { s.nvw with run := some x } }

/-- A darn tile is taken: it begins to program, and the request runs with it (R292 steps 1 and 2). -/
theorem darnTake_effect (s : State) (r : DarnReq) (tried : List Nat) (d : Nat) : let t := s.darnTake r tried d
    t.nvw.run = some ⟨r, d, tried ++ [d], false, smGetBytes (slotAt (s.get F.WRP_STATUS_ACTIVE_SLOT)) roleBytes (s.tile d).nvw⟩ ∧
      t.nvw.queue = s.nvw.queue ∧ t.bank = s.bank ∧ (t.tile d).programming = true ∧ ∀ b, b ≠ d → t.tile b = s.tile b := by
  unfold State.darnTake
  dsimp only
  split
  · have hmoves := fetchMoves_jobsPut ((s.setTile d (secBegin (s.tile d))).darnRuns
      ⟨r, d, tried ++ [d], false, smGetBytes (slotAt (s.get F.WRP_STATUS_ACTIVE_SLOT)) roleBytes (s.tile d).nvw⟩) [(r.tile, d)]
    refine ⟨(congrArg Nvw.run hmoves.nvw :), (congrArg Nvw.queue hmoves.nvw :), hmoves.bank, ?_, fun b hb => ?_⟩
    · exact (congrArg Tile.programming (hmoves.tile d)).trans (congrArg Tile.programming (State.tile_setTile_same ..))
    · exact (hmoves.tile b).trans (State.tile_setTile_other _ hb _)
  · exact ⟨rfl, rfl, rfl, congrArg Tile.programming (State.tile_setTile_same ..), fun b hb => State.tile_setTile_other _ hb _⟩

theorem darnNext_takes {d : Nat} (hn : s.nearest r.tile [] = some d) : let t := (s.darnTaken r).darnNext r []
    t.nvw.queue = s.nvw.queue.erase r ∧
      t.nvw.run = some ⟨r, d, [d], false, smGetBytes (slotAt (s.get F.WRP_STATUS_ACTIVE_SLOT)) roleBytes (s.tile d).nvw⟩ ∧
      t.get F.NVW_OP_STAT_RESULT = 1 ∧ (t.tile d).programming = true ∧ ∀ b, b ≠ d → t.tile b = s.tile b := by
  have heq : (s.darnTaken r).darnNext r [] = (s.darnTaken r).darnTake r [] d := by
    have hsome := (nearest_darnTaken s r r.tile []).trans hn
    unfold State.darnNext
    rw [hsome]
    exact if_neg (by decide)
  obtain ⟨hrun, hqueue, hbank, hprog, hothers⟩ := darnTake_effect (s.darnTaken r) r [] d
  rw [activeSlot_darnTaken, tile_darnTaken] at hrun
  rw [heq]
  exact ⟨hqueue.trans (congrArg Nvw.queue (nvw_darnTaken s r)), hrun, (get_of_bank hbank ..).trans (result_darnTaken s r), hprog,
    fun b hb => (hothers b hb).trans (tile_darnTaken s r b)⟩

end

/-! ### The switch (R292 steps 4 to 6) -/

section
variable {s : State} {d : DarnRun} (h : s.nvw.run = some d)
include h

theorem darnSwitch_waits (hw : d.switched = true ∨ (s.tile d.d).programming = true ∨ s.nvw.jobs ≠ []) : s.darnSwitch = s := by
  unfold State.darnSwitch
  rw [h]
  exact if_pos hw

/-- T with its role taken from it, D with it, and the detour in force. -/
def State.darnSwitched (s : State) (d : DarnRun) (w : Weft) : State :=
  let s1 := (s.setTile d.req.tile (tDarn (s.tile d.req.tile))).setTile d.d
    { tSet F.TIL_CTRL_ENABLE 1 (s.tile d.d) with poisonNext := true }
  { s1 with weft := w, nvw := { s.nvw with
      run := some { d with switched := true }
      roles := smSet 0 d.d (s.roleOf d.req.tile + 1) (smSet 0 d.req.tile 0 s.nvw.roles) } }

theorem darnSwitch_switches {w : Weft} (hs : d.switched = false) (hp : (s.tile d.d).programming = false) (hj : s.nvw.jobs = [])
    (hst : (s.tile d.d).st = 2) (hring : (s.tile d.d).ringPos ≠ 255) (hw : s.detourTo d.req.tile d.d = some w) :
    s.darnSwitch = s.darnSwitched d w := by
  unfold State.darnSwitch
  rw [h]
  refine (if_neg (by simp [hs, hp, hj])).trans ((if_neg (by rw [hst]; decide)).trans ((if_pos ⟨hst, hring⟩).trans ?_))
  rw [hw]
  rfl

end

theorem st_tDarn (t : Tile) : (tDarn t).st = if t.st = 0 then 0 else 5 := by
  unfold tDarn
  split
  · next h => exact h
  · rfl

theorem darnSwitched_effect {s : State} {d : DarnRun} (hne : d.d ≠ d.req.tile) (w : Weft) : let t := s.darnSwitched d w
    t.weft = w ∧ t.nvw.run = some { d with switched := true } ∧ t.bank = s.bank ∧
      smGet 0 d.d t.nvw.roles = s.roleOf d.req.tile + 1 ∧ smGet 0 d.req.tile t.nvw.roles = 0 ∧
      t.tile d.req.tile = tDarn (s.tile d.req.tile) ∧ t.tile d.d = { tSet F.TIL_CTRL_ENABLE 1 (s.tile d.d) with poisonNext := true } ∧
      ∀ b, b ≠ d.d → b ≠ d.req.tile → t.tile b = s.tile b := by
  have hroles : (s.darnSwitched d w).nvw.roles = smSet 0 d.d (s.roleOf d.req.tile + 1) (smSet 0 d.req.tile 0 s.nvw.roles) := rfl
  dsimp only
  rw [hroles]
  refine ⟨rfl, rfl, by simp only [State.darnSwitched, State.bank_setTile], smGet_smSet_same .., ?_, ?_, State.tile_setTile_same .., fun b hb hb' => ?_⟩
  · exact (smGet_smSet_other _ _ hne.symm _ _).trans (smGet_smSet_same ..)
  · exact (State.tile_setTile_other _ hne.symm _).trans (State.tile_setTile_same ..)
  · exact (State.tile_setTile_other _ hb _).trans (State.tile_setTile_other _ hb' _)

end Sys2Proof.Machine
end

section
/-!
PROOFS. The end of darns and rotations (R289, R292, R295), and the clauses of Darns.
-/
namespace Sys2Proof.Machine

/-! ### The completion of a darn (R292 step 7) -/

section
variable {s : State} {d : DarnRun}

theorem darnDone_waits (h : s.nvw.run = some d) (hs : d.switched = false) : s.darnDone = s := by
  unfold State.darnDone
  rw [h]
  exact if_pos hs

/-- The sentinel, the log, the beacon and a record take note of a darn or rotation. -/
def State.darnNoted (s : State) (r : DarnReq) (d : Nat) : State :=
  (((s.sntOwn ([segTile r.tile, segTile d] ++ (detourRouters r.tile d).map segRouter)).logDarn r.tile d (if r.rotation then 2 else 1)
    r.cause).beacon (if r.rotation then 5 else 4) (Config.recordData (if r.rotation then 5 else 4) [r.tile, d, r.cause])).raise 24 14 3 r.tile r.cause

theorem darnNoted_effect (s : State) (r : DarnReq) (d : Nat) : let t := s.darnNoted r d
    NoteMoves s t ∧ (s.logFull = false →
      t.nvw.log = s.nvw.log ++ [⟨r.tile, d, if r.rotation then 2 else 1, r.cause, s.pm.pick, s.timeUs⟩]) := by
  have hsnt := noteMoves_sntOwn s ([segTile r.tile, segTile d] ++ (detourRouters r.tile d).map segRouter)
  have hkept : (s.sntOwn ([segTile r.tile, segTile d] ++ (detourRouters r.tile d).map segRouter)).nvw = s.nvw := by
    unfold State.sntOwn
    dsimp only
    split
    · exact State.nvw_set ..
    · rfl
  unfold State.darnNoted
  generalize s.sntOwn ([segTile r.tile, segTile d] ++ (detourRouters r.tile d).map segRouter) = u at hsnt hkept ⊢
  obtain ⟨hlog, hentry⟩ := logDarn_effect u r.tile d (if r.rotation then 2 else 1) r.cause
  refine ⟨hsnt.trans (hlog.trans ((noteMoves_beacon ..).trans (noteMoves_raise ..))), fun hf => ?_⟩
  rw [State.nvw_raise, State.nvw_beacon, hentry (by unfold State.logFull at hf ⊢; rwa [hkept]), hkept, hsnt.pm, hsnt.timeUs]

theorem darnDone_eq (h : s.nvw.run = some d) (hs : d.switched = true) (hg : d.req.group ≠ 0) : s.darnDone =
    if d.req.rotation then (s.darnNoted d.req d.d).rotBegin d.req.tile (s.tile d.d).ringPos d.idle
    else ((s.darnNoted d.req d.d).add F.NVW_COUNTS_DARNS 1).darnOver 2 := by
  unfold State.darnDone
  rw [h]
  dsimp only
  rw [if_neg (by simp [hs]), if_neg hg]
  rfl

/-- A rotation goes on with T in place of the darn: T begins to program. -/
theorem rotBegin_effect (s : State) (a pos : Nat) (idle : List Byte) : let t := s.rotBegin a pos idle
    t.nvw.run = none ∧ t.nvw.rot = some (a, pos, idle) ∧ t.nvw.log = s.nvw.log ∧
      t.tile a = { s.tile a with programming := true } ∧ ∀ b, b ≠ a → t.tile b = s.tile b := by
  obtain ⟨u, hu⟩ : ∃ u : State, u = { s.setTile a { s.tile a with programming := true } with
    nvw := { s.nvw with run := none, rot := some (a, pos, idle) } } := ⟨_, rfl⟩
  have hmoves : FetchMoves u (s.rotBegin a pos idle) := by
    unfold State.rotBegin
    dsimp only
    rw [← hu]
    split
    · rfl
    · exact fetchMoves_jobsPut ..
  have hnvw : u.nvw = { s.nvw with run := none, rot := some (a, pos, idle) } := by rw [hu]
  have htile : ∀ b, u.tile b = (s.setTile a { s.tile a with programming := true }).tile b := fun b => by rw [hu]; rfl
  have hkept := hmoves.nvw
  rw [hnvw] at hkept
  dsimp only
  refine ⟨by rw [hkept], by rw [hkept], by rw [hkept], ?_, fun b hb => ?_⟩
  · exact (hmoves.tile a).trans ((htile a).trans (State.tile_setTile_same ..))
  · exact (hmoves.tile b).trans ((htile b).trans (State.tile_setTile_other _ hb _))

end

/-! ### The return of a rotated tile (R295) -/

section
variable {s : State} {a p : Nat} {idle : List Byte}

/-- The rotation is over: the tile's record is stored as its rows read back. -/
def State.rotStored (s : State) (a : Nat) : State :=
  ({ s with nvw := { s.nvw with rot := none } }).secStore a (s.tile a).secTile (s.tile a).secRows (columnCrc (s.tile a).secRows (s.tile a))

theorem nvw_rotStored : (s.rotStored a).nvw = { s.nvw with rot := none } := by
  simp only [State.rotStored, State.secStore, State.nvw_set, State.nvw_setTile]

theorem pm_rotStored : (s.rotStored a).pm = s.pm := by simp only [State.rotStored, State.secStore, State.pm_set, State.pm_setTile]

theorem timeUs_rotStored : (s.rotStored a).timeUs = s.timeUs := by
  simp only [State.rotStored, State.secStore, State.timeUs_set, State.timeUs_setTile]

theorem tile_rotStored {b : Nat} (hb : b ≠ a) : (s.rotStored a).tile b = s.tile b := by
  unfold State.rotStored State.secStore
  exact (State.tile_set ..).trans (State.tile_setTile_other _ hb _)

theorem get_rotStored {g : Fld} (hg : fldsApart F.NVW_PROG_MAX_COUNT g) : (s.rotStored a).get g = s.get g := by
  unfold State.rotStored State.secStore
  exact (get_set_apart _ hg _).trans (State.get_setTile ..)

/-- The tile joins the reserve again at position `p`, as `u`, with its segment taken over by the sentinel. -/
def State.rotJoined (s : State) (a p : Nat) (u : Tile) (x : Sentinel) : State :=
  { (s.rotStored a).setTile a u with nvw := { (s.rotStored a).nvw with returned := smSet 0 a (p + 1) (s.rotStored a).nvw.returned }, snt := x }

theorem rotReturn_waits (h : s.nvw.rot = some (a, p, idle)) (hj : s.nvw.jobs ≠ []) (ok : Bool) : s.rotReturn ok = s := by
  unfold State.rotReturn
  rw [h]
  exact if_pos hj

variable (h : s.nvw.rot = some (a, p, idle)) (hj : s.nvw.jobs = [])
include h hj

theorem rotReturn_joins (hcrc : columnCrc (s.tile a).secRows (s.tile a) = (s.tile a).secCrc) :
    ∃ u x, s.rotReturn true = (((s.rotJoined a p u x).logDarn a a 3 0).add F.NVW_COUNTS_ROTATIONS 1).opResult 2 0 := by
  unfold State.rotReturn
  rw [h]
  exact ⟨_, _, (if_neg (not_not.mpr hj)).trans (if_pos ⟨rfl, hcrc⟩)⟩

theorem rotReturn_removes {ok : Bool} (hbad : ok = false ∨ columnCrc (s.tile a).secRows (s.tile a) ≠ (s.tile a).secCrc) :
    s.rotReturn ok = ((s.rotStored a).removeTile a 4).opResult 9 a := by
  unfold State.rotReturn
  rw [h]
  refine (if_neg (not_not.mpr hj)).trans (if_neg ?_)
  rintro ⟨hok, hcrc⟩
  rcases hbad with hf | hne
  · exact absurd (hok.symm.trans hf) (by decide)
  · exact hne hcrc

end

theorem rotJoined_effect (s : State) (a p : Nat) (u : Tile) (x : Sentinel) (hf : s.logFull = false) :
    let t := (((s.rotJoined a p u x).logDarn a a 3 0).add F.NVW_COUNTS_ROTATIONS 1).opResult 2 0
    t.nvw.rot = none ∧ t.nvw.log = s.nvw.log ++ [⟨a, a, 3, 0, s.pm.pick, s.timeUs⟩] ∧ smGet 0 a t.nvw.returned = p + 1 ∧
      t.get F.NVW_OP_STAT_RESULT = 2 ∧
      t.get F.NVW_COUNTS_ROTATIONS = min (2 ^ F.NVW_COUNTS_ROTATIONS.w - 1) (s.get F.NVW_COUNTS_ROTATIONS + 1) ∧
      ∀ b, b ≠ a → t.tile b = s.tile b := by
  obtain ⟨hmoves, hlog⟩ := logDarn_effect (s.rotJoined a p u x) a a 3 0
  have hnvw : (s.rotJoined a p u x).nvw = { s.nvw with rot := none, returned := smSet 0 a (p + 1) s.nvw.returned } := by
    simp only [State.rotJoined, nvw_rotStored]
  have hpm : (s.rotJoined a p u x).pm = s.pm := by simp only [State.rotJoined, State.pm_setTile, pm_rotStored]
  have htime : (s.rotJoined a p u x).timeUs = s.timeUs := by simp only [State.rotJoined, State.timeUs_setTile, timeUs_rotStored]
  have hcount : (s.rotJoined a p u x).get F.NVW_COUNTS_ROTATIONS = s.get F.NVW_COUNTS_ROTATIONS := get_rotStored (a := a) (by decide)
  have htile : ∀ b, b ≠ a → (s.rotJoined a p u x).tile b = s.tile b := fun b hb =>
    (State.tile_setTile_other _ hb u).trans (tile_rotStored hb)
  have hkept := hmoves.nvw
  rw [hnvw] at hkept hlog
  rw [hpm, htime] at hlog
  have hret : ((s.rotJoined a p u x).logDarn a a 3 0).nvw.returned = smSet 0 a (p + 1) s.nvw.returned := by rw [hkept]
  have hentry := hlog (by unfold State.logFull at hf ⊢; rwa [hnvw])
  dsimp only
  rw [nvw_opResult, State.nvw_add]
  refine ⟨by rw [hkept], hentry, by rw [hret, smGet_smSet_same], result_opResult _ (by decide), ?_, fun b hb => ?_⟩
  · rw [get_opResult _ (by decide), State.get_add_same _ _ _ _ (by decide), hmoves.get (by decide), hcount]
  · exact (congrArg (smGet Tile.empty b) (tiles_opResult _)).trans ((State.tile_add ..).trans ((hmoves.tile b).trans (htile b hb)))

/-- A tile removed from the reserve, with its entry of the log while that has room (R292, R303). -/
theorem removeTile_effect (s : State) (a cause : Nat) : let t := s.removeTile a cause
    t.nvw.rot = s.nvw.rot ∧ a ∈ t.nvw.removed ∧ t.get F.NVW_STATUS_VERIFY_FAIL = 1 ∧ t.tiles = s.tiles := by
  obtain ⟨u, hu⟩ : ∃ u : State, u = { s with nvw := { s.nvw with removed := s.nvw.removed ++ [a] } }.set F.NVW_STATUS_VERIFY_FAIL 1 := ⟨_, rfl⟩
  have hmoves : NoteMoves u (s.removeTile a cause) := by
    rw [hu]
    exact (noteMoves_logDarn ..).trans (noteMoves_raise ..)
  have hnvw : u.nvw = { s.nvw with removed := s.nvw.removed ++ [a] } := hu ▸ State.nvw_set ..
  have htiles : u.tiles = s.tiles := hu ▸ State.tiles_set ..
  have hfail : u.get F.NVW_STATUS_VERIFY_FAIL = 1 := hu ▸ get_one (by decide) _
  have hkept := hmoves.nvw
  rw [hnvw] at hkept
  refine ⟨by rw [hkept], ?_, (hmoves.get (by decide)).trans hfail, hmoves.tiles.trans htiles⟩
  rw [hkept]
  exact List.mem_append_right _ (List.mem_singleton_self a)

end Sys2Proof.Machine

open Sys2Proof Sys2Proof.Machine

/-- Settles O35: a request by `hostDarn_queues`, its start by `darnTaken_ends`, `darnNext_reserveOut` and `darnNext_takes`, the switch by
`darnSwitched_effect`, the completion by `darnNoted_effect`, and a rotated tile's return by `rotJoined_effect` and `removeTile_effect`. -/
theorem darns : Obligations.Darns := by
  unfold Obligations.Darns
  intro s
  dsimp only
  refine ⟨fun target => ⟨fun h => ?busy, fun h hb => ?badTile, fun h hb hq => ?queues⟩,
    ⟨fun h => ?idle, fun r hi hp hg hc => ⟨fun hb => ?noRole, fun hb hf hn => ?reserveOut, fun d hb hf hn => ?takes⟩⟩,
    fun h => ⟨?noSwitch, ?noComplete⟩,
    fun d hrun => ⟨fun h => ?switchWaits, fun w hs hp hj hst hring hw hne => ?switches, fun hs => ?completeWaits, fun hs hg hf => ?completes⟩,
    fun h ok => ?noReturn,
    fun a p idle hrot => ⟨fun hj ok => ?returnWaits, fun hj hcrc hf => ?joins, fun ok hj hbad ha => ?removed⟩⟩
  case busy => exact answers_opRefused 0 (congrArg Host.Outcome.next (hostDarn_busy h)) (by decide)
  case badTile => exact answers_opRefused target.toNat (congrArg Host.Outcome.next (hostDarn_badTile h hb)) (by decide)
  case queues => exact ⟨_, rfl, hostDarn_queues h hb hq⟩
  case idle => exact congrArg Host.Outcome.next (darnStart_stands h)
  case noRole => exact ⟨_, congrArg Host.Outcome.next ((darnStart_eq hi hp hg hc).trans (if_pos hb)), darnTaken_ends (by decide)⟩
  case reserveOut =>
    exact ⟨_, congrArg Host.Outcome.next ((darnStart_eq hi hp hg hc).trans (by simp [hb, hf])), darnNext_reserveOut hg hn⟩
  case takes =>
    exact ⟨_, congrArg Host.Outcome.next ((darnStart_eq hi hp hg hc).trans (by simp [hb, hf])), darnNext_takes hn⟩
  case noSwitch =>
    refine congrArg Host.Outcome.next ?_
    unfold State.darnSwitch
    rw [h]
  case noComplete =>
    refine congrArg Host.Outcome.next ?_
    unfold State.darnDone
    rw [h]
  case switchWaits => exact congrArg Host.Outcome.next (darnSwitch_waits hrun h)
  case switches =>
    obtain ⟨hweft, hrun', hbank, hrole, hgone, hdarned, htaken, hothers⟩ := darnSwitched_effect (s := s) hne w
    refine ⟨_, congrArg Host.Outcome.next (darnSwitch_switches hrun hs hp hj hst hring hw), hweft, hrun', hbank, hrole, hgone, hdarned, ?_, ?_, ?_, ?_,
      hothers⟩
    · rw [hdarned, st_tDarn]
    · rw [htaken]
      exact tGet_tSet_same F.TIL_CTRL_ENABLE 1 (s.tile d.d) (by decide)
    · rw [htaken]
    · rw [htaken]
      rfl
  case completeWaits => exact congrArg Host.Outcome.next (darnDone_waits hrun hs)
  case completes =>
    obtain ⟨hmoves, hlog⟩ := darnNoted_effect s d.req d.d
    have heq := darnDone_eq hrun hs hg
    by_cases hrot : d.req.rotation = true
    · obtain ⟨hnone, hbegun, hkept, htile, hothers⟩ := rotBegin_effect (s.darnNoted d.req d.d) d.req.tile (s.tile d.d).ringPos d.idle
      refine ⟨_, congrArg Host.Outcome.next (heq.trans (if_pos hrot)), hkept.trans (hlog hf), hnone, ?_⟩
      rw [if_pos hrot]
      exact ⟨hbegun, fun b hb => (hothers b hb).trans (hmoves.tile b), by rw [htile, hmoves.tile]⟩
    · have hrun' : ((s.darnNoted d.req d.d).add F.NVW_COUNTS_DARNS 1).nvw.run = some d := by rw [State.nvw_add, hmoves.nvw, hrun]
      obtain ⟨⟨hnone, -, hkept, hrots⟩, htiles, hresult, hother⟩ := darnOver_effect hrun' (code := 2) (by decide)
      rw [State.nvw_add] at hkept hrots
      refine ⟨_, congrArg Host.Outcome.next (heq.trans (if_neg hrot)), hkept.trans (hlog hf), hnone, ?_⟩
      rw [if_neg hrot]
      refine ⟨htiles.trans ((State.tiles_add ..).trans hmoves.tiles), hrots.trans (congrArg Nvw.rot hmoves.nvw :), hresult, ?_⟩
      rw [hother _ (by decide) (by decide), State.get_add_same _ _ _ _ (by decide), hmoves.get (by decide)]
  case noReturn =>
    refine congrArg Host.Outcome.next ?_
    unfold State.rotReturn
    rw [h]
  case returnWaits => exact congrArg Host.Outcome.next (rotReturn_waits hrot hj ok)
  case joins =>
    obtain ⟨u, x, heq⟩ := rotReturn_joins hrot hj hcrc
    exact ⟨_, congrArg Host.Outcome.next heq, rotJoined_effect s a p u x hf⟩
  case removed =>
    obtain ⟨hnone, hmem, hfail, htiles⟩ := removeTile_effect (s.rotStored a) a 4
    refine ⟨_, congrArg Host.Outcome.next (rotReturn_removes hrot hj hbad), ?_, ?_, result_opResult _ (by decide), shownTile_opResult _ ha,
      (get_opResult _ (by decide)).trans hfail, fun b hb => ?_⟩
    · rw [nvw_opResult, hnone, nvw_rotStored]
    · rwa [nvw_opResult]
    · exact (congrArg (smGet Tile.empty b) ((tiles_opResult _).trans htiles)).trans (tile_rotStored hb)

end

section
/-!
PROOFS. A re-weave begun (R299, R300, R309): what it clears on the way leaves the pick master in HALT, and the ramp or the stream that follows
leaves that alone.
-/
namespace Sys2Proof.Machine

/-! ### What is cleared (R300, R303) -/

section
variable (s : State)

theorem pckStays_darnBack (d : DarnRun) : PckStays s (s.darnBack d) := by
  unfold State.darnBack
  dsimp only
  split
  · exact .of_bank (State.bank_setTile ..)
  · exact .of_bank (State.bank_setTile ..)

theorem pckStays_opEnd (code tile : Nat) : PckStays s (s.opEnd code tile) :=
  (((PckStays.of_bank rfl : PckStays s s.fetchDrop).set (f := F.NVW_STATUS_OP_BUSY) (by decide) 0 0).set (f := F.NVW_OP_STAT_RESULT)
    (by decide) code 0).set (f := F.NVW_OP_INFO_TILE) (by decide) tile 0

theorem pckStays_weaveDarns (r : Nat) : PckStays s (s.weaveDarns r) := by
  have hback : ∀ d : DarnRun, PckStays s (if regionOf (fieldOf d.d) = r then s else s.darnBack d) := fun d => by
    split
    · exact .refl s
    · exact pckStays_darnBack s d
  have hend : ∀ (u : State) (d : DarnRun), PckStays u (if s.nvw.op = 3 then u.opEnd 14 d.req.tile else u) := fun u d => by
    split
    · exact pckStays_opEnd ..
    · exact .refl u
  unfold State.weaveDarns
  dsimp only
  split
  · exact .of_bank rfl
  · next d _ => exact ((hback d).trans (hend _ d)).trans (.of_bank rfl)

theorem pckStays_bistAbort : PckStays s s.bistAbort := by
  unfold State.bistAbort
  split
  · exact .refl s
  · have hdropped : PckStays s { s with dmp := { s.dmp with bist := none } } := .of_bank rfl
    exact (hdropped.set (f := F.TST_BIST_STAT_RESULT) (by decide) 9 0).set (f := F.TST_STATUS_BIST_BUSY) (by decide) 0 0

theorem pckStays_faultAll (reason : Nat) : PckStays s (s.faultAll reason) := by
  have hdrain : ∀ (l : List Nat) (u : State), ReedQuiet u (l.foldl (fun v id => v.drainSk id reason) u) :=
    fun l u => ReedQuiet.foldl l (fun v id _ => (entriesMove_drainSk v id reason).reedQuiet) u
  have hlanes : PckStays s s.clearLanes := .of_bank rfl
  unfold State.faultAll
  dsimp only
  generalize s.clearLanes.skeinsIn _ = l
  exact (hlanes.trans (hdrain l _).pck).trans (reedQuiet_settle _).pck

theorem pckStays_endAll (reason : Nat) : PckStays s (s.endAll reason) :=
  ((pckStays_faultAll s reason).set (f := F.SKN_STATUS_SWAP_RUN) (by decide) 0 0).trans (.of_bank rfl)

/-- A pool shown with every frame free. -/
def poolShown (b : SMap Word) (k : Nat) : SMap Word := bankSet F.SPL_POOL_MIN_MIN k poolFrames (bankSet F.SPL_POOL_FREE_FREE k poolFrames b)

theorem bankReg_poolsShown {k : Nat} (hk : k % 2 ^ 26 / 2 ^ 16 = 10) (l : List Nat) (b : SMap Word) :
    bankReg k (l.foldl poolShown b) = bankReg k b := by
  have hother : ∀ (f : Fld) (i v : Nat) (b : SMap Word), f.reg % 2 ^ 26 / 2 ^ 16 ≠ 10 → bankReg k (bankSet f i v b) = bankReg k b :=
    fun f i v b hf => bankReg_bankSet_other f i v (fun he => hf (by rw [he, rkey_mod] at hk; exact hk)) b
  refine l.foldlRecOn (motive := fun c => bankReg k c = bankReg k b) poolShown rfl fun c hc n _ => ?_
  exact (hother _ _ _ _ (by decide)).trans ((hother _ _ _ _ (by decide)).trans hc)

/-- The spool with its pools, page tables and index of prefixes empty, before the pools' registers show it (R300). -/
def State.spoolEmptied (s : State) : State :=
  { s with spool := { s.spool with tbl := [], blocks := [], frames := [], owned := [], xc := [], slots := [], coming := [], wbuf := [] }
           reed := { s.reed with prefixIdx := [] }
           bank := (rangeFrom 0 128).foldl poolShown s.bank }

theorem spoolInit_eq : s.spoolInit = s.spoolEmptied.poolMarks 0 := by
  unfold State.spoolInit State.spoolEmptied
  rfl

theorem pckStays_spoolEmptied : PckStays s s.spoolEmptied := by
  refine ⟨fun k hk => ?_⟩
  unfold State.spoolEmptied
  simp only [bankReg_poolsShown hk]

theorem spoolInit_effect : let t := s.spoolInit
    t.spool.tbl = [] ∧ t.spool.frames = [] ∧ t.reed.prefixIdx = [] ∧ PckStays s t := by
  have hmarks := poolMoves_poolMarks s.spoolEmptied 0
  have hspool := spool_of_onlyBank (onlyBank_poolMarks s.spoolEmptied 0)
  rw [spoolInit_eq]
  dsimp only
  rw [hspool, hmarks.reed]
  refine ⟨rfl, rfl, rfl, (pckStays_spoolEmptied s).trans ⟨fun k hk => hmarks.regs k fun hm => ?_⟩⟩
  simp only [poolRegs, List.mem_cons, List.not_mem_nil, or_false] at hm
  rcases hm with hm | hm | hm | hm <;> rw [hm] at hk <;> revert hk <;> decide

/-- The dark region's domains off, the pick master in HALT, and what ran there ended: darns, a self-test, skeins, the spool (R300, R303). -/
def State.weaveCleared (s : State) (r : Nat) : State := ((((s.domsOff r).halt.weaveDarns r).bistAbort).endAll 8).spoolInit

theorem halt_halts {s : State} (h : s.pickState = 1 ∨ s.pickState = 2 ∨ s.pickState = 3) : s.halt.pickState = 4 := by
  unfold State.halt
  rw [if_pos h]
  exact (haltPick_ends s).1

theorem weaveCleared_effect {r : Nat} (hr : r < 16) : let t := s.weaveCleared r
    t.spool.tbl = [] ∧ t.spool.frames = [] ∧ t.reed.prefixIdx = [] ∧
      (s.pickState = 1 ∨ s.pickState = 2 ∨ s.pickState = 3 → t.pickState = 4) := by
  obtain ⟨htbl, hframes, hidx, hpck⟩ := spoolInit_effect (((s.domsOff r).halt.weaveDarns r).bistAbort.endAll 8)
  have hstays := (((pckStays_weaveDarns (s.domsOff r).halt r).trans (pckStays_bistAbort _)).trans (pckStays_endAll _ 8)).trans hpck
  refine ⟨htbl, hframes, hidx, fun h => (hstays.get (f := F.PCK_STATUS_STATE) (by decide) 0).trans (halt_halts ?_)⟩
  have hstate : (s.domsOff r).pickState = s.pickState := (domsMove_domsOff s hr).get (by decide)
  rwa [hstate]

end

/-! ### The ramp, or the stream at once (R300 steps 3 and 4) -/

section
variable (s : State)

/-- A domain that is off or in retention waits for its ramp (R437, R440). -/
def State.domWaits (s : State) (d : Nat) : State :=
  if s.get F.VPA_DOM_STAT_STATE d = 0 ∨ s.get F.VPA_DOM_STAT_STATE d = 5 then s.set F.VPA_DOM_STAT_STATE 1 d else s

theorem domWaits_effect (d : Nat) : onlyBank s (s.domWaits d) ∧ WritesOnly [R.VPA_DOM_STAT] s (s.domWaits d) := by
  unfold State.domWaits
  split
  · exact ⟨onlyBank_set .., WritesOnly.set (.of_bank rfl) (by decide) _ _⟩
  · exact ⟨rfl, .of_bank rfl⟩

theorem rampAsk_eq (r why : Nat) : ∃ p, s.rampAsk r why = { (s.domWaits r).domWaits (16 + r) with pwr := p } := by
  unfold State.rampAsk
  dsimp only
  split
  · exact ⟨_, rfl⟩
  · exact ⟨_, rfl⟩

/-- What the ramp or the stream of a re-weave leaves alone. -/
structure WeaveGoes (s t : State) : Prop where
  weave : t.nvw.weave = s.nvw.weave ∧ t.nvw.op = s.nvw.op
  spool : t.spool = s.spool
  reed : t.reed = s.reed
  regs : WritesOnly [R.VPA_DOM_STAT] s t

theorem FetchMoves.weaveGoes {s t : State} (h : FetchMoves s t) : WeaveGoes s t := by
  refine ⟨?_, by rw [h], by rw [h], .of_bank h.bank⟩
  rw [h.nvw]
  exact ⟨rfl, rfl⟩

theorem weaveGoes_rampAsk (r why : Nat) : WeaveGoes s (s.rampAsk r why) := by
  obtain ⟨p, heq⟩ := rampAsk_eq s r why
  obtain ⟨hbank, hregs⟩ := domWaits_effect s r
  obtain ⟨hbank', hregs'⟩ := domWaits_effect (s.domWaits r) (16 + r)
  have honly := onlyBank_trans hbank hbank'
  have hnvw : ((s.domWaits r).domWaits (16 + r)).nvw = s.nvw := by rw [honly]
  have hspool := spool_of_onlyBank honly
  have hreed := reed_of_onlyBank honly
  rw [heq]
  exact ⟨⟨congrArg Nvw.weave hnvw, congrArg Nvw.op hnvw⟩, hspool, hreed, hregs.trans hregs'⟩

theorem weaveGoes_weaveRamp (r : Nat) : WeaveGoes s (s.weaveRamp r) := by
  unfold State.weaveRamp
  split
  · unfold State.weaveStream
    split
    · exact ⟨⟨rfl, rfl⟩, rfl, rfl, .of_bank rfl⟩
    · exact (fetchMoves_jobsPut ..).weaveGoes
  · exact weaveGoes_rampAsk ..

end

/-! ### The request (R300, R309) -/

section
variable {s : State} {target : Nat}

/-- A host's request while something runs. -/
abbrev State.weaveBusy (s : State) : Prop := s.opRuns = true ∨ s.loaderRuns = true

/-- The spare region, or one that the pattern does not use. -/
abbrev State.badRegion (s : State) (r : Nat) : Prop := r = s.pat.spare ∨ s.patUses r = false

/-- A host's request: its refusals in their order, and the re-weave (R309). -/
theorem reweave_host : s.reweave target true = if s.weaveBusy then (s.opWrite 4 target).opResult 3 0
    else if s.badRegion (target % 16) then (s.opWrite 4 target).opResult 15 0
    else if s.spareFree = false then (s.opWrite 4 target).opResult 12 0
    else (s.opWrite 4 target).weaveBegin (target % 16) 4 := by
  unfold State.reweave
  dsimp only
  rw [if_neg (by decide)]

theorem reweave_busy (h : s.weaveBusy) : s.reweave target true = (s.opWrite 4 target).opResult 3 0 := by
  rw [reweave_host, if_pos h]

theorem reweave_badRegion (h : ¬ s.weaveBusy) (hb : s.badRegion (target % 16)) :
    s.reweave target true = (s.opWrite 4 target).opResult 15 0 := by
  rw [reweave_host, if_neg h, if_pos hb]

theorem reweave_noSpare (h : ¬ s.weaveBusy) (hb : ¬ s.badRegion (target % 16)) (hs : s.spareFree = false) :
    s.reweave target true = (s.opWrite 4 target).opResult 12 0 := by
  rw [reweave_host, if_neg h, if_neg hb, if_pos hs]

theorem reweave_begins (h : ¬ s.weaveBusy) (hb : ¬ s.badRegion (target % 16)) (hs : s.spareFree = true) :
    s.reweave target true = (s.opWrite 4 target).weaveBegin (target % 16) 4 := by
  rw [reweave_host, if_neg h, if_neg hb, if_neg (by rw [hs]; decide)]

/-- A region of which no pattern is loaded asks for nothing when it goes dark. -/
theorem reweave_dark (hl : s.get F.WRP_STATUS_LOADED = 0) (hload : s.ld.load = none) : s.reweave target false = s := by
  have huses : s.patUses (target % 16) = false := by simp [State.patUses, hl]
  unfold State.reweave
  dsimp only
  rw [if_pos rfl]
  unfold State.darkRegion
  rw [if_neg (by simp [hload]), if_neg (by simp [huses]), if_neg (by simp [hl])]

/-- The re-weave of a region is under way. -/
def State.weaveOpened (s : State) (r op : Nat) : State := ({ s with nvw := { s.nvw with weave := some r } } : State).opStart op

theorem weaveBegin_eq {r op : Nat} (hl : s.get F.WRP_STATUS_LOADED = 1) (hw : s.nvw.weave = none) (hs : s.spareFree = true) :
    s.weaveBegin r op = ((s.weaveCleared r).weaveOpened r op).weaveRamp r := by
  unfold State.weaveBegin
  dsimp only
  rw [if_neg (by rw [hl]; decide), if_neg (by rw [hw]; decide), if_neg (by rw [hs]; decide)]
  rfl

theorem weaveOpened_shows (s : State) (r op : Nat) : let t := s.weaveOpened r op
    (t.nvw.weave = some r ∧ t.nvw.op = op) ∧ t.get F.NVW_STATUS_OP_BUSY = 1 ∧ t.get F.NVW_OP_STAT_RESULT = 1 ∧ t.spool = s.spool ∧
      t.reed = s.reed ∧ t.pickState = s.pickState := by
  obtain ⟨hbusy, hresult, -⟩ := opStart_shows { s with nvw := { s.nvw with weave := some r } } op
  unfold State.weaveOpened
  refine ⟨?_, hbusy, hresult, ?_, ?_, get_opStart _ _ (by decide) (by decide) (by decide)⟩
  · rw [nvw_opStart]
    exact ⟨rfl, rfl⟩
  · simp only [State.opStart, State.opResult, State.spool_set]
  · simp only [State.opStart, State.opResult, State.reed_set]

/-- A re-weave begun: the pick master that ran is in HALT, the page tables are empty, and the operation runs. -/
theorem weaveBegin_effect {r op : Nat} (hr : r < 16) (hl : s.get F.WRP_STATUS_LOADED = 1) (hw : s.nvw.weave = none)
    (hs : s.spareFree = true) : let t := s.weaveBegin r op
    t.nvw.weave = some r ∧ t.nvw.op = op ∧ t.get F.NVW_STATUS_OP_BUSY = 1 ∧ t.get F.NVW_OP_STAT_RESULT = 1 ∧ t.spool.tbl = [] ∧
      t.spool.frames = [] ∧ t.reed.prefixIdx = [] ∧ (s.pickState = 1 ∨ s.pickState = 2 ∨ s.pickState = 3 → t.pickState = 4) := by
  obtain ⟨htbl, hframes, hidx, hhalt⟩ := weaveCleared_effect s hr
  obtain ⟨⟨hweave, hop⟩, hbusy, hresult, hspool, hreed, hstate⟩ := weaveOpened_shows (s.weaveCleared r) r op
  have hgoes := weaveGoes_weaveRamp ((s.weaveCleared r).weaveOpened r op) r
  rw [weaveBegin_eq hl hw hs]
  refine ⟨hgoes.weave.1.trans hweave, hgoes.weave.2.trans hop, (hgoes.regs.get (by decide) 0).trans hbusy,
    (hgoes.regs.get (by decide) 0).trans hresult, ?_, ?_, ?_, fun h => ?_⟩
  · rw [hgoes.spool, hspool, htbl]
  · rw [hgoes.spool, hspool, hframes]
  · rw [hgoes.reed, hreed, hidx]
  · exact (hgoes.regs.get (f := F.PCK_STATUS_STATE) (by decide) 0).trans (hstate.trans (hhalt h))

/-- The host's request accepted (R300, R309). -/
theorem reweave_effect (h : ¬ s.weaveBusy) (hb : ¬ s.badRegion (target % 16)) (hs : s.spareFree = true) : let t := s.reweave target true
    t.nvw.weave = some (target % 16) ∧ t.nvw.op = 4 ∧ t.get F.NVW_STATUS_OP_BUSY = 1 ∧ t.get F.NVW_OP_STAT_RESULT = 1 ∧ t.spool.tbl = [] ∧
      t.spool.frames = [] ∧ t.reed.prefixIdx = [] ∧ (s.pickState = 1 ∨ s.pickState = 2 ∨ s.pickState = 3 → t.pickState = 4) := by
  have hweave : s.nvw.weave = none := by
    simpa using (not_or.mp (not_or.mp (not_or.mp (opRuns_iff.not.mp (not_or.mp h).1)).2).2).2
  have huses : s.patUses (target % 16) = true := by simpa using (not_or.mp hb).2
  have hloaded : s.get F.WRP_STATUS_LOADED = 1 := by simpa using (Bool.and_eq_true_iff.mp huses).1
  have hget : ∀ g : Fld, g.reg ≠ R.NVW_OP → (s.opWrite 4 target).get g = s.get g := fun g hg => get_opWrite s 4 target hg
  have hspare : (s.opWrite 4 target).spareFree = true := by
    unfold State.spareFree at hs ⊢
    rwa [hget _ (by decide), hget _ (by decide)]
  have hstate : (s.opWrite 4 target).pickState = s.pickState := hget F.PCK_STATUS_STATE (by decide)
  rw [reweave_begins h hb hs, ← hstate]
  exact weaveBegin_effect (Nat.mod_lt _ (by decide)) ((hget _ (by decide)).trans hloaded) ((congrArg Nvw.weave (nvw_opWrite ..)).trans hweave) hspare

end

end Sys2Proof.Machine
end

section
/-!
PROOFS. The end of a re-weave (R300, R303), the loss of the LWS during one (R309), and the obligation on re-weaves: what the variant's tables, the
log re-applied and the channel lists do to the device leaves the log itself alone, so that the one entry made at the end follows it.
-/
namespace Sys2Proof.Machine

/-! ### A re-weave that fails (R303) -/

section
variable {s : State}

/-- Without a spare region the cover is held; any other failure leaves the state as it is. -/
theorem noSpareHold_keeps (s : State) (code : Nat) : let t := s.noSpareHold code
    t.nvw.weave = s.nvw.weave ∧ t.bank = s.bank ∧ t.pm = s.pm ∧ t.tiles = s.tiles := by
  unfold State.noSpareHold
  split
  · exact ⟨rfl, rfl, rfl, rfl⟩
  · exact ⟨rfl, rfl, rfl, rfl⟩

/-- No re-weave is under way. -/
def State.weaveDropped (s : State) : State := { s with nvw := { s.nvw with weave := none } }

theorem weaveFail_eq (h : s.nvw.weave ≠ none) (code tile : Nat) : s.weaveFail code tile = (s.weaveDropped.opEnd code tile).noSpareHold code := by
  obtain ⟨r, hr⟩ := Option.ne_none_iff_exists'.mp h
  unfold State.weaveFail
  rw [hr]
  rfl

theorem weaveFail_effect (h : s.nvw.weave ≠ none) {code : Nat} (hc : code < 16) (tile : Nat) : let t := s.weaveFail code tile
    t.nvw.weave = none ∧ t.get F.NVW_OP_STAT_RESULT = code ∧ t.pm = s.pm ∧ t.tiles = s.tiles ∧
      ∀ g, fldsApart F.NVW_STATUS_OP_BUSY g → besideResult g → t.get g = s.get g := by
  obtain ⟨hweave, hbank, hpm, htiles⟩ := noSpareHold_keeps (s.weaveDropped.opEnd code tile) code
  rw [weaveFail_eq h]
  refine ⟨hweave.trans ?_, (get_of_bank hbank _ _).trans (result_opResult _ hc), hpm.trans (pm_opEnd _), htiles.trans (tiles_opEnd _),
    fun g hb hr => (get_of_bank hbank g 0).trans (get_opEnd _ hb hr)⟩
  rw [nvw_opEnd]
  rfl

end

/-! ### What stands of the log (R289) -/

/-- The log, the pick and the time are as they were: an entry made now is the one that would have been made before. -/
structure LogStands (s t : State) : Prop where
  log : t.nvw.log = s.nvw.log
  pm : t.pm = s.pm
  timeUs : t.timeUs = s.timeUs

namespace LogStands
variable {s t u : State}

theorem refl (s : State) : LogStands s s := ⟨rfl, rfl, rfl⟩

theorem trans (h : LogStands s t) (h' : LogStands t u) : LogStands s u :=
  ⟨h'.log.trans h.log, h'.pm.trans h.pm, h'.timeUs.trans h.timeUs⟩

theorem set (h : LogStands s t) (f : Fld) (v i : Nat) : LogStands s (t.set f v i) :=
  h.trans ⟨by rw [State.nvw_set], State.pm_set .., State.timeUs_set ..⟩

theorem setTile (h : LogStands s t) (a : Nat) (v : Tile) : LogStands s (t.setTile a v) :=
  h.trans ⟨by rw [State.nvw_setTile], State.pm_setTile .., State.timeUs_setTile ..⟩

end LogStands

section
variable {s t : State}

/-- The variant that serves a dark region is in effect. -/
def State.wovenPat (s : State) (r : Nat) : State :=
  { s with pat := { s.pat with variant := idxOf r (s.pat.variants.map Variant.dark |>.set 0 16) } }

theorem logStands_sntDrop (s : State) : LogStands s s.sntDrop := by
  obtain ⟨hlog, hpm, htime⟩ := (((LogStands.refl s).set F.SNT_STATUS_REF_VALID 0 0).set F.SNT_STATUS_CAPTURING 0 0).set F.SNT_STATUS_MISMATCH 0 0
  unfold State.sntDrop
  exact ⟨hlog, hpm, htime⟩

theorem logStands_writeTables (s : State) (slot : Nat) : LogStands s (s.writeTables slot) := ⟨rfl, rfl, rfl⟩

theorem logStands_reapply {out : List Nat} {e : DarnEntry} (h : s.reapply out e = some t) : LogStands s t := by
  unfold State.reapply at h
  dsimp only at h
  split at h
  · obtain ⟨w, -, rfl⟩ := Option.map_eq_some_iff.mp h
    have hdarned : LogStands s (if e.fromT ∈ out then s.setTile (s.pat.mapped e.fromT) (tDarn (s.tile (s.pat.mapped e.fromT))) else s) := by
      split
      · exact (LogStands.refl s).setTile ..
      · exact .refl s
    exact ⟨rfl, hdarned.pm, hdarned.timeUs⟩
  · split at h
    · cases h
      exact ⟨rfl, rfl, rfl⟩
    · cases h
      exact .refl s

theorem logStands_reapplies (out : List Nat) (es : List DarnEntry) (h : es.foldl (fun o e => o.bind fun u => u.reapply out e) (some s) = some t) :
    LogStands s t := by
  refine es.foldlRecOn (motive := fun o => ∀ u, o = some u → LogStands s u) _ (fun u hu => ?_) (fun o ho e _ u hu => ?_) t h
  · cases hu
    exact .refl s
  · obtain ⟨v, hv, hstep⟩ := Option.bind_eq_some_iff.mp hu
    exact (ho v hv).trans (logStands_reapply hstep)

theorem logStands_reapplyAll (h : s.reapplyAll = some t) : LogStands s t := by
  have hcleared : LogStands s { s with nvw := { s.nvw with roles := [], removed := [] } } := ⟨rfl, rfl, rfl⟩
  exact hcleared.trans (logStands_reapplies _ _ h)

/-- The roles enabled, the strobe delays of the variant, and the fault pens of the tiles whose home stays (R325 step 6). -/
theorem logStands_joined (s : State) (old : Pattern) : LogStands s (s.enableRoles.loadDelays.penKeep old) := ⟨rfl, rfl, rfl⟩

end

/-! ### A re-weave complete (R300 step 5) -/

section
variable {s : State} {r : Nat}

/-- REWOVEN, NO_COVER and the dark region. -/
def State.weaveShown (s : State) (r : Nat) : State :=
  (((s.set F.NVW_STATUS_REWOVEN 1).set F.NVW_STATUS_NO_COVER 1).set F.NVW_REWEAVE_VALID 1).set F.NVW_REWEAVE_DARK r

/-- The re-weave over, in the log and told to the host. -/
def State.weaveNoted (s : State) (old : Pattern) (r : Nat) : State :=
  (({ s with nvw := { s.nvw with weave := none, cover := old.digest } } : State).logDarn 0 r 4 6).beacon 6 (Config.recordData 6 [r, old.spare])

/-- The pick master may run again, unless another region went dark meanwhile (R302). -/
def State.weaveEnd (s : State) : State := if s.pat.regions.all s.regionOn then s.pckRunClear.opEnd 2 0 else s.opEnd 12 0

theorem weaveShown_shows (s : State) (hr : r < 16) : let t := s.weaveShown r
    t.get F.NVW_STATUS_REWOVEN = 1 ∧ t.get F.NVW_STATUS_NO_COVER = 1 ∧ t.get F.NVW_REWEAVE_VALID = 1 ∧ t.get F.NVW_REWEAVE_DARK = r := by
  unfold State.weaveShown
  refine ⟨?_, ?_, ?_, ?_⟩
  · rw [get_set_apart _ (by decide), get_set_apart _ (by decide), get_set_apart _ (by decide), get_one (by decide)]
  · rw [get_set_apart _ (by decide), get_set_apart _ (by decide), get_one (by decide)]
  · rw [get_set_apart _ (by decide), get_one (by decide)]
  · rw [State.get_set_same _ _ _ _ (by decide)]
    exact Nat.mod_eq_of_lt hr

theorem logStands_weaveShown (s : State) (r : Nat) : LogStands s (s.weaveShown r) :=
  ((((LogStands.refl s).set ..).set ..).set ..).set ..

theorem weaveNoted_effect (s : State) (old : Pattern) (r : Nat) : let t := s.weaveNoted old r
    t.nvw.weave = none ∧ (∀ g, g.reg % 2 ^ 26 ∉ noteRegs → t.get g = s.get g) ∧
      (s.logFull = false → t.nvw.log = s.nvw.log ++ [⟨0, r, 4, 6, s.pm.pick, s.timeUs⟩]) := by
  obtain ⟨u, hu⟩ : ∃ u : State, u = { s with nvw := { s.nvw with weave := none, cover := old.digest } } := ⟨_, rfl⟩
  obtain ⟨hmoves, hlog⟩ := logDarn_effect u 0 r 4 6
  have htold := noteMoves_beacon (u.logDarn 0 r 4 6) 6 (Config.recordData 6 [r, old.spare])
  have heq : s.weaveNoted old r = (u.logDarn 0 r 4 6).beacon 6 (Config.recordData 6 [r, old.spare]) := by rw [hu]; rfl
  rw [heq]
  refine ⟨?_, fun g hg => ((hmoves.trans htold).get hg).trans ?_, fun hf => ?_⟩
  · rw [(hmoves.trans htold).nvw, hu]
  · rw [hu]
    rfl
  · have hkept : ((u.logDarn 0 r 4 6).beacon 6 (Config.recordData 6 [r, old.spare])).nvw = (u.logDarn 0 r 4 6).nvw := rfl
    rw [hkept, hlog (by rw [hu]; exact hf), hu]

theorem pckRunClear_keeps (s : State) : s.pckRunClear.nvw = s.nvw ∧ ∀ g, fldsApart F.PCK_STATUS_STATE g → s.pckRunClear.get g = s.get g := by
  unfold State.pckRunClear
  split
  · exact ⟨State.nvw_set .., fun g hg => get_set_apart _ hg _⟩
  · exact ⟨rfl, fun _ _ => rfl⟩

theorem weaveEnd_effect (s : State) : let t := s.weaveEnd
    t.nvw.op = 0 ∧ t.nvw.weave = s.nvw.weave ∧ t.nvw.log = s.nvw.log ∧ (t.get F.NVW_OP_STAT_RESULT = 2 ∨ t.get F.NVW_OP_STAT_RESULT = 12) ∧
      ∀ g, fldsApart F.PCK_STATUS_STATE g → fldsApart F.NVW_STATUS_OP_BUSY g → besideResult g → t.get g = s.get g := by
  unfold State.weaveEnd
  split
  · obtain ⟨hnvw, hother⟩ := pckRunClear_keeps s
    dsimp only
    rw [nvw_opEnd, hnvw]
    exact ⟨rfl, rfl, rfl, .inl (result_opResult _ (by decide)), fun g hp hb hr => (get_opEnd _ hb hr).trans (hother g hp)⟩
  · dsimp only
    rw [nvw_opEnd]
    exact ⟨rfl, rfl, rfl, .inr (result_opResult _ (by decide)), fun g _ hb hr => get_opEnd _ hb hr⟩

/-- The tables of the variant for a dark region written. -/
def State.woven (s : State) (r : Nat) : State := (s.wovenPat r).sntDrop.writeTables (s.get F.WRP_STATUS_ACTIVE_SLOT)

theorem logStands_woven (s : State) (r : Nat) : LogStands s (s.woven r) :=
  ((⟨rfl, rfl, rfl⟩ : LogStands s (s.wovenPat r)).trans (logStands_sntDrop _)).trans (logStands_writeTables ..)

theorem weaveDone_idle (h : s.nvw.weave = none) : s.weaveDone = s := by
  unfold State.weaveDone
  rw [h]

theorem weaveDone_noSpare (h : s.nvw.weave = some r) (hv : s.pat.variantFor r = none) : s.weaveDone = s.weaveFail 12 0 := by
  unfold State.weaveDone
  rw [h]
  dsimp only
  rw [hv]

variable {v : Variant}

theorem weaveDone_waits (h : s.nvw.weave = some r) (hv : s.pat.variantFor r = some v) (hl : s.weaveLoaded v = false) : s.weaveDone = s := by
  unfold State.weaveDone
  rw [h]
  dsimp only
  rw [hv]
  exact if_pos hl

variable {s2 : State}

theorem weaveDone_eq (h : s.nvw.weave = some r) (hv : s.pat.variantFor r = some v) (hl : s.weaveLoaded v = true)
    (hroute : (s.woven r).routeCheck (s.get F.WRP_STATUS_ACTIVE_SLOT) ((rangeFrom 0 60).map fun f => s.get (F.PCK_STROBE_CAL_RTT.nth f)) = none)
    (hre : (s.woven r).reapplyAll = some s2) :
    s.weaveDone = (((s2.enableRoles.loadDelays.penKeep s.pat).weaveShown r).weaveNoted s.pat r).weaveEnd := by
  unfold State.weaveDone
  rw [h]
  dsimp only
  rw [hv]
  refine (if_neg (by rw [hl]; decide)).trans ?_
  unfold State.woven State.wovenPat at hroute hre
  rw [hroute, hre]
  rfl

/-- A re-weave complete: shown, logged once, and over. -/
theorem weaveDone_effect (h : s.nvw.weave = some r) (hv : s.pat.variantFor r = some v) (hl : s.weaveLoaded v = true) (hr : r < 16)
    (hf : s.logFull = false)
    (hroute : (s.woven r).routeCheck (s.get F.WRP_STATUS_ACTIVE_SLOT) ((rangeFrom 0 60).map fun f => s.get (F.PCK_STROBE_CAL_RTT.nth f)) = none)
    (hre : (s.woven r).reapplyAll = some s2) : let t := s.weaveDone
    t.nvw.weave = none ∧ t.nvw.op = 0 ∧ t.get F.NVW_STATUS_REWOVEN = 1 ∧ t.get F.NVW_STATUS_NO_COVER = 1 ∧ t.get F.NVW_REWEAVE_VALID = 1 ∧
      t.get F.NVW_REWEAVE_DARK = r ∧ t.nvw.log = s.nvw.log ++ [⟨0, r, 4, 6, s.pm.pick, s.timeUs⟩] ∧
      (t.get F.NVW_OP_STAT_RESULT = 2 ∨ t.get F.NVW_OP_STAT_RESULT = 12) := by
  have hstands := ((logStands_woven s r).trans (logStands_reapplyAll hre)).trans (logStands_joined s2 s.pat)
  have heq := weaveDone_eq h hv hl hroute hre
  generalize s2.enableRoles.loadDelays.penKeep s.pat = u at hstands heq
  obtain ⟨hrewoven, hcover, hvalid, hdark⟩ := weaveShown_shows u hr
  obtain ⟨hlog, hpm, htime⟩ := hstands.trans (logStands_weaveShown u r)
  obtain ⟨hnone, hregs, hentry⟩ := weaveNoted_effect (u.weaveShown r) s.pat r
  obtain ⟨hop, hweave, hkept, hresult, hother⟩ := weaveEnd_effect ((u.weaveShown r).weaveNoted s.pat r)
  have hfull : (u.weaveShown r).logFull = false := by
    unfold State.logFull at hf ⊢
    rwa [hlog]
  rw [heq]
  refine ⟨hweave.trans hnone, hop, ?_, ?_, ?_, ?_, ?_, hresult⟩
  · rw [hother _ (by decide) (by decide) (by decide), hregs _ (by decide), hrewoven]
  · rw [hother _ (by decide) (by decide) (by decide), hregs _ (by decide), hcover]
  · rw [hother _ (by decide) (by decide) (by decide), hregs _ (by decide), hvalid]
  · rw [hother _ (by decide) (by decide) (by decide), hregs _ (by decide), hdark]
  · rw [hkept, hentry hfull, hlog, hpm, htime]

end

/-! ### The LWS lost (R309) -/

section
variable {s : State}

theorem lwsGone_program (h : s.nvw.op = 1) : let t := s.lwsGone
    t.nvw.op = 0 ∧ t.get F.NVW_STATUS_LWS_LOST = 1 ∧ t.get F.NVW_OP_STAT_RESULT = 10 ∧ t.tiles = s.tiles := by
  have heq : s.lwsGone = (s.set F.NVW_STATUS_LWS_LOST 1).opEnd 10 0 := if_pos h
  rw [heq]
  refine ⟨by rw [nvw_opEnd], ?_, result_opResult _ (by decide), (tiles_opEnd _).trans (State.tiles_set ..)⟩
  rw [get_opEnd _ (by decide) (by decide), get_one (by decide)]

theorem lwsGone_weave (h : s.nvw.op ≠ 1) (hw : s.nvw.weave ≠ none) : let t := s.lwsGone
    t.nvw.weave = none ∧ t.get F.NVW_STATUS_LWS_LOST = 1 ∧ t.get F.NVW_OP_STAT_RESULT = 10 ∧ t.tiles = s.tiles := by
  have heq : s.lwsGone = (s.set F.NVW_STATUS_LWS_LOST 1).weaveFail 10 0 := (if_neg h).trans (if_pos (Option.isSome_iff_ne_none.mpr hw))
  obtain ⟨hnone, hresult, -, htiles, hother⟩ :=
    weaveFail_effect (s := s.set F.NVW_STATUS_LWS_LOST 1) (by rwa [State.nvw_set]) (code := 10) (by decide) 0
  rw [heq]
  refine ⟨hnone, ?_, hresult, htiles.trans (State.tiles_set ..)⟩
  rw [hother _ (by decide) (by decide), get_one (by decide)]

theorem lwsGone_stands (h : s.nvw.op ≠ 1) (hw : s.nvw.weave = none) (hj : s.nvw.jobs = []) : s.lwsGone = s :=
  (if_neg h).trans ((if_neg (by rw [hw]; decide)).trans (if_pos hj))

end

end Sys2Proof.Machine

open Sys2Proof Sys2Proof.Machine

/-- Settles O36: a host's request by its refusals in their order, the re-weave begun through what it clears, the one completed through what leaves
the log alone, and the loss of the LWS. -/
theorem reweaves : Obligations.Reweaves := by
  unfold Obligations.Reweaves
  intro s
  dsimp only
  refine ⟨fun target => ⟨fun h => ?busy, fun h hb => ?badRegion, fun h hb hs => ?noSpare, fun h hb hs => ?begins, fun hl hload => ?dark⟩,
    fun h => ?idle, fun r hr => ⟨fun hv => ?noVariant, fun v hv => ⟨fun hl => ?waits, fun s2 hl hlt hf hroute hre => ?completes⟩⟩,
    fun h => ?program, fun h hw => ?weave, fun h hw hj => ?stands⟩
  case busy => exact answers_opRefused 0 (congrArg Host.Outcome.next (reweave_busy h)) (by decide)
  case badRegion => exact answers_opRefused 0 (congrArg Host.Outcome.next (reweave_badRegion h hb)) (by decide)
  case noSpare => exact answers_opRefused 0 (congrArg Host.Outcome.next (reweave_noSpare h hb hs)) (by decide)
  case begins => exact ⟨_, rfl, reweave_effect h hb hs⟩
  case dark => exact congrArg Host.Outcome.next (reweave_dark hl hload)
  case idle => exact congrArg Host.Outcome.next (weaveDone_idle h)
  case noVariant =>
    obtain ⟨hnone, hresult, hpm, -, -⟩ := weaveFail_effect (s := s) (by rw [hr]; exact Option.some_ne_none r) (code := 12) (by decide) 0
    exact ⟨_, congrArg Host.Outcome.next (weaveDone_noSpare hr hv), hnone, hresult, hpm⟩
  case waits => exact congrArg Host.Outcome.next (weaveDone_waits hr hv hl)
  case completes => exact ⟨_, rfl, weaveDone_effect hr hv hl hlt hf hroute hre⟩
  case program => exact ⟨_, rfl, lwsGone_program h⟩
  case weave => exact ⟨_, rfl, lwsGone_weave h hw⟩
  case stands => exact congrArg Host.Outcome.next (lwsGone_stands h hw hj)
end
